-- ==== Sys2Proof/Word.lean ====
section
/-!
DEFINITION. The widths of the block: a register of BAR0 is a 64-bit word (R9), memory is bytes.
-/
namespace Sys2Proof

/-- A BAR0 register or a scalar register of a core (R9, R123): 64 bits. -/
abbrev Word := BitVec 64

/-- One byte of any memory of the module. -/
abbrev Byte := BitVec 8

end Sys2Proof
end

