-- ==== Sys2Proof/Syntax.lean ====
section
/-!
DEFINITION. The commands the block takes: one constructor per row of spec/opcode_table.json, with the operands the
row's rule needs from outside the module: who it is about, the data that comes in, and the time or the outcome where
the rule leaves it to something outside (a host, a fibre, a board, another processor).
-/
namespace Sys2Proof

/-- Host memory as one command sees it: the bytes that its reads return, by I/O virtual address. An address that is
not listed does not complete successfully. -/
abbrev HostView := List (Nat × List Byte)

/-- A PCI Express configuration request (R33, R259, R300). -/
inductive CfgReq where
  /-- a read of the identity fields of R259 -/
  | readId
  /-- a write of the ATS Enable, PRI Enable and PASID Enable controls (R300) -/
  | setAts (en : Bool)
  | setPri (en : Bool)
  | setPasid (en : Bool)
  /-- a write of the MSI-X Enable and Function Mask bits (R261) -/
  | setMsix (en mask : Bool)
  deriving DecidableEq, Repr

/-- What a fetched instruction word that ends in a trap was: the word, or nothing at all when its fetch was
uncorrectable (R155). -/
inductive Fetched where
  | word (w : BitVec 32)
  | uncorrectable
  /-- the word is the second word of a tile instruction, reached by a branch or jump (R129) -/
  | second
  deriving DecidableEq, Repr

/-- A resource that dims and fills (R103): Lantern, core, memory channel, die-cache way, optical lane. -/
inductive Resource where
  | lantern (n : Fin 16)
  | core (n : Fin 192)
  | channel (n : Fin 128)
  | way (n : Fin 128)
  | lane (n : Fin 128)
  deriving DecidableEq, Repr

/-- The launch that LAUNCH_DISPATCH dispatches: a LAUNCH of a ring, or the next launch of a Sector's step (R218). -/
inductive LaunchRef where
  | cmd (ring : Fin 4096) (idx : BitVec 32) (buf : Option Nat)
  | step (sector : Fin 16)
  deriving DecidableEq, Repr

/-- What an ATS Translation Completion says for one unit (R302): no access, or a range of 2^log bytes with its
permissions and its U bit. -/
inductive AtsAnswer where
  | denied
  | range (log : Nat) (r w u : Bool)
  deriving DecidableEq, Repr

/-- PRG response codes (Table 10-5). -/
inductive PrgCode where
  | success | invalid | failure
  deriving DecidableEq, Repr

/-- A Chain frame as its destination or relay sees it: the fields of Table 13-2 in the clear. FLAGS: [0] FINAL,
[1] FIRST, [2] RESEND, [3] REASK. -/
structure Frame where
  type : Nat
  flags : Nat := 0
  dst : Nat := 0
  src : Nat := 0
  status : Nat := 0
  mooring : Nat := 0
  stream : Nat := 0
  seq : Nat := 0
  lgen : BitVec 32 := 0
  addr : Nat := 0
  payload : List Byte := []
  hops : Nat := 0
  deriving DecidableEq, Repr, Inhabited

/-- A KEY frame (R380) with what the check of its certificate and signature finds. -/
structure KeyFrame where
  valid : Bool
  device : BitVec 20
  serial : BitVec 64
  port : Fin 16
  major : Nat
  minor : Nat
  deriving DecidableEq, Repr

/-- A memory that is scrubbed (R360). -/
inductive ScrubMem where
  | channel (n : Fin 128)
  | lantern (n : Fin 16)
  deriving DecidableEq, Repr

/-- What the monitors say of one Sector over the Flash just ended (R403, R411): energies in µJ, the need in watts of
each class at each operating point, and the energy per unit of work of the classes that worked. -/
structure SectorReading where
  sector : Fin 16
  /-- measured ungated energy of each class 0–5 -/
  ungated : List Nat
  /-- predicted need of class c (0–3) at operating point p, at index 8c + p -/
  need : List Nat
  /-- (class, kind 0 MATRIX 1 HBM 2 CHAIN, measured value) -/
  learn : List (Nat × Nat × Nat)
  /-- estimate less measured energy of the granted work that ended in the Flash, µJ (R413) -/
  settle : Int := 0
  deriving DecidableEq, Repr

/-- One reading of the module's monitors (Table 17-5, R403): junction sites in quarters of a degree, coolant in tenths,
rails as (current in 0.1 A, millivolts, estimated energy over measured energy × 2^14), power in watts. -/
structure Readings where
  sites : List Int
  inlet : Nat
  outlet : Nat
  rails : List (Nat × Nat × Nat)
  inputW : Nat
  reserveW : Nat
  sectors : List SectorReading
  ageing : List Nat
  deriving DecidableEq, Repr

/-- Where a mailbox request comes from (R454, R490, R492): the host buffer, or a sideband message. -/
inductive MboxVia where
  | host | sideband
  deriving DecidableEq, Repr

/-- A JTAG instruction (R526). -/
inductive TapInstr where
  | idcode | bypass | other (n : Nat)
  deriving DecidableEq, Repr


/-- The commands of spec/opcode_table.json, one constructor per row; each docstring names the rule of the row. -/
inductive Instr where
  /-- REGISTER_WRITE (R11). A host write to a BAR0 register field that has no row of its own takes effect according to the field's access type. -/
  | registerWrite (off size : Nat) (value : Word)
  /-- CONFIG_REQUEST (R33). A PCIe configuration request is answered with Request Retry Status until boot has written every capability register, and is completed normally afterwards. -/
  | configRequest (req : CfgReq)
  /-- CAP_VER_OFFER (R36). A write of CAP_VER_OFFER sets the agreed versions and VALID, or is refused under R37. -/
  | capVerOffer (offer : Word)
  /-- FLASH_PULSE (R46). A FLASH_IN pulse arrives and, if it lies inside the window, becomes the edge of the next Flash. -/
  | flashPulse (at_ : Nat)
  /-- FLASH_FRAME (R42). A FLASH_IN frame is judged at its last bit; a valid frame becomes the held frame or completes a matching pair. -/
  | flashFrame (payload : List Byte) (start : Nat)
  /-- LOCK_WINDOW_EXPIRY (R45). The lock window closes without a pulse, so no lock is taken and acquisition restarts. -/
  | lockWindowExpiry (at_ : Nat)
  /-- FLYWHEEL_EDGE (R46). The pulse window closes with no accepted pulse, and a flywheel edge is issued at its grid time plus 0.01 × P. -/
  | flywheelEdge
  /-- HOLDOVER_EDGE (R47). In HOLDOVER or FREE, an edge is issued at each grid time from the T-domain oscillator. -/
  | holdoverEdge
  /-- HOLDOVER_TIMEOUT (R47). After 10 s in HOLDOVER, the unit enters FREE and sets FLS_EVENTS.FREE. -/
  | holdoverTimeout (at_ : Nat)
  /-- PHASE_TICK (R51). The tick generator advances to the next phase tick of the Flash. -/
  | phaseTick
  /-- SAT_ARM (R57). Writing ARM makes an entry ARMED, LATE or INVALID. -/
  | satArm (entry : Fin 256)
  /-- SAT_CANCEL (R59). Writing CANCEL cancels an ARMED entry if the write completes before the entry's tick. -/
  | satCancel (entry : Fin 256)
  /-- SAT_CLEAR (R56). Writing CLEAR returns a terminal entry to EMPTY. -/
  | satClear (entry : Fin 256)
  /-- TAKE (R62). A write of TLM_SNAP_NOW.TAKE requests a local snapshot at the next tick. -/
  | take
  /-- FLASH_MARKER (R49). A Flash marker received on a Chain port serves to acquire lock, or supplies the edge when the unit is locked to that port. -/
  | flashMarker (port : Fin 16) (number : BitVec 64) (offset : Nat) (freeRun : Bool) (hops : Nat) (at_ : Nat)
  /-- CMP_SUBMIT_GO (R92). Writing GO starts a Light List submission in a free loader slot, or sets BUSY when no slot is free. -/
  | cmpSubmitGo
  /-- LL_FETCH_DONE (R92). The fetch of a list into its slot ends, and the slot enters CHECKING or fails with LL_FETCH. -/
  | llFetchDone (slot : Fin 2) (bytes : Option (List Byte))
  /-- LL_CHECK_DONE (R94). The Keeper ends its header, record and whole-list checks, and the slot enters AUTHORISING or FAILED. -/
  | llCheckDone (slot : Fin 2)
  /-- LL_AUTHORISE_DONE (R94). Daymark ends its check of DIGEST and AUTH_SIG, and the loader arms a LIGHT entry, which makes the slot STAGED. -/
  | llAuthoriseDone (slot : Fin 2)
  /-- CMP_SLOT_CANCEL (R97). Writing CANCEL fails a slot that is in progress, or cancels the LIGHT entry of a STAGED slot. -/
  | cmpSlotCancel (slot : Fin 2)
  /-- REBIND_CHUNK_MOVE (R107). The rebind engine finishes one held copy of a 64 KiB chunk, marks it NEW, and releases the requests it held. -/
  | rebindChunkMove (sector : Fin 16)
  /-- REQUEST_DRAIN_COMPLETE (R102). The last request tagged with an older generation retires, so its dimming resources can enter the fill phase. -/
  | requestDrainComplete (sector : Fin 16)
  /-- GENERATION_DRAINED (R102). An older generation completes both its request drain and its move drain, stops being live, and DRAINED is set. -/
  | generationDrained (sector : Fin 16)
  /-- FILL_COMPLETE (R104). A dimming resource finishes its fill and becomes UNLIT, or waits to light in its new Sector if it is pending. -/
  | fillComplete (res : Resource)
  /-- DRAIN_DEADLINE (R114). At the drain deadline, work still outstanding under the older generation is retired, waiting extents and pages are discarded, and the affected contexts are reset. -/
  | drainDeadline (sector : Fin 16)
  /-- LAUNCH_DISPATCH (R120). A launch is dispatched once G cores are LIT and free, and the group starts in the state given by R121. -/
  | launchDispatch (launch : LaunchRef) (cores : List (Fin 192)) (host : HostView)
  /-- ADD (R128). The control pipe computes sd ← sa + sb. -/
  | add (core : Fin 192) (w : BitVec 26)
  /-- SUB (R128). The control pipe computes sd ← sa − sb. -/
  | sub (core : Fin 192) (w : BitVec 26)
  /-- AND (R128). The control pipe computes the bitwise AND of sa and sb. -/
  | and_ (core : Fin 192) (w : BitVec 26)
  /-- OR (R128). The control pipe computes the bitwise OR of sa and sb. -/
  | or_ (core : Fin 192) (w : BitVec 26)
  /-- XOR (R128). The control pipe computes the bitwise XOR of sa and sb. -/
  | xor_ (core : Fin 192) (w : BitVec 26)
  /-- SLL (R128). The control pipe shifts sa left by sb. -/
  | sll (core : Fin 192) (w : BitVec 26)
  /-- SRL (R128). The control pipe shifts sa right logically by sb. -/
  | srl (core : Fin 192) (w : BitVec 26)
  /-- SRA (R128). The control pipe shifts sa right arithmetically by sb. -/
  | sra (core : Fin 192) (w : BitVec 26)
  /-- SLT (R128). The control pipe sets sd to 1 if sa < sb signed, and to 0 otherwise. -/
  | slt (core : Fin 192) (w : BitVec 26)
  /-- SLTU (R128). The control pipe sets sd to 1 if sa < sb unsigned, and to 0 otherwise. -/
  | sltu (core : Fin 192) (w : BitVec 26)
  /-- MUL (R128). The control pipe writes the low 64 bits of sa × sb. -/
  | mul (core : Fin 192) (w : BitVec 26)
  /-- MULHU (R128). The control pipe writes the high 64 bits of the unsigned product sa × sb. -/
  | mulhu (core : Fin 192) (w : BitVec 26)
  /-- DIVU (R128). The control pipe divides sa by sb unsigned, giving all ones when sb is 0. -/
  | divu (core : Fin 192) (w : BitVec 26)
  /-- REMU (R128). The control pipe computes sa mod sb unsigned, giving sa when sb is 0. -/
  | remu (core : Fin 192) (w : BitVec 26)
  /-- ADDI (R128). The control pipe adds a sign-extended immediate to sa. -/
  | addi (core : Fin 192) (w : BitVec 26)
  /-- ANDI (R128). The control pipe ANDs sa with a zero-extended immediate. -/
  | andi (core : Fin 192) (w : BitVec 26)
  /-- ORI (R128). The control pipe ORs sa with a zero-extended immediate. -/
  | ori (core : Fin 192) (w : BitVec 26)
  /-- XORI (R128). The control pipe XORs sa with a zero-extended immediate. -/
  | xori (core : Fin 192) (w : BitVec 26)
  /-- SLLI (R128). The control pipe shifts sa left by an immediate amount. -/
  | slli (core : Fin 192) (w : BitVec 26)
  /-- SRLI (R128). The control pipe shifts sa right logically by an immediate amount. -/
  | srli (core : Fin 192) (w : BitVec 26)
  /-- SRAI (R128). The control pipe shifts sa right arithmetically by an immediate amount. -/
  | srai (core : Fin 192) (w : BitVec 26)
  /-- SLTI (R128). The control pipe compares sa with an immediate, signed. -/
  | slti (core : Fin 192) (w : BitVec 26)
  /-- MOVZ (R128). The control pipe writes imm16 << 16hw into sd. -/
  | movz (core : Fin 192) (w : BitVec 26)
  /-- MOVK (R128). The control pipe inserts imm16 into one halfword of sd and keeps the other bits. -/
  | movk (core : Fin 192) (w : BitVec 26)
  /-- LD (R130). The control pipe loads 8 bytes of CLM into sd. -/
  | ld (core : Fin 192) (w : BitVec 26)
  /-- LW (R130). The control pipe loads 4 bytes of CLM into sd, zero-extended. -/
  | lw (core : Fin 192) (w : BitVec 26)
  /-- LB (R130). The control pipe loads 1 byte of CLM into sd, zero-extended. -/
  | lb (core : Fin 192) (w : BitVec 26)
  /-- SD (R130). The control pipe stores 8 bytes to CLM. -/
  | sd (core : Fin 192) (w : BitVec 26)
  /-- SW (R130). The control pipe stores 4 bytes to CLM. -/
  | sw (core : Fin 192) (w : BitVec 26)
  /-- SB (R130). The control pipe stores 1 byte to CLM. -/
  | sb (core : Fin 192) (w : BitVec 26)
  /-- BEQ (R128). The control pipe branches if sa equals sb. -/
  | beq (core : Fin 192) (w : BitVec 26)
  /-- BNE (R128). The control pipe branches if sa differs from sb. -/
  | bne (core : Fin 192) (w : BitVec 26)
  /-- BLT (R128). The control pipe branches if sa < sb signed. -/
  | blt (core : Fin 192) (w : BitVec 26)
  /-- BGE (R128). The control pipe branches if sa ≥ sb signed. -/
  | bge (core : Fin 192) (w : BitVec 26)
  /-- BLTU (R128). The control pipe branches if sa < sb unsigned. -/
  | bltu (core : Fin 192) (w : BitVec 26)
  /-- BGEU (R128). The control pipe branches if sa ≥ sb unsigned. -/
  | bgeu (core : Fin 192) (w : BitVec 26)
  /-- JAL (R128). The control pipe jumps and writes the link into s31. -/
  | jal (core : Fin 192) (w : BitVec 26)
  /-- JALR (R128). The control pipe jumps to sa + imm and writes the link into sd. -/
  | jalr (core : Fin 192) (w : BitVec 26)
  /-- SPR (R128). The control pipe reads a special register of Table 5-4 into sd. -/
  | spr (core : Fin 192) (w : BitVec 26)
  /-- TLD (R128). The control pipe loads a 32-byte tile descriptor from CLM into a tile register. -/
  | tld (core : Fin 192) (w : BitVec 26)
  /-- TSETB (R128). The control pipe sets the BASE of a tile descriptor register from sa. -/
  | tsetb (core : Fin 192) (w : BitVec 26)
  /-- TWAIT (R128). The control pipe waits until a unit's pending count is at most the immediate. -/
  | twait (core : Fin 192) (w : BitVec 26)
  /-- EXIT (R122). The core ends its part of the command with an eight-bit result code. -/
  | exit (core : Fin 192) (w : BitVec 26)
  /-- TRAP (R128). The core traps with cause SOFTWARE and the given code. -/
  | trap (core : Fin 192) (fetched : Fetched)
  /-- ACZ (R138). The matrix engine empties an accumulator and binds its storage, tree size and ladder depth. -/
  | acz (core : Fin 192) (w : BitVec 64)
  /-- MMA (R139). The matrix engine computes a node of the product over a span and pushes it onto the ladder. -/
  | mma (core : Fin 192) (w : BitVec 64) (residueOk : Bool)
  /-- TRED (R141). The matrix engine pushes an F32 partial computed elsewhere as a node of the tree. -/
  | tred (core : Fin 192) (w : BitVec 64)
  /-- LADFIN (R141). The matrix engine checks that the ladder holds exactly one entry. -/
  | ladfin (core : Fin 192) (w : BitVec 64)
  /-- ACST (R141). The matrix engine stores the accumulator's single node into a tile, converting it where the tile's format requires. -/
  | acst (core : Fin 192) (w : BitVec 64)
  /-- VADD (R181). The vector unit adds two tiles element by element in F32. -/
  | vadd (core : Fin 192) (w : BitVec 64)
  /-- VSUB (R181). The vector unit subtracts two tiles element by element. -/
  | vsub (core : Fin 192) (w : BitVec 64)
  /-- VMUL (R181). The vector unit multiplies two tiles element by element. -/
  | vmul (core : Fin 192) (w : BitVec 64)
  /-- VFMA (R181). The vector unit performs a fused multiply-add with one rounding. -/
  | vfma (core : Fin 192) (w : BitVec 64)
  /-- VMAX (R182). The vector unit takes the element-wise maximum. -/
  | vmax (core : Fin 192) (w : BitVec 64)
  /-- VMIN (R182). The vector unit takes the element-wise minimum. -/
  | vmin (core : Fin 192) (w : BitVec 64)
  /-- VSCALE (R181). The vector unit multiplies a tile by the F32 scalar in SX. -/
  | vscale (core : Fin 192) (w : BitVec 64)
  /-- VBIAS (R181). The vector unit adds a one-row tile, broadcast to every row. -/
  | vbias (core : Fin 192) (w : BitVec 64)
  /-- VEXP (R183). The vector unit computes e^x element by element. -/
  | vexp (core : Fin 192) (w : BitVec 64)
  /-- VLOG (R183). The vector unit computes ln x element by element. -/
  | vlog (core : Fin 192) (w : BitVec 64)
  /-- VRCP (R183). The vector unit computes 1/x element by element. -/
  | vrcp (core : Fin 192) (w : BitVec 64)
  /-- VCVT (R178). The vector unit converts a tile to the destination format, computing block scales. -/
  | vcvt (core : Fin 192) (w : BitVec 64)
  /-- VRMAX (R143). The vector unit writes the maximum of each row. -/
  | vrmax (core : Fin 192) (w : BitVec 64)
  /-- VRSUM (R177). The vector unit sums each row in the canonical tree. -/
  | vrsum (core : Fin 192) (w : BitVec 64)
  /-- VSMX (R181). The vector unit computes e^(TB − TC[row]) element by element. -/
  | vsmx (core : Fin 192) (w : BitVec 64)
  /-- VTOPK (R143). The vector unit writes the largest values of each row and their column indices. -/
  | vtopk (core : Fin 192) (w : BitVec 64)
  /-- VTOPP (R143). The vector unit writes the top-p count of each descending row. -/
  | vtopp (core : Fin 192) (w : BitVec 64)
  /-- TCOPY (R145). The move unit copies tile TB to TA on a tile-DMA stream. -/
  | tcopy (core : Fin 192) (w : BitVec 64)
  /-- TPF (R148). The move unit prefetches lines into the die cache, or sends a prefetch hint to a remote window. -/
  | tpf (core : Fin 192) (w : BitVec 64)
  /-- AADD (R147). The move unit performs a 64-bit atomic add, returning the old value. -/
  | aadd (core : Fin 192) (w : BitVec 64)
  /-- AMAX (R147). The move unit performs an unsigned 64-bit atomic maximum. -/
  | amax (core : Fin 192) (w : BitVec 64)
  /-- ACAS (R147). The move unit performs an atomic compare-and-store. -/
  | acas (core : Fin 192) (w : BitVec 64)
  /-- AXCHG (R147). The move unit performs an atomic exchange. -/
  | axchg (core : Fin 192) (w : BitVec 64)
  /-- BAR (R150). The core arrives at a group barrier, and the group is released once every core has arrived. -/
  | bar (core : Fin 192) (w : BitVec 64)
  /-- ESIG (R151). The core signals a local counter event or a host event. -/
  | esig (core : Fin 192) (w : BitVec 64)
  /-- EWAIT (R151). The core waits on a local counter event or a host event. -/
  | ewait (core : Fin 192) (w : BitVec 64)
  /-- LFENCE (R152). The core waits until its REMOTE and HM writes on the selected streams are acknowledged. -/
  | lfence (core : Fin 192) (w : BitVec 64)
  /-- SQINFO (R153). The sequence unit writes the slot record of a batch row into CLM. -/
  | sqinfo (core : Fin 192) (w : BitVec 64)
  /-- KVGATHER (R153). The sequence unit reads the KV entries of a batch row's positions into a tile. -/
  | kvgather (core : Fin 192) (w : BitVec 64)
  /-- KVPUT (R153). The sequence unit writes the KV entries of a row's window positions. -/
  | kvput (core : Fin 192) (w : BitVec 64)
  /-- SAMPLE (R242). The sequence unit hands a scoring row of logits to the sampler and receives a decision record. -/
  | sample (core : Fin 192) (w : BitVec 64)
  /-- TILE_INSTRUCTION_COMPLETE (R134). A started tile instruction completes, which releases pending counts, interlocks and waits. -/
  | tileInstructionComplete (core : Fin 192) (num : Nat) (host : HostView)
  /-- RECOMPUTE_ATTEMPT_DONE (R188). An attempt of the recompute ladder ends; on success the node is pushed, and otherwise the next attempt starts. -/
  | recomputeAttemptDone (core : Fin 192) (num : Nat) (pass : Bool)
  /-- OPEN (R194). A sequence is opened in a free slot with T = 0 and C = 0. -/
  | open_ (ring : Fin 4096) (idx : BitVec 32) (slot : Fin 2048)
  /-- APPEND (R211). Tokens are appended to a sequence's text, and the command completes when C reaches T − 1. -/
  | append (ring : Fin 4096) (idx : BitVec 32) (host : HostView)
  /-- GENERATE (R212). Tokens are generated and posted into the output buffer until MAX_NEW, a stop token or MAX_TOKENS is reached. -/
  | generate (ring : Fin 4096) (idx : BitVec 32)
  /-- GENERATE_PREFETCH (R213). Every spilled block of the sequence is pulled, with no step and no token posted. -/
  | generatePrefetch (ring : Fin 4096) (idx : BitVec 32)
  /-- FORK (R205). A child sequence is created that shares the parent's blocks up to length L. -/
  | fork (ring : Fin 4096) (idx : BitVec 32) (slot : Fin 2048)
  /-- ABORT (R214). The sequence's queued commands end with ABORTED, and its running command is ended. -/
  | abort (ring : Fin 4096) (idx : BitVec 32)
  /-- CLOSE (R215). The sequence is aborted, its block references are released, and its slot is freed. -/
  | close (ring : Fin 4096) (idx : BitVec 32)
  /-- STEP_BATCH_FORM (R220). The scheduler forms the next batch from READY sequences and dispatches the first launch of the step. -/
  | stepBatchForm (sector : Fin 16) (host : HostView)
  /-- ARBITER_ABORT (R255). An ABORT reaches the Sector's arbiter, before or after the commit record of the row's step. -/
  | arbiterAbort (slot : Fin 2048)
  /-- SPILL_COMPLETE (R225). The write of a spilled block is acknowledged; the block enters SPILLED and its frame is freed. -/
  | spillComplete (sector : Fin 16) (desc : Nat) (host : HostView)
  /-- PULL_COMPLETE (R226). A pulled block returns RESIDENT, and the sequence becomes READY when no block remains to pull. -/
  | pullComplete (sector : Fin 16) (desc : Nat) (host : HostView)
  /-- SCHED_ENABLE (R230). Writing ENABLE = 1 checks the Sector's sequence configuration and starts batch formation. -/
  | schedEnable (sector : Fin 16)
  /-- SCHED_DISABLE (R230). Writing ENABLE = 0 stops batch formation and lets the running step complete. -/
  | schedDisable (sector : Fin 16)
  /-- SEQ_CONFIG_WRITE (R230). A write to a SEQ configuration register is accepted only while its conditions hold. -/
  | seqConfigWrite (off size : Nat) (value : Word)
  /-- FUNCTION_LEVEL_RESET (R259). A PCIe Function Level Reset performs a module warm reset. -/
  | functionLevelReset
  /-- BAR2_READ (R260). A host or peer read through BAR2 reaches Sector memory. -/
  | bar2Read (addr len : Nat)
  /-- BAR2_WRITE (R260). A host or peer write through BAR2 reaches Sector memory. -/
  | bar2Write (addr : Nat) (bytes : List Byte)
  /-- DOORBELL_TAIL (R271). A write of a ring's TAIL rings the doorbell, or stops the ring with TAIL_RANGE. -/
  | doorbellTail (ring : Fin 4096) (value : BitVec 32)
  /-- CQ_HEAD (R274). A write of a ring's CQ_HEAD frees completion records, or stops the ring with CQ_RANGE. -/
  | cqHead (ring : Fin 4096) (value : BitVec 32)
  /-- RING_FETCH (R272). The X1 fetches submission entries while free completion records allow it. -/
  | ringFetch (ring : Fin 4096) (host : HostView)
  /-- PRIV_RING_ENABLE (R276). Writing SEC_PRIV_CTL.ENABLE = 1 creates the Sector's privileged ring, or fails with PRIV_ERR. -/
  | privRingEnable (sector : Fin 16)
  /-- PRIV_RING_DISABLE (R275). Writing SEC_PRIV_CTL.ENABLE = 0 destroys the privileged ring. -/
  | privRingDisable (sector : Fin 16)
  /-- NOP (R286). A command that does nothing and posts a completion. -/
  | nop (ring : Fin 4096) (idx : BitVec 32) (buf : Option Nat)
  /-- LAUNCH (R290). A kernel launch command with its argument block and signal fields. -/
  | launch (ring : Fin 4096) (idx : BitVec 32) (buf : Option Nat)
  /-- BUFFER (R289). A command that runs a buffer of command-ring entries and posts one record for them all. -/
  | buffer (ring : Fin 4096) (idx : BitVec 32) (host : HostView)
  /-- SIGNAL (R282). A command that signals an event with a value, and abandons it if ERROR is non-zero. -/
  | signal (ring : Fin 4096) (idx : BitVec 32) (buf : Option Nat)
  /-- WAIT (R283). A command that waits until an event reaches a value, holding later commands of its ring. -/
  | wait (ring : Fin 4096) (idx : BitVec 32) (buf : Option Nat)
  /-- COPY (R290). A command that copies between memory objects in pieces on tile-DMA engines. -/
  | copy (ring : Fin 4096) (idx : BitVec 32) (buf : Option Nat)
  /-- FILL (R290). A command that fills a memory object with an eight-byte pattern. -/
  | fill (ring : Fin 4096) (idx : BitVec 32) (buf : Option Nat)
  /-- COPY_PIECE_COMPLETE (R290). A piece of a COPY or FILL completes, and the command completes after its last piece. -/
  | copyPieceComplete (ring : Fin 4096) (idx : BitVec 32) (buf : Option Nat) (offset : Nat) (host : HostView)
  /-- SET_TABLES (R264). A privileged command that sets the context, handle and event tables. -/
  | setTables (ring : Fin 4096) (idx : BitVec 32)
  /-- CTX_ACTIVATE (R266). A privileged command that reads and checks a context descriptor, then makes the context RESIDENT or WAITING. -/
  | ctxActivate (ring : Fin 4096) (idx : BitVec 32)
  /-- CTX_WAIT_ADMIT (R266). A WAITING context takes a freed resident slot and receives its Lantern pages. -/
  | ctxWaitAdmit (sector : Fin 16)
  /-- CTX_DEACTIVATE (R269). A privileged command that frees a context's pages and slot, or ends its wait. -/
  | ctxDeactivate (ring : Fin 4096) (idx : BitVec 32)
  /-- CTX_RESET (R296). A privileged command that resets a context, removing its commands below each ring's mark. -/
  | ctxReset (ring : Fin 4096) (idx : BitVec 32)
  /-- CTX_RESET_COMPLETE (R297). A context reset completes when no request of the context remains outstanding anywhere. -/
  | ctxResetComplete (ctx : Fin 16384)
  /-- RING_CREATE (R288). A privileged command that creates a command, sequence or copy ring. -/
  | ringCreate (ring : Fin 4096) (idx : BitVec 32)
  /-- RING_DESTROY (R275). A privileged command that stops fetching and puts a ring in DESTROYING. -/
  | ringDestroy (ring : Fin 4096) (idx : BitVec 32)
  /-- RING_DESTROY_COMPLETE (R275). A DESTROYING ring becomes FREE once its fetched commands have posted. -/
  | ringDestroyComplete (ring : Fin 4096)
  /-- RING_RESUME (R274). A privileged command that clears ERROR and returns a STOPPED ring to ENABLED. -/
  | ringResume (ring : Fin 4096) (idx : BitVec 32)
  /-- EVENT_INIT (R281). A privileged command that makes an event LIVE with its value, owner, group and vector. -/
  | eventInit (ring : Fin 4096) (idx : BitVec 32)
  /-- EVENT_SET_SIGNAL (R282). EVENT_SET with SIGNAL signals an event with a value. -/
  | eventSetSignal (ring : Fin 4096) (idx : BitVec 32)
  /-- EVENT_SET_ABANDON (R284). EVENT_SET with ABANDON abandons an event with an error. -/
  | eventSetAbandon (ring : Fin 4096) (idx : BitVec 32)
  /-- EVENT_SET_FREE (R281). EVENT_SET with FREE makes an event FREE. -/
  | eventSetFree (ring : Fin 4096) (idx : BitVec 32)
  /-- ATS_COMPLETION (R302). An ATS Translation Completion arrives and is cached, or the access faults. -/
  | atsCompletion (sector : Fin 16) (pasid : Option (BitVec 20)) (unit : Nat) (ans : AtsAnswer)
  /-- ATS_INVALIDATE (R305). An ATS Invalidate Request removes the matching TLB entries. -/
  | atsInvalidate (itag : Fin 32) (pasid : Option (BitVec 20)) (base len : Nat)
  /-- INVALIDATE_COMPLETION (R305). Once the reads and writes that used the removed entries are done, the Invalidate Completion is sent. -/
  | invalidateCompletion (itag : Fin 32)
  /-- PRG_RESPONSE (R310). A Page Request Group response retranslates or fails the tiles that wait on it. -/
  | prgResponse (prg : Fin 512) (code : PrgCode)
  /-- ATF_FQ_HEAD (R316). A write of the fault-queue HEAD frees entries, or is ignored with HEAD_RANGE. -/
  | atfFqHead (value : BitVec 32)
  /-- ATF_FQ_ENABLE (R319). Writing ENABLE = 1 enables the fault queue if SIZE_LOG2 is valid. -/
  | atfFqEnable (value : Word)
  /-- ATF_FQ_DISABLE (R319). Writing ENABLE = 0 disables the queue, or is refused while an entry is in use. -/
  | atfFqDisable (value : Word)
  /-- PRI_RESUME (R310). Writing ATF_PRI_RESUME.RESUME clears PRI_STOPPED. -/
  | priResume
  /-- FINAL_WRITE_DISCARD (R328). A final write held 16 Flashes without its earlier writes landing is discarded. -/
  | finalWriteDiscard (src : BitVec 20) (stream : BitVec 16) (seq : BitVec 32)
  /-- DIRECTORY_REBUILD_DONE (R344). The rebuild walk completes, and the die returns to DIRECTORY. -/
  | directoryRebuildDone (die : Fin 4)
  /-- COHERENCE_ESCALATION (R346). A request refused until its age reaches 16 is escalated and is never refused again. -/
  | coherenceEscalation (refusals : Nat)
  /-- REHOME_WALK_DONE (R348). No moving line remains at the old homes. -/
  | rehomeWalkDone (sector : Fin 16) (lines : Nat)
  /-- MEM_COH_TEST_FORCE (R343). A write of FORCE puts a die's directory in, or takes it out of, BROADCAST_TEST. -/
  | memCohTestForce (value : BitVec 4)
  /-- SCRUB_READ (R360). The scrubber reads a line in an idle cycle and rewrites it if it was corrected. -/
  | scrubRead (mem : ScrubMem) (line : Option Nat)
  /-- LEVEL_PUBLISH (R366). Every 64 ns, each channel publishes its LEVEL and OVER mask. -/
  | levelPublish (channel : Fin 128) (peak : Nat) (served : List Nat)
  /-- MEM_BW_SHARE (R368). A write of a Sector's class shares is accepted, or refused if the shares sum above 256. -/
  | memBwShare (sector : Fin 16) (value : Word)
  /-- MEM_SCRUB_CTL (R371). A write that enables or disables scrubbing; disabling abandons the running laps. -/
  | memScrubCtl (value : Word)
  /-- WRITE (R393). A Chain WRITE frame for this module is served through a peer mooring. -/
  | write (lane : Fin 128) (frame : Frame)
  /-- READ (R393). A Chain READ frame is served and answered with DATA or ERROR. -/
  | read (lane : Fin 128) (frame : Frame)
  /-- PREFETCH (R393). A Chain PREFETCH hint is served without any answer. -/
  | prefetch (lane : Fin 128) (frame : Frame)
  /-- RELEASE (R394). A Chain RELEASE frees pool offsets and is acknowledged. -/
  | release (lane : Fin 128) (frame : Frame)
  /-- WITHDRAW (R378). A WITHDRAW discards a held final write and is acknowledged. -/
  | withdraw (lane : Fin 128) (frame : Frame)
  /-- ACK (R377). An ACK response answers an outstanding request. -/
  | ack (lane : Fin 128) (frame : Frame)
  /-- DATA (R377). A DATA response delivers the data of a READ. -/
  | data (lane : Fin 128) (frame : Frame)
  /-- REFUSE (R396). A REFUSE from a pool starts or continues the redirect chase. -/
  | refuse (lane : Fin 128) (frame : Frame)
  /-- SHORTFALL (R395). A SHORTFALL answer sends the write to the fallback area in host memory. -/
  | shortfall (lane : Fin 128) (frame : Frame)
  /-- FALLBACK_HERE (R395). A FALLBACK_HERE answer sends the read to the fallback area. -/
  | fallbackHere (lane : Fin 128) (frame : Frame)
  /-- ERROR (R393). An ERROR response ends the request, or leads to a resend when it is busy. -/
  | error (lane : Fin 128) (frame : Frame)
  /-- UNREACHABLE (R385). An UNREACHABLE response ends the request with PEER_UNREACHABLE. -/
  | unreachable (lane : Fin 128) (frame : Frame)
  /-- HELLO (R385). A HELLO is received, relayed and used to update the route table. -/
  | hello (lane : Fin 128) (frame : Frame)
  /-- DELAY_REQ (R388). A delay request is answered with DELAY_RESP. -/
  | delayReq (port : Fin 16)
  /-- DELAY_RESP (R388). A delay response sets the link's one-way delay. -/
  | delayResp (port : Fin 16) (trip turn : Nat)
  /-- KEY (R380). A KEY frame is verified, and link keys are derived from it. -/
  | key (port : Fin 16) (key : KeyFrame)
  /-- RELAY_FORWARD (R384). A frame for another device is forwarded cut-through on the other port of its ring position. -/
  | relayForward (lane : Fin 128) (frame : Frame)
  /-- LINK_NAK (R382). A link NAK makes the sender resend from that LSEQ onward. -/
  | linkNak (lane : Fin 128) (lseq : BitVec 16)
  /-- LINK_ACK (R382). A cumulative link acknowledgement frees retry buffer. -/
  | linkAck (lane : Fin 128) (lseq : BitVec 16)
  /-- RESP_TIMEOUT (R377). A request with no response within RESP_TIMEOUT is resent, or ends after three resends. -/
  | respTimeout (req : Nat)
  /-- SEQ_RECORD_EXPIRY (R377). A destination's record of a source stream, idle for 64 Flashes, is discarded. -/
  | seqRecordExpiry (src : BitVec 20) (stream : BitVec 16)
  /-- STREAM_SEQ_RESTART (R377). A source stream with nothing outstanding for 32 Flashes restarts its SEQ at 0. -/
  | streamSeqRestart (stream : BitVec 16) (dst : BitVec 20)
  /-- ROUTE_ENTRY_EXPIRY (R385). A route entry with no HELLO for three periods is dropped. -/
  | routeEntryExpiry (port : Fin 16) (device : BitVec 20)
  /-- PORT_TRAINING_DONE (R380). Training of a port ends, and the key exchange begins. -/
  | portTrainingDone (port : Fin 16) (lanes : BitVec 8)
  /-- LANE_DOWN (R373). A lane goes down, and requests drain before moving to the new path. -/
  | laneDown (lane : Fin 128)
  /-- FRAME_COUNTER_LIMIT (R383). A lane passing 2^31 frames under one key arms a REKEY, and traffic stops near 2^32. -/
  | frameCounterLimit (lane : Fin 128)
  /-- OLD_KEY_DISCARD (R383). The older key is discarded two Flashes after the switch. -/
  | oldKeyDiscard (port : Fin 16)
  /-- BYPASS (R386). A write of CHN_RP_CTL_k.BYPASS closes or opens the bypass of a ring position. -/
  | bypass (rp : Fin 8) (close : Bool)
  /-- BYPASS_MOVED (R387). A bypass reaches its new position, which sets BYPASS_CHANGE. -/
  | bypassMoved (rp : Fin 8)
  /-- LEASE (R390). A write of CHN_MOOR_LEASE_m releases, leases, re-maps or renews a mooring, or is refused. -/
  | lease (mooring : Fin 1024) (value : Word)
  /-- LEASE_EXPIRY (R392). A lease that is not renewed becomes EXPIRED at tick 0 of its EXPIRY Flash. -/
  | leaseExpiry (mooring : Fin 1024)
  /-- LEASE_GRACE_END (R391). Requests of a previous generation still outstanding at the grace edge end with MOORING_ORPHAN. -/
  | leaseGraceEnd (mooring : Fin 1024)
  /-- DEVICE_ID (R401). A write of CHN_NODE.DEVICE_ID is accepted only while every mooring is FREE. -/
  | deviceId (id : BitVec 20)
  /-- PORT_DISABLE (R380). A write of CHN_PORT_CTL_p.DISABLE takes the port down or lets it train. -/
  | portDisable (port : Fin 16) (disable : Bool)
  /-- RETRAIN (R401). A write of RETRAIN trains and keys the port again. -/
  | retrain (port : Fin 16)
  /-- TENDER_GRANT (R413). The request at the head of an account's queue is granted once credit covers its estimate. -/
  | tenderGrant (account : Fin 17)
  /-- GRANT_TIMEOUT (R414). A request not granted within GRANT_TIMEOUT Flashes ends as Table 14-5 states. -/
  | grantTimeout (account : Fin 17) (index : Nat)
  /-- RESERVE_AUTO_UPDATE (R406). Every 1,024 Flashes the reserve is set from its measured 99th percentile. -/
  | reserveAutoUpdate (p99 : Nat)
  /-- RAMP_DEADLINE (R418). At the step's deadline, RAMP_DONE or RAMP_MISS is set. -/
  | rampDeadline
  /-- TND_SCHED_GO (R419). Writing GO makes the Tender arm a POWER_STEP entry among 224–255. -/
  | tndSchedGo (value : Word)
  /-- TND_SCHED_CANCEL (R419). Writing CANCEL cancels the Tender-armed entry named in ENTRY. -/
  | tndSchedCancel
  /-- BOOST_OPEN (R420). Writing OPEN = 1 opens a boost window, or refuses it. -/
  | boostOpen (value : Word)
  /-- BOOST_CLOSE (R421). Writing OPEN = 0 closes the boost window, and payback starts. -/
  | boostClose
  /-- BOOST_WINDOW_END (R421). The window closes when WINDOW_MS has elapsed. -/
  | boostWindowEnd
  /-- PAYBACK_END (R421). Payback ends 600 ms after the window closed. -/
  | paybackEnd
  /-- WEAR_SPENT (R422). A die's boost time reaches its budget, which closes the window and disables boost for good. -/
  | wearSpent (die : Fin 4)
  /-- AGEING_READ (R422). Every 65,536 Flashes the Keeper reads the ageing sites and raises the trim. -/
  | ageingRead (trims : List Nat)
  /-- VDD_DROOP (R423). A droop of the core rail halves the die's clock until the rail recovers. -/
  | vddDroop (die : Fin 4)
  /-- RAIL_OVERCURRENT (R423). A rail current above LIMIT_A applies level E1. -/
  | railOvercurrent (rail : Fin 8)
  /-- INPUT_OVERCURRENT (R423). An input current above 75 A applies level E1. -/
  | inputOvercurrent
  /-- EMERGENCY_ESCALATE (R424). A level held 1 ms without clearing its cause escalates to the next. -/
  | emergencyEscalate
  /-- EMERGENCY_RELEASE (R424). A level is released after its cause has been absent for 4 Flashes. -/
  | emergencyRelease
  /-- SENSOR_SAMPLE (R478). The sensor hub samples the junction and coolant sites. -/
  | sensorSample (readings : Readings)
  /-- GET_STATE (R454). A Daymark mailbox command that returns DMK_LC and DMK_DEBUG. -/
  | getState (req : Option (List Byte)) (vin vsb : Nat)
  /-- LC_TRANSITION (R439). A Daymark mailbox command that checks a token and starts programming a life-cycle transition. -/
  | lcTransition (req : Option (List Byte)) (vin vsb : Nat)
  /-- FUSE_PROGRAMMING_DONE (R440). Fuse rows are programmed, the transition is logged, and a module warm reset follows. -/
  | fuseProgrammingDone
  /-- LC_SET_DIGESTS (R439). A Daymark mailbox command that stores the fielding and scrap digests once each. -/
  | lcSetDigests (req : Option (List Byte)) (vin vsb : Nat)
  /-- COMPKEY_ENROL (R435). A Daymark mailbox command that enrols or replaces the composition key. -/
  | compkeyEnrol (req : Option (List Byte)) (vin vsb : Nat)
  /-- DEBUG_CERT (R443). A Daymark mailbox command that checks a debug certificate, spends a counter bit and grants rights. -/
  | debugCert (req : Option (List Byte)) (vin vsb : Nat)
  /-- DEBUG_REVOKE (R444). A Daymark mailbox command that revokes the debug rights in force. -/
  | debugRevoke (req : Option (List Byte)) (vin vsb : Nat)
  /-- GET_VERSION (R445). An SPDM request answered with the supported versions. -/
  | getVersion
  /-- GET_CAPABILITIES (R445). An SPDM request answered with the responder's capabilities. -/
  | getCapabilities
  /-- NEGOTIATE_ALGORITHMS (R445). An SPDM request that settles on ECDSA P-384 and SHA-384. -/
  | negotiateAlgorithms
  /-- GET_DIGESTS (R445). An SPDM request answered with the certificate chain digests. -/
  | getDigests
  /-- GET_CERTIFICATE (R445). An SPDM request answered with the device identity chain of slot 0. -/
  | getCertificate (slot off len : Nat)
  /-- CHALLENGE (R445). An SPDM request answered with a signed challenge response. -/
  | challenge (slot : Nat) (nonce : List Byte)
  /-- GET_MEASUREMENTS (R446). An SPDM request answered with measurement blocks, signed over the requester's nonce if asked. -/
  | getMeasurements (index : Nat) (nonce : Option (List Byte))
  /-- SECTOR_FROZEN (R461). Once quiescing work ends, the Sector becomes FROZEN and image writing begins. -/
  | sectorFrozen (sector : Fin 16)
  /-- FREEZE_DEADLINE (R461). A Sector not frozen by f + D fails the freeze with FZ_BUSY and runs again. -/
  | freezeDeadline (sector : Fin 16)
  /-- IMAGE_WRITE_DONE (R463). The image header is written COMPLETE or FAILED as a final write, and the freeze is logged. -/
  | imageWriteDone (sector : Fin 16)
  /-- RESTORE_DONE (R469). A restore writes RESTORED or RESTORE_FAILED, and the Sector runs at the next edge. -/
  | restoreDone (sector : Fin 16) (host : HostView)
  /-- STANDBY_BOOT (R472). Applying the standby rail starts Daymark and a standby boot. -/
  | standbyBoot (straps : BitVec 4) (resetN : Bool)
  /-- COLD_BOOT (R519). Deasserting RESET_N starts a cold boot. -/
  | coldBoot
  /-- RESET_N_ASSERT (R519). Asserting RESET_N stops the module, releases the bypasses and starts a Logbook flush. -/
  | resetNAssert
  /-- VIN_APPLIED (R518). VIN within 40–60 V with RESET_N deasserted lets boot stage 3 start. -/
  | vinApplied (volts : Nat)
  /-- BOOT_STEP_END (R474). A boot step ends at a level; on failure the next level runs, and the next stage starts when all are done. -/
  | bootStepEnd (step : Fin 128) (ok : Bool) (ms : Nat) (detail : BitVec 32) (pass : BitVec 32)
  /-- BOOT_STEP_TIMEOUT (R474). A boot step level runs past LIMIT and is stopped. -/
  | bootStepTimeout (step : Fin 128) (ms : Nat)
  /-- WEAR_RECORD_WRITE (R479). Every 65,536 Flashes the Keeper writes the wear record to NVM. -/
  | wearRecordWrite
  /-- POWER_FAIL (R483). VIN below 38 V or standby below 3.1 V logs POWER_FAIL, starts a flush and closes the bypasses. -/
  | powerFail (vin vsb : Nat) (stage : Fin 4)
  /-- LOG_FLUSH_DONE (R483). A flush writes its entries, the wear record and a LOG_FLUSHED entry. -/
  | logFlushDone
  /-- LOG_READ (R485). A Keeper mailbox command that returns Logbook entries, filtered by Sector where asked. -/
  | logRead (via : MboxVia) (req : Option (List Byte))
  /-- LOG_FLUSH (R483). A Keeper mailbox command that starts a Logbook flush. -/
  | logFlush (via : MboxVia) (req : Option (List Byte))
  /-- LOG_ERASE (R485). A Keeper mailbox command that erases the Logbook and log regions in NVM, with Daymark's leave. -/
  | logErase (via : MboxVia) (req : Option (List Byte))
  /-- JOURNAL_READ (R492). A Keeper mailbox command that returns the level table and boot journal records. -/
  | journalRead (via : MboxVia) (req : Option (List Byte))
  /-- JOURNAL_RETRY (R474). A Keeper mailbox command that sets the stored levels of selected steps back to 0, and quarantine counts too where asked. -/
  | journalRetry (via : MboxVia) (req : Option (List Byte))
  /-- SENSOR_READ (R492). A Keeper mailbox command that returns every site, coolant and ageing reading. -/
  | sensorRead (via : MboxVia) (req : Option (List Byte))
  /-- OP_OVERRIDE (R492). A Keeper mailbox command that fixes per-die operating points under TENDER_OVERRIDE. -/
  | opOverride (via : MboxVia) (req : Option (List Byte))
  /-- FW_STATUS (R492). A Keeper mailbox command that returns slots, versions and fuse SVNs. -/
  | fwStatus (via : MboxVia) (req : Option (List Byte))
  /-- QUERY_DEVICE_IDENTIFIERS (R487). A PLDM request answered with the device's descriptors. -/
  | queryDeviceIdentifiers
  /-- GET_FIRMWARE_PARAMETERS (R487). A PLDM request answered with the component versions. -/
  | getFirmwareParameters
  /-- GET_STATUS (R487). A PLDM request answered with the update status. -/
  | getStatus
  /-- REQUEST_UPDATE (R487). A PLDM request that starts an update, or is refused with RETRY_REQUEST_UPDATE. -/
  | requestUpdate
  /-- PASS_COMPONENT_TABLE (R487). A PLDM request that names the components of the update. -/
  | passComponentTable (components : List (Fin 5))
  /-- UPDATE_COMPONENT (R487). A PLDM request that starts the transfer of one component's image. -/
  | updateComponent (component : Fin 5)
  /-- REQUEST_FIRMWARE_DATA (R487). The exchange by which the Keeper asks for image data, and the data is written into the inactive slot. -/
  | requestFirmwareData (data : List Byte)
  /-- TRANSFER_COMPLETE (R487). The exchange that ends the image transfer. -/
  | transferComplete
  /-- VERIFY_COMPLETE (R486). The exchange that reports Daymark's verification of the image. -/
  | verifyComplete
  /-- APPLY_COMPLETE (R487). The exchange that reports the image applied to its slot. -/
  | applyComplete
  /-- ACTIVATE_FIRMWARE (R488). A PLDM request that switches slot pointers and takes components into service. -/
  | activateFirmware
  /-- CANCEL_UPDATE_COMPONENT (R487). A PLDM request that cancels the transfer of one component. -/
  | cancelUpdateComponent
  /-- CANCEL_UPDATE (R487). A PLDM request that cancels the update. -/
  | cancelUpdate
  /-- KEEPER_RESTART_DONE (R488). The Keeper finishes restarting on its active slot. -/
  | keeperRestartDone
  /-- KEEPER_WATCHDOG (R491). One second without service restarts the Keeper with cause 2. -/
  | keeperWatchdog
  /-- MCTP_CONTROL (R490). An MCTP control message on the sideband is answered. -/
  | mctpControl
  /-- KEEPER_CONSOLE (R490). A console message is carried on the sideband where the right is granted. -/
  | keeperConsole
  /-- CONTEXT_WATCH_EXPIRY (R496). A context's QUIET reaches its window, so its commands end with PROGRESS_TIMEOUT and a context reset starts. -/
  | contextWatchExpiry (slot : Fin 64)
  /-- ENGINE_WATCH_EXPIRY (R497). An engine's QUIET reaches its window, so its work ends with PROGRESS_TIMEOUT and an engine reset starts. -/
  | engineWatchExpiry (engine : Fin 32)
  /-- HNG_RESET_CONTEXT (R499). HNG_RESET GO with RUNG 1 resets a context. -/
  | hngResetContext (target : BitVec 14)
  /-- HNG_RESET_ENGINE (R499). HNG_RESET GO with RUNG 2 resets an engine. -/
  | hngResetEngine (target : BitVec 14)
  /-- HNG_RESET_SECTOR (R499). HNG_RESET GO with RUNG 3 resets a Sector. -/
  | hngResetSector (target : BitVec 14)
  /-- HNG_RESET_MODULE (R504). HNG_RESET GO with RUNG 4 performs a module warm reset. -/
  | hngResetModule (dump : Bool)
  /-- HNG_RESET_POWER_CYCLE (R505). HNG_RESET GO with RUNG 5 requests a power cycle from the tray. -/
  | hngResetPowerCycle (dump : Bool)
  /-- ENGINE_RESET_COMPLETE (R500). An engine reset completes once its removed work has posted. -/
  | engineResetComplete (engine : Fin 32)
  /-- RESET_ESCALATION (R502). A reset not complete after RESET_LIMIT Flashes starts the next rung, or sets STUCK. -/
  | resetEscalation (rung target : Nat)
  /-- WARM_BOOT_TIMEOUT (R502). A warm boot that has not released the function after 2,000 ms escalates to a power cycle. -/
  | warmBootTimeout
  /-- POWER_CYCLE_TIMEOUT (R505). VIN not fallen 10 s after the request sets STUCK, and the module stays stopped. -/
  | powerCycleTimeout
  /-- CRASH_DUMP_DONE (R509). A crash dump reaches STATE COMPLETE in its slot. -/
  | crashDumpDone (ok : Bool)
  /-- DUMP_COPY (R511). HNG_DUMP_CTL GO starts a copy of a dump or error log region to host memory. -/
  | dumpCopy (value : Word)
  /-- DUMP_COPY_DONE (R511). The dump copy ends with its RESULT. -/
  | dumpCopyDone (ok : Bool)
  /-- THERM_TRIP_RELEASE (R522). THERM_TRIP_N is released after 10 s with VIN below 38 V and a cool inlet. -/
  | thermTripRelease
  /-- TAP_INSTRUCTION (R526). A JTAG instruction selects its register, or only the bypass register without the JTAG right. -/
  | tapInstruction (instr : TapInstr)
  /-- LANE_UP (R373). A lane that went down, or was retrained after eight NAKs, finishes training and keying and is up again, which sets its bit in LANES_UP. -/
  | laneUp (lane : Fin 128)
  /-- DROOP_RECOVERY (R423). The VDD_CORE rail of a die recovers from a droop, and after 64 further cycles the die's core clock returns from half rate. -/
  | droopRecovery (die : Fin 4)
  deriving DecidableEq, Repr

end Sys2Proof
end

