-- ==== Sys2Proof/Decode.lean ====
section
/-!
DEFINITION. The command that a word spells by the bits of spec/opcode_table.json: no row of the table gives bits, so no word spells
one. Core instructions come with their words as operands of their commands (R128, R131).
-/
namespace Sys2Proof

/-- The command of a word: none, since no row of the table has an encoding. -/
def decodeTableWord (_nbits _w : Nat) : Option Instr := none

end Sys2Proof
end

