-- ==== Sys2Proof/Config.lean ====
section
/-!
DEFINITION. The free values: what the spec leaves to the part, with no value given here. Each is a constant without a
body, so nothing can be proved of it. The log entry of each is named in its docstring.
-/
namespace Sys2Proof.Config

/-- The n-th free value: any 64 bits, for a result the spec does not state (notes/assumptions/4). -/
opaque free : Nat → BitVec 64

/-- Which value within its bound VEXP, VLOG and VRCP give for an input (R183): fixed functions whose values the spec does
not state (notes/assumptions/6). -/
opaque vexp : BitVec 32 → Nat
opaque vlog : BitVec 32 → Nat
opaque vrcp : BitVec 32 → Nat

/-- Ihlilo's PCI vendor ID and its JTAG manufacturer code, which the spec names without a number (R259, R526; notes/assumptions/21). -/
opaque vendor : BitVec 16
opaque maker : BitVec 11

/-- A byte of the digest of all fuse rows, from what the fuses hold (R446: how the rows are laid out is not stated), and of the digest of
the built-in Tender tables (notes/assumptions/21). -/
opaque fuseDigest : List Nat → Nat → BitVec 8
opaque builtinTables : Nat → BitVec 8

/-- A byte of a crash dump (Table 18-6: places within its sections are not all stated), by the error record's SEQ and the offset
(notes/assumptions/21). -/
opaque dumpByte : Nat → Nat → BitVec 8

end Sys2Proof.Config
end

