-- ==== Sys2Proof/Machine/State.lean ====
section
/-!
DEFINITION. The state of the block: every register, table, queue, counter, memory and pin the spec gives it, as plain
data, and the queue of commands that wait. Registers that only show state held elsewhere are views (Machine/RegRead);
registers the host writes are in `regs`, by BAR0 offset.
-/
namespace Sys2Proof.Machine

/-- A sparse table: (key, value) pairs with keys strictly rising and no pair that says what an unlisted key
reads as anyway. Its operations (`tget`, `tput`) and the canonical form (`twf`) are in Machine/Ops.lean. -/
abbrev Tbl (α : Type) := List (Nat × α)

/-! ### The time base (02) -/

/-- The three states of the Flash unit (Table 2-3). -/
inductive FlashSt where
  | locked | holdover | free
  deriving DecidableEq, Repr, Inhabited

/-- FLS_STATUS.SOURCE (R54): where the edges come from. -/
inductive FlashSrc where
  | none | flashIn | chain
  deriving DecidableEq, Repr, Inhabited

/-- The valid frame held while a pair is sought (R44). -/
structure HeldFrame where
  num : Nat
  period : Nat
  /-- pulse intervals since the pulse that precedes the held frame, newest first -/
  gaps : List Nat
  deriving DecidableEq, Repr, Inhabited

/-- The marker held while a pair is sought on a Chain port (R49). -/
structure HeldMarker where
  port : Nat
  num : Nat
  at_ : Nat
  /-- interval to the marker before it, where the two are consecutive and the interval is good -/
  pair : Option Nat := none
  deriving DecidableEq, Repr, Inhabited

/-- A lock judged at the second matching frame, to be taken at the next pulse (R45). -/
structure PendLock where
  /-- number the next pulse carries -/
  num : Nat
  period : Nat
  /-- intervals that seed the mean of R46, newest first -/
  seed : List Nat
  /-- arrival of the pulse that preceded the second frame -/
  base : Nat
  /-- the Chain port whose marker it waits for; none: a pulse of FLASH_IN -/
  port : Option Nat := none
  deriving DecidableEq, Repr, Inhabited

/-- The Flash unit (R40 to R54) and the snapshot registers (R62 to R64). Times are nanoseconds of the T-domain
oscillator. -/
structure Flash where
  st : FlashSt := .free
  src : FlashSrc := .none
  port : Nat := 0
  hops : Nat := 0
  freeRun : Bool := true
  count : BitVec 64 := 0
  tick : Nat := 0
  est : Nat := 1000000
  code : Nat := 1000
  /-- intervals accepted since lock, with the seed behind them, newest first, at most 16 (R46) -/
  gaps : List Nat := []
  /-- grid time of the last edge (R46) -/
  grid : Nat := 0
  flywheel : Nat := 0
  holdAt : Nat := 0
  lastPulse : Option Nat := none
  held : Option HeldFrame := none
  heldMk : Option HeldMarker := none
  pend : Option PendLock := none
  /-- FLS_SOURCE in force (R14, R50) -/
  srcNow : BitVec 64 := 0xFF00
  step : BitVec 64 := 0
  losses : Nat := 0
  flyEdges : Nat := 0
  rejects : Nat := 0
  frameErrs : Nat := 0
  holdFlashes : Nat := 0
  takeReq : Bool := false
  snapSeq : BitVec 32 := 0
  snapFlash : BitVec 64 := 0
  snapTick : Nat := 0
  deriving DecidableEq, Repr, Inhabited

/-- States of a scheduled-action entry (Table 2-5), in the order of their codes. -/
inductive SatSt where
  | empty | armed | done | late | cancelled | refusedFleet | missedStep | invalid
  deriving DecidableEq, Repr, Inhabited

/-- One scheduled-action entry (R55 to R61). -/
structure Sat where
  when_ : BitVec 64 := 0
  op : BitVec 64 := 0
  tick : Nat := 0
  action : Nat := 0
  fleet : Bool := false
  irq : Bool := false
  owner : Nat := 0
  st : SatSt := .empty
  doneFlash : BitVec 64 := 0
  doneTick : Nat := 0
  deriving DecidableEq, Repr, Inhabited

/-! ### Sectors and the Light List (03) -/

/-- One run of extents mapped to one stripe set (R71, R83). -/
structure Stripe where
  first : Nat
  count : Nat
  set : List Nat
  deriving DecidableEq, Repr, Inhabited

/-- What the composition says of one Sector (Table 3-1, R79 to R84). -/
structure Sector where
  exists_ : Bool := false
  tenant : Nat := 0
  drain : Nat := 0
  kvLog : Nat := 0
  /-- (Lantern, CORE_MASK) -/
  lanterns : Tbl Nat := []
  channels : List Nat := []
  /-- (way, class): class 0 SECTOR, 1 HOST -/
  ways : Tbl Nat := []
  lanes : List Nat := []
  stripes : List Stripe := []
  qCtx : Nat := 0
  qRings : Nat := 0
  qSeq : Nat := 0
  share : Nat := 0
  boost : Bool := false
  sealed_ : Bool := false
  slots : Nat := 0
  moorFirst : Nat := 0
  moorCount : Nat := 0
  /-- a QUOTA, and a POWER_ALLOT, is in force (R67) -/
  hasQuota : Bool := false
  hasPower : Bool := false
  deriving DecidableEq, Repr, Inhabited

/-- States of a loader slot (Table 3-6), in the order of their codes. -/
inductive SlotSt where
  | empty | fetching | checking | authorising | staged | lit | failed
  deriving DecidableEq, Repr, Inhabited

/-- One loader slot (R92 to R98). -/
structure Slot where
  st : SlotSt := .empty
  bytes : List Byte := []
  len : Nat := 0
  addr : Nat := 0
  gen : BitVec 32 := 0
  error : Nat := 0
  errRec : Nat := 0
  errOff : Nat := 0
  sat : Nat := 0
  target : BitVec 64 := 0
  /-- FLS_COUNT when CHECKING began -/
  began : BitVec 64 := 0
  /-- the list's base is the list of the other slot (R93) -/
  dependent : Bool := false
  /-- the Keeper's checks have passed and the slot waits for its base to be STAGED (R93) -/
  checked : Bool := false
  deriving DecidableEq, Repr, Inhabited

/-- The loader (R92) and what CMP_LIT shows (R98). -/
structure Loader where
  lastSlot : Nat := 0
  slots : Tbl Slot := []
  /-- CMP_LIT_GEN.GENERATION: kept by Daymark in non-volatile storage (R69) -/
  litGen : BitVec 32 := 0
  litFlash : BitVec 64 := 0
  litDigest : List Byte := []
  deriving DecidableEq, Repr, Inhabited

/-! ### Re-binding (04) -/

/-- States of a resource (Table 4-2), in the order of their codes. -/
inductive ResSt where
  | unlit | lit | drain | fill
  deriving DecidableEq, Repr, Inhabited

/-- One Lantern, core, channel, way or lane (R103 to R105). -/
structure Res where
  st : ResSt := .unlit
  /-- owner while LIT, former Sector while DIMMING -/
  sector : Nat := 0
  /-- the Sector that has bound it while it dims (PEND, R104) -/
  pend : Option Nat := none
  /-- the Tender's leave for its fill (R118): 1 asked, 2 had -/
  leave : Nat := 0
  /-- fill complete and pending: it lights at the next edge (R104) -/
  ready : Bool := false
  /-- GENERATION of the list that released it last, and of the list that bound it last (R433) -/
  left : BitVec 32 := 0
  bound : BitVec 32 := 0
  /-- a quarantined core (R116): never lit again before a warm reset -/
  quarantined : Bool := false
  deriving DecidableEq, Repr, Inhabited

/-- What moves (R107, R108): an extent between stripe sets, or a Lantern page of a context between frames. A frame
below 1,024 is page `f % 64` of Lantern `f / 64`; a frame 1,024 + i is the i-th MiB of the spill window. -/
inductive MoveWhat where
  | extent (e : Nat) (old new : List Nat)
  | page (ctx page : Nat) (old new : Nat)
  deriving DecidableEq, Repr, Inhabited

/-- One queued or running move. -/
structure Move where
  what : MoveWhat
  /-- chunks that are NEW -/
  chunk : Nat := 0
  /-- waits for room (R111) -/
  noRoom : Bool := false
  deriving DecidableEq, Repr, Inhabited

/-- Map generations of one Sector number (R99 to R102, R113, R114). -/
structure Gens where
  mapGen : BitVec 16 := 0
  curTag : Nat := 0
  oldTag : Nat := 0
  oldLive : Bool := false
  /-- the request drain of the older generation is complete (R102) -/
  drained : Bool := false
  /-- extents removed at the light: their old placement, kept until the older generation drains (R106) -/
  removed : List Stripe := []
  /-- extents newly mapped at the light: the older generation does not map them (R101) -/
  added : List Stripe := []
  /-- newly mapped extents that wait for a pending channel (R112) -/
  waiting : List Nat := []
  moves : List Move := []
  /-- bytes of granted leave left for moves (R118), and whether the next has been asked for -/
  leave : Nat := 0
  asked : Bool := false
  /-- edges left before the deadline acts (R113) -/
  deadEdges : Nat := 0
  deadline : BitVec 64 := 0
  /-- the deadline of this generation has acted -/
  deadDone : Bool := true
  retired : Nat := 0
  deriving DecidableEq, Repr, Inhabited

/-- The rebind engine (R119). -/
structure Rebind where
  /-- CMP_RB_CTL.RATE in force (RWF) -/
  rate : Nat := 2048
  chunks : Nat := 0
  deferrals : Nat := 0
  timeouts : Nat := 0
  deriving DecidableEq, Repr, Inhabited

/-! ### Host objects (09) -/

/-- Where a command stands (R273, R289, R290). -/
inductive CmdSt where
  /-- fetched, not started -/
  | queued
  /-- started, running -/
  | started
  /-- a WAITING activation (R266) or a command that waits for its own completion step -/
  | held
  deriving DecidableEq, Repr, Inhabited

/-- A terminating condition met by a command before its record is posted (R23). -/
structure Cond where
  status : Nat
  detail : BitVec 64
  deriving DecidableEq, Repr, Inhabited

/-- A piece of a COPY or FILL (R290, R307): offset, length, leave of the Tender and translation, as of a tile. -/
structure Piece where
  off : Nat
  len : Nat
  engine : Nat
  leave : Nat := 0
  xl : Nat := 0
  deriving DecidableEq, Repr, Inhabited

/-- A fetched and uncompleted command of a ring (R272). `buf` is the entry index of a command that came out of a
BUFFER (R289). -/
structure Cmd where
  idx : BitVec 32
  buf : Option Nat := none
  raw : List Byte
  /-- what the fetch check read for it, by the byte offset of the naming field: handle entries (R278) and the
  context descriptor of a CTX_ACTIVATE (R265) -/
  rd : List (Nat × List Byte) := []
  st : CmdSt := .queued
  /-- map generation tag, fixed at dispatch (R100) -/
  tag : Option Nat := none
  conds : List Cond := []
  /-- COPY, FILL: next byte to hand out, and pieces in flight (R290) -/
  next : Nat := 0
  flight : List Piece := []
  /-- BUFFER: entries not yet completed, and failures of entries as (entry, condition) -/
  left : Nat := 0
  bad : List (Nat × Cond) := []
  /-- a fallback area served it: a DONE is reported as SHORTFALL_FALLBACK (R21, R395); 64-byte units, and the mooring -/
  short : Bool := false
  units : Nat := 0
  moor : Nat := 0
  deriving DecidableEq, Repr, Inhabited

/-- Ring states (R274), in the order of their codes. -/
inductive RingSt where
  | free | enabled | stopped | destroying
  deriving DecidableEq, Repr, Inhabited

/-- One queue ring and its doorbell page (R271 to R275). -/
structure Ring where
  st : RingSt := .free
  error : Nat := 0
  kind : Nat := 0
  sector : Nat := 0
  ctx : Nat := 0
  pasid : Option Nat := none
  sqBase : Nat := 0
  cqBase : Nat := 0
  sqLog : Nat := 0
  cqLog : Nat := 0
  vector : Nat := 0
  tail : BitVec 32 := 0
  head : BitVec 32 := 0
  cqHead : BitVec 32 := 0
  cqTail : BitVec 32 := 0
  cmds : List Cmd := []
  /-- records held under CQ_WRITE, oldest first, each with its IRQ flag (R274) -/
  heldRecs : List (List Byte × Bool) := []
  /-- the mark of a context reset, while entries below it are still to be removed (R296) -/
  mark : Option (BitVec 32) := none
  /-- the privileged commands (ring, index) that destroy it, RING_DESTROY (R275) -/
  destroyers : List (Nat × BitVec 32) := []
  /-- restart index under a freeze (R462) -/
  paused : Bool := false
  deriving DecidableEq, Repr, Inhabited

/-- Context states (R266). -/
inductive CtxSt where
  | inactive | waiting | resident | resetting
  deriving DecidableEq, Repr, Inhabited

/-- One context as its accepted descriptor and its residence say (Table 9-4, R266, R267). -/
structure Ctx where
  st : CtxSt := .inactive
  sector : Nat := 0
  pasid : Option Nat := none
  lsPages : Nat := 0
  group : Nat := 0
  share : Nat := 0
  watch : Nat := 0
  /-- the watch's window, read at activation (R495); 65,535 never expires -/
  window : Nat := 65535
  smFirst : Nat := 0
  smCount : Nat := 0
  slot : Nat := 0
  /-- frame of each page; none: the page was dropped (R114) -/
  pages : List (Option Nat) := []
  /-- the waiting activation (ring, index) and its arrival order -/
  act : Option (Nat × BitVec 32) := none
  order : Nat := 0
  deriving DecidableEq, Repr, Inhabited

/-- Event states (Table 9-8), in the order of their codes. -/
inductive EvSt where
  | free | live | abandoned
  deriving DecidableEq, Repr, Inhabited

/-- The X1's copy of one event (R281 to R285). -/
structure Event where
  st : EvSt := .free
  value : BitVec 64 := 0
  error : Nat := 0
  owner : Nat := 0
  group : Nat := 0
  vector : Nat := 0
  deriving DecidableEq, Repr, Inhabited

/-- The tables of SET_TABLES (R264). -/
structure Tables where
  ctx : Nat
  handle : Nat
  event : Nat
  handleLog : Nat
  eventLog : Nat
  deriving DecidableEq, Repr, Inhabited

/-! ### Lantern cores (05, 06) -/

/-- A span of K blocks (R138, R174): first block and count. -/
structure Span where
  first : Nat
  count : Nat
  deriving DecidableEq, Repr, Inhabited

/-- An accumulator: its binding by ACZ and the spans on its ladder, newest first (R138 to R141). The values of
ladder level l lie in CLM at the place R138 gives. -/
structure Acc where
  base : Nat
  rows : Nat
  cols : Nat
  stride : Nat
  nb : Nat
  depth : Nat
  ladder : List Span
  deriving DecidableEq, Repr, Inhabited

/-- A tile instruction issued by a core and not yet complete (R134). Descriptors and scalars are as captured at issue
(R132). -/
structure TileOp where
  num : Nat
  word : BitVec 64
  pc : Nat
  ta : BitVec 256
  tb : BitVec 256
  tc : BitVec 256
  sx : BitVec 64
  sy : BitVec 64
  started : Bool := false
  /-- leave of the Tender (R137): 0 not needed or not asked, 1 waiting, 2 granted -/
  leave : Nat := 0
  /-- the engine's residue check of attempt 0 passes -/
  residueOk : Bool := true
  /-- running recompute attempt (R188) -/
  attempt : Option Nat := none
  /-- arrival number at a barrier (R150) -/
  arrival : Nat := 0
  /-- translation of its HM side (R307, R308): 0 not asked, 1 waiting, 2 translated -/
  xl : Nat := 0
  /-- Chain READs of the move still unanswered, by request number; data they brought, by window offset; parts to be
  read from the fallback area instead, as (window offset, host address, length) (R395) -/
  remote : List Nat := []
  got : List (Nat × List Byte) := []
  fb : List (Nat × Nat × Nat) := []
  /-- its writes have been made or sent; its group was stopped, so that nothing more comes of it (R154) -/
  wrote : Bool := false
  dead : Bool := false
  deriving DecidableEq, Repr, Inhabited

/-- LNT_CORE_k.RUN (R158), in the order of its codes. -/
inductive RunSt where
  | idle | running | waiting | exited | stopped | halted | notLit
  deriving DecidableEq, Repr, Inhabited

/-- One core (R121). -/
structure Core where
  run : RunSt := .idle
  group : Nat := 0
  logical : Nat := 0
  pc : Nat := 0
  s : Tbl (BitVec 64) := []
  t : Tbl (BitVec 256) := []
  acc : Tbl (Option Acc) := []
  q : List TileOp := []
  issued : Nat := 0
  code : Nat := 0
  trapCause : BitVec 64 := 0
  trapPc : BitVec 32 := 0
  deriving DecidableEq, Repr, Inhabited

/-- What a running group belongs to: a ring's LAUNCH, or a launch of a Sector's step (R219). -/
inductive Owner where
  | cmd (ring : Nat) (idx : BitVec 32) (buf : Option Nat)
  | step (sector : Nat)
  deriving DecidableEq, Repr, Inhabited

/-- A group of cores that runs one kernel (R120 to R122). -/
structure Group where
  owner : Owner
  ctx : Nat
  sector : Nat
  tag : Nat
  cores : List Nat
  codeLen : Nat
  /-- offset of the code region in the binary -/
  codeOff : Nat := 0
  step : Bool
  batch : Nat := 0
  stopped : Bool := false
  events : Tbl (BitVec 64) := []
  /-- arrivals at barrier b of logical core l, at key 192 b + l -/
  arrivals : Tbl Nat := []
  conds : List Cond := []
  startTick : BitVec 64 := 0
  deriving DecidableEq, Repr, Inhabited

/-- A verified kernel binary (R157): handle with generation, and what its header says. -/
structure Binary where
  sector : Nat
  handle : Nat
  deriving DecidableEq, Repr, Inhabited

/-! ### Sequences and sampling (07, 08) -/

/-- Slot states (Table 7-1), in the order of their codes. -/
inductive SeqSt where
  | free | idle | pulling | ready | inStep | failed | closing
  deriving DecidableEq, Repr, Inhabited

/-- Sampling parameters of a slot (R245): F32 bit patterns and the top-k limit. -/
structure Sampling where
  temp : BitVec 32 := 0
  topP : BitVec 32 := 0
  topK : Nat := 0
  deriving DecidableEq, Repr, Inhabited

/-- The command running on a sequence. -/
structure SeqRun where
  ring : Nat
  idx : BitVec 32
  /-- 0x41 APPEND or 0x42 GENERATE -/
  opcode : Nat
  posted : Nat := 0
  /-- blocks came back from the host tier after a pool shortfall (R226) -/
  short : Bool := false
  /-- an ABORT reached the arbiter before the commit record (R255) -/
  aborted : Bool := false
  /-- an ABORT or CLOSE was accepted and is on its way to the arbiter (R255, R256) -/
  abortPend : Bool := false
  /-- the slot's order of arrival among APPENDs -/
  started : Nat := 0
  /-- terminating conditions met while its row runs (R228) -/
  conds : List Cond := []
  raw : List Byte := []
  deriving DecidableEq, Repr, Inhabited

/-- One sequence slot (Table 7-2) with what the front end holds beside it. -/
structure Seq where
  st : SeqSt := .free
  gen : BitVec 16 := 0
  sector : Nat := 0
  ctx : Nat := 0
  draft : Bool := false
  c : Nat := 0
  t : Nat := 0
  maxTokens : Nat := 0
  pendingTok : Nat := 0
  seed : BitVec 64 := 0
  samp : Sampling := {}
  windowLen : Nat := 0
  failStatus : Nat := 0
  stops : List Nat := []
  /-- queued commands: (ring, submission index), in acceptance order (R210) -/
  queue : List (Nat × BitVec 32) := []
  run : Option SeqRun := none
  /-- block table: descriptor of entry j (R202) -/
  table : Tbl (Option Nat) := []
  /-- text of positions below T that the step's token table needs: (position, token) -/
  text : Tbl Nat := []
  /-- held drafts: (text position, token) (R231, R240) -/
  drafts : List (Nat × Nat) := []
  /-- draft stash of extra heads: (text position, token) (R238) -/
  stash : List (Nat × Nat) := []
  /-- the sequence M that reserves this draft sequence (R239) -/
  reservedBy : Option Nat := none
  /-- the CLOSE command that waits for the slot: (ring, index) -/
  closer : Option (Nat × BitVec 32) := none
  /-- translation of the host memory that its command reads: 0 not asked, 1 waiting, 2 had (R307) -/
  xl : Nat := 0
  deriving DecidableEq, Repr, Inhabited

/-- Block states (Table 7-3), in the order of their codes. -/
inductive BlkSt where
  | free | resident | spilling | spilled | pulling
  deriving DecidableEq, Repr, Inhabited

/-- A KV block descriptor (Table 7-3). -/
structure Blk where
  st : BlkSt := .free
  frame : Nat := 0
  refs : Nat := 0
  hostTier : Bool := false
  poisoned : Bool := false
  fallback : Bool := false
  fill : Nat := 0
  mooring : Nat := 0
  lastUse : BitVec 32 := 0
  spillAddr : Nat := 0
  ctx : Nat := 0
  /-- its spill or pull has been begun with its requests: they follow the Tender's leave -/
  begun : Bool := false
  /-- parts of a pull to be read from the fallback area: (pool offset, host address, length) (R395) -/
  fb : List (Nat × Nat × Nat) := []
  deriving DecidableEq, Repr, Inhabited

/-- A row of a step (R219) with the sampler's decision for it (R243, R244). -/
structure Row where
  slot : Nat
  gen : BitVec 16
  /-- Table 7-13 -/
  kind : Nat
  first : Nat
  len : Nat
  /-- draft tokens of a verify row -/
  drafts : List Nat := []
  buffer : Option Nat := none
  /-- blocks this row was given at formation: (table entry, descriptor, made by copy) -/
  given : List (Nat × Nat × Bool) := []
  /-- V of the row's SAMPLEs, once one was taken -/
  vocab : Option Nat := none
  taken : Nat := 0
  toks : List Nat := []
  a : Nat := 0
  done : Bool := false
  greedy : Bool := false
  allAccepted : Bool := false
  forced : Bool := false
  /-- head rows taken, in order (R243) -/
  heads : List Nat := []
  /-- the sampler found no candidate (SQ_LOGITS) -/
  noLogits : Bool := false
  deriving DecidableEq, Repr, Inhabited

/-- One launch of a step program (Table 7-12). -/
structure Launch where
  handle : BitVec 32
  group : Nat
  argBytes : Nat
  argAddr : Nat
  deriving DecidableEq, Repr, Inhabited

/-- A running step (R218, R220). -/
structure Step where
  cls : Nat
  rows : List Row
  tag : Nat
  launch : Nat := 0
  /-- the launch waits for cores; true once it is dispatched -/
  running : Bool := false
  /-- the step has failed with this condition and waits for its started instructions (R223) -/
  failed : Option Cond := none
  deriving DecidableEq, Repr, Inhabited

/-- A row of the commit record (Table 8-5). -/
structure CommitRow where
  seqId : BitVec 32
  outcome : Nat
  aPrime : Nat
  d : Nat
  cAfter : Nat
  deriving DecidableEq, Repr, Inhabited

/-- The commit record of a Sector (R253). -/
structure Commit where
  step : Nat := 0
  flash : BitVec 64 := 0
  tick : Nat := 0
  cls : Nat := 0
  tag : Nat := 0
  rows : List CommitRow := []
  deriving DecidableEq, Repr, Inhabited

/-- The sequence engine of one Sector (R199 to R230). -/
structure SeqSec where
  enabled : Bool := false
  cfgErr : Nat := 0
  /-- step programs read at ENABLE, by class (R217) -/
  program : Tbl (List Launch) := []
  step : Option Step := none
  /-- class of the last step, to alternate (R218) -/
  lastCls : Nat := 1
  /-- slot of the last continuing row admitted, by class (R220) -/
  lastRow : Tbl Nat := []
  blk : Tbl Blk := []
  /-- buffers of the provisional pool in use (R235) -/
  bufs : List Nat := []
  commit : Commit := {}
  /-- the last record of the class that `commit` is not of (R464) -/
  commitOld : Commit := {}
  /-- APPENDs started so far: the order of prefill rows (R220) -/
  appends : Nat := 0
  /-- a row was held under R208 at the last formation -/
  held : Bool := false
  /-- spilling has begun and has not reached HIGH (R224) -/
  spilling : Bool := false
  deriving DecidableEq, Repr, Inhabited

/-! ### What leaves the module -/

/-- What the block has sent, done or answered towards the outside. -/
inductive Out where
  /-- a write to host memory: PASID, I/O virtual address, bytes, final -/
  | hostWrite (pasid : Option Nat) (addr : Nat) (bytes : List Byte) (final : Bool)
  /-- an MSI-X message (R261) -/
  | msix (vector : Nat)
  /-- an access completed as an Unsupported Request (R10, R73, R260) -/
  | unsupported
  /-- an access completed as a Completer Abort -/
  | completerAbort
  /-- the data of a completed read -/
  | readData (bytes : List Byte)
  /-- Request Retry Status (R33) -/
  | retryStatus
  /-- a configuration request completed normally, with the identity it reads where it reads one -/
  | configDone (id : List Nat)
  /-- an ATS Translation Request: Sector tag, PASID, 2 MiB unit, write wanted (R303) -/
  | atsRequest (sector : Nat) (pasid : Option Nat) (unit : Nat) (write : Bool)
  /-- a Page Request (R309): group, PASID, unit, write, last -/
  | pageRequest (prg : Nat) (pasid : Option Nat) (unit : Nat) (write last : Bool)
  /-- an ATS Invalidate Completion (R305) -/
  | invalidateDone (itag : Nat)
  /-- a frame sent on a lane (R374) -/
  | frame (lane : Nat) (f : Frame)
  /-- a Flash marker sent on wavelength 0 of a port (R388): number, free-running, hops -/
  | marker (port : Nat) (number : BitVec 64) (freeRun : Bool) (hops : Nat)
  /-- a KEY frame sent on wavelength 0 of a port (R380) -/
  | key (port : Nat) (device : BitVec 20) (epoch : Nat)
  /-- an SPDM response (R445): request, body, signed with the device identity key -/
  | spdm (request : Nat) (body : List Byte) (signed : Bool)
  /-- a PLDM response (R487): command, completion code, body -/
  | pldm (command code : Nat) (body : List Byte)
  /-- a mailbox response over the sideband (R490): result and body -/
  | sideband (result : Nat) (body : List Byte)
  /-- an MCTP control or console answer; an unsupported message type -/
  | mctp (kind : Nat)
  deriving DecidableEq, Repr

/-- One Logbook entry (Table 17-6). -/
structure LogEv where
  seq : BitVec 32
  when_ : BitVec 64
  typ : Nat
  sector : Nat
  fatal : Bool
  freeRun : Bool
  more : Bool
  arg : BitVec 64
  deriving DecidableEq, Repr, Inhabited

/-- PCI Express controls of the function that the rules name (R259, R261, R300). -/
structure PciCfg where
  ats : Bool := false
  pri : Bool := false
  pasid : Bool := false
  msix : Bool := false
  msixMask : Bool := false
  /-- vectors whose message is held back: the pending-bit array -/
  pba : List Nat := []
  deriving DecidableEq, Repr, Inhabited

/-- A running reset (R499 to R502). -/
structure RunReset where
  /-- 1 context, 2 engine, 3 Sector, 4 module warm, 5 power cycle -/
  rung : Nat
  /-- context, engine or Sector number; 0 for the module -/
  target : Nat
  /-- status that started it -/
  cause : Nat
  /-- STARTED_BY of Table 18-5 -/
  by_ : Nat
  /-- Sector of the scope when the reset started -/
  sector : Nat
  /-- the engine and context fields of its RESET entry (R503) -/
  engine : Nat := 0xFF
  ctx : Nat := 0
  /-- SEQ of that entry -/
  logSeq : BitVec 32 := 0
  /-- it is a part of a wider reset: it has no entry, record or count of its own -/
  part : Bool := false
  /-- edges passed since it started -/
  edges : Nat := 0
  escalated : Bool := false
  /-- it could not be escalated (R502) -/
  stuck : Bool := false
  /-- crash-dump slot it wrote; 0xFF for none -/
  dump : Nat := 0xFF
  start : BitVec 64
  /-- commands it has removed -/
  removed : Nat := 0
  /-- privileged commands that complete with it: (ring, index) -/
  cmds : List (Nat × BitVec 32) := []
  deriving DecidableEq, Repr, Inhabited

/-- What the host's memory refuses at present: pages (address / 4,096) to which a write does not complete
successfully. The environment of the block, not a part of it; no command changes it. -/
structure Env where
  badPages : List Nat := []
  deriving DecidableEq, Repr, Inhabited


/-! ### Translation and faults (10) -/

/-- What waits for a translation, a leave of the Tender or a Chain answer: a tile instruction of a core, a piece of a
COPY or FILL, the sequence front end's reading for a slot, a block's spill or pull, a rebind engine's work, a fill or a
scrub, a RELEASE that nothing waits for. -/
inductive Waiter where
  | tile (core num : Nat)
  | piece (ring : Nat) (idx : BitVec 32) (buf : Option Nat) (off : Nat)
  | seq (slot : Nat)
  | blk (sector desc : Nat)
  | rebind (sector : Nat)
  | fill (res : Nat)
  | scrub (mem : Nat)
  | release (sector : Nat)
  deriving DecidableEq, Repr

/-- How far a unit of a waiting tile is (R302, R308, R309): its ATS request is outstanding; it translates; it is reached
untranslated (U); it needs a page request that waits for a fault-queue entry; its page request is pending. -/
inductive UnitSt where
  | ats | ok | u | stalled | pend
  deriving DecidableEq, Repr

/-- One unit of a waiting tile: its 2 MiB-aligned number, where it is, how often it was requested (R310), its group. -/
structure XUnit where
  unit : Nat
  st : UnitSt
  asked : Nat := 0
  prg : Option Nat := none
  deriving DecidableEq, Repr

/-- A tile that waits whole for its translations (R308). -/
structure XWait where
  who : Waiter
  sector : Nat
  ctx : Nat
  slot : Nat
  pasid : Option Nat
  write : Bool
  /-- tile-DMA engine 0–63, or 64 for the sequence front end; stream; command it belongs to -/
  source : Nat
  stream : Nat
  ring : Nat
  idx : BitVec 32
  units : List XUnit
  deriving DecidableEq, Repr

/-- A cached translation (R302, R303): base and size in 2 MiB units. -/
structure XEntry where
  sector : Nat
  pasid : Option Nat
  base : Nat
  units : Nat
  r : Bool
  w : Bool
  deriving DecidableEq, Repr

/-- A unit whose page request was sent: of which Sector and PASID, with write access or not (R309). -/
structure PUnit where
  sector : Nat
  pasid : Option Nat
  unit : Nat
  deriving DecidableEq, Repr

/-- A posted fault-queue entry that is in use (R314). -/
structure FqEntry where
  index : BitVec 32
  prg : Nat
  /-- the slot whose reserve it was taken from; none: a shared entry -/
  slot : Option Nat
  answered : Bool := false
  deriving DecidableEq, Repr

/-- An invalidation being served: removed entries may still be in use by moves (R305). -/
structure Inval where
  itag : Nat
  users : List Waiter
  deriving DecidableEq, Repr

/-- The translation unit: TLBs, misses, page-request groups, the fault queue (R299 to R319). -/
structure Xlate where
  /-- L1 of engine e at key e; L2 of die d at key 64 + d; the front end's at key 68; most recently used first -/
  tlb : Tbl (List XEntry) := []
  waits : List XWait := []
  /-- groups outstanding: PRG index and the units requested under it -/
  groups : Tbl (List PUnit) := []
  fq : List FqEntry := []
  fqTail : BitVec 32 := 0
  fqHead : BitVec 32 := 0
  fqOn : Bool := false
  fqErr : Bool := false
  priStopped : Bool := false
  invals : List Inval := []
  deriving DecidableEq, Repr, Inhabited

/-! ### Coherence and memory integrity (11, 12) -/

/-- The directory of one die (Table 11-8). -/
inductive DirMode where
  | boot | directory | test | rebuild
  deriving DecidableEq, Repr, Inhabited

/-- A rehome under way (R348): which class of ways, the list in force, the list to come. -/
structure Rehome where
  sector : Nat
  host : Bool
  old : List Nat
  new : List Nat
  /-- no moving line remains: the new list takes effect at the next Flash edge -/
  walked : Bool := false
  deriving DecidableEq, Repr

/-- One scrubbed memory (R360 to R364): line the lap stands at, edges since it began, the Tender's leave, and what its
register holds. -/
structure Scrub where
  pos : Nat := 0
  flashes : Nat := 0
  leave : Nat := 0
  warned : Bool := false
  last : Nat := 0
  current : Nat := 0
  progress : Nat := 0
  deriving DecidableEq, Repr, Inhabited

/-- Coherence, check-code and regulation state of the module (11, 12). -/
structure Mem where
  dir : Tbl DirMode := []
  rehomes : List Rehome := []
  /-- directory entries, and die-cache tag entries, in error: key die × 2^40 + line, 1 correctable, 2 uncorrectable;
  for tags the uncorrectable ones are 2 where no copy of the dirty bit reads 1 and 3 otherwise -/
  dirChk : Tbl Nat := []
  tagChk : Tbl Nat := []
  /-- epoch of resident slot k (R332) -/
  epoch : Tbl (BitVec 16) := []
  ueAddr : BitVec 64 := 0
  ueInfo : BitVec 64 := 0
  ceAddr : BitVec 64 := 0
  ceInfo : BitVec 64 := 0
  /-- scrubbing of channel m at key m, of Lantern memory n at key 128 + n -/
  scrub : Tbl Scrub := []
  reported : BitVec 64 := 0
  /-- channel m: LEVEL and OVER mask last published, bytes served to classes 0–4 in its last 16 intervals -/
  level : Tbl (Nat × Nat) := []
  served : Tbl (List (List Nat)) := []
  deriving DecidableEq, Repr, Inhabited

/-! ### Chain (13) -/

/-- CHN_PORT_STATUS.STATE, in the order of its codes. -/
inductive PortSt where
  | down | training | keying | up | disabled | dark | authFailed
  deriving DecidableEq, Repr, Inhabited

/-- One lane of a port (R373, R382, R383). -/
structure Lane where
  up : Bool := false
  /-- frame counter under the current key; frames sent and not acknowledged, oldest first, with their LSEQ -/
  fctr : Nat := 0
  lseq : BitVec 16 := 0
  unacked : List (BitVec 16 × Frame) := []
  /-- NAKs with no progress between them; retrains in this Flash; it stays down until its port trains again -/
  naks : Nat := 0
  retrains : Nat := 0
  dead : Bool := false
  /-- it passed 2^31 frames and a rekey is armed; it holds its traffic near 2^32 -/
  armed : Bool := false
  held : Bool := false
  deriving DecidableEq, Repr, Inhabited

/-- One Chain port (R380 to R383, R388, R401). -/
structure Port where
  st : PortSt := .down
  trained : Nat := 0
  delay : Nat := 0
  epoch : Nat := 0
  /-- the older key is still accepted; edges since the switch -/
  oldKey : Option Nat := none
  /-- a rekey waits: 1 KEY sent, 2 new keys derived and used from the next edge -/
  rekey : Nat := 0
  retrain : Bool := false
  minor : Nat := 0
  peerPort : Nat := 0
  peerDev : Nat := 0
  serial : BitVec 64 := 0
  deriving DecidableEq, Repr, Inhabited

/-- States of a mooring (CHN_MOOR_CTL.STATE). -/
inductive MoorSt where
  | free | leased | expired
  deriving DecidableEq, Repr, Inhabited

/-- What a mooring's lease fixes: the values of its registers in force (R390). -/
structure Lease where
  gen : BitVec 32 := 0
  ctl : BitVec 64 := 0
  aux : BitVec 64 := 0
  deriving DecidableEq, Repr, Inhabited

/-- One mooring (R389 to R393). -/
structure Moor where
  st : MoorSt := .free
  cur : Lease := {}
  expiry : BitVec 32 := 0
  stCtl : BitVec 64 := 0
  stAux : BitVec 64 := 0
  /-- the previous generation, and edges left to its grace edge -/
  prev : Option Lease := none
  graceEnd : BitVec 32 := 0
  deriving DecidableEq, Repr, Inhabited

/-- One outstanding request of this module (R374 to R379, R395, R396). -/
structure ChReq where
  id : Nat
  who : Waiter
  /-- issuing context and Sector, the group of the tile instruction, and the map generation tag -/
  sector : Nat
  ctx : Nat
  group : Nat := 0
  tag : Nat := 0
  type : Nat
  mooring : Nat
  /-- the lease it was issued under -/
  lease : Lease
  stream : Nat
  dst : Nat
  seq : Nat
  addr : Nat
  len : Nat
  payload : List Byte := []
  final : Bool := false
  first : Bool := false
  /-- it has its SEQ (taken when it is first sent); it is a resend; resends in a row without an answer -/
  numbered : Bool := false
  resend : Bool := false
  resends : Nat := 0
  edges : Nat := 0
  /-- the chase: moorings that refused it in order, as mooring + 1,024 × device; redirects made; the re-ask was sent -/
  refused : List Nat := []
  redirects : Nat := 0
  reask : Bool := false
  firstMoor : Nat
  /-- it has been sent: on which lane, by which path (port × 256 + up lanes of the Sector) (R376) -/
  sent : Bool := false
  lane : Nat := 0
  path : Nat := 0
  deriving DecidableEq, Repr

/-- A destination's record of one source stream (R377, R378). -/
structure SeqIn where
  seen : Bool := false
  done : List Nat := []
  /-- held final writes with the edges they have waited -/
  held : List (Frame × Nat × Nat) := []
  idle : Nat := 0
  deriving DecidableEq, Repr, Inhabited

/-- A source stream's numbering towards one destination (R377): next SEQ, edges with nothing outstanding. -/
structure SeqNum where
  next : Nat := 0
  idle : Nat := 0
  deriving DecidableEq, Repr, Inhabited

/-- Modes of a ring position (CHN_RP_STATUS.MODE) are computed; its bypass: closed, and where it is moving to. -/
structure RingPos where
  open_ : Bool := false
  moving : Option Bool := none
  /-- BYPASS_k ended at level 1, or the position was given up (R529) -/
  dark : Bool := false
  deriving DecidableEq, Repr, Inhabited

/-- The Chain unit of the module. -/
structure Chain where
  id : BitVec 20 := 0
  refused : Bool := false
  ports : Tbl Port := []
  lanes : Tbl Lane := []
  rps : Tbl RingPos := []
  /-- routes: (port, device) → hops, and edges since the last HELLO, at key port × 2^20 + device -/
  routes : Tbl (Nat × Nat) := []
  moors : Tbl Moor := []
  reqs : List ChReq := []
  nextReq : Nat := 0
  /-- at key stream × 2^20 + device -/
  nums : Tbl SeqNum := []
  recs : Tbl SeqIn := []
  orphan : BitVec 64 := 0
  orphanAddr : BitVec 64 := 0
  deriving DecidableEq, Repr, Inhabited

/-! ### The Tender (14) -/

/-- A request for leave (R412, R413): what asked, class, kind of work 0 MATRIX 1 HBM 2 CHAIN, amount in units of
Table 14-5's thresholds (multiply-accumulates or bytes), energy estimate in µJ, edges waited. -/
structure Grant where
  who : Waiter
  ctx : Nat
  cls : Nat
  kind : Nat
  amount : Nat
  est : Nat
  edges : Nat := 0
  deriving DecidableEq, Repr

/-- A ramp under way (R417): start cap, ticks moved, and where it goes. -/
structure Ramp where
  target : Nat
  slope : Nat
  /-- cap in force, in 1/2^16 W, and the direction -/
  cap : Nat
  deriving DecidableEq, Repr, Inhabited

/-- The Tender's state of one Sector (R405 to R411). -/
structure Tnd where
  credit : Int := 0
  budget : Nat := 0
  /-- operating point in force of classes 0–3 -/
  op : List Nat := [5, 5, 5, 5]
  idle : Nat := 1
  /-- learned values (MATRIX, HBM, CHAIN) of class c -/
  learn : Tbl (Nat × Nat × Nat) := []
  deriving DecidableEq, Repr, Inhabited

/-- Emergency level, causes (TND_STATUS.CAUSE), and edges since the last cause was present (R424). -/
structure Emerg where
  level : Nat := 0
  cause : Nat := 0
  clear : Nat := 0
  /-- operating points that E1 has taken off every Lantern so far -/
  down : Nat := 0
  deriving DecidableEq, Repr, Inhabited

/-- The Tender (R402 to R427). -/
structure Tender where
  target : Nat := 2200
  slope : Nat := 250
  cap : Nat := 2200
  ramp : Option Ramp := none
  deadline : BitVec 64 := 0
  /-- the deadline of the latest step has acted -/
  judged : Bool := true
  schedEntry : Nat := 0
  boost : Nat := 0
  /-- energy of the window above 2,200 W × its length, µJ -/
  above : Int := 0
  wearSpent : Bool := false
  used : Tbl Nat := []
  trim : Tbl Nat := []
  emerg : Emerg := {}
  under : Bool := false
  floor : Bool := false
  /-- dies whose clock is halved by a droop -/
  droop : List Nat := []
  /-- input power of the last 10 Flashes, newest first; the reserve's excess in them -/
  avg : List Nat := []
  resAvg : List Nat := []
  queues : Tbl (List Grant) := []
  secs : Tbl Tnd := []
  /-- last readings of the monitors -/
  last : Option Readings := none
  cal : Tbl Nat := []
  edges1024 : Nat := 0
  /-- operating point of die d fixed by OP_OVERRIDE -/
  override : Tbl (Option Nat) := []
  deriving DecidableEq, Repr, Inhabited

/-! ### Daymark (15) -/

/-- What is fused at manufacture or programmed in service (R431, R437, R439, R443). A copy of the life-cycle state is
none where it is invalid. -/
structure Fuses where
  serial : BitVec 64 := 0
  copies : List (Option Nat) := [some 1, some 1, some 1]
  counter : Nat := 0
  /-- token digests: vendor integration, vendor return, fielding, scrap -/
  integDigest : List Byte := []
  returnDigest : List Byte := []
  fieldDigest : Option (List Byte) := none
  scrapDigest : Option (List Byte) := none
  /-- public keys as points of P-384: debug signing 0–3, firmware signing -/
  dbgKeys : List (Nat × Nat) := []
  fwKey : Nat × Nat := (0, 0)
  /-- kill rows of the memory root, link identity and device identity keys -/
  killed : List Nat := []
  /-- anti-rollback value of component c -/
  svn : Tbl Nat := []
  /-- certificate chain of the device identity, and the digest of Daymark's ROM -/
  chain : List Byte := []
  romDigest : List Byte := []
  deriving DecidableEq, Repr, Inhabited

/-- Daymark (R428 to R454). -/
structure Daymark where
  running : Bool := false
  fuses : Fuses := {}
  /-- composition key, in NVM of Daymark's own (R435) -/
  compKey : Option (List Byte) := none
  rights : BitVec 64 := 0
  /-- SCAN granted by a certificate: in force until power-on (R444) -/
  scan : Bool := false
  fails : Nat := 0
  /-- the life-cycle copies could not be read in this boot: LOST (Table 17-2) -/
  lost : Bool := false
  /-- a transition being programmed: the target state -/
  prog : Option Nat := none
  seq : BitVec 32 := 0
  result : Nat := 0
  busy : Bool := false
  /-- sealed slot owners, positions 0–63 (R449); 255: the pool -/
  slotmap : List Nat := []
  /-- memory key generation of channel m: Sector byte and GENERATION (R433) -/
  keys : Tbl (Nat × BitVec 32) := []
  deriving DecidableEq, Repr, Inhabited

/-! ### Freezes (16) -/

/-- Freeze states (Table 16-3). -/
inductive FrzSt where
  | running | quiescing | frozen | restoring
  deriving DecidableEq, Repr, Inhabited

/-- Freeze of one Sector (R459 to R470). -/
structure Frz where
  st : FrzSt := .running
  first : Nat := 0
  extents : Nat := 0
  /-- STATE and ERROR of the image header; the image is being written -/
  image : Nat := 0
  error : Nat := 0
  writing : Bool := false
  frozenAt : BitVec 64 := 0
  /-- edges left to the drain limit (R461) -/
  edges : Nat := 0
  /-- a freeze held until the older map generation drains (R117): its operand -/
  heldOp : Option (BitVec 64) := none
  /-- the restore is complete and the Sector runs at the next edge -/
  restored : Bool := false
  deriving DecidableEq, Repr, Inhabited

/-! ### Keeper (17) -/

/-- KPR_STATUS.STATE, with the states before a Keeper runs. -/
inductive KprSt where
  | booting | running | failed | restarting
  deriving DecidableEq, Repr, Inhabited

/-- One boot journal record (Table 17-3). -/
structure JRec where
  boot : BitVec 32
  step : Nat
  level : Nat
  outcome : Nat
  ms : Nat
  detail : BitVec 32
  deriving DecidableEq, Repr

/-- A boot step of the running boot: level, and whether it has ended. -/
structure BStep where
  id : Nat
  level : Nat
  ended : Bool := false
  deriving DecidableEq, Repr

/-- The running or last boot (R472 to R477). -/
structure Boot where
  kind : Nat := 0
  number : BitVec 32 := 0
  /-- 0 running, 1 done, 2 failed, 3 no boot begun -/
  result : Nat := 3
  stage : Nat := 0
  steps : List BStep := []
  alternates : Nat := 0
  lastFail : Nat := 0
  deriving DecidableEq, Repr, Inhabited

/-- One firmware component (R486 to R489): active slot, images of A and B, the bytes received for the inactive one. -/
structure Fw where
  active : Nat := 0
  a : List Byte := []
  b : List Byte := []
  /-- COMMIT of an image that waits for its first BOOT_DONE after activation -/
  commit : Bool := false
  deriving DecidableEq, Repr, Inhabited

/-- States of the PLDM firmware device (R487). -/
inductive Pldm where
  | idle | learn | ready | download | verify | apply | activate
  deriving DecidableEq, Repr, Inhabited

/-- The Keeper with its NVM (R472 to R492). -/
structure Keeper where
  st : KprSt := .booting
  runs : Bool := false
  slot : Nat := 0
  nvmOk : Bool := false
  boot : Boot := {}
  /-- stored level of each step; quarantine count of each core -/
  levels : Tbl Nat := []
  quar : Tbl Nat := []
  journal : List JRec := []
  /-- entries of the Logbook in NVM, newest first -/
  nvmLog : List LogEv := []
  /-- SEQ of the first Logbook entry that is not in NVM -/
  flushed : BitVec 32 := 0
  flushing : Option (BitVec 32) := none
  lost : Nat := 0
  /-- site readings as bytes (0xFF invalid), sites marked invalid, sites past WARN whose entry is written -/
  invalid : List Nat := []
  warned : List Nat := []
  fw : Tbl Fw := []
  pldm : Pldm := .idle
  comps : List Nat := []
  comp : Nat := 0
  accepted : List Nat := []
  /-- Tender tables wait for their Flash; Chain firmware activation stands at port p; a Keeper restart waits -/
  tables : Bool := false
  chainPort : Option Nat := none
  restart : Bool := false
  /-- cause of the restart under way: 1 activation, 2 watchdog; entries held in the collector meanwhile (R480) -/
  cause : Nat := 0
  coll : Nat := 0
  /-- slot whose Chain firmware port p runs; Tender tables in force: slot 0 or 1, or 2 for the built-in ones -/
  portSlot : Tbl Nat := []
  tabSlot : Nat := 0
  /-- the wear record in NVM (R479) -/
  wearUsed : Tbl Nat := []
  wearTrim : Tbl Nat := []
  wearSpent : Bool := false
  /-- major version of the microcode each Lantern runs -/
  ucode : Tbl (BitVec 32) := []
  /-- failed trainings of the port whose Chain firmware is being activated -/
  tries : Nat := 0
  seq : BitVec 32 := 0
  result : Nat := 0
  busy : Bool := false
  deriving DecidableEq, Repr, Inhabited

/-! ### Hangs (18) and pins (19) -/

/-- One progress watch (R494, R495). Slot k is at key k, engine e at key 64 + e. -/
structure Watch where
  quiet : Nat := 0
  busy : Bool := false
  /-- busy at the previous edge; progress since it -/
  wasBusy : Bool := false
  progress : Bool := false
  expired : Bool := false
  /-- the expiry of this quiet stretch has acted -/
  fired : Bool := false
  deriving DecidableEq, Repr, Inhabited

/-- One error record (Table 18-5). -/
structure ErrRec where
  seq : BitVec 32
  rung : Nat
  startedBy : Nat
  outcome : Nat
  cause : Nat
  sector : Nat
  engine : Nat
  ctx : Nat
  removed : Nat
  started : BitVec 64
  ended : BitVec 64
  logSeq : BitVec 32
  dump : Nat
  deriving DecidableEq, Repr

/-- Watches, resets and dumps (R493 to R511). -/
structure Hang where
  watch : Tbl Watch := []
  errs : List ErrRec := []
  errSeq : BitVec 32 := 0
  stuck : Bool := false
  /-- rung and target of the host request in progress -/
  reqRung : Nat := 0
  reqTarget : Nat := 0
  dumping : Bool := false
  dumpSlot : Nat := 0
  /-- crash dump slots: 1 WRITING, 2 COMPLETE; SEQ of the error record -/
  dumps : Tbl (Nat × Nat) := []
  pwrReq : Bool := false
  /-- a power cycle waits for the Logbook flush before its request (R505) -/
  pwrWait : Bool := false
  /-- a rung 4 or 5 that waits for the Keeper or for fuse programming, and whether it takes a dump -/
  wait : Option (RunReset × Bool) := none
  /-- the module is stopped: a module warm reset waits for its dump or its boot -/
  stopped : Bool := false
  copyBusy : Bool := false
  copyResult : Nat := 0
  deriving DecidableEq, Repr, Inhabited

/-- Tray signals and the test port (R512 to R530). RESET_N and the open-drain outputs are true while asserted; ALERT_N follows from
the state (R506). VIN is in tenths of a volt. -/
structure Pins where
  resetN : Bool := true
  vsb : Bool := false
  vin : Nat := 0
  /-- SB_ADDR1, SB_ADDR0, SB_MODE, REFCLK_SEL as last read (R520) -/
  straps : Nat := 0
  thermTrip : Bool := false
  tap : TapInstr := .idcode
  deriving DecidableEq, Repr, Inhabited
/-- The state of the block. -/
structure State where
  pending : List Instr
  /-- host-written registers by BAR0 offset; an unlisted one holds its reset value (`regReset`) -/
  regs : Tbl (BitVec 64)
  /-- the next free value (Config.free): a counter of the model's own -/
  free : Nat
  /-- everything sent out, newest first -/
  out : List Out
  flash : Flash
  sat : Tbl Sat
  ll : Loader
  sectors : Tbl Sector
  res : Tbl Res
  gens : Tbl Gens
  rb : Rebind
  rings : Tbl Ring
  ctxs : Tbl Ctx
  events : Tbl Event
  tables : Option Tables
  cores : Tbl Core
  groups : Tbl (Option Group)
  nextGroup : Nat
  seqs : Tbl Seq
  seqSecs : Tbl SeqSec
  env : Env
  pci : PciCfg
  /-- running counters and their shadow banks, by BAR0 offset of the bank word (R62) -/
  ctr : Tbl (BitVec 64)
  shadow : Tbl (BitVec 64)
  log : List LogEv
  logSeq : BitVec 32
  resets : List RunReset
  /-- Sector memory (R70), at key Sector × 2^40 + address; Lantern pages, at key (context × 1,024 + page) × 2^20 +
  offset; core-local memory, at key core × 2^19 + offset -/
  sm : List Host.Cell
  ls : List Host.Cell
  clm : List Host.Cell
  /-- check state of 64-byte lines that are not clean (R352 to R357): 1 correctable, 2 uncorrectable, 3 poisoned; keys
  as those of `sm`, `ls` and `clm`, divided by 64 -/
  smChk : Tbl Nat
  lsChk : Tbl Nat
  clmChk : Tbl Nat
  /-- verified binaries of each Sector, most recently launched first (R157) -/
  binaries : List Binary
  xl : Xlate
  mem : Mem
  chn : Chain
  tnd : Tender
  dmk : Daymark
  frz : Tbl Frz
  kpr : Keeper
  hng : Hang
  pins : Pins
  deriving DecidableEq, Repr

/-- Why a command ends a run: no command of this block does (every meaning answers a next state). -/
inductive Fault where
  deriving DecidableEq, Repr

/-- Why the model refuses a command. -/
inductive Refusal where
  /-- raised by Machine/Dispatch.lean for a command without a meaning in this model; safe -/
  | notModelled (mnemonic : String)
  deriving DecidableEq, Repr

/-- The machine right after reset: power is about to be applied, and no boot has begun (R16, R472; notes/assumptions/2, 3). A register
that the host writes holds `regReset`. -/
def State.reset : State where
  pending := []
  regs := []
  free := 0
  out := []
  flash := {}
  sat := []
  ll := {}
  sectors := []
  res := []
  gens := []
  rb := {}
  rings := []
  ctxs := []
  events := []
  tables := none
  cores := []
  groups := []
  nextGroup := 0
  seqs := []
  seqSecs := []
  env := {}
  pci := {}
  ctr := []
  shadow := []
  log := []
  logSeq := 0
  resets := []
  sm := []
  ls := []
  clm := []
  smChk := []
  lsChk := []
  clmChk := []
  binaries := []
  xl := {}
  mem := {}
  chn := {}
  tnd := {}
  dmk := {}
  frz := []
  kpr := {}
  hng := {}
  pins := {}

end Sys2Proof.Machine
end

