-- ==== Sys2Proof/Machine/Ops.lean ====
section
/-!
DEFINITION. The named operations every command's meaning is written with: sparse tables, bit fields, little-endian bytes
(R5), memory cells, the stamp of Flash and tick, MSI-X messages, Logbook entries, counters and free values.
-/
namespace Sys2Proof.Machine

/-! ### Sparse tables -/

/-- The value at a key; an unlisted key reads as `d`. -/
def tget {α : Type} (d : α) : Tbl α → Nat → α
  | [], _ => d
  | (a, v) :: r, k => if a = k then v else tget d r k

/-- Put a value at a key, in the order of the keys. -/
def tins {α : Type} : Tbl α → Nat → α → Tbl α
  | [], k, v => [(k, v)]
  | (a, w) :: r, k, v => if k < a then (k, v) :: (a, w) :: r else if k = a then (k, v) :: r else (a, w) :: tins r k v

/-- Set the value at a key, keeping the canonical form: keys rise, and the value `d` is not listed. -/
def tput {α : Type} [DecidableEq α] (d : α) (t : Tbl α) (k : Nat) (v : α) : Tbl α :=
  if v = d then t.filter (fun p => p.1 != k) else tins t k v

/-- Change the value at a key. -/
def tmod {α : Type} [DecidableEq α] (d : α) (t : Tbl α) (k : Nat) (f : α → α) : Tbl α :=
  tput d t k (f (tget d t k))

/-- The canonical form: every key at least `lo`, keys strictly rising, nothing equal to the default. -/
def twfFrom {α : Type} [DecidableEq α] (d : α) : Nat → Tbl α → Bool
  | _, [] => true
  | lo, (a, v) :: r => decide (lo ≤ a) && decide (v ≠ d) && twfFrom d (a + 1) r

/-- The canonical form of a table. -/
def twf {α : Type} [DecidableEq α] (d : α) (t : Tbl α) : Bool := twfFrom d 0 t

/-- Keys that are listed. -/
def tkeys {α : Type} (t : Tbl α) : List Nat := t.map Prod.fst

/-! ### Bits and bytes (R5) -/

/-- Bits [hi:lo] of a number. -/
def bits (x hi lo : Nat) : Nat := x / 2 ^ lo % 2 ^ (hi + 1 - lo)

/-- Bit i of a number. -/
def bit (x i : Nat) : Bool := bits x i i == 1

/-- A word with bits [hi:lo] replaced. -/
def setBits (x : BitVec 64) (hi lo v : Nat) : BitVec 64 :=
  BitVec.ofNat 64 (x.toNat - bits x.toNat hi lo * 2 ^ lo + v % 2 ^ (hi + 1 - lo) * 2 ^ lo)

/-- The number that bytes spell, first byte least significant. -/
def leNat : List Byte → Nat
  | [] => 0
  | b :: r => b.toNat + 256 * leNat r

/-- `n` bytes of a number, least significant first. -/
def leBytes : Nat → Nat → List Byte
  | 0, _ => []
  | n + 1, v => BitVec.ofNat 8 v :: leBytes n (v / 256)

/-- `len` bytes at an offset of a structure; bytes past its end read zero. -/
def sub (bs : List Byte) (off len : Nat) : List Byte :=
  (List.range len).map (fun i => bs.getD (off + i) 0)

/-- The little-endian field of `len` bytes at an offset (R5). -/
def fieldAt (bs : List Byte) (off len : Nat) : Nat := leNat (sub bs off len)

/-- All bytes of a range are zero (R17). -/
def zeroAt (bs : List Byte) (off len : Nat) : Bool := (sub bs off len).all (· == 0)

/-- Saturating increase of a counter of `w` bits. -/
def satAdd (w x n : Nat) : Nat := min (x + n) (2 ^ w - 1)

/-! ### Memory cells -/

/-- A byte of a memory; bytes not listed read zero (R73, R103, R121). -/
def cget (m : List Host.Cell) (a : Nat) : Byte := tget 0 m a

/-- Write one byte, keeping the canonical form. -/
def cput (m : List Host.Cell) (a : Nat) (b : Byte) : List Host.Cell := tput 0 m a b

/-- The bytes of a range. -/
def cread (m : List Host.Cell) (a len : Nat) : List Byte := (List.range len).map (fun i => cget m (a + i))

/-- Write bytes at rising addresses. -/
def cwrite (m : List Host.Cell) (a : Nat) : List Byte → List Host.Cell
  | [] => m
  | b :: r => cwrite (cput m a b) (a + 1) r

/-- Two byte ranges overlap. -/
def rangesMeet (a la b lb : Nat) : Bool := decide (a < b + lb) && decide (b < a + la) && la != 0 && lb != 0

/-- Zero a range: an address in it is no longer listed. -/
def czero (m : List Host.Cell) (a len : Nat) : List Host.Cell := m.filter (fun c => !(a ≤ c.1 && c.1 < a + len))

/-- The canonical form of a memory. -/
def Memory.wf (m : List Host.Cell) : Bool := twf 0 m

/-! ### Tables of the state -/

def State.ring (s : State) (q : Nat) : Ring := tget {} s.rings q
def State.setRing (s : State) (q : Nat) (r : Ring) : State := { s with rings := tput {} s.rings q r }
def State.ctx (s : State) (c : Nat) : Ctx := tget {} s.ctxs c
def State.setCtx (s : State) (c : Nat) (x : Ctx) : State := { s with ctxs := tput {} s.ctxs c x }
def State.event (s : State) (e : Nat) : Event := tget {} s.events e
def State.setEvent (s : State) (e : Nat) (x : Event) : State := { s with events := tput {} s.events e x }
def State.sector (s : State) (n : Nat) : Sector := tget {} s.sectors n
def State.setSector (s : State) (n : Nat) (x : Sector) : State := { s with sectors := tput {} s.sectors n x }
def State.core (s : State) (c : Nat) : Core := tget {} s.cores c
def State.setCore (s : State) (c : Nat) (x : Core) : State := { s with cores := tput {} s.cores c x }
def State.group (s : State) (g : Nat) : Option Group := tget none s.groups g
def State.setGroup (s : State) (g : Nat) (x : Option Group) : State := { s with groups := tput none s.groups g x }
def State.seq (s : State) (n : Nat) : Seq := tget {} s.seqs n
def State.setSeq (s : State) (n : Nat) (x : Seq) : State := { s with seqs := tput {} s.seqs n x }
def State.seqSec (s : State) (n : Nat) : SeqSec := tget {} s.seqSecs n
def State.setSeqSec (s : State) (n : Nat) (x : SeqSec) : State := { s with seqSecs := tput {} s.seqSecs n x }
def State.satEntry (s : State) (e : Nat) : Sat := tget {} s.sat e
def State.setSat (s : State) (e : Nat) (x : Sat) : State := { s with sat := tput {} s.sat e x }
def State.resAt (s : State) (r : Nat) : Res := tget {} s.res r
def State.setRes (s : State) (r : Nat) (x : Res) : State := { s with res := tput {} s.res r x }
def State.gen (s : State) (n : Nat) : Gens := tget {} s.gens n
def State.setGen (s : State) (n : Nat) (x : Gens) : State := { s with gens := tput {} s.gens n x }
def State.slotAt (s : State) (k : Nat) : Slot := tget {} s.ll.slots k
def State.setSlot (s : State) (k : Nat) (x : Slot) : State :=
  { s with ll := { s.ll with slots := tput {} s.ll.slots k x } }

def State.watchAt (s : State) (k : Nat) : Watch := tget {} s.hng.watch k
def State.setWatch (s : State) (k : Nat) (w : Watch) : State :=
  { s with hng := { s.hng with watch := tput {} s.hng.watch k w } }
def State.frzAt (s : State) (n : Nat) : Frz := tget {} s.frz n
def State.setFrz (s : State) (n : Nat) (x : Frz) : State := { s with frz := tput {} s.frz n x }
def State.tndSec (s : State) (n : Nat) : Tnd := tget {} s.tnd.secs n
def State.setTnd (s : State) (n : Nat) (x : Tnd) : State := { s with tnd := { s.tnd with secs := tput {} s.tnd.secs n x } }
def State.port (s : State) (p : Nat) : Port := tget {} s.chn.ports p
def State.setPort (s : State) (p : Nat) (x : Port) : State := { s with chn := { s.chn with ports := tput {} s.chn.ports p x } }
def State.lane (s : State) (l : Nat) : Lane := tget {} s.chn.lanes l
def State.setLane (s : State) (l : Nat) (x : Lane) : State := { s with chn := { s.chn with lanes := tput {} s.chn.lanes l x } }
def State.moor (s : State) (m : Nat) : Moor := tget {} s.chn.moors m
def State.setMoor (s : State) (m : Nat) (x : Moor) : State := { s with chn := { s.chn with moors := tput {} s.chn.moors m x } }

/-- A host-written register by its BAR0 offset, as a number; `d` is its reset value. -/
def regAt (s : State) (off : Nat) (d : Nat := 0) : Nat := (tget (BitVec.ofNat 64 d) s.regs off).toNat

/-! ### Progress (R494) -/

/-- Progress of the context in a resident slot, of a Lantern's engine, of a Sector's sequence engine. -/
def markWatch (s : State) (k : Nat) : State := s.setWatch k { s.watchAt k with progress := true }
def markCtx (s : State) (c : Nat) : State := if (s.ctx c).st = .inactive then s else markWatch s (s.ctx c).slot
def markLantern (s : State) (n : Nat) : State := markWatch s (64 + n)
def markSeqEngine (s : State) (n : Nat) : State := markWatch s (80 + n)

/-! ### Resource numbers -/

/-- Key of a resource in `res`: Lanterns from 0, cores from 1,024, channels from 2,048, ways from 3,072, lanes from
4,096 (R25 numbers each kind from 0). -/
def resLantern (n : Nat) : Nat := n
def resCore (n : Nat) : Nat := 1024 + n
def resChannel (n : Nat) : Nat := 2048 + n
def resWay (n : Nat) : Nat := 3072 + n
def resLane (n : Nat) : Nat := 4096 + n

/-- The key of a resource named by a command. -/
def resKey : Resource → Nat
  | .lantern n => resLantern n.val
  | .core n => resCore n.val
  | .channel n => resChannel n.val
  | .way n => resWay n.val
  | .lane n => resLane n.val

/-! ### Flash and tick (R4, R5) -/

/-- A WHEN word: [63:12] low 52 bits of the Flash, [11:0] tick. -/
def stampWord (flash : BitVec 64) (tick : Nat) : BitVec 64 := BitVec.ofNat 64 (flash.toNat * 4096 + tick % 4096)

/-- FLS_NOW (R54). -/
def State.now (s : State) : BitVec 64 := stampWord s.flash.count s.flash.tick

/-! ### Free values -/

/-- Take the next free value (notes/assumptions/4). -/
def State.fresh (s : State) : BitVec 64 × State := (Config.free s.free, { s with free := s.free + 1 })

/-! ### What goes out -/

def State.emit (s : State) (o : Out) : State := { s with out := o :: s.out }

/-- A vector's message may be sent: MSI-X enabled, the function and the vector not masked. The mask bit is bit 32 of
the second word of the vector's table entry (R259; layout of the MSI-X table PRESUMED from PCI Express,
notes/assumptions/8). -/
def msixOpen (s : State) (v : Nat) : Bool :=
  s.pci.msix && !s.pci.msixMask && !bit (tget (2 ^ 32 : BitVec 64) s.regs (0x3000008 + 16 * v)).toNat 32

/-- Send vector v, or hold it in the pending-bit array while it is masked (R261). -/
def sendMsix (s : State) (v : Nat) : State :=
  if msixOpen s v then s.emit (.msix v)
  else { s with pci := { s.pci with pba := if v ∈ s.pci.pba then s.pci.pba else v :: s.pci.pba } }

/-- Send a vector named by a ring or an event, where 0 means none (R261). -/
def sendVector (s : State) (v : Nat) : State := if v = 0 then s else sendMsix s v

/-- Logbook entries that are not in NVM (R483), newest first. -/
def unflushed (s : State) : List LogEv := s.log.takeWhile (fun e => decide ((e.seq - s.kpr.flushed).toNat < 2 ^ 31))

/-- Start a Logbook flush (R483), where the NVM is mounted: it takes the entries posted so far and reserves the next SEQ for LOG_FLUSHED. A flush that
runs takes none of what is posted meanwhile. -/
def startFlush (s : State) : State :=
  if s.kpr.flushing.isSome || !s.kpr.nvmOk then s
  else { s with kpr := { s.kpr with flushing := some s.logSeq }, logSeq := s.logSeq + 1 }

/-- Post a Logbook entry (R480, R481): types of Table 17-7; Sector 0xFF for none. The Logbook keeps the last 65,536. While the Keeper does not take
entries the collector holds 512; further ones are lost and counted (R480). A FATAL
entry starts a flush, and so do 4,096 entries not yet in NVM (R483). -/
def postLog (s : State) (typ sector : Nat) (fatal : Bool) (arg : Nat) (more : Bool := false) : State :=
  let idle := !s.kpr.runs || s.kpr.st == .restarting
  if idle && decide (512 ≤ s.kpr.coll) then { s with kpr := { s.kpr with lost := s.kpr.lost + 1 } } else
  let s := if idle then { s with kpr := { s.kpr with coll := s.kpr.coll + 1 } } else s
  let s1 := { s with
    log := ({ seq := s.logSeq, when_ := s.now, typ := typ, sector := sector, fatal := fatal,
              freeRun := s.flash.freeRun, more := more, arg := BitVec.ofNat 64 arg } :: s.log).take 65536
    logSeq := s.logSeq + 1 }
  if (fatal || decide (4096 ≤ (s1.logSeq - s1.kpr.flushed).toNat)) && !more then startFlush s1 else s1

/-- Add to a running counter of a snapshot bank, named by the bank word's BAR0 offset (R62). -/
def bump (s : State) (off n : Nat) : State :=
  { s with ctr := tmod 0 s.ctr off (fun c => c + BitVec.ofNat 64 n) }

/-- The epoch of a resident slot rises (R332). -/
def epochUp (s : State) (k : Nat) : State :=
  bump { s with mem := { s.mem with epoch := tmod 0 s.mem.epoch k (· + 1) } } 0x4E138 1

/-- A write to host memory goes through, or does not: the environment decides (R274, R285). -/
def hostWriteOk (s : State) (addr : Nat) : Bool := !s.env.badPages.contains (addr / 4096)

/-- Write bytes to host memory. -/
def hostWrite (s : State) (pasid : Option Nat) (addr : Nat) (bytes : List Byte) (final : Bool) : State :=
  s.emit (.hostWrite pasid addr bytes final)

/-- What a host read of `len` bytes at an address returns; none where it does not complete successfully. -/
def hostRead (h : HostView) (addr len : Nat) : Option (List Byte) :=
  match h.find? (fun p => p.1 == addr && p.2.length == len) with
  | some p => some p.2
  | none => none

end Sys2Proof.Machine
end

