-- ==== Sys2Proof/Machine/RegMap.lean ====
section
/-!
DEFINITION. The register map of BAR0 (Table 0-4, R9 to R16): every register the tables of the spec give, its writable and its
write-one-to-clear bits, its reset value. Reserved fields are in no mask (R15).
-/
namespace Sys2Proof.Machine

/-- A family of registers: first offset, two strides with their counts, the larger first, whole-word, bits that a write sets (RW, RWF, RWL), bits that
a write of 1 clears, and the reset value. A read-only field shows state that is held elsewhere. -/
structure RegRow where
  base : Nat
  s1 : Nat
  n1 : Nat
  s2 : Nat
  n2 : Nat
  whole : Bool
  rw : Nat
  w1c : Nat
  reset : Nat
  deriving DecidableEq, Repr

/-- Registers CAP. -/
def regsCAP : List RegRow := [
  ⟨0, 0, 1, 0, 1, false, 0, 0, 0x4f4458312400b001⟩,
  ⟨8, 0, 1, 0, 1, true, 0, 0, 0⟩,
  ⟨0x10, 0, 1, 0, 1, false, 0, 0, 0x10001000100⟩,
  ⟨0x18, 0, 1, 0, 1, true, 0xffffffffffff, 0, 0⟩,
  ⟨0x20, 0, 1, 0, 1, false, 0, 0x4000000000000000, 0⟩,
  ⟨0x28, 0, 1, 0, 1, false, 0, 0, 0x48101008040c1004⟩,
  ⟨0x30, 0, 1, 0, 1, false, 0, 0, 0x25a6206013400c00⟩,
  ⟨0x38, 0, 1, 0, 1, false, 0, 0, 0x4e205dc06400000⟩,
  ⟨0x40, 0, 1, 0, 1, false, 0, 0, 0x400080010004010⟩,
  ⟨0x48, 0, 1, 0, 1, false, 0, 0, 0x14104000272b0800⟩,
  ⟨0x50, 0, 1, 0, 1, false, 0, 0, 0x4100a4020003007⟩,
  ⟨0x58, 0, 1, 0, 1, false, 0, 0, 0x7fff⟩,
  ⟨0x60, 0, 1, 0, 1, false, 0, 0, 0x10010003e8000fa⟩,
  ⟨0x68, 0, 1, 0, 1, false, 0, 0, 0⟩,
  ⟨0x70, 0, 1, 0, 1, false, 0, 0, 0⟩,
  ⟨0x78, 0, 1, 0, 1, false, 0, 0, 0⟩,
  ⟨0x80, 8, 3, 0, 1, false, 0, 0, 0⟩,
  ⟨0x98, 8, 2, 0, 1, false, 0, 0, 0⟩,
  ⟨0xa8, 8, 2, 0, 1, false, 0, 0, 0⟩,
  ⟨0xb8, 0, 1, 0, 1, false, 0, 0, 0⟩,
  ⟨0xc0, 8, 2, 0, 1, false, 0, 0, 0⟩]

/-- Registers FLS. -/
def regsFLS : List RegRow := [
  ⟨0x10000, 0, 1, 0, 1, true, 0, 0, 0⟩,
  ⟨0x10008, 0, 1, 0, 1, true, 0, 0, 0⟩,
  ⟨0x10010, 0, 1, 0, 1, false, 0, 0, 0x1000002⟩,
  ⟨0x10018, 0, 1, 0, 1, false, 0, 0, 0xf424003e8⟩,
  ⟨0x10020, 0, 1, 0, 1, false, 0xff03, 0, 0xff00⟩,
  ⟨0x10028, 0, 1, 0, 1, false, 0, 0x1ff, 0⟩,
  ⟨0x10030, 0, 1, 0, 1, false, 0x1ff, 0, 0⟩,
  ⟨0x10038, 0, 1, 0, 1, true, 0, 0, 0⟩,
  ⟨0x10040, 0, 1, 0, 1, false, 0, 0, 0⟩,
  ⟨0x10048, 0, 1, 0, 1, false, 0, 0, 0⟩,
  ⟨0x11000, 0x20, 256, 0, 1, true, 0xffffffffffffffff, 0, 0⟩,
  ⟨0x11008, 0x20, 256, 0, 1, false, 0x3f0fff, 0, 0⟩,
  ⟨0x11010, 0x20, 256, 0, 1, true, 0xffffffffffffffff, 0, 0⟩,
  ⟨0x11018, 0x20, 256, 0, 1, true, 0, 0, 0⟩]

/-- Registers CMP. -/
def regsCMP : List RegRow := [
  ⟨0x20000, 0, 1, 0, 1, true, 0xffffffffffffffc0, 0, 0⟩,
  ⟨0x20008, 0, 1, 0, 1, false, 0x1ffff, 0, 0⟩,
  ⟨0x20010, 0, 1, 0, 1, false, 0, 0, 0⟩,
  ⟨0x20018, 0, 1, 0, 1, true, 0, 0, 0⟩,
  ⟨0x20020, 8, 6, 0, 1, true, 0, 0, 0⟩,
  ⟨0x20050, 0, 1, 0, 1, false, 0, 0, 0⟩,
  ⟨0x20058, 0, 1, 0, 1, false, 0, 7, 0⟩,
  ⟨0x20060, 0, 1, 0, 1, false, 7, 0, 0⟩,
  ⟨0x20100, 0x40, 2, 0, 1, false, 0, 0, 0⟩,
  ⟨0x20108, 0x40, 2, 0, 1, false, 0, 0, 0⟩,
  ⟨0x20110, 0x40, 2, 0, 1, true, 0, 0, 0⟩,
  ⟨0x20118, 0x40, 2, 0, 1, false, 0, 0, 0⟩,
  ⟨0x21000, 0x80, 16, 0, 1, false, 0, 0, 0⟩,
  ⟨0x21008, 0x80, 16, 0, 1, false, 0, 0, 0⟩,
  ⟨0x21010, 0x80, 16, 8, 2, false, 0, 0, 0⟩,
  ⟨0x21020, 0x80, 16, 8, 2, false, 0, 0, 0⟩,
  ⟨0x21030, 0x80, 16, 8, 2, false, 0, 0, 0⟩,
  ⟨0x21040, 0x80, 16, 0, 1, false, 0, 0, 0⟩,
  ⟨0x21048, 0x80, 16, 0, 1, false, 0, 0, 0⟩,
  ⟨0x21050, 0x80, 16, 0, 1, false, 0, 0, 0⟩,
  ⟨0x21800, 8, 16, 0, 1, false, 0, 0, 0⟩,
  ⟨0x28000, 0, 1, 0, 1, false, 0x1fff, 0, 0x800⟩,
  ⟨0x28008, 0, 1, 0, 1, false, 0, 0, 0⟩,
  ⟨0x28010, 0, 1, 0, 1, false, 0, 0x3f, 0⟩,
  ⟨0x28018, 0, 1, 0, 1, false, 0x3f, 0, 0⟩,
  ⟨0x28020, 0, 1, 0, 1, false, 0, 0, 0⟩,
  ⟨0x28040, 0, 1, 0, 1, false, 0, 0, 0⟩,
  ⟨0x28048, 8, 6, 0, 1, false, 0, 0, 0⟩,
  ⟨0x28080, 8, 4, 0, 1, false, 0, 0, 0⟩,
  ⟨0x280a0, 8, 2, 0, 1, false, 0, 0, 0⟩,
  ⟨0x280c0, 8, 4, 0, 1, false, 0, 0, 0⟩,
  ⟨0x280e0, 8, 2, 0, 1, false, 0, 0, 0⟩,
  ⟨0x28100, 8, 4, 0, 1, false, 0, 0, 0⟩,
  ⟨0x28120, 8, 2, 0, 1, false, 0, 0, 0⟩,
  ⟨0x28400, 0x20, 16, 0, 1, false, 0, 0, 0⟩,
  ⟨0x28408, 0x20, 16, 0, 1, true, 0, 0, 0⟩,
  ⟨0x28410, 0x20, 16, 0, 1, false, 0, 0, 0⟩,
  ⟨0x28418, 0x20, 16, 0, 1, false, 0, 0, 0⟩]

/-- Registers ATF. -/
def regsATF : List RegRow := [
  ⟨0x30000, 0, 1, 0, 1, true, 0xfffffffffffff000, 0, 0⟩,
  ⟨0x30008, 0, 1, 0, 1, false, 0x800000000000001f, 0, 0⟩,
  ⟨0x30010, 0, 1, 0, 1, false, 0, 0, 0⟩,
  ⟨0x30018, 0, 1, 0, 1, false, 0xffffffff, 0, 0⟩,
  ⟨0x30020, 0, 1, 0, 1, false, 0, 0, 0⟩,
  ⟨0x30028, 0, 1, 0, 1, false, 0, 0x1ff, 0⟩,
  ⟨0x30030, 0, 1, 0, 1, false, 0x1ff, 0, 0⟩,
  ⟨0x30038, 0, 1, 0, 1, true, 0, 0, 0⟩,
  ⟨0x30040, 0, 1, 0, 1, false, 0, 0, 0⟩,
  ⟨0x30100, 8, 11, 0, 1, true, 0, 0, 0⟩]

/-- Registers MEM. -/
def regsMEM : List RegRow := [
  ⟨0x40000, 0, 1, 0, 1, false, 0, 0x7f, 0⟩,
  ⟨0x40008, 0, 1, 0, 1, false, 0x7f, 0, 0⟩,
  ⟨0x40010, 0, 1, 0, 1, true, 0, 0, 0⟩,
  ⟨0x40018, 0, 1, 0, 1, false, 0, 0x80000000, 0⟩,
  ⟨0x40020, 0, 1, 0, 1, true, 0, 0, 0⟩,
  ⟨0x40028, 0, 1, 0, 1, false, 0, 0, 0⟩,
  ⟨0x40040, 0, 1, 0, 1, false, 3, 0, 3⟩,
  ⟨0x40048, 0, 1, 0, 1, false, 0xffffffffffffffff, 0, 0xea60000927c0⟩,
  ⟨0x40050, 8, 2, 0, 1, false, 0, 0xffffffffffffffff, 0⟩,
  ⟨0x40060, 0, 1, 0, 1, false, 0, 0xffff, 0⟩,
  ⟨0x40068, 0, 1, 0, 1, true, 0, 0, 0⟩,
  ⟨0x40070, 0, 1, 0, 1, false, 0xff, 0, 0x80⟩,
  ⟨0x40080, 8, 4, 0, 1, false, 0, 0, 0⟩,
  ⟨0x40100, 8, 16, 0, 1, false, 0xffffffffff, 0, 0⟩,
  ⟨0x41000, 8, 128, 0, 1, false, 0, 0, 0⟩,
  ⟨0x41400, 8, 16, 0, 1, false, 0, 0, 0⟩,
  ⟨0x44000, 0x80, 128, 8, 12, true, 0, 0, 0⟩,
  ⟨0x48000, 0x40, 16, 8, 6, true, 0, 0, 0⟩,
  ⟨0x48400, 0x40, 4, 8, 6, true, 0, 0, 0⟩,
  ⟨0x48800, 0x40, 16, 8, 6, true, 0, 0, 0⟩,
  ⟨0x4e000, 0, 1, 0, 1, false, 0, 0, 0x1111⟩,
  ⟨0x4e008, 0, 1, 0, 1, false, 0xf, 0, 0⟩,
  ⟨0x4e010, 0, 1, 0, 1, false, 0, 0x3f, 0⟩,
  ⟨0x4e018, 0, 1, 0, 1, false, 0x3f, 0, 0⟩,
  ⟨0x4e100, 8, 11, 0, 1, true, 0, 0, 0⟩]

/-- Registers CHN. -/
def regsCHN : List RegRow := [
  ⟨0x50000, 0, 1, 0, 1, false, 0xfffff, 0x100000, 0⟩,
  ⟨0x50008, 0, 1, 0, 1, false, 0xfff, 0, 0x404⟩,
  ⟨0x50010, 0, 1, 0, 1, false, 0, 0x7ff, 0⟩,
  ⟨0x50018, 0, 1, 0, 1, false, 0x7ff, 0, 0⟩,
  ⟨0x50020, 0, 1, 0, 1, false, 0, 0x8000000000000000, 0⟩,
  ⟨0x50028, 0, 1, 0, 1, true, 0, 0, 0⟩,
  ⟨0x50030, 0, 1, 0, 1, false, 0xfffff, 0, 0⟩,
  ⟨0x50038, 0, 1, 0, 1, true, 0, 0, 0xffffffffffffffff⟩,
  ⟨0x50040, 0, 1, 0, 1, true, 0, 0, 0xffffffffffffffff⟩,
  ⟨0x50100, 0x10, 8, 0, 1, false, 1, 0, 0⟩,
  ⟨0x50108, 0x10, 8, 0, 1, false, 0, 0, 5⟩,
  ⟨0x50200, 0x40, 16, 0, 1, false, 1, 0, 0⟩,
  ⟨0x50208, 0x40, 16, 0, 1, false, 0, 0, 0⟩,
  ⟨0x50210, 0x40, 16, 0, 1, false, 0, 0, 0⟩,
  ⟨0x50218, 0x40, 16, 0, 1, true, 0, 0, 0⟩,
  ⟨0x50220, 0x40, 16, 0, 1, false, 0, 0, 0⟩,
  ⟨0x51000, 0x80, 16, 8, 13, true, 0, 0, 0⟩,
  ⟨0x58000, 0x20, 1024, 0, 1, false, 0x3ffff8ffffffffff, 0, 0⟩,
  ⟨0x58008, 0x20, 1024, 0, 1, true, 0xffffffffffffffff, 0, 0⟩,
  ⟨0x58010, 0x20, 1024, 0, 1, true, 0xffffffffffffffff, 0, 0⟩,
  ⟨0x58018, 0x20, 1024, 0, 1, false, 0, 0, 0⟩]

/-- Registers TND. -/
def regsTND : List RegRow := [
  ⟨0x60000, 0, 1, 0, 1, false, 0xffffff0001, 0, 0x81a160001⟩,
  ⟨0x60008, 0, 1, 0, 1, false, 0xfff, 0, 0x190⟩,
  ⟨0x60010, 0, 1, 0, 1, false, 0, 0, 0xfa019008980898⟩,
  ⟨0x60018, 0, 1, 0, 1, true, 0, 0, 0⟩,
  ⟨0x60020, 0, 1, 0, 1, true, 0xffffffffffffffff, 0, 0⟩,
  ⟨0x60028, 0, 1, 0, 1, false, 0x100ffffff, 0, 0⟩,
  ⟨0x60030, 0, 1, 0, 1, false, 0xff01, 0, 0x9600⟩,
  ⟨0x60038, 0, 1, 0, 1, false, 0, 0, 0⟩,
  ⟨0x60040, 0, 1, 0, 1, false, 0, 0x3ff, 0⟩,
  ⟨0x60048, 0, 1, 0, 1, false, 0x3ff, 0, 0⟩,
  ⟨0x60050, 0, 1, 0, 1, false, 0, 0, 0⟩,
  ⟨0x60100, 8, 8, 0, 1, false, 0, 0, 0x40000000⟩,
  ⟨0x60140, 8, 4, 0, 1, false, 0, 0, 0⟩,
  ⟨0x60200, 8, 4, 0, 1, false, 0xffffffffffffffff, 0, 0x2222222222222222⟩,
  ⟨0x60400, 8, 9, 0, 1, true, 0, 0, 0⟩,
  ⟨0x61000, 0x100, 16, 0, 1, false, 0xf0ffff, 0, 0x105555⟩,
  ⟨0x61008, 0x100, 16, 8, 4, false, 0xffffffffffffffff, 0, 0x5555555555555555⟩,
  ⟨0x61028, 0x100, 16, 0, 1, false, 0, 0, 0⟩,
  ⟨0x61030, 0x100, 16, 0, 1, false, 0, 0, 0x105555⟩,
  ⟨0x61040, 0x100, 16, 8, 6, false, 0, 0, 0x320015e0078⟩,
  ⟨0x61080, 0x100, 16, 8, 12, true, 0, 0, 0⟩]

/-- Registers KPR. -/
def regsKPR : List RegRow := [
  ⟨0x70000, 0, 1, 0, 1, true, 0xfffffffffffff000, 0, 0⟩,
  ⟨0x70008, 0, 1, 0, 1, false, 0xfff, 0, 0⟩,
  ⟨0x70010, 0, 1, 0, 1, false, 0, 2, 0⟩,
  ⟨0x70018, 0, 1, 0, 1, false, 0, 0, 0⟩,
  ⟨0x70020, 0, 1, 0, 1, false, 0, 0x1ff, 0⟩,
  ⟨0x70028, 0, 1, 0, 1, false, 0x1ff, 0, 0⟩,
  ⟨0x70030, 0, 1, 0, 1, false, 0, 0, 0⟩,
  ⟨0x70038, 0, 1, 0, 1, true, 0, 0, 0⟩,
  ⟨0x70040, 0, 1, 0, 1, true, 0xffffffffffffffff, 0, 0⟩,
  ⟨0x70048, 0, 1, 0, 1, false, 0, 0, 0⟩,
  ⟨0x70050, 0, 1, 0, 1, false, 0xff, 0, 0x64⟩,
  ⟨0x70100, 8, 20, 0, 1, false, 0, 0, 0⟩,
  ⟨0x70200, 8, 3, 0, 1, false, 0, 0xffffffffffffffff, 0⟩]

/-- Registers DMK. -/
def regsDMK : List RegRow := [
  ⟨0x80000, 0, 1, 0, 1, true, 0xfffffffffffff000, 0, 0⟩,
  ⟨0x80008, 0, 1, 0, 1, false, 0xfff, 0, 0⟩,
  ⟨0x80010, 0, 1, 0, 1, false, 0, 2, 0⟩,
  ⟨0x80018, 0, 1, 0, 1, false, 0, 0, 0⟩,
  ⟨0x80020, 0, 1, 0, 1, true, 0, 0, 0⟩,
  ⟨0x80028, 0, 1, 0, 1, false, 0, 0xf, 0⟩,
  ⟨0x80030, 0, 1, 0, 1, false, 0xf, 0, 0⟩,
  ⟨0x80100, 8, 8, 0, 1, false, 0, 0, 0xffffffffffffffff⟩]

/-- Registers HNG. -/
def regsHNG : List RegRow := [
  ⟨0x90000, 0, 1, 0, 1, false, 0xffffffffff070001, 0, 0x3e8004010040001⟩,
  ⟨0x90008, 0, 1, 0, 1, false, 0xf00003fff, 0, 0⟩,
  ⟨0x90010, 0, 1, 0, 1, false, 0, 0x40, 0⟩,
  ⟨0x90018, 0, 1, 0, 1, false, 0, 0x1ff, 0⟩,
  ⟨0x90020, 0, 1, 0, 1, false, 0x1ff, 0, 0⟩,
  ⟨0x90028, 0, 1, 0, 1, false, 0x1ff, 0, 0x110⟩,
  ⟨0x90030, 0, 1, 0, 1, false, 0, 0, 0⟩,
  ⟨0x90040, 0, 1, 0, 1, true, 0xfffffffffffff000, 0, 0⟩,
  ⟨0x90048, 0, 1, 0, 1, false, 0x7cffffff007fffff, 0, 0⟩,
  ⟨0x90050, 0, 1, 0, 1, false, 0, 2, 0⟩,
  ⟨0x90100, 8, 64, 0, 1, false, 0, 0x40000000, 0⟩,
  ⟨0x90400, 8, 32, 0, 1, false, 0, 0x40000000, 0⟩,
  ⟨0x90800, 8, 9, 0, 1, true, 0, 0, 0⟩]

/-- Registers TLM. -/
def regsTLM : List RegRow := [
  ⟨0xa0000, 0, 1, 0, 1, false, 0, 0, 0⟩,
  ⟨0xa0008, 0, 1, 0, 1, true, 0, 0, 0⟩,
  ⟨0xa0010, 0, 1, 0, 1, false, 0, 0, 0⟩,
  ⟨0xa8000, 0x200, 64, 8, 64, true, 0, 0, 0⟩]

/-- Registers SEQ. -/
def regsSEQ : List RegRow := [
  ⟨0xb0000, 0, 1, 0, 1, false, 0, 0, 0⟩,
  ⟨0xb0008, 0, 1, 0, 1, false, 0, 0xffff0000003f, 0⟩,
  ⟨0xb0010, 0, 1, 0, 1, false, 0x3f, 0, 0⟩,
  ⟨0xb1000, 0x100, 16, 0, 1, false, 0xff01ff, 0, 0⟩,
  ⟨0xb1008, 0x100, 16, 0, 1, false, 0x3fffffffffff, 0, 0⟩,
  ⟨0xb1010, 0x100, 16, 0, 1, false, 0x3fffffffffff, 0, 0⟩,
  ⟨0xb1018, 0x100, 16, 0, 1, false, 0x3fff0000ffff, 0, 0⟩,
  ⟨0xb1020, 0x100, 16, 8, 2, true, 0xbfff00ffffffffc0, 0, 0⟩,
  ⟨0xb1030, 0x100, 16, 0, 1, false, 0x8fffffffffffffff, 0, 0⟩,
  ⟨0xb1038, 0x100, 16, 0, 1, false, 0xc3ffffffff00ffff, 0, 0⟩,
  ⟨0xb1040, 0x100, 16, 0, 1, true, 0xfffffffffffff000, 0, 0⟩,
  ⟨0xb1050, 0x100, 16, 0, 1, false, 0, 0, 0⟩,
  ⟨0xb1058, 0x100, 16, 0, 1, true, 0, 0, 0⟩,
  ⟨0xb1080, 0x100, 16, 8, 12, true, 0, 0, 0⟩]

/-- Registers LNT. -/
def regsLNT : List RegRow := [
  ⟨0x200000, 0x10000, 16, 0, 1, false, 0, 0, 0⟩,
  ⟨0x200010, 0x10000, 16, 0, 1, false, 0, 7, 0⟩,
  ⟨0x200018, 0x10000, 16, 0, 1, false, 7, 0, 0⟩,
  ⟨0x200100, 0x10000, 16, 8, 12, false, 0, 0, 0⟩,
  ⟨0x200200, 0x10000, 16, 0x10, 12, false, 0, 0, 0⟩,
  ⟨0x200208, 0x10000, 16, 0x10, 12, false, 0, 0, 0⟩,
  ⟨0x200300, 0x10000, 16, 8, 4, false, 0, 1, 0⟩,
  ⟨0x201000, 0x10000, 16, 8, 10, true, 0, 0, 0⟩]

/-- Registers RING. -/
def regsRING : List RegRow := [
  ⟨0x1000000, 0x1000, 4096, 0, 1, false, 0xffffffff, 0, 0⟩,
  ⟨0x1000008, 0x1000, 4096, 0, 1, false, 0, 0, 0⟩,
  ⟨0x1000010, 0x1000, 4096, 0, 1, false, 0xffffffff, 0, 0⟩,
  ⟨0x1000018, 0x1000, 4096, 0, 1, false, 0, 0, 0⟩,
  ⟨0x1000020, 0x1000, 4096, 0, 1, false, 0, 0, 0⟩]

/-- Registers SEC. -/
def regsSEC : List RegRow := [
  ⟨0x2000000, 0x100000, 16, 0, 1, true, 0xfffffffffffff000, 0, 0⟩,
  ⟨0x2000008, 0x100000, 16, 0, 1, true, 0xfffffffffffff000, 0, 0⟩,
  ⟨0x2000010, 0x100000, 16, 0, 1, false, 0x800007ff0fff1f1f, 0, 0⟩,
  ⟨0x2000018, 0x100000, 16, 0, 1, false, 0, 0, 0⟩,
  ⟨0x2000020, 0x100000, 16, 0, 1, true, 0, 0, 0⟩,
  ⟨0x2000100, 0x100000, 16, 8, 64, false, 0, 0, 0⟩]

/-- Every register. -/
def regTable : List RegRow :=
  regsCAP ++ regsFLS ++ regsCMP ++ regsATF ++ regsMEM ++ regsCHN ++ regsTND ++ regsKPR ++ regsDMK ++ regsHNG ++ regsTLM ++ regsSEQ ++ regsLNT ++ regsRING ++ regsSEC

/-- An offset is one of a row's registers. -/
def RegRow.has (r : RegRow) (off : Nat) : Bool :=
  let d := off - r.base
  let i := if r.s1 = 0 then 0 else d / r.s1
  let e := d - i * r.s1
  decide (r.base ≤ off) && decide (i < r.n1) && (if r.n2 = 1 then e == 0 else e % r.s2 == 0 && decide (e / r.s2 < r.n2))

/-- The row of an offset; none where no register is there. -/
def regFind (off : Nat) : Option RegRow := regTable.find? (fun r => r.has off)

/-- The reset value of a register (R16). -/
def regReset (off : Nat) : Nat := ((regFind off).map (·.reset)).getD 0

/-- A host-written register as it stands. -/
def regNow (s : State) (off : Nat) : BitVec 64 := tget (BitVec.ofNat 64 (regReset off)) s.regs off

/-- Set a host-written register. -/
def setReg (s : State) (off : Nat) (v : BitVec 64) : State :=
  { s with regs := tput (BitVec.ofNat 64 (regReset off)) s.regs off v }

/-- BAR0 offsets that lie inside a block of Table 0-4 (R10). -/
def inBlock (off : Nat) : Bool :=
  decide (off < 0xC0000) || (decide (0x200000 ≤ off) && decide (off < 0x300000)) ||
  (decide (0x1000000 ≤ off) && decide (off < 0x3010000))

/-- A bit of an availability register of the capability table, `i` counted from its first word (R38). -/
def availBit (s : State) (base i : Nat) : Bool := bit (regNow s (base + 8 * (i / 64))).toNat (i % 64)
def availLantern (s : State) (n : Nat) : Bool := availBit s 0x78 n
def availCore (s : State) (n : Nat) : Bool := availBit s 0x80 n
def availChannel (s : State) (n : Nat) : Bool := availBit s 0x98 n
def availWay (s : State) (n : Nat) : Bool := availBit s 0xA8 n
def availPort (s : State) (n : Nat) : Bool := availBit s 0xB8 n
def availLane (s : State) (n : Nat) : Bool := availBit s 0xC0 n

/-- The life-cycle state (R437): the value held by at least two valid copies that agree; else LOST. -/
def lifeCycle (s : State) : Nat :=
  if s.dmk.lost then 7
  else match s.dmk.fuses.copies with
  | [a, b, c] =>
    if a.isSome && (a == b || a == c) then a.getD 7 else if b.isSome && b == c then b.getD 7 else 7
  | _ => 7

/-- RWL fields accept writes in MAKER and INTEGRATOR only (R11, Table 15-4). -/
def rwlOpen (s : State) : Bool := lifeCycle s == 1 || lifeCycle s == 2

/-- What a write of `size` bytes at an offset does to the 64-bit word there (R9, R10): the word's offset, the mask of the bits written
and their values; none where the access breaks R9 or lies outside every block, which completes as an Unsupported Request. -/
def wrSpan (off size : Nat) (value : BitVec 64) : Option (Nat × Nat × Nat) :=
  let base := off / 8 * 8
  if !inBlock off then none
  else if size = 8 && off % 8 = 0 then some (base, 2 ^ 64 - 1, value.toNat)
  else if size = 4 && off % 4 = 0 && !((regFind base).map (·.whole)).getD false then
    some (base, (2 ^ 32 - 1) * 2 ^ (off % 8 * 8), value.toNat % 2 ^ 32 * 2 ^ (off % 8 * 8))
  else none

/-- A word with the bits of a mask taken from another. -/
def mergeBits (old mask new : Nat) : Nat := (old - (old &&& mask)) + (new &&& mask)

/-- The word after a write under a row's access types (R11). -/
def RegRow.write (r : RegRow) (old mask new : Nat) : Nat :=
  let a := mergeBits old (mask &&& r.rw) new
  a - (a &&& (mask &&& new &&& r.w1c))

end Sys2Proof.Machine
end

