-- ==== Sys2Proof/Machine/Flags.lean ====
section
/-!
DEFINITION. The event registers: write-one-to-clear bits that hardware sets, each with an enable register eight bytes
above it, and the interrupt a set and enabled bit raises (R11, R12, R261). The completion status order of R23.
-/
namespace Sys2Proof.Machine

/-- Event registers by name: BAR0 offset (owning chapters' register tables). -/
def evFLS : Nat := 0x10028
def evCMP : Nat := 0x20058
def evRB : Nat := 0x28010
def evATF : Nat := 0x30028
def evMEM : Nat := 0x40000
def evCOH : Nat := 0x4E010
def evCHN : Nat := 0x50010
def evTND : Nat := 0x60040
def evKPR : Nat := 0x70020
def evDMK : Nat := 0x80028
def evHNG : Nat := 0x90018
def evSEQ : Nat := 0xB0008
def evLNT (n : Nat) : Nat := 0x200010 + 0x10000 * n

/-- The MSI-X vector of an event register's block (Table 9-2). -/
def eventVector (off : Nat) : Nat :=
  if off < 0x20000 then 0 else if off < 0x30000 then 1 else if off < 0x40000 then 4 else if off < 0x50000 then 5
  else if off < 0x60000 then 6 else if off < 0x70000 then 7 else if off < 0x80000 then 8 else if off < 0x90000 then 9
  else if off < 0xA0000 then 10 else if off < 0x200000 then 2 else 3

/-- Event bits that read 0 at reset and their enables: the register's value. -/
def evBits (s : State) (off : Nat) : BitVec 64 := tget 0 s.regs off

/-- Bit `i` of an event register is set. -/
def evSet (s : State) (off i : Nat) : Bool := bit (evBits s off).toNat i

/-- Set bit `i` of an event register, and send the block's vector where its enable bit is 1 (R12, R261). Each setting
sends the message (notes/assumptions/9). -/
def raise (s : State) (off i : Nat) : State :=
  let s1 := { s with regs := tput 0 s.regs off (evBits s off ||| BitVec.ofNat 64 (2 ^ i)) }
  if bit (evBits s (off + 8)).toNat i then sendMsix s1 (eventVector off) else s1

/-- Set an event bit of the sequence block for Sector `n`: the bit and the Sector's bit in [47:32] (R230). -/
def raiseSeq (s : State) (n i : Nat) : State :=
  let s1 := { s with regs := tput 0 s.regs evSEQ (evBits s evSEQ ||| BitVec.ofNat 64 (2 ^ (32 + n))) }
  raise s1 evSEQ i

/-! ### Completion status (Table 0-8, R23) -/

def stDONE : Nat := 0
def stABORTED : Nat := 1
def stSTALE : Nat := 2
def stXLATE : Nat := 3
def stMEM : Nat := 4
def stRESIDUE : Nat := 5
def stCTXRESET : Nat := 6
def stABANDONED : Nat := 7
def stORPHAN : Nat := 8
def stRETIRED : Nat := 9
def stGRANT : Nat := 10
def stINVALID : Nat := 11
def stPROGRESS : Nat := 12
def stUNREACH : Nat := 13
def stSHORT : Nat := 14

/-- Rank of a terminating condition: the lowest is reported (R23). -/
def statusRank (st : Nat) : Nat :=
  if st = stMEM then 0 else if st = stRESIDUE then 1 else if st = stCTXRESET then 2 else if st = stRETIRED then 3
  else if st = stABORTED then 4 else 5 + st

/-- The condition R23 chooses: the lowest rank, the first met among equals. -/
def chooseCond : List Cond → Option Cond
  | [] => none
  | c :: r =>
    match chooseCond r with
    | none => some c
    | some d => if statusRank c.status ≤ statusRank d.status then some c else some d

/-- DONE and SHORTFALL_FALLBACK report success (R21). -/
def statusOk (st : Nat) : Bool := st == stDONE || st == stSHORT

end Sys2Proof.Machine
end

