-- ==== Sys2Proof/Machine/HostObj.lean ====
section
/-!
DEFINITION. Operations on the host objects of chapter 09: commands and their fields, completion records (R272, R287),
events, signals and waits (R281 to R285), and the end of a command (R292).
-/
namespace Sys2Proof.Machine

/-! ### Fields of a command (Tables 9-9, 9-12) -/

def Cmd.f (c : Cmd) (off len : Nat) : Nat := fieldAt c.raw off len
def Cmd.opcode (c : Cmd) : Nat := c.f 0 1
def Cmd.irq (c : Cmd) : Bool := bit (c.f 2 2) 0
def Cmd.serial (c : Cmd) : Bool := bit (c.f 2 2) 1
def Cmd.tagWord (c : Cmd) : Nat := c.f 8 8

/-- Offset of the signal fields: SIGNAL_EVENT, SIGNAL_EN, SIGNAL_VALUE of LAUNCH, COPY and FILL (Table 9-12). -/
def Cmd.signal (c : Cmd) : Option (Nat × BitVec 64) :=
  if c.opcode = 0x01 then
    if bit (c.f 34 1) 0 then some (c.f 32 2, BitVec.ofNat 64 (c.f 40 8)) else none
  else if c.opcode = 0x10 || c.opcode = 0x11 then
    if bit (c.f 50 1) 0 then some (c.f 48 2, BitVec.ofNat 64 (c.f 56 8)) else none
  else none

/-- The command at a submission index, and entry of its BUFFER. -/
def Ring.find (r : Ring) (idx : BitVec 32) (buf : Option Nat) : Option Cmd :=
  r.cmds.find? (fun c => c.idx == idx && c.buf == buf)

/-- Replace that command. -/
def Ring.put (r : Ring) (c : Cmd) : Ring :=
  { r with cmds := r.cmds.map (fun d => if d.idx == c.idx && d.buf == c.buf then c else d) }

/-- Take that command off. -/
def Ring.drop (r : Ring) (idx : BitVec 32) (buf : Option Nat) : Ring :=
  { r with cmds := r.cmds.filter (fun d => !(d.idx == idx && d.buf == buf)) }

/-- Commands of the ring that came before a command. -/
def Ring.before (r : Ring) (idx : BitVec 32) (buf : Option Nat) : List Cmd :=
  r.cmds.takeWhile (fun d => !(d.idx == idx && d.buf == buf))

/-- Free completion records (R272). -/
def Ring.freeRecs (r : Ring) : Nat := 2 ^ r.cqLog - (r.cqTail - r.cqHead).toNat

/-! ### Completion records (R272, R287) -/

/-- Bytes 0–23 of a record. -/
def recordHead (tag detail : Nat) (idx : BitVec 32) (buf status flags : Nat) : List Byte :=
  leBytes 8 tag ++ leBytes 8 detail ++ leBytes 4 idx.toNat ++ leBytes 2 buf ++ leBytes 1 status ++ leBytes 1 flags

/-- The WHEN word of a record posted at index `i`: PHASE is 1 in even laps (R272), then the low 40 bits of the Flash
and the tick. -/
def recordWhen (s : State) (i : BitVec 32) (cqLog : Nat) : List Byte :=
  let phase := if i.toNat / 2 ^ cqLog % 2 = 0 then 2 ^ 63 else 0
  leBytes 8 (phase + s.flash.count.toNat % 2 ^ 40 * 4096 + s.flash.tick)

/-- Address of the record a ring posts next. -/
def Ring.recAddr (r : Ring) : Nat := r.cqBase + r.cqTail.toNat % 2 ^ r.cqLog * 32

/-- Write one record at CQ_TAIL: bytes 0–23, then 24–31 as a final write, then the ring's vector where the command
carried IRQ (R272). A write that does not complete stops the ring with CQ_WRITE and holds the record (R274). -/
def writeRecord (s : State) (q : Nat) (head : List Byte) (irq : Bool) : State :=
  let r := s.ring q
  if r.heldRecs.isEmpty && hostWriteOk s r.recAddr then
    let s1 := hostWrite s r.pasid r.recAddr head false
    let s2 := hostWrite s1 r.pasid (r.recAddr + 24) (recordWhen s r.cqTail r.cqLog) true
    let s3 := s2.setRing q { r with cqTail := r.cqTail + 1 }
    if irq then sendVector s3 r.vector else s3
  else
    let st := if r.st = .enabled then RingSt.stopped else r.st
    let er := if r.st = .enabled then 0x04 else r.error
    s.setRing q { r with st := st, error := er, heldRecs := r.heldRecs ++ [(head, irq)] }

/-- Word i of a telemetry page (R294), as a BAR0 offset. -/
def tlmWord (slot i : Nat) : Nat := 0xA8000 + 0x200 * slot + 8 * i

/-- End a command without looking at signal fields: take it off its ring, count it (R294, R311, Table 18-5a) and post its record. An entry of a BUFFER
reports to the BUFFER, which posts one record once its entries have ended (R289). -/
def endCmd (s : State) (q : Nat) (c : Cmd) (status : Nat) (detail : BitVec 64) : State :=
  let r := s.ring q
  let x := s.ctx r.ctx
  let s := if r.kind = 3 || x.st = .inactive then s else
    let s := markCtx (bump s (tlmWord x.slot 12) 1) r.ctx
    if status = stDONE then s else bump s (tlmWord x.slot 13) 1
  let s := if status = stPROGRESS then bump s 0x90840 1 else s
  let s := if status = stXLATE then bump s 0x30140 1 else s
  match c.buf with
  | none =>
    let s1 := s.setRing q (r.drop c.idx none)
    writeRecord s1 q (recordHead c.tagWord detail.toNat c.idx 0 status (if c.opcode = 2 then 1 else 0)) c.irq
  | some e =>
    let r1 := r.drop c.idx (some e)
    match r1.find c.idx none with
    | none => s.setRing q r1
    | some p =>
      let fail := !statusOk status
      -- after a failure no later entry starts: the entries still queued leave the ring (R289)
      let gone := if fail then r1.cmds.filter (fun d => d.idx == c.idx && d.buf.isSome && d.st == .queued) else []
      let r2 := { r1 with cmds := r1.cmds.filter (fun d => !(gone.contains d)) }
      let p1 := { p with left := p.left - 1 - gone.length,
                         bad := if fail then p.bad ++ [(e, ⟨status, detail⟩)] else p.bad }
      if p1.left = 0 then
        let s1 := s.setRing q (r2.drop c.idx none)
        let worst := chooseCond (p1.conds ++ p1.bad.map Prod.snd)
        match worst with
        | none => writeRecord s1 q (recordHead p.tagWord 0 p.idx 0 stDONE 1) p.irq
        | some w =>
          let e1 := ((p1.bad.filter (fun b => b.2.status == w.status)).map Prod.fst).foldl min 65536
          let w1 := (p1.bad.find? (fun b => b.1 == e1)).map Prod.snd |>.getD w
          writeRecord s1 q (recordHead p.tagWord w1.detail.toNat p.idx (e1 % 65536) w1.status 1) p.irq
      else s.setRing q (r2.put p1)

/-! ### Events (R281 to R285) -/

/-- Write the host record of an event in two final writes, then send its vector (R285). A first write that fails
keeps the second from being sent. -/
def writeEvent (s : State) (e : Nat) : State :=
  match s.tables with
  | none => s
  | some t =>
    let v := s.event e
    let a := t.event + 32 * e
    let st := match v.st with | .free => 0 | .live => 1 | .abandoned => 2
    let s1 := if hostWriteOk s a then
        let s1 := hostWrite s none a (leBytes 8 v.value.toNat) true
        hostWrite s1 none (a + 8)
          (leBytes 1 st ++ leBytes 1 v.error ++ leBytes 2 v.owner ++ leBytes 2 v.group ++ leBytes 2 v.vector) true
      else s
    sendVector s1 v.vector

/-- A wait on an event is pending: started WAIT commands on it, and EWAITs of cores (R283). -/
def waitPending (s : State) (e : Nat) : Bool :=
  s.rings.any (fun p => p.2.cmds.any (fun c => c.opcode == 4 && c.st == .started && c.f 16 2 == e)) ||
  s.cores.any (fun p => p.2.q.any (fun o =>
    bits o.word.toNat 25 23 == 3 && bits o.word.toNat 22 16 == 2 && bit o.word.toNat 63 && o.started &&
    o.sy.toNat % 65536 == e))

/-- End one started WAIT: DONE once VALUE ≥ v, EVENT_ABANDONED where the event is abandoned below v, which stops its
ring with WAIT_ABANDONED (R283, Table 9-6, Table 9-14). -/
def settleWait (s : State) (q : Nat) (c : Cmd) : State :=
  let e := c.f 16 2
  let v := s.event e
  if c.f 24 8 ≤ v.value.toNat then endCmd s q c stDONE 0
  else if v.st = .abandoned then
    let s1 := endCmd s q c stABANDONED (BitVec.ofNat 64 (e + v.error * 65536))
    let r := s1.ring q
    if r.st = .enabled then s1.setRing q { r with st := .stopped, error := 0x05 } else s1
  else s

/-- Settle every started WAIT on an event, ring by ring in ascending ring number. -/
def settleWaits (s : State) (e : Nat) : State :=
  s.rings.foldl (fun s p =>
    p.2.cmds.foldl (fun s c => if c.opcode = 4 && c.st = .started && c.f 16 2 = e then settleWait s p.1 c else s) s) s

/-- Signal an event with a value (R282): VALUE rises to it, or nothing changes. -/
def signalEvent (s : State) (e : Nat) (v : BitVec 64) : State :=
  let x := s.event e
  if x.st = .live && x.value.toNat < v.toNat then
    settleWaits (writeEvent (s.setEvent e { x with value := v }) e) e
  else s

/-- Abandon an event with an error (R284): it keeps its first non-zero error. -/
def abandonEvent (s : State) (e err : Nat) : State :=
  let x := s.event e
  if x.st = .live then
    settleWaits (writeEvent (s.setEvent e { x with st := .abandoned, error := if x.error = 0 then err else x.error }) e) e
  else s

/-! ### The end of a command -/

/-- Complete a command: the status R23 chooses among the conditions met, SHORTFALL_FALLBACK for a DONE that a fallback
served (R21), the record, and the signal fields (R282, R284, Table 9-14). -/
def completeCmd (s : State) (q : Nat) (c : Cmd) (status : Nat) (detail : BitVec 64) : State :=
  let own : List Cond := if status = stDONE then [] else [⟨status, detail⟩]
  let fin := match chooseCond (c.conds ++ own) with
    | some w => w
    | none => if c.short then ⟨stSHORT, BitVec.ofNat 64 (min c.units (2 ^ 32 - 1) * 2 ^ 16 + c.moor)⟩ else ⟨stDONE, detail⟩
  let s1 := endCmd s q c fin.status fin.detail
  match c.signal with
  | none => s1
  | some (e, v) =>
    -- only the ring's context signals or abandons its events (R282)
    if (s1.event e).owner != (s.ring q).ctx then s1
    else if statusOk fin.status then signalEvent s1 e v else abandonEvent s1 e fin.status

/-- Note a terminating condition of a running command (R23). -/
def noteCond (s : State) (q : Nat) (c : Cmd) (w : Cond) : State :=
  let r := s.ring q
  s.setRing q (r.put { c with conds := c.conds ++ [w] })

/-- DETAIL of INVALID_COMMAND (R292): code, class, and for class 0 the byte offset of the failing field and bits
[63:32]. -/
def invalidDetail (code cls : Nat) (off : Nat := 0) (hi : Nat := 0) : BitVec 64 :=
  BitVec.ofNat 64 (code % 256 + cls % 16 * 256 + off % 65536 * 65536 + hi * 2 ^ 32)

/-! ### When a command may start (R273) -/

/-- The commands of a ring that hold every later one: a queued command, a LAUNCH that waits for cores, a WAIT, and on a privileged ring any command
but a WAITING activation. A SIGNAL holds nothing. -/
def holdsLater (kind : Nat) (d : Cmd) : Bool :=
  if kind = 3 then !(d.opcode == 0x81 && d.st == .held)
  else d.opcode == 4 || (d.st == .queued && d.opcode != 3) || (d.opcode == 1 && d.st == .held)

/-- A fetched command may start: nothing before it holds it, and a SERIAL command waits for every earlier one. An
entry of a BUFFER comes after its BUFFER, which does not hold it. -/
def mayStart (r : Ring) (c : Cmd) : Bool :=
  c.st == .queued &&
  (r.before c.idx c.buf).all (fun d =>
    (d.buf.isNone && c.buf.isSome && d.idx == c.idx) ||
    (!holdsLater r.kind d && !(c.serial)))

end Sys2Proof.Machine
end

