-- ==== Sys2Proof/Machine/ChReqOps.lean ====
section
/-!
DEFINITION. The fields of a mooring and the issue of requests on Chain (R377, R379, R389).
-/
namespace Sys2Proof.Machine

/-! ### Moorings (CHN_MOOR_CTL, CHN_MOOR_AUX) -/

def Lease.peer (l : Lease) : Bool := bit l.ctl.toNat 61
def Lease.pasid (l : Lease) : Option Nat := if bit l.ctl.toNat 60 then some (bits l.ctl.toNat 19 0) else none
def Lease.group (l : Lease) : Nat := bits l.ctl.toNat 59 56
def Lease.rp (l : Lease) : Nat := bits l.ctl.toNat 55 53
def Lease.remote (l : Lease) : Nat := bits l.ctl.toNat 52 43
def Lease.target (l : Lease) : Nat := bits l.ctl.toNat 39 20
def Lease.fallback (l : Lease) : Nat := l.aux.toNat / 4096 * 4096
def Lease.firstExtent (l : Lease) : Nat := bits l.aux.toNat 45 32
def Lease.extents (l : Lease) : Nat := bits l.aux.toNat 13 0

/-- The Sector whose MOORING_RESERVE range holds a mooring (R84, R390). -/
def moorSector (s : State) (m : Nat) : Option Nat :=
  (List.range 16).find? (fun n =>
    (s.sector n).exists_ && decide ((s.sector n).moorFirst ≤ m) && decide (m < (s.sector n).moorFirst + (s.sector n).moorCount))

/-- Take a SEQ of a source stream towards a destination (R377): number, and whether it is the first. -/
def chSeq (s : State) (stream dst : Nat) : Nat × State :=
  let k := stream * 2 ^ 20 + dst
  let x : SeqNum := tget {} s.chn.nums k
  (x.next, { s with chn := { s.chn with nums := tput {} s.chn.nums k { next := x.next + 1, idle := 0 } } })

/-- Split a range into requests of at most 4,096 bytes, each within one 4 KiB-aligned range (R379): (address, length). -/
def chSplit : Nat → Nat → Nat → List (Nat × Nat)
  | 0, _, _ => []
  | k + 1, a, len =>
    if len = 0 then []
    else
      let n := min len (4096 - a % 4096)
      (a, n) :: chSplit k (a + n) (len - n)

/-- Issue one request through a mooring (R377, R389): it is queued; its SEQ comes when it is first sent. PREFETCH carries none. -/
def chIssue (s : State) (who : Waiter) (n ctx type m stream addr len : Nat) (payload : List Byte) (final : Bool) : State :=
  let l := (s.moor m).cur
  let grp := match who with | .tile c _ => (s.core c).group | _ => 0
  let r : ChReq := { id := s.chn.nextReq, who := who, sector := n, ctx := ctx, group := grp, type := type, mooring := m, lease := l,
                     stream := stream, dst := l.target, seq := 0, addr := addr, len := len, payload := payload,
                     final := final, firstMoor := m }
  { s with chn := { s.chn with reqs := s.chn.reqs ++ [r], nextReq := s.chn.nextReq + 1 } }

/-- The source stream of Sector n's sequence front end (Table 13-2). -/
def frontStream (n : Nat) : Nat := (0xF00 + n) * 16

/-- Release a range of a pool, where its mooring is leased (R207, R394): a RELEASE goes out and nothing waits for it. -/
def chRelease (s : State) (n ctx m addr len : Nat) : State :=
  if (s.moor m).st = .leased then chIssue s (.release n) n ctx 4 m (frontStream n) addr len [] false else s

end Sys2Proof.Machine
end

