-- ==== Sys2Proof/Machine/MemOps.lean ====
section
/-!
DEFINITION. Sector memory and its check state (R71, R354 to R356): the channel of an address, the records of corrected and
uncorrectable reads, writes that are merged into lines.
-/
namespace Sys2Proof.Machine

/-- Key of a Sector-relative address in `sm`. -/
def smKey (n a : Nat) : Nat := n * 2 ^ 40 + a

/-- The stripe set of an extent of a Sector under its current map; none where it is not mapped (R71). -/
def extentSet (x : Sector) (e : Nat) : Option (List Nat) :=
  (x.stripes.find? (fun t => decide (t.first ≤ e) && decide (e < t.first + t.count))).map (·.set)

/-- A list of extent ranges names an extent. -/
def inRanges (l : List Stripe) (e : Nat) : Bool := l.any (fun t => decide (t.first ≤ e) && decide (e < t.first + t.count))

/-- The stripe set of an extent under the map of the generation a request carries (R101, R106): a tag that is not the older live
one's means the current map. -/
def extentIn (s : State) (n : Nat) (tag : Option Nat) (e : Nat) : Option (List Nat) :=
  let g := s.gen n
  if g.oldLive && tag == some g.oldTag then
    if inRanges g.removed e then extentSet { stripes := g.removed } e
    else if inRanges g.added e then none else extentSet (s.sector n) e
  else extentSet (s.sector n) e

/-- The channel that holds a Sector-relative address under the current map (R71): granule 512 bytes, position
(granule + extent) mod width of the stripe set. -/
def channelOf (s : State) (n a : Nat) : Nat :=
  match extentSet (s.sector n) (a / 2 ^ 26) with
  | none => 0
  | some set => set.getD ((a % 2 ^ 26 / 512 + a / 2 ^ 26) % max set.length 1) 0

/-- Capture an uncorrectable or poisoned read (R356): the first one in MEM_UE_ADDR and MEM_UE_INFO, later ones in COUNT; the unit's
counter. -/
def memCapture (s : State) (kind cause unit sector : Nat) (addr : BitVec 64) (scrub : Bool) : State :=
  let info := kind * 2 ^ 60 + cause * 2 ^ 56 + unit * 2 ^ 46 + sector * 2 ^ 38 + (if scrub then 2 ^ 32 else 0)
  let m := s.mem
  let m1 := if bit m.ueInfo.toNat 31 then
      { m with ueInfo := setBits m.ueInfo 23 0 (satAdd 24 (bits m.ueInfo.toNat 23 0) 1) }
    else { m with ueInfo := BitVec.ofNat 64 (info + 2 ^ 31 + 1), ueAddr := addr }
  let s1 := { s with mem := m1, free := s.free + 1 }
  if kind = 1 then bump s1 (0x44000 + 0x80 * unit + 80) 1
  else if kind = 3 then bump s1 (0x48000 + 0x40 * unit + 16) 1
  else if kind = 4 then bump s1 (0x48000 + 0x40 * (unit / 12) + 32) 1 else s1

/-- Record an uncorrectable or poisoned read (R356): captured, with the event and the Logbook entry with its continuation. -/
def memUncorr (s : State) (kind cause unit sector : Nat) (addr : BitVec 64) : State :=
  let s1 := raise (memCapture s kind cause unit sector addr false) evMEM 1
  postLog (postLog s1 0x42 sector false (kind * 2 ^ 60 + cause * 2 ^ 56 + unit * 2 ^ 46 + sector * 2 ^ 38) true) 1 sector false addr.toNat

/-- Record a corrected read (R354). -/
def memCorr (s : State) (kind unit sector : Nat) (addr : BitVec 64) : State :=
  -- the position of the corrected symbol is not kept with the line: a free value below the code's length
  let pos := (Config.free (s.free + 1)).toNat % (if kind = 1 then 72 else 13)
  let info := kind * 2 ^ 60 + unit * 2 ^ 46 + sector * 2 ^ 38 + pos
  let s1 := { s with mem := { s.mem with ceInfo := BitVec.ofNat 64 info, ceAddr := addr }, free := s.free + 2 }
  let s2 := if kind = 1 then bump s1 (0x44000 + 0x80 * unit + 72) 1
    else if kind = 3 then bump s1 (0x48000 + 0x40 * unit + 8) 1
    else bump s1 (0x48000 + 0x40 * (unit / 12) + 24) 1
  raise s2 evMEM 0

/-- The check state after a write of `len` bytes at key `k` of Sector memory: a line that is wholly written is clean; a
partial write corrects a correctable line and leaves an uncorrectable one poisoned (R355). -/
def smWritten (t : Tbl Nat) (k len : Nat) : Tbl Nat :=
  t.filterMap (fun p =>
    if p.1 * 64 + 64 ≤ k || k + len ≤ p.1 * 64 then some p
    else if k ≤ p.1 * 64 && p.1 * 64 + 64 ≤ k + len then none
    else if p.2 = 1 then none else some (p.1, 3))

/-- Write bytes at a Sector-relative address. A line that is written in part is merged, which is recorded as the read it contains
(R355). -/
def smPut (s : State) (n a : Nat) (bs : List Byte) : State :=
  let k := smKey n a
  let len := bs.length
  let merged := s.smChk.filter (fun p => decide (k < p.1 * 64 + 64) && decide (p.1 * 64 < k + len) &&
    !(decide (k ≤ p.1 * 64) && decide (p.1 * 64 + 64 ≤ k + len)))
  let s1 := merged.foldl (fun s p =>
    let u := channelOf s n (p.1 * 64 % 2 ^ 40)
    if p.2 = 1 then memCorr s 1 u n (Config.free s.free) else memUncorr s 1 (if p.2 = 3 then 2 else 1) u n (Config.free s.free)) s
  { s1 with sm := cwrite s1.sm k bs, smChk := smWritten s1.smChk k len }

end Sys2Proof.Machine
end

