-- ==== Sys2Proof/Machine/Arith.lean ====
section
/-!
DEFINITION. The arithmetic of chapter 06: exact dyadic numbers, the element formats and their scales (R160 to R168),
the one rounding of R159, block products (R169 to R173), the canonical tree (R174 to R177), conversions (R178 to R180)
and the vector unit's scalar functions (R181 to R183).
-/
namespace Sys2Proof.Machine

/-- A number as the formats hold it: (−1)^neg × m × 2^e, an infinity, or NaN. -/
inductive Num where
  | fin (neg : Bool) (m : Nat) (e : Int)
  | inf (neg : Bool)
  | nan
  deriving DecidableEq, Repr

/-- An F32 bit pattern (R159). -/
abbrev F32 := BitVec 32

/-- The canonical NaN of F32 (Table 6-1). -/
def f32NaN : F32 := 0x7FC00000

/-- Round to nearest, ties to even: m × 2^e with the least exponent unit `u` (R159). -/
def rne (m : Nat) (e u : Int) : Nat :=
  if u ≤ e then m * 2 ^ (e - u).toNat
  else
    let d := 2 ^ (u - e).toNat
    let q := m / d
    let r := m % d
    if 2 * r < d then q else if 2 * r = d then q + q % 2 else q + 1

/-- Encode the magnitude m × 2^e in a format of `M` mantissa bits and bias `bias`, rounded once, exponents unbounded
above: (exponent field) × 2^M + mantissa. -/
def encMag (M : Nat) (bias : Nat) (m : Nat) (e : Int) : Nat :=
  if m = 0 then 0
  else
    let umin : Int := 1 - bias - M
    let u := max ((Nat.log2 m : Int) - M + e) umin
    (u - umin).toNat * 2 ^ M + rne m e u

/-- Round an exact number to F32 (R159): overflow gives an infinity. -/
def toF32 : Num → F32
  | .nan => f32NaN
  | .inf n => if n then 0xFF800000 else 0x7F800000
  | .fin n m e =>
    let b := min (encMag 23 127 m e) 0x7F800000
    BitVec.ofNat 32 (b + if n then 2 ^ 31 else 0)

/-- Decode a floating-point encoding of `E` exponent and `M` mantissa bits (R160). `sp` says which encodings are not
finite: 0 none, 1 only all ones (F8 E4M3), 2 as IEEE 754. -/
def decFloat (E M bias sp x : Nat) : Num :=
  let neg := x / 2 ^ (E + M) % 2 == 1
  let e := x / 2 ^ M % 2 ^ E
  let m := x % 2 ^ M
  if sp = 1 && e = 2 ^ E - 1 && m = 2 ^ M - 1 then .nan
  else if sp = 2 && e = 2 ^ E - 1 then (if m = 0 then .inf neg else .nan)
  else if e = 0 then .fin neg m (1 - bias - M)
  else .fin neg (2 ^ M + m) ((e : Int) - bias - M)

/-- The value of an F32. -/
def ofF32 (x : F32) : Num := decFloat 8 23 127 2 x.toNat

/-- Negate. -/
def Num.neg : Num → Num
  | .fin n m e => .fin (!n) m e
  | .inf n => .inf (!n)
  | .nan => .nan

/-- The signed significand at exponent `e0`, which is at most the number's own. -/
def sigAt (n : Bool) (m : Nat) (e e0 : Int) : Int :=
  let v : Int := ((m * 2 ^ (e - e0).toNat : Nat) : Int)
  if n then -v else v

/-- The exact sum; a zero sum of non-zero numbers is +0 and −0 + −0 is −0 (R159). -/
def Num.add : Num → Num → Num
  | .nan, _ => .nan
  | _, .nan => .nan
  | .inf a, .inf b => if a = b then .inf a else .nan
  | .inf a, _ => .inf a
  | _, .inf b => .inf b
  | .fin a m e, .fin b n f =>
    let g := min e f
    let s := sigAt a m e g + sigAt b n f g
    if s = 0 then .fin (a && b && m == 0 && n == 0) 0 g else .fin (s < 0) s.natAbs g

/-- The exact product. -/
def Num.mul : Num → Num → Num
  | .nan, _ => .nan
  | _, .nan => .nan
  | .inf a, .inf b => .inf (a != b)
  | .inf a, .fin b n _ => if n = 0 then .nan else .inf (a != b)
  | .fin a m _, .inf b => if m = 0 then .nan else .inf (a != b)
  | .fin a m e, .fin b n f => .fin (a != b) (m * n) (e + f)

/-- m/n × 2^e as a dyadic number that rounds as the quotient does at any precision of the formats: 160 quotient bits
and a sticky bit below them. -/
def Num.quot (neg : Bool) (m n : Nat) (e : Int) : Num :=
  let q := m * 2 ^ 160 / n
  let r := m * 2 ^ 160 % n
  .fin neg (2 * q + if r = 0 then 0 else 1) (e - 161)

/-- The quotient, for numbers whose quotient a rule asks for. -/
def Num.div : Num → Num → Num
  | .nan, _ => .nan
  | _, .nan => .nan
  | .inf _, .inf _ => .nan
  | .inf a, .fin b _ _ => .inf (a != b)
  | .fin a _ _, .inf b => .fin (a != b) 0 0
  | .fin a m e, .fin b n f =>
    if n = 0 then (if m = 0 then .nan else .inf (a != b)) else Num.quot (a != b) m n (e - f)

/-- Compare magnitudes and signs as real numbers: less than. Zeros of either sign are equal; NaN is less than nothing. -/
def Num.lt : Num → Num → Bool
  | .nan, _ => false
  | _, .nan => false
  | .inf a, .inf b => a && !b
  | .inf a, _ => a
  | _, .inf b => !b
  | .fin a m e, .fin b n f => decide (sigAt a m e (min e f) < sigAt b n f (min e f))

/-- F32 operations: exact, rounded once (R159, R181). -/
def fadd (x y : F32) : F32 := toF32 ((ofF32 x).add (ofF32 y))
def fsub (x y : F32) : F32 := toF32 ((ofF32 x).add (ofF32 y).neg)
def fmul (x y : F32) : F32 := toF32 ((ofF32 x).mul (ofF32 y))
def fdiv (x y : F32) : F32 := toF32 ((ofF32 x).div (ofF32 y))
def ffma (x y z : F32) : F32 := toF32 (((ofF32 x).mul (ofF32 y)).add (ofF32 z))
def flt (x y : F32) : Bool := (ofF32 x).lt (ofF32 y)
def fge (x y : F32) : Bool := !(flt x y) && ofF32 x != .nan && ofF32 y != .nan
def isNaN (x : F32) : Bool := ofF32 x == .nan

/-- −0 orders below +0 (R182): a key that orders the F32 values that are no NaN. -/
def orderKey (x : F32) : Int := if x.toNat < 2 ^ 31 then x.toNat else 2 ^ 31 - 1 - (x.toNat : Int)

/-- VMAX and VMIN of two values (R182). -/
def fmax (x y : F32) : F32 := if isNaN x || isNaN y then f32NaN else if orderKey x < orderKey y then y else x
def fmin (x y : F32) : F32 := if isNaN x || isNaN y then f32NaN else if orderKey y < orderKey x then y else x

/-! ### The canonical tree (R174, R175) -/

/-- The power of two at which a node of count c > 1 splits. -/
def splitAt (c : Nat) : Nat := 2 ^ Nat.log2 (c - 1)

/-- (f, c) is a node of the subtree (nf, nc). -/
def isNodeIn : Nat → Nat → Nat → Nat → Nat → Bool
  | 0, _, _, _, _ => false
  | k + 1, f, c, nf, nc =>
    if nf = f ∧ nc = c then true
    else if nc ≤ 1 ∨ f < nf ∨ nf + nc < f + c then false
    else
      let h := splitAt nc
      if f < nf + h then isNodeIn k f c nf h else isNodeIn k f c (nf + h) (nc - h)

/-- (f, c) is a node of the tree of `nb` blocks (R174). -/
def isNode (f c nb : Nat) : Bool := isNodeIn 40 f c 0 nb

/-- Two spans are the children of one node of the tree of `nb` blocks, the first the lower. -/
def siblings (a b : Span) (nb : Nat) : Bool :=
  a.first + a.count == b.first && decide (1 ≤ b.count) && isNode a.first (a.count + b.count) nb &&
  splitAt (a.count + b.count) == a.count

/-- The value of a node: its leaves combined in the tree's order, lower first, each sum rounded (R175). -/
def treeSum (leaf : Nat → F32) : Nat → Nat → Nat → F32
  | 0, f, _ => leaf f
  | k + 1, f, c =>
    if c ≤ 1 then leaf f
    else
      let h := splitAt c
      fadd (treeSum leaf k f h) (treeSum leaf k (f + h) (c - h))

/-! ### Formats (Table 5-6, R160 to R168) -/

/-- Element width in bits by FMT; 0 for a reserved code. -/
def fmtBits (fmt : Nat) : Nat :=
  [4, 6, 6, 8, 8, 16, 16, 32, 8, 4, 4, 6, 8, 8, 4, 32].getD fmt 0

/-- A format with one scale per 32 elements. -/
def isBlock (fmt : Nat) : Bool := 10 ≤ fmt && fmt ≤ 14

/-- The narrow formats of R139. -/
def isNarrow (fmt : Nat) : Bool := fmt ≤ 4 || (8 ≤ fmt && fmt ≤ 14)

/-- Two's complement. -/
def signed (w x : Nat) : Int := if x < 2 ^ (w - 1) then x else (x : Int) - 2 ^ w

/-- An integer as a number. -/
def Num.ofInt (i e : Int) : Num := .fin (i < 0) i.natAbs e

/-- The element value, block scale apart (R160 to R162). -/
def elemNum (fmt variant x : Nat) : Num :=
  match fmt with
  | 0 => decFloat 2 1 1 0 x
  | 1 => decFloat 3 2 3 0 x
  | 2 => decFloat 2 3 1 0 x
  | 3 => decFloat 4 3 7 1 x
  | 4 => decFloat 5 2 15 2 x
  | 5 => decFloat 8 7 127 2 x
  | 6 => decFloat 5 10 15 2 x
  | 7 => decFloat 8 23 127 2 x
  | 8 => .ofInt (signed 8 x) 0
  | 9 => .ofInt (signed 4 x) 0
  | 10 => decFloat 2 1 1 0 x
  | 11 => if variant = 0 then decFloat 3 2 3 0 x else decFloat 2 3 1 0 x
  | 12 => if variant = 0 then decFloat 4 3 7 1 x else decFloat 5 2 15 2 x
  | 13 => .ofInt (signed 8 x) (-6)
  | 14 => decFloat 2 1 1 0 x
  | _ => .fin false x 0

/-- The value of a scale byte (R165): E8M0 for the MX formats, U4M4 for OXB. -/
def scaleNum (fmt x : Nat) : Num :=
  if x = 255 then .nan
  else if fmt = 14 then
    (if x / 16 = 0 then .fin false (x % 16) (-10) else .fin false (16 + x % 16) ((x / 16 : Nat) - 11))
  else .fin false 1 ((x : Int) - 127)

/-- The value of a scaled element (R165, R167): a NaN scale makes NaN, a zero scale zero. -/
def scaledNum (fmt variant x scale : Nat) : Num :=
  if isBlock fmt then
    match scaleNum fmt scale with
    | .nan => .nan
    | .fin _ 0 _ => .fin false 0 0
    | sc => (elemNum fmt variant x).mul sc
  else elemNum fmt variant x

/-! ### Block products (R169 to R173) -/

/-- The exact sum of the products of one block; the specials of R172 in their order. -/
def blockSum (a b : Nat → Num) (n : Nat) : Num :=
  let ps := (List.range n).map (fun k => (a k).mul (b k))
  if ps.any (· == .nan) then .nan
  else if ps.contains (.inf false) && ps.contains (.inf true) then .nan
  else if ps.contains (.inf false) then .inf false
  else if ps.contains (.inf true) then .inf true
  else ps.foldl Num.add (.fin false 0 0)

/-- The block value: the exact sum times the tensor scales, rounded once; an exact zero gives +0 (R169, R173). -/
def blockValue (a b : Nat → Num) (ta tb : Num) : F32 :=
  match ((blockSum a b 32).mul ta).mul tb with
  | .fin _ 0 _ => 0
  | v => toF32 v

/-! ### Conversions from F32 (R178 to R180, Tables 6-4, 6-5) -/

/-- Saturate an encoding of sign, exponent and mantissa bits at the largest finite magnitude. -/
def satMag (neg : Bool) (w mag largest : Nat) : Nat := min mag largest + if neg then 2 ^ (w - 1) else 0

/-- An integer conversion: round to nearest even and saturate at `w` bits (Table 6-4). -/
def toInt (w : Nat) (scale : Int) : Num → Nat
  | .nan => 0
  | .inf n => if n then 2 ^ (w - 1) else 2 ^ (w - 1) - 1
  | .fin n m e =>
    let q := rne m (e + scale) 0
    if n then (if q = 0 then 0 else 2 ^ w - min q (2 ^ (w - 1))) else min q (2 ^ (w - 1) - 1)

/-- Convert a number into an element encoding of FMT (Table 6-4). -/
def toElem (fmt variant : Nat) (v : Num) : Nat :=
  let f4 (v : Num) := match v with
    | .nan => 0 | .inf n => satMag n 4 7 7 | .fin n m e => satMag n 4 (encMag 1 1 m e) 7
  let e3m2 (v : Num) := match v with
    | .nan => 0 | .inf n => satMag n 6 31 31 | .fin n m e => satMag n 6 (encMag 2 3 m e) 31
  let e2m3 (v : Num) := match v with
    | .nan => 0 | .inf n => satMag n 6 31 31 | .fin n m e => satMag n 6 (encMag 3 1 m e) 31
  let e4m3 (v : Num) := match v with
    | .nan => 0x7F | .inf n => satMag n 8 0x7E 0x7E | .fin n m e => satMag n 8 (encMag 3 7 m e) 0x7E
  let e5m2 (v : Num) := match v with
    | .nan => 0x7E | .inf n => satMag n 8 0x7C 0x7C | .fin n m e => satMag n 8 (encMag 2 15 m e) 0x7B
  match fmt with
  | 0 | 10 | 14 => f4 v
  | 1 => e3m2 v
  | 2 => e2m3 v
  | 3 => e4m3 v
  | 4 => e5m2 v
  | 5 => match v with
    | .nan => 0x7FC0 | .inf n => satMag n 16 0x7F80 0x7F80 | .fin n m e => satMag n 16 (encMag 7 127 m e) 0x7F80
  | 6 => match v with
    | .nan => 0x7E00 | .inf n => satMag n 16 0x7C00 0x7C00 | .fin n m e => satMag n 16 (encMag 10 15 m e) 0x7C00
  | 8 => toInt 8 0 v
  | 9 => toInt 4 0 v
  | 11 => if variant = 0 then e3m2 v else e2m3 v
  | 12 => if variant = 0 then e4m3 v else e5m2 v
  | 13 => toInt 8 6 v
  | _ => (toF32 v).toNat

/-- emax of an MX element format (Table 6-5). -/
def emaxOf (fmt variant : Nat) : Int :=
  match fmt with
  | 10 => 2
  | 11 => if variant = 0 then 4 else 2
  | 12 => if variant = 0 then 8 else 15
  | _ => 0

/-- The larger of two magnitudes. -/
def maxMag (x y : Num) : Num :=
  match x, y with
  | .fin _ m e, .fin _ n f => if (Num.fin false m e).lt (.fin false n f) then .fin false n f else .fin false m e
  | _, _ => x

/-- The scale byte an MX or OXB block takes, and the exact divisor of its elements; none where every element bit is
written zero (R179, R180). `t` is the destination's TENSOR_SCALE. -/
def blockScale (fmt variant : Nat) (t : F32) (vs : List F32) : Nat × Option Num :=
  let ns := vs.map ofF32
  if ns.any (fun v => match v with | .fin _ _ _ => false | _ => true) then (0xFF, none)
  else
    match ns.foldl maxMag (.fin false 0 0) with
    | .fin _ 0 _ => (if fmt = 14 then 0 else 0x7F, none)
    | .fin _ m e =>
      if fmt = 14 then
        let q := match (Num.fin false m e).div ((Num.fin false 6 0).mul (ofF32 t)) with
          | .fin _ m' e' => encMag 4 7 m' e'
          | _ => 0xFE
        let s := if q = 0 then 1 else min q 0xFE
        (s, some ((scaleNum 14 s).mul (ofF32 t)))
      else
        let x := min (max ((Nat.log2 m : Int) + e - emaxOf fmt variant) (-127)) 127
        ((x + 127).toNat, some (.fin false 1 x))
    | _ => (0xFF, none)

/-- An element of a block written with a divisor (R179 step 4, R180 step 4). -/
def blockElem (fmt variant : Nat) (d : Option Num) (x : F32) : Nat :=
  match d with
  | none => 0
  | some d => toElem fmt variant ((ofF32 x).div d)

/-! ### The transcendental functions (R183, Table 6-6)

Each is a fixed function within a stated bound of the real one. The model computes the real value to 160 fractional
bits and takes the member of the permitted neighbourhood that Config names (notes/assumptions/6). -/

/-- ln 2 × 2^160. -/
def ln2Fix : Nat := 1013035739299659071135698605846798551586536899366

/-- m × 2^e encoded in F32 rounded towards zero, the sign bit apart. -/
def encDown (m : Nat) (e : Int) : Nat :=
  if m = 0 then 0
  else
    let u := max ((Nat.log2 m : Int) - 23 + e) (-149)
    let q := if u ≤ e then m * 2 ^ (e - u).toNat else m / 2 ^ (u - e).toNat
    (u + 149).toNat * 2 ^ 23 + q

/-- Σ r^i / i! in 160-bit fixed point, `k` terms. -/
def expSeries (r : Nat) : Nat → Nat → Nat → Nat
  | 0, _, _ => 0
  | k + 1, i, term => term + expSeries r k (i + 1) (term * r / 2 ^ 160 / i)

/-- e^x for a finite x as a significand and exponent. -/
def expFix (n : Bool) (m : Nat) (e : Int) : Nat × Int :=
  let x : Int := let a : Int := if 0 ≤ e + 160 then ((m * 2 ^ (e + 160).toNat : Nat) : Int)
                               else ((m / 2 ^ (-(e + 160)).toNat : Nat) : Int)
                 if n then -a else a
  let k := x.fdiv ln2Fix
  let r := (x - k * ln2Fix).toNat
  (expSeries r 48 1 (2 ^ 160), k - 160)

/-- Σ z^(2i+1) / (2i+1) in 160-bit fixed point, `k` terms. -/
def atanhSeries (z2 : Nat) : Nat → Nat → Nat → Nat
  | 0, _, _ => 0
  | k + 1, i, p => p / (2 * i + 1) + atanhSeries z2 k (i + 1) (p * z2 / 2 ^ 160)

/-- ln (m × 2^e) × 2^160, for m > 0. -/
def lnFix (m : Nat) (e : Int) : Int :=
  let l := Nat.log2 m
  let y := m * 2 ^ 160 / 2 ^ l
  let z := (y - 2 ^ 160) * 2 ^ 160 / (y + 2 ^ 160)
  ((l : Int) + e) * ln2Fix + 2 * atanhSeries (z * z / 2 ^ 160) 60 0 z

/-- VEXP: within 2 units in the last place (R183, Table 6-6). -/
def vexp (x : F32) : F32 :=
  match ofF32 x with
  | .nan => f32NaN
  | .inf n => if n then 0 else 0x7F800000
  | .fin _ 0 _ => 0x3F800000
  | .fin n m e =>
    if flt 0x42B17218 x then 0x7F800000
    else if flt x 0xC2CFF1B5 then 0
    else
      let v := expFix n m e
      BitVec.ofNat 32 (min (encDown v.1 v.2 + Config.vexp x % 4 - 1) 0x7F800000)

/-- VLOG: within 2 units in the last place, or 2^−22 for inputs from 0.5 to 2 (R183, Table 6-6). -/
def vlog (x : F32) : F32 :=
  match ofF32 x with
  | .nan => f32NaN
  | .inf n => if n then f32NaN else 0x7F800000
  | .fin _ 0 _ => 0xFF800000
  | .fin true _ _ => f32NaN
  | .fin false m e =>
    let l := lnFix m e
    if !flt x 0x3F000000 && !flt 0x40000000 x then
      toF32 (.ofInt (l + ((Config.vlog x % (2 ^ 9 + 1) : Nat) - 2 ^ 8 : Int) * 2 ^ 130) (-160))
    else
      let b := encDown l.natAbs (-160) + Config.vlog x % 4 - 1
      BitVec.ofNat 32 (b + if l < 0 then 2 ^ 31 else 0)

/-- VRCP: within 1 unit in the last place (R183, Table 6-6). -/
def vrcp (x : F32) : F32 :=
  match ofF32 x with
  | .nan => f32NaN
  | .inf n => if n then 0x80000000 else 0
  | .fin n 0 _ => if n then 0xFF800000 else 0x7F800000
  | .fin n m e =>
    -- magnitudes below 2^−128 and above 2^128 have their values in Table 6-6
    if decide ((Nat.log2 m : Int) + e < -128) then (if n then 0xFF800000 else 0x7F800000)
    else
      let q := 2 ^ 320 / m
      let b := min (encDown q (-320 - e) + Config.vrcp x % 2) 0x7F800000
      BitVec.ofNat 32 (b + if n then 2 ^ 31 else 0)

end Sys2Proof.Machine
end

