-- ==== Sys2Proof/Machine/Operands.lean ====
section
/-!
DEFINITION. Operand forms of the kernel instructions: the fields of control words (forms A, I, B, J, M) and of tile
instructions (Table 5-7), scalar registers, tile descriptors (Table 5-5) and their checks (R131).
-/
namespace Sys2Proof.Machine

/-! ### Control words (05, "The control pipe") -/

def wSd (w : BitVec 26) : Nat := bits w.toNat 25 21
def wSa (w : BitVec 26) : Nat := bits w.toNat 20 16
def wSb (w : BitVec 26) : Nat := bits w.toNat 15 11
def wImm (w : BitVec 26) : BitVec 16 := w.extractLsb' 0 16
def wHw (w : BitVec 26) : Nat := bits w.toNat 17 16

/-- imm16 sign-extended, and zero-extended (R128). -/
def immS (w : BitVec 26) : BitVec 64 := (wImm w).signExtend 64
def immZ (w : BitVec 26) : BitVec 64 := (wImm w).zeroExtend 64

/-- A scalar register: s0 reads zero. -/
def Core.sreg (c : Core) (i : Nat) : BitVec 64 := if i = 0 then 0 else tget 0 c.s i

/-- Write a scalar register: s0 ignores writes. -/
def Core.setSreg (c : Core) (i : Nat) (v : BitVec 64) : Core := if i = 0 then c else { c with s := tput 0 c.s i v }

/-- A tile descriptor register. -/
def Core.treg (c : Core) (i : Nat) : BitVec 256 := tget 0 c.t i

/-- The target of a branch at `pc` with a signed word offset of `w` bits (R128), modulo 2^64. -/
def branchTarget (pc : Nat) (w off : Nat) : Nat := (((pc : Int) + 4 * signed w off) % 2 ^ 64).toNat

/-! ### Tile instruction fields (Table 5-7) -/

def tImm (w : BitVec 64) : Nat := bits w.toNat 63 48
def tSX (w : BitVec 64) : Nat := bits w.toNat 47 43
def tSY (w : BitVec 64) : Nat := bits w.toNat 42 38
def tACC (w : BitVec 64) : Nat := bits w.toNat 37 35
def tCLASS (w : BitVec 64) : Nat := bits w.toNat 25 23
def tOP (w : BitVec 64) : Nat := bits w.toNat 22 16
def tTA (w : BitVec 64) : Nat := bits w.toNat 15 11
def tTB (w : BitVec 64) : Nat := bits w.toNat 10 6
def tTC (w : BitVec 64) : Nat := bits w.toNat 5 1
def tORD (w : BitVec 64) : Bool := bit w.toNat 0
def tSTREAM (w : BitVec 64) : Nat := bits w.toNat 51 48
def tCACHE (w : BitVec 64) : Nat := bits w.toNat 53 52
def tFINAL (w : BitVec 64) : Bool := bit w.toNat 54
def tACQ (w : BitVec 64) : Bool := bit w.toNat 55

/-- The fields an instruction of (class, op) uses (Table 5-8): TA, TB, TC, SX, SY, ACC, and the IMM16 bits it uses. -/
structure TileUse where
  ta : Bool := false
  tb : Bool := false
  tc : Bool := false
  sx : Bool := false
  sy : Bool := false
  acc : Bool := false
  imm : Nat := 0

/-- Table 5-8, by class and op; none for a reserved pair. -/
def tileUse (cls op : Nat) : Option TileUse :=
  match cls, op with
  | 0, 0 => some { acc := true, ta := true, sx := true, imm := 0x000F }
  | 0, 1 => some { acc := true, ta := true, tb := true, sx := true }
  | 0, 2 => some { acc := true, ta := true, sx := true }
  | 0, 3 => some { acc := true }
  | 0, 4 => some { acc := true, ta := true }
  | 1, 6 => some { ta := true, tb := true, sx := true }
  | 1, 16 => some { ta := true, tb := true, sx := true }
  | 1, o =>
    if o = 8 || o = 9 || o = 10 || o = 11 || o = 12 || o = 13 then some { ta := true, tb := true }
    else if o ≤ 15 then some { ta := true, tb := true, tc := true } else none
  | 2, 0 => some { ta := true, tb := true, imm := 0x00FF }
  | 2, 1 => some { tb := true, imm := 0x00FF }
  | 2, 4 => some { ta := true, tb := true, sx := true, sy := true, imm := 0x00FF }
  | 2, o => if o ≤ 5 then some { ta := true, tb := true, sx := true, imm := 0x00FF } else none
  | 3, 0 => some { imm := 0x000F }
  | 3, 1 => some { sx := true, sy := true, imm := 0xC03F }
  | 3, 2 => some { sx := true, sy := true, imm := 0xC03F }
  | 3, 3 => some { imm := 0xFFFF }
  | 4, 0 => some { ta := true, sx := true }
  | 4, 1 => some { ta := true, sx := true, sy := true, imm := 0x03FF }
  | 4, 2 => some { tb := true, sx := true, sy := true, imm := 0x01FF }
  | 4, 3 => some { ta := true, tb := true, sx := true }
  | _, _ => none

/-- A tile word's encoding is legal: opcode 0x3F, its class and op, and zero in every field it does not use
(R133, R146, R148 where the descriptor does not enter). -/
def tileLegal (w : BitVec 64) : Bool :=
  match tileUse (tCLASS w) (tOP w) with
  | none => false
  | some u =>
    bits w.toNat 31 26 == 0x3F && bits w.toNat 34 32 == 0 &&
    (u.ta || tTA w == 0) && (u.tb || tTB w == 0) && (u.tc || tTC w == 0) && (u.sx || tSX w == 0) &&
    (u.sy || tSY w == 0) && (u.acc || tACC w == 0) && (tImm w &&& (0xFFFF - u.imm)) == 0 &&
    !(tCLASS w == 2 && tCACHE w == 3)

/-! ### Tile descriptors (Table 5-5) -/

/-- A descriptor's fields. -/
structure Desc where
  space : Nat
  base : Nat
  scaleStride : Nat
  blkdim : Bool
  variant : Nat
  fmt : Nat
  cols : Nat
  rows : Nat
  tscale : F32
  rowStride : Nat
  scaleBase : Nat
  reserved : Bool

/-- Read the four words of a descriptor. -/
def Desc.of (d : BitVec 256) : Desc :=
  let w (i : Nat) := d.toNat / 2 ^ (64 * i) % 2 ^ 64
  { space := bits (w 0) 63 60, base := bits (w 0) 56 0,
    scaleStride := bits (w 1) 63 48, blkdim := bit (w 1) 39, variant := bits (w 1) 38 37, fmt := bits (w 1) 36 32,
    cols := bits (w 1) 31 16, rows := bits (w 1) 15 0,
    tscale := BitVec.ofNat 32 (bits (w 2) 63 32), rowStride := bits (w 2) 31 0,
    scaleBase := bits (w 3) 56 0,
    reserved := bits (w 0) 59 57 != 0 || bits (w 1) 47 40 != 0 || bits (w 3) 63 57 != 0 }

/-- Bytes of one row. -/
def Desc.rowLen (d : Desc) : Nat := d.cols * fmtBits d.fmt / 8

/-- Scale rows and the bytes each holds (R164). -/
def Desc.scaleRows (d : Desc) : Nat := if !isBlock d.fmt then 0 else if d.blkdim then d.rows / 32 else d.rows
def Desc.scaleLen (d : Desc) : Nat := if d.blkdim then d.cols else d.cols / 32

/-- One past the last data byte, and one past the last scale byte. -/
def Desc.dataEnd (d : Desc) : Nat := d.base + (d.rows - 1) * d.rowStride + d.rowLen
def Desc.scaleEnd (d : Desc) : Nat :=
  if d.scaleRows = 0 then 0 else d.scaleBase + (d.scaleRows - 1) * d.scaleStride + d.scaleLen

/-- The formats that have a VARIANT 1 (Table 5-6). -/
def variantOk (fmt v : Nat) : Bool := v == 0 || (v == 1 && (fmt == 11 || fmt == 12))

/-- The checks of R131. -/
def Desc.ok (d : Desc) : Bool :=
  decide (d.space ≤ 4) && decide (d.fmt ≤ 15) && variantOk d.fmt d.variant && !d.reserved &&
  decide (0 < d.rows) && decide (0 < d.cols) && d.cols * fmtBits d.fmt % 8 == 0 &&
  (!isBlock d.fmt || (if d.blkdim then d.rows else d.cols) % 32 == 0) &&
  decide (d.rows * d.rowLen ≤ 2 ^ 20) && d.base % 64 == 0 && d.scaleBase % 64 == 0 &&
  ((d.rowStride % 64 == 0 && decide (d.rowLen ≤ d.rowStride)) || (d.rowStride == 0 && d.rows == 1)) &&
  (if isBlock d.fmt then decide (d.scaleLen ≤ d.scaleStride) else d.scaleStride == 0 && d.scaleBase == 0) &&
  (if d.fmt == 14 then decide (d.tscale.toNat < 2 ^ 31) && decide (1 ≤ bits d.tscale.toNat 30 23) &&
      decide (bits d.tscale.toNat 30 23 ≤ 254) else d.tscale == 0) &&
  (d.space != 0 || (decide (d.dataEnd ≤ 0x80000) && decide (d.scaleEnd ≤ 0x80000)))

/-- The byte ranges a descriptor names: (address, length) of each row and scale row. -/
def Desc.ranges (d : Desc) : List (Nat × Nat) :=
  (List.range d.rows).map (fun r => (d.base + r * d.rowStride, d.rowLen)) ++
  (List.range d.scaleRows).map (fun r => (d.scaleBase + r * d.scaleStride, d.scaleLen))

/-- Elements that a bit stream of `w`-bit fields holds (R163). -/
def elemBits (rowv w i : Nat) : Nat := rowv / 2 ^ (i * w) % 2 ^ w

/-- The element of a tile as an exact number with its block scale, tensor scale apart; `rd` reads a range (R163,
R164, R167). -/
def Desc.elem (d : Desc) (rd : Nat → Nat → List Byte) (r c : Nat) : Num :=
  let w := fmtBits d.fmt
  let x := leNat (rd (d.base + r * d.rowStride + c * w / 8) 8) / 2 ^ (c * w % 8) % 2 ^ w
  let sc := if isBlock d.fmt then
      leNat (if d.blkdim then rd (d.scaleBase + r / 32 * d.scaleStride + c) 1
             else rd (d.scaleBase + r * d.scaleStride + c / 32) 1)
    else 0
  scaledNum d.fmt d.variant x sc

/-- The tensor scale as a factor: 1 for every format but OXB (R169). -/
def Desc.tnum (d : Desc) : Num := if d.fmt = 14 then ofF32 d.tscale else .fin false 1 0

/-- The element as F32 (R168). -/
def Desc.f32 (d : Desc) (rd : Nat → Nat → List Byte) (r c : Nat) : F32 := toF32 ((d.elem rd r c).mul d.tnum)

/-- The bytes of a row of element encodings. -/
def packRow (w : Nat) (xs : List Nat) : List Byte :=
  leBytes (xs.length * w / 8) ((xs.zipIdx.map (fun p => p.1 * 2 ^ (p.2 * w))).foldl (· + ·) 0)

/-- What writing an F32 matrix to a tile stores, as (address, bytes): converted as R178 to R180 state. -/
def Desc.store (d : Desc) (v : Nat → Nat → F32) : List (Nat × List Byte) :=
  let w := fmtBits d.fmt
  if isBlock d.fmt then
    let blk (r c : Nat) : Nat × Option Num :=
      blockScale d.fmt d.variant d.tscale
        ((List.range 32).map (fun k => if d.blkdim then v (r / 32 * 32 + k) c else v r (c / 32 * 32 + k)))
    (List.range d.rows).map (fun r => (d.base + r * d.rowStride,
      packRow w ((List.range d.cols).map (fun c => blockElem d.fmt d.variant (blk r c).2 (v r c))))) ++
    (List.range d.scaleRows).map (fun q => (d.scaleBase + q * d.scaleStride,
      (List.range d.scaleLen).map (fun j => BitVec.ofNat 8
        (if d.blkdim then (blk (q * 32) j).1 else (blk q (j * 32)).1))))
  else
    (List.range d.rows).map (fun r => (d.base + r * d.rowStride,
      packRow w ((List.range d.cols).map (fun c =>
        if d.fmt = 7 then (v r c).toNat else toElem d.fmt d.variant (ofF32 (v r c))))))

end Sys2Proof.Machine
end

