-- ==== Sys2Proof/Machine/SeqOps.lean ====
section
/-!
DEFINITION. Operations of the sequence engine (07, 08) that commands share: geometry, blocks, tokens posted, the end of a
sequence command, the failure of a step, the commit.
-/
namespace Sys2Proof.Machine

/-! ### Registers and geometry (R199 to R201, R234, R235) -/

/-- A per-Sector sequence register (R230): offset within the Sector's 256 bytes. -/
def seqReg (s : State) (n off : Nat) : Nat := (tget (0 : BitVec 64) s.regs (0xB1000 + 0x100 * n + off)).toNat

def kvB (s : State) (n : Nat) : Nat := 2 ^ (s.sector n).kvLog
def kvE (s : State) (n : Nat) : Nat := bits (seqReg s n 0) 8 0 * 64
def kvNL (s : State) (n : Nat) : Nat := bits (seqReg s n 0) 23 16
def kvFB (s : State) (n : Nat) : Nat := kvB s n * kvNL s n * 2 * kvE s n
def kvFrames (s : State) (n : Nat) : Nat := bits (seqReg s n 8) 31 0
def kvPoolFirst (s : State) (n : Nat) : Nat := bits (seqReg s n 8) 45 32
def kvDescs (s : State) (n : Nat) : Nat := bits (seqReg s n 16) 31 0
def kvMetaFirst (s : State) (n : Nat) : Nat := bits (seqReg s n 16) 45 32
def provFirst (s : State) (n : Nat) : Nat := bits (seqReg s n 24) 45 32
def provExtents (s : State) (n : Nat) : Nat := bits (seqReg s n 24) 15 0
/-- PB: 32 × NL × E rounded up to 64 KiB (R234). -/
def provPB (s : State) (n : Nat) : Nat := (32 * kvNL s n * kvE s n + 65535) / 65536 * 65536
def provBufs (s : State) (n : Nat) : Nat := provExtents s n * 2 ^ 26 / provPB s n
def stepReg (s : State) (n c : Nat) : Nat := seqReg s n (0x20 + 8 * c)
def stepCtx (s : State) (n c : Nat) : Nat := bits (stepReg s n c) 61 48
def schedReg (s : State) (n : Nat) : Nat := seqReg s n 0x30
def spillReg (s : State) (n : Nat) : Nat := seqReg s n 0x38
def hspillAddr (s : State) (n : Nat) : Nat := seqReg s n 0x40 / 4096 * 4096
def atLeast1 (x : Nat) : Nat := if x = 0 then 1 else x

/-- Sector-relative address of an entry in a frame (R199, R200), and in a provisional buffer (R234). -/
def entryAddr (s : State) (n frame t l h : Nat) : Nat :=
  kvPoolFirst s n * 2 ^ 26 + frame * kvFB s n + ((l * 2 + h) * kvB s n + t) * kvE s n
def provAddr (s : State) (n b j l h : Nat) : Nat :=
  provFirst s n * 2 ^ 26 + b * provPB s n + ((l * 2 + h) * 16 + j) * kvE s n

/-- Counter i of Table 7-17. -/
def seqCount (s : State) (n i k : Nat) : State := bump s (0xB1080 + 0x100 * n + 8 * i) k

/-! ### Blocks (R202 to R208) -/

/-- A frame holds a block's rows. -/
def blkHasFrame (b : Blk) : Bool := b.st == .resident || b.st == .spilling || b.st == .pulling

/-- Frames in use, and free ones. -/
def usedFrames (x : SeqSec) : List Nat := (x.blk.filter (fun p => blkHasFrame p.2)).map (fun p => p.2.frame)
def freeFrames (s : State) (n : Nat) : Nat := kvFrames s n - (usedFrames (s.seqSec n)).length

/-- The lowest number below `lim` that a list does not name: the X1's choice of a frame, a descriptor or a host spill
slot, whose order is unspecified (R204, notes/assumptions/10). -/
def lowestFree (used : List Nat) (lim : Nat) : Option Nat :=
  (List.range (min lim (used.length + 1))).find? (fun i => !used.contains i)

/-- Take a descriptor and a frame for a new block (R204). -/
def allocBlk (s : State) (n ctx fill : Nat) : Option (Nat × State) :=
  let x := s.seqSec n
  match lowestFree (tkeys x.blk) (kvDescs s n), lowestFree (usedFrames x) (kvFrames s n) with
  | some d, some f =>
    some (d, s.setSeqSec n { x with blk := tput {} x.blk d { st := .resident, frame := f, refs := 1, fill := fill, ctx := ctx } })
  | _, _ => none

/-- Take one from REFS; at 0 the descriptor, its frame and its spill slot are free again, and its pool copy is released
(R207). -/
def dropRef (s : State) (n d : Nat) : State :=
  let x := s.seqSec n
  let b := tget {} x.blk d
  if b.refs ≤ 1 then
    let s1 := s.setSeqSec n { x with blk := tput {} x.blk d {} }
    if b.st = .spilled && !b.hostTier then chRelease s1 n b.ctx b.mooring b.spillAddr (kvFB s n) else s1
  else s.setSeqSec n { x with blk := tput {} x.blk d { b with refs := b.refs - 1 } }

/-- Add one to REFS (R205). -/
def addRef (s : State) (n d : Nat) : State :=
  let x := s.seqSec n
  s.setSeqSec n { x with blk := tmod {} x.blk d (fun b => { b with refs := b.refs + 1 }) }

/-- Copy the rows of positions below `len` of one frame to another, layer by layer (R206). -/
def copyRows (s : State) (n src dst len : Nat) : State :=
  (List.range (kvNL s n * 2)).foldl (fun s lh =>
    smPut s n (entryAddr s n dst 0 (lh / 2) (lh % 2))
      (cread s.sm (smKey n (entryAddr s n src 0 (lh / 2) (lh % 2))) (len * kvE s n))) s

/-- The block-table entries a window of `len` positions from `c` needs, with their blocks allocated or copied for the
writing sequence (R204, R206); none where a frame or descriptor is missing (R208). -/
def giveBlocks (s : State) (n slot c len : Nat) : Option (List (Nat × Nat × Bool) × State) :=
  let b := kvB s n
  let es := (List.range ((c + len - 1) / b + 1 - c / b)).map (· + c / b)
  es.foldl (fun acc e =>
    match acc with
    | none => none
    | some (given, s) =>
      let q := s.seq slot
      match tget none q.table e with
      | none =>
        match allocBlk s n q.ctx 0 with
        | none => none
        | some (d, s1) =>
          some (given ++ [(e, d, false)],
            seqCount (s1.setSeq slot { q with table := tput none q.table e (some d) }) n 5 1)
      | some d =>
        let old := tget {} (s.seqSec n).blk d
        if old.refs ≤ 1 then some (given, s)
        else
          let keep := q.c - e * b
          match allocBlk s n q.ctx keep with
          | none => none
          | some (d1, s1) =>
            let new := tget {} (s1.seqSec n).blk d1
            let s2 := copyRows s1 n old.frame new.frame keep
            let s3 := s2.setSeq slot { q with table := tput none q.table e (some d1) }
            some (given ++ [(e, d1, true)], seqCount (dropRef s3 n d) n 6 1)) (some ([], s))

/-- Make every sequence of a Sector that names a descriptor FAILED, and the block POISONED (R223, R227, R254). -/
def poisonBlk (s : State) (n d : Nat) (status : Nat) : State :=
  let x := s.seqSec n
  let s1 := s.setSeqSec n { x with blk := tmod {} x.blk d (fun b => { b with poisoned := true }) }
  s1.seqs.foldl (fun s p =>
    if p.2.sector = n && p.2.st != .free && p.2.table.any (fun e => e.2 == some d) then
      raiseSeq (s.setSeq p.1 { s.seq p.1 with st := .failed, failStatus := status }) n 5
    else s) s1

/-! ### The end of a sequence command -/

/-- A command of a sequence ring. -/
def seqCmd (s : State) (q : Nat) (idx : BitVec 32) : Option Cmd := (s.ring q).find idx none

/-- Complete a sequence command by ring and index; nothing where it has left its ring. -/
def completeSeq (s : State) (q : Nat) (idx : BitVec 32) (status : Nat) (detail : BitVec 64) : State :=
  match seqCmd s q idx with
  | none => s
  | some c => completeCmd s q c status detail

/-- Write to a command's buffer: SM of the Sector, or host memory under the context's PASID. -/
def writeSpace (s : State) (n ctx space addr : Nat) (bytes : List Byte) (final : Bool) : State :=
  if space = 2 then smPut s n addr bytes
  else hostWrite s (s.ctx ctx).pasid addr bytes final

/-- Write the progress word of a GENERATE as a final write (R212, Table 7-11). -/
def writeProgress (s : State) (slot : Nat) (r : SeqRun) (reason ended : Nat) : State :=
  let x := s.seq slot
  writeSpace s x.sector x.ctx (fieldAt r.raw 32 1) (fieldAt r.raw 24 8)
    (leBytes 4 r.posted ++ leBytes 2 0 ++ leBytes 1 reason ++ leBytes 1 ended) true

/-- Remove the table entries of a sequence from entry `e` on, dropping their references (R215, R241). -/
def cutTable (s : State) (slot e : Nat) : State :=
  let x := s.seq slot
  let gone := x.table.filter (fun p => e ≤ p.1)
  let s1 := s.setSeq slot { x with table := x.table.filter (fun p => p.1 < e) }
  gone.foldl (fun s p => match p.2 with | some d => dropRef s x.sector d | none => s) s1

/-- Reset a reserved draft sequence against its main sequence's new state (R241). -/
def resetDraft (s : State) (m : Nat) : State :=
  let x := s.seq m
  match s.seqs.find? (fun p => p.2.reservedBy == some m) with
  | none => s
  | some (i, d) =>
    if x.c ≤ d.c then
      let b := kvB s x.sector
      let s1 := s.setSeq i { d with c := x.c, t := x.t, pendingTok := x.pendingTok,
                                    text := tput 0 (d.text.filter (fun p => p.1 < x.c)) (x.t - 1) x.pendingTok }
      let s2 := cutTable s1 i ((x.c + b - 1) / b)
      match tget none (s2.seq i).table ((x.c - 1) / b) with
      | some k =>
        let y := s2.seqSec x.sector
        let bl := tget {} y.blk k
        if x.c = 0 then s2
        else if bl.refs = 1 then
          s2.setSeqSec x.sector { y with blk := tput {} y.blk k { bl with fill := min bl.fill (x.c - (x.c - 1) / b * b) } }
        else s2
      | none => s2
    else s

/-- End the reservation that a sequence's GENERATE holds (R239). -/
def freeDraft (s : State) (m : Nat) : State :=
  match s.seqs.find? (fun p => p.2.reservedBy == some m) with
  | none => s
  | some (i, d) => s.setSeq i { d with reservedBy := none }

/-- The pending SeqRun of a slot ends with a status: the progress word of a GENERATE, its reservation and stash, the
completion; the slot becomes what `st` says (R212, R238, R239, R257). -/
def endRun (s : State) (slot : Nat) (status : Nat) (detail : Option (BitVec 64)) (reason : Nat) (st : SeqSt) : State :=
  let x := s.seq slot
  match x.run with
  | none => s
  | some r =>
    let s1 := if r.opcode = 0x42 && !bit (fieldAt r.raw 33 1) 0 then
        freeDraft (resetDraft (writeProgress s slot r reason 1) slot) slot
      else s
    let y := s1.seq slot
    let s2 := s1.setSeq slot { y with run := none, st := if y.st = .failed then .failed else if y.st = .closing then .closing else st,
                                      stash := [], drafts := [], windowLen := 0, xl := 0 }
    match seqCmd s2 r.ring r.idx with
    | none => s2
    | some c =>
      let gen := r.opcode = 0x42
      let posted := BitVec.ofNat 64 r.posted
      -- what a watch or a drain deadline ended takes no CONTEXT_RESET (R496, R114); DETAIL of a GENERATE holds its tokens (R292)
      let prog := c.conds.any (fun w => w.status == stPROGRESS || w.status == stRETIRED)
      let conds := ((c.conds ++ r.conds).filter (fun w => !(prog && w.status == stCTXRESET))).map (fun w =>
        if gen && w.status != stINVALID then { w with detail := posted } else w)
      let short := statusOk status && r.short
      let final := if prog && status = stCTXRESET then stDONE else if short then stSHORT else status
      let det := if gen && final != stINVALID then posted
        else if short then BitVec.ofNat 64 (min c.units (2 ^ 32 - 1) * 2 ^ 16 + c.moor)
        else detail.getD 0
      completeCmd s2 r.ring { c with conds := conds, short := false } final det

/-- Free a slot: its table goes, its generation rises (R194, R215). -/
def freeSlot (s : State) (slot : Nat) : State :=
  let s1 := cutTable s slot 0
  let x := s1.seq slot
  let s2 := s1.setSeq slot { gen := x.gen + 1 }
  match x.closer with
  | some (q, i) => completeSeq s2 q i stDONE 0
  | none => s2

/-- What a slot becomes when its row leaves the step: freed where CLOSE waits, READY where work remains. -/
def leaveStep (s : State) (slot : Nat) : State :=
  let x := s.seq slot
  if x.st = .closing then freeSlot (endRun s slot stABORTED none 4 .closing) slot
  else if x.st = .inStep then
    s.setSeq slot { x with st := if x.run.isSome then .ready else .idle, windowLen := 0 }
  else s

/-! ### The failure of a step (R223, R257) -/

/-- The rows of a failed step end: blocks allocated for it return, every running command completes with the step's
status or with what R23 chooses, provisional buffers are free (R223, R257). -/
def failStep (s : State) (n : Nat) (w : Cond) (spec : Option Nat := none) : State :=
  let x := s.seqSec n
  match x.step with
  | none => s
  | some p =>
    let s1 := seqCount (s.setSeqSec n { x with step := none, bufs := [], lastCls := p.cls }) n 10 1
    let s2 := raiseSeq s1 n 2
    p.rows.foldl (fun s r =>
      let q := s.seq r.slot
      -- blocks allocated for new positions return; copies are kept
      let s := r.given.foldl (fun s g =>
        if g.2.2 then s
        else
          let q := s.seq r.slot
          dropRef (s.setSeq r.slot { q with table := tput none q.table g.1 none }) n g.2.1) s
      let cs := (if w.status = stDONE then [] else [w]) ++
        (if (q.run.map (·.aborted)).getD false then [⟨stABORTED, 0⟩] else []) ++ ((q.run.map (·.conds)).getD [])
      let fin := (chooseCond cs).getD w
      let det := match spec with
        | some e => if fin.status = stINVALID then some (invalidDetail e 2) else none
        | none => if fin.status = stINVALID then some w.detail else none
      let s := s.setSeq r.slot { s.seq r.slot with st := if q.st = .closing then .closing else if q.st = .failed then .failed else .inStep }
      let s := endRun s r.slot fin.status det 4 (if q.st = .closing then .closing else .inStep)
      leaveStep s r.slot) s2

/-! ### The commit (R251 to R254) -/

/-- A′: the decision cut after the first stop token; a prefill row commits its window (R251, step 1). -/
def capRow (q : Seq) (r : Row) : Nat :=
  if r.kind = 0 then r.len
  else
    match (r.toks.take r.a).zipIdx.find? (fun p => q.stops.contains p.1) with
    | some p => p.2 + 1
    | none => r.a

/-- Copy accepted provisional entries into the row's own blocks (R251, step 3); an uncorrectable entry poisons the
block (R254). -/
def copyProv (s : State) (n : Nat) (r : Row) (c a : Nat) : State :=
  match r.buffer with
  | none => s
  | some b =>
    (List.range (a - 1)).foldl (fun s j =>
      let pos := c + 1 + j
      match tget none (s.seq r.slot).table (pos / kvB s n) with
      | none => s
      | some d =>
        let f := (tget {} (s.seqSec n).blk d).frame
        (List.range (kvNL s n * 2)).foldl (fun s lh =>
          let src := provAddr s n b j (lh / 2) (lh % 2)
          let dst := entryAddr s n f (pos % kvB s n) (lh / 2) (lh % 2)
          let bad := (List.range (kvE s n / 64)).any (fun i => 2 ≤ tget 0 s.smChk (smKey n src / 64 + i))
          let s1 := smPut s n dst (cread s.sm (smKey n src) (kvE s n))
          if bad then
            let s2 := { s1 with smChk := (List.range (kvE s n / 64)).foldl (fun t i =>
              if 2 ≤ tget 0 s.smChk (smKey n src / 64 + i) then tput 0 t (smKey n dst / 64 + i) 3 else t) s1.smChk }
            let s3 := poisonBlk s2 n d stMEM
            let q := s3.seq r.slot
            s3.setSeq r.slot { q with run := q.run.map (fun u => { u with conds := u.conds ++ [⟨stMEM, 0⟩] }) }
          else s1) s) s

/-- Post the tokens of a committed GENERATE row and end its command where R212 says. -/
def postRow (s : State) (n : Nat) (r : Row) (a : Nat) : State :=
  let q := s.seq r.slot
  match q.run with
  | none => s
  | some u =>
    if u.opcode = 0x41 then
      -- APPEND ends once C reaches T − 1 (R211)
      if q.c + 1 = q.t then endRun s r.slot stDONE (some (BitVec.ofNat 64 (fieldAt u.raw 20 4))) 0 .inStep else s
    else
      let toks := r.toks.take a
      let base := fieldAt u.raw 24 8
      let s1 := writeSpace s n q.ctx (fieldAt u.raw 32 1) (base + 8 + 4 * u.posted)
        ((toks.map (fun t => leBytes 4 t)).foldr (· ++ ·) []) false
      let u1 := { u with posted := u.posted + toks.length }
      let s2 := s1.setSeq r.slot { s1.seq r.slot with run := some u1 }
      let stop := toks.any (fun t => q.stops.contains t)
      if u1.aborted then endRun s2 r.slot stABORTED none 4 .inStep
      else if stop then endRun s2 r.slot stDONE none 2 .inStep
      else if fieldAt u.raw 20 4 ≤ u1.posted then endRun s2 r.slot stDONE none 1 .inStep
      else if q.maxTokens ≤ q.t then endRun s2 r.slot stDONE none 3 .inStep
      else if u1.conds.isEmpty then writeProgress s2 r.slot u1 0 0
      else endRun s2 r.slot stDONE none 4 .inStep

/-- Commit a step whose last launch completed with DONE and whose sampling rows are all DONE (R251). -/
def commitStep (s : State) (n : Nat) : State :=
  let x := s.seqSec n
  match x.step with
  | none => s
  | some p =>
    -- 1, 2: cap and record
    let out (s : State) (r : Row) : Bool :=
      let q := s.seq r.slot
      -- a row whose ABORT came first, or whose context was reset, commits nothing (R228, R255); a draft row has no run
      (q.run.map (fun u => u.aborted || !u.conds.isEmpty)).getD false ||
        (q.run.isNone && q.reservedBy.isNone)
    let rec_ : Commit :=
      { step := x.commit.step + 1, flash := s.flash.count, tick := s.flash.tick, cls := p.cls, tag := p.tag,
        rows := p.rows.map (fun r =>
          let q := s.seq r.slot
          let a := capRow q r
          if out s r then ⟨r.gen ++ BitVec.ofNat 16 r.slot, 1, 0, r.drafts.length, q.c⟩
          else ⟨r.gen ++ BitVec.ofNat 16 r.slot, 0, a, r.drafts.length, q.c + a⟩) }
    let dead := p.rows.filter (out s)
    let live := p.rows.filter (fun r => !(out s r))
    let s1 := s.setSeqSec n { x with commit := rec_, commitOld := if x.commit.cls = p.cls then x.commitOld else x.commit }
    let s2 := live.foldl (fun s r =>
      let q := s.seq r.slot
      let a := capRow q r
      if r.kind = 0 then s.setSeq r.slot { q with c := q.c + a, text := q.text.filter (fun e => q.c + a ≤ e.1) }
      else
        let last := r.toks.getD (a - 1) 0
        s.setSeq r.slot { q with c := q.c + a, t := q.t + a, pendingTok := last,
                                 text := tput 0 (q.text.filter (fun e => q.c + a ≤ e.1)) (q.t + a - 1) last }) s1
    -- 3: copy
    let s3 := live.foldl (fun s r => copyProv s n r ((s.seq r.slot).c - capRow (s.seq r.slot) r) (capRow (s.seq r.slot) r)) s2
    -- 5 (blocks): FILL and LAST_USE; blocks given and not reached return
    let use (s : State) (r : Row) : State :=
      let q := s.seq r.slot
      let b := kvB s n
      let s := r.given.foldl (fun s g =>
        let q := s.seq r.slot
        if q.c ≤ g.1 * b && !g.2.2 then
          dropRef (s.setSeq r.slot { q with table := tput none q.table g.1 none }) n g.2.1 else s) s
      let y := s.seqSec n
      s.setSeqSec n { y with blk := (s.seq r.slot).table.foldl (fun t e => match e.2 with
        | none => t
        | some d => tmod {} t d (fun bl => { bl with lastUse := s.flash.count.setWidth 32,
                                                     fill := max bl.fill (min b (q.c - e.1 * b)) })) y.blk }
    let s4 := live.foldl use s3
    -- aborted rows: their new blocks return as well
    let s5 := dead.foldl (fun s r => r.given.foldl (fun s g =>
      if g.2.2 then s else
        let q := s.seq r.slot
        dropRef (s.setSeq r.slot { q with table := tput none q.table g.1 none }) n g.2.1) s) s4
    let cnt (s : State) : State :=
      let toks := (live.filter (fun r => r.kind == 1 || r.kind == 2)).map (fun r => capRow (s1.seq r.slot) r)
      let pre := (live.filter (fun r => r.kind == 0)).map (fun r => r.len)
      let s := seqCount (seqCount s n 1 1) n 2 p.rows.length
      let s := seqCount (seqCount s n 3 (toks.foldl (· + ·) 0)) n 4 (pre.foldl (· + ·) 0)
      live.foldl (fun s r => if r.kind = 0 then s else
        bump s (tlmWord (s.ctx (s.seq r.slot).ctx).slot 21) (capRow (s1.seq r.slot) r)) s
    let s6 := cnt s5
    -- 4: post; 5: release
    let s7 := s6.setSeqSec n { s6.seqSec n with step := none, bufs := [], lastCls := p.cls }
    let s8 := live.foldl (fun s r =>
      let q := s.seq r.slot
      let a := capRow (s1.seq r.slot) r
      -- stash of extra heads (R238) and the drafts of a main sequence that a draft row feeds (R240)
      let s := s.setSeq r.slot { q with stash := r.heads.zipIdx.map (fun h => (q.t + h.2, h.1)),
                                         drafts := if r.kind = 2 then [] else q.drafts.filter (fun d => q.t ≤ d.1) }
      let s := match q.reservedBy with
        | some m => if r.forced then s else
            let y := s.seq m
            s.setSeq m { y with drafts := y.drafts.filter (fun d => d.1 != q.t - 1) ++ [(q.t - 1, q.pendingTok)] }
        | none => if q.run.isSome && r.kind != 0 then resetDraft s r.slot else s
      leaveStep (postRow s n r a) r.slot) s7
    dead.foldl (fun s r =>
      let q := s.seq r.slot
      let ab := (q.run.map (·.aborted)).getD false
      let s := endRun s r.slot (if ab then stABORTED else stDONE) none 4 (if q.st = .closing then .closing else .inStep)
      leaveStep s r.slot) s8

/-- A launch of a Sector's step has ended (R218, R223): the next launch waits for cores, or the step commits, or it
fails. A sampling row that is not DONE fails it with SQ_NO_SAMPLE, a row without a candidate with SQ_LOGITS (R243,
R247). -/
def stepLaunchDone (s : State) (n : Nat) (conds : List Cond) : State :=
  let x := s.seqSec n
  match x.step with
  | none => s
  | some p =>
    match chooseCond ((match p.failed with | some w => [w] | none => []) ++ conds) with
    | some w => failStep s n w
    | none =>
      if p.launch + 1 < (tget [] x.program p.cls).length then
        s.setSeqSec n { x with step := some { p with launch := p.launch + 1, running := false } }
      else if p.rows.any (·.noLogits) then failStep s n ⟨stINVALID, invalidDetail 0x08 2⟩ (some 0x08)
      else if p.rows.any (fun r => r.kind != 0 && !r.done) then failStep s n ⟨stINVALID, invalidDetail 0x09 2⟩ (some 0x09)
      else commitStep s n

/-- End a Sector's running step from outside (R228): a step whose launch runs is marked and ends when its group has
ended; one between launches fails at once. -/
def stopStep (s : State) (n : Nat) (w : Cond) : State :=
  let x := s.seqSec n
  match x.step with
  | none => s
  | some p =>
    if p.running then s.setSeqSec n { x with step := some { p with failed := some (p.failed.getD w) } }
    else failStep s n w

/-- A reset of a context meets its sequences (R228, R238, R258): queued and running commands complete with
CONTEXT_RESET, a row in a running step is discarded at the commit, stashes go, slots stay open. -/
def seqCtxReset (s : State) (c : Nat) : State :=
  s.seqs.foldl (fun s p =>
    let x := s.seq p.1
    if x.st = .free || x.ctx != c then s
    else
      let s1 := x.queue.foldl (fun s q => completeSeq s q.1 q.2 stCTXRESET 0) (s.setSeq p.1 { x with queue := [], stash := [] })
      let y := s1.seq p.1
      if y.st = .inStep || y.st = .closing then
        s1.setSeq p.1 { y with run := y.run.map (fun u => { u with conds := u.conds ++ [⟨stCTXRESET, 0⟩] }) }
      else endRun s1 p.1 stCTXRESET (some 0) 4 .idle) s

end Sys2Proof.Machine
end

