-- ==== Sys2Proof/Machine/Cores.lean ====
section
/-!
DEFINITION. Groups of cores: the stop of a group (R154), traps (Table 5-11), the end of a command's group (R122), the
access of a kernel to its memory spaces (R124 to R127), and the check of a control instruction before it runs.
-/
namespace Sys2Proof.Machine

/-! ### Memory spaces of a kernel (Table 5-1) -/

/-- Keys of core-local memory, and of a context's Lantern space. -/
def clmKey (core a : Nat) : Nat := core * 2 ^ 19 + a
def lsKey (ctx a : Nat) : Nat := ctx * 2 ^ 30 + a

/-- Every extent of a byte range is mapped in the generation of a tag; no extent of it waits for a channel (R73, R101, R112). -/
def rangeMapped (s : State) (n a len : Nat) (tag : Option Nat := none) : Bool :=
  len == 0 || (List.range ((a + len - 1) / 2 ^ 26 + 1 - a / 2 ^ 26)).all (fun i =>
    (extentIn s n tag (a / 2 ^ 26 + i)).isSome)
def rangeReady (s : State) (n a len : Nat) : Bool :=
  len == 0 || (s.gen n).waiting.all (fun e => decide (e < a / 2 ^ 26) || decide ((a + len - 1) / 2 ^ 26 < e))

/-- A page of a context's Lantern list may be accessed: it is in the list and was not dropped (R125). -/
def pageOk (x : Ctx) (p : Nat) : Bool := ((x.pages.getD p none)).isSome

/-- The trap an access to a byte range raises, if any (R125, R126). SPACE 0 ranges are checked with the descriptor. -/
def accessTrap (s : State) (g : Group) (space a len : Nat) : Option Nat :=
  if space = 1 then
    if (List.range ((a + len - 1) / 2 ^ 20 + 1 - a / 2 ^ 20)).all (fun i => pageOk (s.ctx g.ctx) (a / 2 ^ 20 + i))
    then none else some 0x07
  else if space = 2 then
    if a + len ≤ 2 ^ 39 && rangeMapped s g.sector a len (some g.tag) then none else some 0x08
  else none

/-- Read a range of CLM, LS or SM as the group sees it. -/
def spaceRead (s : State) (g : Group) (core space a len : Nat) : List Byte :=
  if space = 0 then cread s.clm (clmKey core a) len
  else if space = 1 then cread s.ls (lsKey g.ctx a) len
  else cread s.sm (smKey g.sector a) len

/-- The check state after a write of bytes under the byte code: they are clean (R352). -/
def byteWritten (t : Tbl Nat) (k len : Nat) : Tbl Nat := t.filter (fun p => !(k ≤ p.1 && p.1 < k + len))

/-- Write a range of CLM, LS or SM. -/
def spaceWrite (s : State) (g : Group) (core space a : Nat) (bs : List Byte) : State :=
  if space = 0 then
    { s with clm := cwrite s.clm (clmKey core a) bs, clmChk := byteWritten s.clmChk (clmKey core a) bs.length }
  else if space = 1 then
    { s with ls := cwrite s.ls (lsKey g.ctx a) bs, lsChk := byteWritten s.lsChk (lsKey g.ctx a) bs.length }
  else smPut s g.sector a bs

/-- The check state of a range, as (key, state) of each byte (CLM, LS) or line (SM) of it that is not clean. -/
def spaceChk (s : State) (g : Group) (core space a len : Nat) : Tbl Nat :=
  if space = 0 then s.clmChk.filter (fun p => clmKey core a ≤ p.1 && p.1 < clmKey core a + len)
  else if space = 1 then s.lsChk.filter (fun p => lsKey g.ctx a ≤ p.1 && p.1 < lsKey g.ctx a + len)
  else s.smChk.filter (fun p => smKey g.sector a < p.1 * 64 + 64 && p.1 * 64 < smKey g.sector a + len)

/-- `n` bytes that the spec leaves unspecified (notes/assumptions/4). -/
def freshBytes (s : State) (n : Nat) : List Byte × State :=
  ((List.range n).map (fun i => (Config.free (s.free + i)).setWidth 8), { s with free := s.free + n })

/-! ### Errors found on a read (R354, R356, R358) -/

/-- KIND, UNIT and DETAIL address of a byte of LS, SM or CLM, and its address as MEM_UE_ADDR has it. The channel-local
offset contains the share placement that R71 leaves unspecified: a free value. -/
def memPlace (s : State) (g : Group) (core space a : Nat) : Nat × Nat × Nat × BitVec 64 :=
  if space = 0 then (4, core, a, BitVec.ofNat 64 a)
  else if space = 1 then
    match ((s.ctx g.ctx).pages.getD (a / 2 ^ 20) none) with
    | some f => if f < 1024 then (3, f / 64, a, BitVec.ofNat 64 (f % 64 * 2 ^ 20 + a % 2 ^ 20))
                else (1, channelOf s g.sector ((16368 * 64 + (f - 1024)) * 2 ^ 20 + a % 2 ^ 20), a / 64 * 64, Config.free s.free)
    | none => (3, 0, a, 0)
  else (1, channelOf s g.sector a, a / 64 * 64, Config.free s.free)

/-- A stand-in for the group of an access that no kernel makes. -/
def plainGroup (n ctx : Nat) : Group := { owner := .step n, ctx := ctx, sector := n, tag := 0, cores := [], codeLen := 0, step := false }

/-- Check a range that is read: corrected lines are recorded; the first uncorrectable or poisoned one gives the condition
that ends the reader (R354, R356, R358). -/
def memCheck (s : State) (g : Group) (core space a len : Nat) : Option Cond × State :=
  (spaceChk s g core space a len).foldl (fun (acc : Option Cond × State) p =>
    let at_ := if space = 0 then p.1 % 2 ^ 19 else if space = 1 then p.1 % 2 ^ 30 else p.1 * 64 % 2 ^ 40
    let pl := memPlace acc.2 g core space at_
    if p.2 = 1 then (acc.1, memCorr acc.2 pl.1 pl.2.1 g.sector pl.2.2.2)
    else
      let cause := if p.2 = 3 then 2 else 1
      let d := BitVec.ofNat 64 (pl.1 * 2 ^ 60 + cause * 2 ^ 56 + pl.2.1 * 2 ^ 46 + pl.2.2.1)
      (some (acc.1.getD ⟨stMEM, d⟩), memUncorr acc.2 pl.1 cause pl.2.1 g.sector pl.2.2.2)) (none, s)

/-! ### The end of a group (R122, R154) -/

/-- The cores of a group are idle again; what a later launch sets (R121) is not kept. -/
def releaseCores (s : State) (g : Group) : State :=
  g.cores.foldl (fun s c =>
    let x := s.core c
    s.setCore c { trapCause := x.trapCause, trapPc := x.trapPc, issued := x.issued }) s

/-- The group has ended: its command completes, or its step goes on (R122, R218). -/
def groupEnd (s : State) (k : Nat) : State :=
  match s.group k with
  | none => s
  | some g =>
    let result := g.cores.foldl (fun r c => r ||| (s.core c).code) 0
    let s1 := (releaseCores s g).setGroup k none
    match g.owner with
    | .cmd q i b =>
      match (s1.ring q).find i b with
      | none => s1
      | some c => completeCmd s1 q { c with conds := c.conds ++ g.conds } stDONE (BitVec.ofNat 64 result)
    | .step n => stepLaunchDone s1 n g.conds

/-- Every tile instruction of the group's cores has completed. -/
def drained (s : State) (g : Group) : Bool := g.cores.all (fun c => (s.core c).q.isEmpty)

/-- End a group whose cores have all exited or stopped and whose tile instructions have completed (R122, R154). -/
def settleGroup (s : State) (k : Nat) : State :=
  match s.group k with
  | none => s
  | some g =>
    if drained s g && (g.stopped || g.cores.all (fun c => (s.core c).run == .exited)) then groupEnd s k else s

/-- What a started instruction of a stopped group was writing in LS or SM is unspecified from then on (R154, step 3):
the rows of TA of a move or an atomic take free values. -/
def scrambleOp (s : State) (g : Group) (o : TileOp) : State :=
  let d := Desc.of o.ta
  if o.started && tCLASS o.word = 2 && tOP o.word != 1 && (d.space = 1 || d.space = 2) then
    d.ranges.foldl (fun s r =>
      if (accessTrap s g d.space r.1 r.2).isSome then s else
      let (bs, s1) := freshBytes s r.2
      spaceWrite s1 g 0 d.space r.1 bs) s
  else s

/-- Stop a group with a terminating condition (R154): issue stops on every core, unstarted tile instructions are
discarded, started ones finish. -/
def stopGroup (s : State) (k : Nat) (w : Cond) : State :=
  match s.group k with
  | none => s
  | some g =>
    let s1 := s.setGroup k (some { g with stopped := true, conds := g.conds ++ [w] })
    if g.stopped then s1
    else
      let s2 := g.cores.foldl (fun s c =>
        let x := s.core c
        let s := x.q.foldl (fun s o => scrambleOp s g o) s
        s.setCore c { s.core c with run := .stopped, q := (x.q.filter (·.started)).map (fun o => { o with dead := true }) }) s1
      settleGroup s2 k

/-- A core traps (R154, R158): its trap registers take the cause, LNT_EVENTS.TRAP is set, the group stops with
INVALID_COMMAND of class 3. -/
def trapCore (s : State) (c : Nat) (cause code cls op pc : Nat) : State :=
  let x := s.core c
  let s1 := s.setCore c { x with
    trapCause := BitVec.ofNat 64 (code * 2 ^ 32 + cls * 2 ^ 20 + op * 2 ^ 12 + cause), trapPc := BitVec.ofNat 32 pc }
  stopGroup (raise s1 (evLNT (c / 12)) 0) x.group ⟨stINVALID, invalidDetail cause 3 0 x.logical⟩

/-! ### Control instructions -/

/-- The core and group of a core that issues: running, in a group that is not stopped. -/
def issuing (s : State) (c : Nat) : Option (Core × Group) :=
  let x := s.core c
  if x.run = .running then
    match s.group x.group with
    | some g => if g.stopped then none else some (x, g)
    | none => none
  else none

/-- Run one control instruction of opcode `op` (R128, R129): nothing on a core that does not issue; FETCH_RANGE past the
code, where no opcode was fetched and the OP the trap shows is a free value; ILLEGAL where a field that must be zero is not; otherwise its effect. -/
def control (s : State) (c op : Nat) (legal : Bool) (f : Core → Group → State) : State :=
  match issuing s c with
  | none => s
  | some (x, g) =>
    if g.codeLen ≤ x.pc then trapCore s.fresh.2 c 0x03 0 0 (s.fresh.1.toNat % 64) x.pc
    else if !legal then trapCore s c 0x01 0 0 op x.pc
    else f x g

/-- Counter 9 of Table 5-14: control instructions retired. -/
def retire (s : State) (c : Nat) : State := bump s (0x201000 + 0x10000 * (c / 12) + 8 * 9) 1

/-- A control instruction that writes register sd and goes on. -/
def writeSd (s : State) (c sd : Nat) (x : Core) (v : BitVec 64) : State :=
  retire (s.setCore c { x.setSreg sd v with pc := x.pc + 4 }) c

/-- Form A: sd ← f sa sb, with [10:0] zero. -/
def formA (s : State) (c op : Nat) (w : BitVec 26) (f : BitVec 64 → BitVec 64 → BitVec 64) : State :=
  control s c op (bits w.toNat 10 0 == 0) (fun x _ => writeSd s c (wSd w) x (f (x.sreg (wSa w)) (x.sreg (wSb w))))

/-- Form I: sd ← f sa. -/
def formI (s : State) (c op : Nat) (w : BitVec 26) (legal : Bool) (f : BitVec 64 → BitVec 64) : State :=
  control s c op legal (fun x _ => writeSd s c (wSd w) x (f (x.sreg (wSa w))))

/-- Form B: a branch on two registers, in [25:21] and [20:16]. -/
def formB (s : State) (c op : Nat) (w : BitVec 26) (f : BitVec 64 → BitVec 64 → Bool) : State :=
  control s c op true (fun x _ =>
    let t := if f (x.sreg (wSd w)) (x.sreg (wSa w)) then branchTarget x.pc 16 (wImm w).toNat else x.pc + 4
    retire (s.setCore c { x with pc := t }) c)

/-- A tile instruction of the core that has not completed reads, or writes, a CLM range (R135). -/
def overlaps (rs : List (Nat × Nat)) (a len : Nat) : Bool :=
  rs.any (fun r => decide (r.1 < a + len) && decide (a < r.1 + r.2))

/-- The CLM ranges of an accumulator: storage with every ladder level (R135), as an ACZ among the earlier tile
instructions `pre` that have not completed will bind it, or as it is bound. -/
def accRange (x : Core) (pre : List TileOp) (i : Nat) : List (Nat × Nat) :=
  match pre.reverse.find? (fun o => tCLASS o.word == 0 && tOP o.word == 0 && tACC o.word == i) with
  | some o =>
    let d := Desc.of o.ta
    [(d.base, (tImm o.word % 16 + 1) * (d.rows * d.rowStride))]
  | none =>
    match tget none x.acc i with
    | some a => [(a.base, a.depth * (a.rows * a.stride))]
    | none => []

/-- CLM ranges a tile instruction reads and writes, after the earlier ones `pre`. -/
def clmRanges (d : Desc) : List (Nat × Nat) := if d.space = 0 then d.ranges else []

def opReads (x : Core) (pre : List TileOp) (o : TileOp) : List (Nat × Nat) :=
  let a := clmRanges (Desc.of o.ta)
  let b := clmRanges (Desc.of o.tb)
  let k := clmRanges (Desc.of o.tc)
  match tCLASS o.word, tOP o.word with
  | 0, 1 => a ++ b ++ accRange x pre (tACC o.word)
  | 0, 2 => a ++ accRange x pre (tACC o.word)
  | 0, 4 => accRange x pre (tACC o.word)
  | 0, _ => []
  | 1, 3 => a ++ b ++ k
  | 1, op => if tileUse 1 op |>.any (·.tc) then (if op = 15 then b else b ++ k) else b
  | 2, 0 => b
  | 4, 2 => b
  | 4, 3 => a
  | _, _ => []

def opWrites (x : Core) (pre : List TileOp) (o : TileOp) : List (Nat × Nat) :=
  let a := clmRanges (Desc.of o.ta)
  let b := clmRanges (Desc.of o.tb)
  let k := clmRanges (Desc.of o.tc)
  match tCLASS o.word, tOP o.word with
  | 0, 1 => accRange x pre (tACC o.word)
  | 0, 2 => accRange x pre (tACC o.word)
  | 0, 4 => a
  | 0, _ => []
  | 1, 15 => a ++ k
  | 1, _ => a
  | 2, 0 => a
  | 2, 1 => []
  | 2, _ => b
  | 3, _ => []
  | 4, 2 => []
  | 4, 3 => b
  | _, _ => a

/-- Each uncompleted tile instruction of a core with those before it. -/
def withPrefix : List TileOp → List TileOp → List (List TileOp × TileOp)
  | _, [] => []
  | pre, o :: r => (pre, o) :: withPrefix (pre ++ [o]) r

/-- A scalar load waits for earlier overlapping tile writers, a scalar store for readers too (R135). -/
def clmBusy (x : Core) (a len : Nat) (store : Bool) : Bool :=
  (withPrefix [] x.q).any (fun p => overlaps (opWrites x p.1 p.2) a len || (store && overlaps (opReads x p.1 p.2) a len))

/-- A scalar access to CLM at sa + imm: CLM_RANGE unless aligned and below 0x8_0000 (R130); it waits while a tile
instruction holds the range. -/
def clmAccess (s : State) (c op : Nat) (w : BitVec 26) (len : Nat) (store : Bool)
    (f : Core → Nat → State) : State :=
  control s c op true (fun x _ =>
    let a := (x.sreg (wSa w) + immS w).toNat
    if a % len != 0 || 0x80000 < a + len then trapCore s c 0x02 0 0 op x.pc
    else if clmBusy x a len store then s
    else f x a)

/-- The check of a scalar read of CLM: corrected bytes are recorded; an uncorrectable one stops the group (R354, R356, Table 12-2), and
the first component says so. -/
def clmFault (s : State) (c a len : Nat) : Bool × State :=
  let x := s.core c
  match s.group x.group with
  | none => (false, s)
  | some g =>
    match memCheck s g c 0 a len with
    | (some w, s1) => (true, stopGroup s1 x.group w)
    | (none, s1) => (false, s1)

/-- A scalar load of `len` bytes, zero-extended. An uncorrectable CLM line ends the command (R356). -/
def loadClm (s : State) (c op : Nat) (w : BitVec 26) (len : Nat) : State :=
  clmAccess s c op w len false (fun x a =>
    let q := clmFault s c a len
    if q.1 then q.2 else writeSd q.2 c (wSd w) x (BitVec.ofNat 64 (leNat (cread s.clm (clmKey c a) len))))

/-- A scalar store of the low `len` bytes of the register in [25:21]. -/
def storeClm (s : State) (c op : Nat) (w : BitVec 26) (len : Nat) : State :=
  clmAccess s c op w len true (fun x a =>
    let s1 := { s with clm := cwrite s.clm (clmKey c a) (leBytes len (x.sreg (wSd w)).toNat)
                       clmChk := byteWritten s.clmChk (clmKey c a) len }
    retire (s1.setCore c { x with pc := x.pc + 4 }) c)

/-- The unit of a tile word: 0 matrix, 1 vector, 2 move, 3 synchronisation, 4 sequence. -/
def TileOp.unit (o : TileOp) : Nat := tCLASS o.word

/-- Pending count of a TWAIT unit (Table 5-3); none for a number that names no unit. -/
def pendingOf (x : Core) (u : Nat) : Option Nat :=
  if u ≤ 4 then some (x.q.filter (fun o => o.unit == u)).length
  else if 16 ≤ u && u ≤ 31 then some (x.q.filter (fun o => o.unit == 2 && tSTREAM o.word == u - 16)).length
  else none

/-- Special registers (Table 5-4); none for an index not in it. CYCLES is a count of cycles: a free value. -/
def sprValue (s : State) (c i : Nat) (x : Core) (g : Group) : Option (BitVec 64) :=
  let n (v : Nat) : Option (BitVec 64) := some (BitVec.ofNat 64 v)
  let lans := (g.cores.map (· / 12)).eraseDups
  let p (u : Nat) : Nat := (pendingOf x u).getD 0 % 256
  match i with
  | 0 => n x.logical
  | 1 => n g.cores.length
  | 2 => n (lans.findIdx (· == c / 12))
  | 3 => some (Config.free s.free)
  | 4 => some s.now
  | 5 => n 0x7F000
  | 6 => n g.ctx
  | 7 => n g.sector
  | 8 => n (if g.step then g.batch else 0)
  | 9 => n (p 0 + p 1 * 2 ^ 8 + p 2 * 2 ^ 16 + p 3 * 2 ^ 24 + p 4 * 2 ^ 32)
  | _ => none

end Sys2Proof.Machine
end

