-- ==== Sys2Proof/Machine/XlateOps.lean ====
section
/-!
DEFINITION. Operations of address translation (R299 to R316): TLB lookups, ATS requests, waits of whole tiles, page-request
groups and the fault queue. They answer which waiters can start and which fail; Machine/Resets and the families act on it.
-/
namespace Sys2Proof.Machine

/-- Counter i of Table 10-9. -/
def atfCount (s : State) (i n : Nat) : State := bump s (0x30100 + 8 * i) n

/-- An entry serves a unit of a Sector and PASID (R303). -/
def XEntry.serves (e : XEntry) (n : Nat) (pasid : Option Nat) (unit : Nat) : Bool :=
  e.sector == n && e.pasid == pasid && decide (e.base ≤ unit) && decide (unit < e.base + e.units)

/-- The TLB lists of a source, first looked up first (Table 10-3): L1 of the engine, then L2 of its die; the front end's
own alone. Each with its size. -/
def tlbsOf (source : Nat) : List (Nat × Nat) :=
  if source < 64 then [(source, 48), (64 + source / 16, 8192)] else [(68, 48)]

/-- Put an entry at the front of a TLB: it is the most recently used, the least recently used one past the size goes.
The set index of L2 is not given: the model keeps it as one set (notes/assumptions/11). -/
def tlbPut (s : State) (k size : Nat) (e : XEntry) : State :=
  let l := (tget [] s.xl.tlb k).filter (fun x => !(x == e))
  { s with xl := { s.xl with tlb := tput [] s.xl.tlb k ((e :: l).take size) } }

/-- Look one unit up (R303): the entry found, with the counters of Table 10-9 and the order of use. -/
def tlbLookup (s : State) (source n : Nat) (pasid : Option Nat) (unit : Nat) : Option XEntry × State :=
  let find (k : Nat) : Option XEntry := (tget [] s.xl.tlb k).find? (fun e => e.serves n pasid unit)
  match tlbsOf source with
  | [(k1, n1), (k2, n2)] =>
    let s := atfCount s 1 1
    match find k1 with
    | some e => (some e, tlbPut s k1 n1 e)
    | none =>
      let s := atfCount s 2 1
      match find k2 with
      | some e => (some e, tlbPut (tlbPut s k2 n2 e) k1 n1 e)
      | none => (none, atfCount s 3 1)
  | (k, sz) :: _ =>
    match find k with
    | some e => (some e, tlbPut s k sz e)
    | none => (none, s)
  | [] => (none, s)

/-- An entry grants what a request needs: reading, and writing where it writes. -/
def XEntry.grants (e : XEntry) (write : Bool) : Bool := if write then e.w else e.r

/-- An ATS request for a unit is outstanding. -/
def atsOut (s : State) (n : Nat) (pasid : Option Nat) (unit : Nat) : Bool :=
  s.xl.waits.any (fun w => w.sector == n && w.pasid == pasid && w.units.any (fun u => u.unit == unit && u.st == .ats))

/-- Send one ATS Translation Request, unless one for the unit is outstanding (R303, R304). -/
def atsSend (s : State) (n : Nat) (pasid : Option Nat) (unit : Nat) (write : Bool) : State :=
  if atsOut s n pasid unit then s else atfCount (s.emit (.atsRequest n pasid unit write)) 4 1

/-- The 2 MiB units that byte ranges touch, each once (R307). -/
def unitsOf (rs : List (Nat × Nat)) : List Nat :=
  (rs.flatMap (fun r => if r.2 = 0 then [] else
    (List.range ((r.1 + r.2 - 1) / 2 ^ 21 + 1 - r.1 / 2 ^ 21)).map (· + r.1 / 2 ^ 21))).eraseDups

/-- Ask for the translation of a tile's units (R307, R308): true with no wait where ATS is off or all of them are held
with the permission needed; otherwise the tile waits whole. -/
def xlAsk (s : State) (w : XWait) (units : List Nat) : Bool × State :=
  if !s.pci.ats then (true, s)
  else
    let r := units.foldl (fun (acc : List XUnit × State) u =>
      let l := tlbLookup acc.2 w.source w.sector w.pasid u
      match l.1 with
      | some e => (acc.1 ++ [{ unit := u, st := if e.grants w.write then .ok else .stalled }], l.2)
      | none => (acc.1 ++ [{ unit := u, st := .ats }], atsSend l.2 w.sector w.pasid u w.write)) ([], s)
    if r.1.all (fun u => u.st == .ok) then (true, r.2)
    else (false, { r.2 with xl := { r.2.xl with waits := r.2.xl.waits ++ [{ w with units := r.1 }] } })

/-! ### The fault queue (R313 to R316) -/

def fqSize (s : State) : Nat := 2 ^ (regAt s 0x30008 % 32)
def fqShared (s : State) : Nat := (s.xl.fq.filter (fun e => e.slot.isNone)).length
def fqReserved (s : State) (k : Nat) : Nat := (s.xl.fq.filter (fun e => e.slot == some k)).length

/-- The bytes of an entry (Table 10-7). -/
def fqBytes (s : State) (w : XWait) (unit prg : Nat) (last reserved : Bool) (i : BitVec 32) (log : Nat) :
    List Byte × List Byte :=
  let f := (w.pasid.getD 0) % 2 ^ 20 + (if w.pasid.isSome then 2 ^ 20 else 0) + 2 ^ 21 +
    (if w.write then 2 ^ 22 else 0) + (if last then 2 ^ 23 else 0) + (if reserved then 2 ^ 24 else 0)
  (leBytes 8 (unit * 2 ^ 21) ++ leBytes 4 f ++ leBytes 2 prg ++ leBytes 2 w.ctx ++ leBytes 4 w.idx.toNat ++
     leBytes 2 (w.ring + w.stream * 2 ^ 12) ++ leBytes 1 w.sector ++ leBytes 1 w.source,
   leBytes 8 ((if i.toNat / 2 ^ log % 2 = 0 then 2 ^ 63 else 0) + s.flash.count.toNat % 2 ^ 40 * 4096 + s.flash.tick))

/-- Post one fault (R314), where an entry can be had: shared first, else one of the slot's four. True where it was posted;
the page request then goes out. A write of the entry that fails leaves it unposted (R316). -/
def fqPost (s : State) (w : XWait) (unit prg : Nat) (last : Bool) : Bool × State :=
  let size := fqSize s
  let shared := decide (fqShared s < size - 256)
  let resv := !shared && decide (fqReserved s w.slot < 4)
  let i := s.xl.fqTail
  let a := regAt s 0x30000 / 4096 * 4096 + i.toNat % size * 32
  if s.xl.fqErr || !(shared || resv) then (false, raise s evATF 2)
  else if !hostWriteOk s a then (false, { s with xl := { s.xl with fqErr := true } })
  else
    let b := fqBytes s w unit prg last resv i (regAt s 0x30008 % 32)
    let s1 := hostWrite (hostWrite s none a b.1 false) none (a + 24) b.2 true
    let e : FqEntry := { index := i, prg := prg, slot := if shared then none else some w.slot }
    let s2 := raise { s1 with xl := { s1.xl with fq := s1.xl.fq ++ [e], fqTail := i + 1 } } evATF 0
    let s3 := if shared && fqShared s2 = size - 256 then raise s2 evATF 1 else s2
    let s4 := bump (atfCount s3 6 1) (tlmWord w.slot 19) 1
    (true, s4.emit (.pageRequest prg w.pasid unit w.write last))

/-- A slot has a fault that waits for an entry. -/
def slotStalled (s : State) (k : Nat) : Bool :=
  s.xl.waits.any (fun w => w.slot == k && w.units.any (fun u => u.st == .stalled && u.prg.isSome))

/-- Replace one wait. -/
def setWait (s : State) (w : XWait) : State :=
  { s with xl := { s.xl with waits := s.xl.waits.map (fun v => if v.who == w.who then w else v) } }

/-- Post the faults of a wait that have a group and no entry yet. -/
def postUnits (s : State) (w : XWait) : State :=
  let n := w.units.length
  let r := w.units.zipIdx.foldl (fun (acc : List XUnit × State) p =>
    let u := p.1
    match u.st, u.prg with
    | .stalled, some g =>
      let last := !((w.units.drop (p.2 + 1)).any (fun v => v.st == .stalled && v.prg == some g)) && decide (p.2 < n)
      let q := fqPost acc.2 w u.unit g last
      (acc.1 ++ [{ u with st := if q.1 then .pend else .stalled }], q.2)
    | _, _ => (acc.1 ++ [u], acc.2)) ([], s)
  setWait r.2 { w with units := r.1 }

/-- The group that holds a unit under a PASID (R309). -/
def groupOf (s : State) (pasid : Option Nat) (unit : Nat) : Option Nat :=
  (s.xl.groups.find? (fun g => g.2.any (fun p => p.pasid == pasid && p.unit == unit))).map Prod.fst

/-- Form the page-request group of a wait whose units have all been answered (R309): units already pending join the group
that holds them, the others form one new group, while fewer than 512 are outstanding. `alone` puts one unit into a group
of its own (R310). -/
def formGroup (s : State) (w : XWait) : State :=
  let us := w.units.map (fun u =>
    if u.st = .stalled && u.prg.isNone then
      match groupOf s w.pasid u.unit with
      | some g => { u with st := .pend, prg := some g, asked := u.asked + 1 }
      | none => u
    else u)
  let fresh := us.filter (fun u => u.st == .stalled && u.prg.isNone)
  if fresh.isEmpty then setWait s { w with units := us }
  else if 512 ≤ s.xl.groups.length then setWait s { w with units := us }
  else
    match (List.range 512).find? (fun i => !(tkeys s.xl.groups).contains i) with
    | none => s
    | some g =>
      let again := fresh.any (fun u => 0 < u.asked)
      let pick (u : XUnit) : Bool := u.st == .stalled && u.prg.isNone && (!again || (fresh.head?.map (·.unit)) == some u.unit)
      let us1 := us.map (fun u => if pick u then { u with prg := some g, asked := u.asked + 1 } else u)
      let ps := (us.filter pick).map (fun u => (⟨w.sector, w.pasid, u.unit⟩ : PUnit))
      let s1 := { s with xl := { s.xl with groups := tput [] s.xl.groups g ps } }
      let w1 := { w with units := us1 }
      postUnits (setWait (atfCount s1 7 1) w1) w1

/-- Why a wait must fail now, if it must: four requests without a usable translation (5), or no page requests can be made
(6) (R301, R310). -/
def waitFails (s : State) (w : XWait) : Option (Nat × Nat) :=
  let bad := w.units.filter (fun u => u.st == .stalled && u.prg.isNone)
  match bad.find? (fun u => 4 ≤ u.asked) with
  | some u => some (u.unit, 5)
  | none =>
    match bad with
    | [] => none
    | u :: _ => if !s.pci.pri || s.xl.priStopped || !s.xl.fqOn then some (u.unit, 6) else none

/-- What a pass over the waits found: tiles whose units all translate, and tiles that fail, with unit and reason. -/
structure XPass where
  ready : List XWait
  failed : List (XWait × Nat × Nat)

/-- One pass over the waits, in order: make the page requests that are due, take off the waits that are over. -/
def xlPump (s : State) : XPass × State :=
  s.xl.waits.foldl (fun (acc : XPass × State) w0 =>
    let s := acc.2
    match s.xl.waits.find? (fun v => v.who == w0.who) with
    | none => acc
    | some w =>
      let drop (s : State) : State := { s with xl := { s.xl with waits := s.xl.waits.filter (fun v => !(v.who == w.who)) } }
      if w.units.any (fun u => u.st == .ats) then acc
      else if w.units.all (fun u => u.st == .ok || u.st == .u) then
        (⟨acc.1.ready ++ [w], acc.1.failed⟩, drop s)
      else
        match waitFails s w with
        | some f => (⟨acc.1.ready, acc.1.failed ++ [(w, f.1, f.2)]⟩, drop s)
        | none =>
          let later := slotStalled s w.slot && !(w.units.any (fun u => u.st == .stalled && u.prg.isSome))
          if w.units.any (fun u => u.st == .stalled && u.prg.isSome) then (acc.1, postUnits s w)
          else if later then acc
          else (acc.1, formGroup s w)) (⟨[], []⟩, s)

/-- Free the fault-queue entries that are no longer in use: HEAD is past them and their group is answered (R314). -/
def fqFree (s : State) : State :=
  { s with xl := { s.xl with fq := s.xl.fq.filter (fun e =>
      !(e.answered && decide (0 < (s.xl.fqHead - e.index).toNat) && decide ((s.xl.fqHead - e.index).toNat ≤ 2 ^ 31))) } }

/-- Cache a granted range as entries of the largest unit that fits (R302), for a lookup source. -/
def xlCache (s : State) (source n : Nat) (pasid : Option Nat) (unit log : Nat) (r w : Bool) : State :=
  let size := if log < 26 then 1 else if log < 30 then 32 else 512
  let e : XEntry := { sector := n, pasid := pasid, base := unit / size * size, units := size, r := r, w := w }
  (tlbsOf source).foldl (fun s k => tlbPut s k.1 k.2 e) s

/-- Answer the ATS request of a unit in every wait that holds it; the second part lists waits that fail with SMALL_XLATE
(reason 3). -/
def xlAnswer (s : State) (n : Nat) (pasid : Option Nat) (unit : Nat) (ans : AtsAnswer) : List (XWait × Nat × Nat) × State :=
  s.xl.waits.foldl (fun (acc : List (XWait × Nat × Nat) × State) w =>
    if w.sector = n && w.pasid == pasid && w.units.any (fun u => u.unit == unit && u.st == .ats) then
      let upd (st : UnitSt) : XWait := { w with units := w.units.map (fun u =>
        if u.unit = unit && u.st = .ats then { u with st := st, prg := none } else u) }
      match ans with
      | .denied => (acc.1, setWait acc.2 (upd .stalled))
      | .range log r wr u =>
        if u then (acc.1, setWait acc.2 (upd .u))
        else if log < 21 then
          let s1 := { acc.2 with xl := { acc.2.xl with waits := acc.2.xl.waits.filter (fun v => !(v.who == w.who)) } }
          (acc.1 ++ [(w, unit, 3)], raise s1 evATF 4)
        else
          let s1 := xlCache acc.2 w.source n pasid unit log r wr
          (acc.1, setWait s1 (upd (if if w.write then wr else r then .ok else .stalled)))
    else acc) ([], s)

/-- DETAIL of XLATE_FAILED (R311): address of the unit, reason. -/
def xlateDetail (unit reason : Nat) : BitVec 64 := BitVec.ofNat 64 (unit * 2 ^ 21 + reason)

/-- Take the waits of a context off (R318): their groups stay pending. -/
def xlDropCtx (s : State) (c : Nat) : State :=
  { s with xl := { s.xl with waits := s.xl.waits.filter (fun w => !(w.ctx == c)) } }

/-- Take one waiter's wait off. -/
def xlDrop (s : State) (who : Waiter) : State :=
  { s with xl := { s.xl with waits := s.xl.waits.filter (fun w => !(w.who == who)) } }

end Sys2Proof.Machine
end

