-- ==== Sys2Proof/Machine/ChainOps.lean ====
section
/-!
DEFINITION. Operations of the requester side of Chain (R374 to R379, R384, R385, R389, R396, R398): routes and lanes, the
fields of a mooring, sending a frame, issuing and pumping requests. Encryption, tags and FEC of a link are between its two
ends and not part of the frame as the model has it (notes/assumptions/12).
-/
namespace Sys2Proof.Machine

/-- Port snapshot counter i of Table 13-9. -/
def portCount (s : State) (p i n : Nat) : State := bump s (0x51000 + 0x80 * p + 8 * i) n

/-! ### Routes, lanes and frames -/

/-- Hops to a device through a port; none without an entry. -/
def hopsTo (s : State) (p dev : Nat) : Option Nat :=
  let e := tget (0, 0) s.chn.routes (p * 2 ^ 20 + dev)
  if e.1 = 0 then none else some e.1

/-- The ports of a ring position with a route to a device, the shorter first, P2k on a tie (R385). -/
def routePorts (s : State) (rp dev : Nat) : List Nat :=
  match hopsTo s (2 * rp) dev, hopsTo s (2 * rp + 1) dev with
  | none, none => []
  | some _, none => [2 * rp]
  | none, some _ => [2 * rp + 1]
  | some a, some b => if a ≤ b then [2 * rp, 2 * rp + 1] else [2 * rp + 1, 2 * rp]

/-- The up lanes of a Sector on a port, ascending (R376). -/
def sectorLanes (s : State) (n p : Nat) : List Nat :=
  (List.range 8).filterMap (fun i =>
    let r := s.resAt (resLane (8 * p + i))
    if r.st == .lit && r.sector == n && (s.lane (8 * p + i)).up then some (8 * p + i) else none)

/-- The lane and the path of a request (R376), or the reason of PEER_UNREACHABLE (R398). -/
def chPath (s : State) (n rp dev addr : Nat) : Except Nat (Nat × Nat) :=
  match routePorts s rp dev with
  | [] => .error 1
  | ps =>
    match ps.find? (fun p => !(sectorLanes s n p).isEmpty) with
    | none => .error 2
    | some p =>
      let ls := sectorLanes s n p
      .ok (ls.getD (addr / 4096 % ls.length) 0, p * 256 + ls.length)

/-- Send a frame on a lane: it takes a frame counter and an LSEQ and stays in the retry buffer (R374, R382). A lane that is
down, or held near the end of its counter (R383), sends it later. -/
def laneSend (s : State) (l : Nat) (f : Frame) : State :=
  let x := s.lane l
  let s1 := s.setLane l { x with lseq := x.lseq + 1, unacked := x.unacked ++ [(x.lseq, f)],
                                 fctr := if x.up && !x.held then x.fctr + 1 else x.fctr }
  if x.up && !x.held then s1.emit (.frame l f) else s1

/-- Send a frame that this module originates. -/
def laneOriginate (s : State) (l : Nat) (f : Frame) : State :=
  portCount (portCount (laneSend s l f) (l / 8) 1 1) (l / 8) 2 f.payload.length

/-! ### Requests -/

/-- The frame of a request. -/
def ChReq.frame (s : State) (r : ChReq) : Frame :=
  { type := r.type,
    flags := (if r.final then 1 else 0) + (if r.first then 2 else 0) + (if r.resend then 4 else 0) +
      (if r.reask then 8 else 0),
    dst := r.dst, src := s.chn.id.toNat, mooring := r.lease.remote, stream := r.stream, seq := r.seq,
    lgen := r.lease.gen, addr := r.addr,
    payload := if r.type = 1 then r.payload else if r.type = 5 then [] else leBytes 64 r.len }

/-- PEER_UNREACHABLE with its DETAIL (R398). -/
def unreachable (dst reason m : Nat) : Cond :=
  ⟨stUNREACH, BitVec.ofNat 64 (dst * 2 ^ 44 + reason * 2 ^ 16 + m)⟩

/-- MOORING_ORPHAN with its DETAIL (R398). -/
def orphaned (gen : BitVec 32) (reason m : Nat) : Cond :=
  ⟨stORPHAN, BitVec.ofNat 64 (gen.toNat * 2 ^ 32 + reason * 2 ^ 16 + m)⟩

/-- Replace one request; take one off. -/
def setReq (s : State) (r : ChReq) : State :=
  { s with chn := { s.chn with reqs := s.chn.reqs.map (fun x => if x.id = r.id then r else x) } }
def dropReq (s : State) (id : Nat) : State :=
  { s with chn := { s.chn with reqs := s.chn.reqs.filter (fun x => !(x.id == id)) } }

/-- A request may be sent now (R376, R377): nothing of its mooring is outstanding on another path, and no resend of the
mooring waits for its answer, unless it is a resend itself. -/
def mayPost (s : State) (r : ChReq) (path : Nat) : Bool :=
  s.chn.reqs.all (fun x => x.id == r.id || x.mooring != r.mooring || x.type == 0x14 ||
    ((!x.sent || x.path == path) && (!x.resend || r.resend)))

/-- Give a request its SEQ, where it has none yet: the next of its stream towards its destination (R377). -/
def chNumber (s : State) (r : ChReq) : ChReq × State :=
  if r.type = 3 || r.numbered then (r, s)
  else
    let q := chSeq s r.stream r.dst
    ({ r with seq := q.1, first := q.1 == 0, numbered := true }, q.2)

/-- Send what can be sent, in order; the failures are requests without a route or a lane. A PREFETCH is over once sent. -/
def chPump (s : State) : List (ChReq × Cond) × State :=
  s.chn.reqs.foldl (fun (acc : List (ChReq × Cond) × State) r0 =>
    if r0.sent then acc
    else
      let s := acc.2
      match chPath s r0.sector r0.lease.rp r0.dst r0.addr with
      | .error e =>
        if r0.type = 3 then (acc.1, dropReq s r0.id)
        else (acc.1 ++ [(r0, unreachable r0.dst e r0.mooring)], dropReq s r0.id)
      | .ok (l, path) =>
        if mayPost s r0 path then
          let (r, s) := chNumber s r0
          let s1 := laneOriginate s l (r.frame s)
          let s2 := bump s1 (tlmWord (s.ctx r.ctx).slot 10) r.payload.length
          (acc.1, if r.type = 3 then dropReq s2 r.id
                  else setReq s2 { r with sent := true, lane := l, path := path, edges := 0 })
        else acc) ([], s)

/-- Requests of a waiter that are outstanding. -/
def reqsOf (s : State) (who : Waiter) : List ChReq := s.chn.reqs.filter (fun r => r.who == who)

/-- Withdraw held final writes among requests, and forget them all (R378, R400): a WITHDRAW goes out for each final write
that was sent. -/
def chRemove (s : State) (p : ChReq → Bool) : State :=
  let s1 := s.chn.reqs.foldl (fun s r =>
    if p r && r.final && r.sent then
      laneOriginate s r.lane { (r.frame s) with type := 5, flags := 0, payload := [] }
    else s) s
  { s1 with chn := { s1.chn with reqs := s1.chn.reqs.filter (fun r => !(p r)) } }

end Sys2Proof.Machine
end

