-- ==== Sys2Proof/Machine/TenderOps.lean ====
section
/-!
DEFINITION. Operations of the Tender (14): budgets and credits, classes of work and estimates, requests for leave,
operating points at a Flash edge, ramps by ticks, emergency levels.
-/
namespace Sys2Proof.Machine

/-! ### Registers -/

def tndCtl (s : State) : Nat := regAt s 0x60000 (8 * 2 ^ 32 + 26 * 2 ^ 24 + 22 * 2 ^ 16 + 1)
def grantTimeout (s : State) : Nat := max 1 (bits (tndCtl s) 39 32)
/-- The thresholds of Table 14-5; values outside their range act as the reset value. -/
def macThreshold (s : State) : Nat :=
  let l := bits (tndCtl s) 31 24
  2 ^ (if 20 ≤ l ∧ l ≤ 40 then l else 26)
def byteThreshold (s : State) : Nat :=
  let l := bits (tndCtl s) 23 16
  2 ^ (if 16 ≤ l ∧ l ≤ 40 then l else 22)
/-- The module reserve A, W. -/
def reserveA (s : State) : Nat := bits (regAt s 0x60008 400) 11 0
/-- Per-Sector registers, at an offset within the Sector's 256 bytes. -/
def tndReg (s : State) (n off : Nat) : Nat := if (s.sector n).exists_ then (regNow s (0x61000 + 0x100 * n + off)).toNat else 0
/-- The preferred point of class c (TND_SEC_OPP): 8–15 act as 5; 6 and 7 only in a boost window of a BOOST Sector. -/
def prefOp (s : State) (n c : Nat) : Nat :=
  let v := bits (tndReg s n 0) (4 * c + 3) (4 * c)
  let v := if v < 8 then v else 5
  if s.tnd.boost = 1 && (s.sector n).boost then v else min v 5
/-- Counter i of a Sector's bank, and of the module's. -/
def tndCount (s : State) (n i k : Nat) : State := bump s (0x61080 + 0x100 * n + 8 * i) k
def tndModCount (s : State) (i k : Nat) : State := bump s (0x60400 + 8 * i) k

/-! ### The cap and the budgets (R405, R420, R421) -/

/-- The cap that budgets follow: the ramp's; in payback the lesser of it and 2,200 − E_x / 0.6 s. -/
def tndCap (s : State) : Nat :=
  if s.tnd.boost = 2 then min s.tnd.cap ((2200 - s.tnd.above / 600000).toNat) else s.tnd.cap

/-- The budget of a Sector, W (R405), with its part of the headroom of an open boost window (R420). -/
def tndBudget (s : State) (n : Nat) : Nat :=
  let x := s.sector n
  if !x.exists_ then 0
  else x.share * (tndCap s - reserveA s) / 4096 +
    (if s.tnd.boost = 1 && x.boost then x.share * (2900 - s.tnd.cap) / 4096 else 0)

/-- Four Flashes of budget, µJ. -/
def creditCap (s : State) (budget : Nat) : Nat := 4 * budget * s.flash.est / 1000

/-! ### Work and leave (R410 to R414) -/

/-- The class of a COMPUTE launch, COPY or FILL: TND_SLOT_CLASS of the context's slot, 4–15 acting as 2. -/
def slotClass (s : State) (ctx : Nat) : Nat :=
  let k := (s.ctx ctx).slot
  let v := bits (regAt s (0x60200 + 8 * (k / 16)) 0x2222222222222222) (4 * (k % 16) + 3) (4 * (k % 16))
  if v < 4 then v else 2

/-- The class of a step's launch: prefill where prefill rows hold at least half of the step's tokens, else
TND_SEC_STEPMAP (R410). -/
def stepClass (s : State) (n : Nat) (p : Step) : Nat :=
  let pre : Nat := ((p.rows.filter (·.kind == 0)).map (·.len)).foldl (· + ·) 0
  let all : Nat := (p.rows.map (·.len)).foldl (· + ·) 0
  if all ≤ 2 * pre then 0
  else
    let l := p.launch % 32
    bits (tndReg s n (8 + 8 * (2 * p.cls + p.launch / 32))) (2 * l + 1) (2 * l)

/-- The class of a group's work. -/
def groupClass (s : State) (g : Group) : Nat :=
  match g.owner with
  | .cmd _ _ _ => slotClass s g.ctx
  | .step n => match (s.seqSec n).step with
    | some p => stepClass s n p
    | none => slotClass s g.ctx

/-- The learned energy of a class (R411): MATRIX in nJ per 2^20 multiply-accumulates, HBM and CHAIN in 0.1 µJ per MiB. -/
def learned (s : State) (n c kind : Nat) : Nat :=
  let v := tget (120, 350, 800) (s.tndSec n).learn c
  if kind = 0 then v.1 else if kind = 1 then v.2.1 else v.2.2

/-- The estimate of a request, µJ (R412). -/
def tndEst (s : State) (n c kind amount : Nat) : Nat :=
  amount * learned s n c kind / 2 ^ 20 / (if kind = 0 then 1000 else 10)

/-- Work of a kind and amount asks for leave (Table 14-5). -/
def needsLeave (s : State) (kind amount : Nat) : Bool :=
  decide ((if kind = 0 then macThreshold s else byteThreshold s) ≤ amount)

/-- The estimate an account is asked for: at most four Flashes of budget (R413). -/
def askedOf (s : State) (acct : Nat) (g : Grant) : Nat :=
  if acct = 16 then g.est else min g.est (creditCap s (s.tndSec acct).budget)

/-- A Sector's THAW or restore has not come: its requests are held (R426). -/
def frozenSector (s : State) (n : Nat) : Bool := (s.frzAt n).st == .frozen || (s.frzAt n).st == .restoring

/-- The reserve power left for grants, W (R413). -/
def reserveLeft (s : State) : Nat := reserveA s - (s.tnd.last.map (·.reserveW)).getD 0

/-- The head request of an account can be granted (R407, R413). The reserve serves while its difference is positive. -/
def mayGrant (s : State) (acct : Nat) (g : Grant) : Bool :=
  if acct = 16 then decide (0 < reserveLeft s)
  else
    let t := s.tndSec acct
    decide (0 ≤ t.credit) && decide (0 < t.budget) && decide ((askedOf s acct g : Int) ≤ t.credit) && !frozenSector s acct

/-- Ask for leave (R412, R413): the request joins its account's queue; it is deferred where it cannot be granted at
once. -/
def askLeave (s : State) (acct : Nat) (who : Waiter) (ctx cls kind amount : Nat) : State :=
  let g : Grant := { who := who, ctx := ctx, cls := cls, kind := kind, amount := amount,
                     est := tndEst s acct cls kind amount }
  let q := tget [] s.tnd.queues acct
  if q.any (fun x => x.who == who) then s
  else
    let s1 := { s with tnd := { s.tnd with queues := tput [] s.tnd.queues acct (q ++ [g]) } }
    if acct != 16 && !(q.isEmpty && mayGrant s acct g) then tndCount s1 acct 8 1 else s1

/-- Take requests out of every queue (R414): nothing is charged. -/
def dropLeave (s : State) (p : Grant → Bool) : State :=
  { s with tnd := { s.tnd with queues := (s.tnd.queues.map (fun q => (q.1, q.2.filter (fun g => !(p g))))).filter (fun q => !q.2.isEmpty) } }

/-- Charge an amount of energy to a class of a Sector, and to a context's telemetry (R404). -/
def charge (s : State) (n cls ctx energy : Nat) : State :=
  let s1 := tndCount s n (1 + cls) energy
  if (s1.ctx ctx).st = .inactive then s1 else bump s1 (tlmWord (s1.ctx ctx).slot 20) energy

/-! ### Ramps (R417) -/

/-- Start a ramp from the cap in force. The deadline is the first edge at or after the ramp's end, plus 10 Flashes: the ramp
takes |distance| / (SLOPE × P / 64) moves of 64 ticks, from the next 64th tick. -/
def powerStep (s : State) (op : BitVec 64) : State :=
  let target := bits op.toNat 15 0
  let slope := if bits op.toNat 23 16 = 0 then 250 else bits op.toNat 23 16
  let from_ := match s.tnd.ramp with | some r => r.cap | none => s.tnd.cap * 65536
  let dist := if target * 65536 ≤ from_ then from_ - target * 65536 else target * 65536 - from_
  let per := max 1 (slope * s.flash.est * 65536 / 64000000)
  let moves := (dist + per - 1) / per
  let ticks := if moves = 0 then s.flash.tick else s.flash.tick / 64 * 64 + 64 * moves
  let flashes := (ticks + 4095) / 4096
  { s with tnd := { s.tnd with
      target := target, slope := slope, judged := false, under := false,
      ramp := if moves = 0 then none else some { target := target, slope := slope, cap := from_ },
      deadline := s.flash.count + BitVec.ofNat 64 (flashes + 10) } }

/-- One move of the ramp, at a 64th tick. -/
def rampMove (s : State) : State :=
  match s.tnd.ramp with
  | none => s
  | some r =>
    let per := max 1 (r.slope * s.flash.est * 65536 / 64000000)
    let goal := r.target * 65536
    let c := if goal ≤ r.cap then max goal (r.cap - per) else min goal (r.cap + per)
    { s with tnd := { s.tnd with cap := c / 65536, ramp := if c = goal then none else some { r with cap := c } } }

/-! ### Emergency levels (R423, R424) -/

/-- Set the emergency level: event and Logbook entry at each change. -/
def setEmerg (s : State) (level cause : Nat) : State :=
  let e := s.tnd.emerg
  if level = e.level then { s with tnd := { s.tnd with emerg := { e with cause := cause } } }
  else
    let s1 := { s with tnd := { s.tnd with emerg := { e with level := level, cause := if level = 0 then 0 else cause,
                                                             clear := 0, down := if level = 0 then 0 else e.down } } }
    postLog (raise s1 evTND 0) 0x34 0xFF false (level + cause * 16)

/-- The tracking tolerance, W (Table 14-1). -/
def tolerance (s : State) : Nat := max 20 (s.tnd.target * 2 / 100)

/-- The mean of a list; 0 for none. -/
def mean (l : List Nat) : Nat := if l.isEmpty then 0 else l.foldl (· + ·) 0 / l.length

/-- The junction sites that are not marked invalid (R478), as last read, in quarters of a degree. -/
def validSites (s : State) : List Int :=
  let l := (s.tnd.last.map (·.sites)).getD []
  ((List.range l.length).filter (fun i => !s.kpr.invalid.contains i)).map (fun i => l.getD i 0)

/-- The causes that the last readings show. -/
def causesNow (s : State) : Nat :=
  match s.tnd.last with
  | none => 0
  | some r =>
    let limit : List Nat := [75, 650, 650, 650, 650, 400, 320, 250]
    let isOver (i : Nat) : Bool := decide (10 * limit.getD i 0 < (r.rails.getD i (0, 0, 0)).1)
    let rail := (List.range 7).any (fun i => isOver (i + 1))
    let hot := if bit s.tnd.emerg.cause 3 then 400 else 420
    let above := decide (s.tnd.target + tolerance s < mean s.tnd.avg) && s.tnd.ramp.isNone && s.tnd.judged && s.tnd.boost == 0
    let res := decide (reserveA s + tolerance s < mean s.tnd.resAvg) && s.tnd.resAvg.length == 10
    (if rail then 1 else 0) + (if isOver 0 then 2 else 0) + (if above || res then 4 else 0) +
      (if (validSites s).any (fun x => decide ((hot : Int) ≤ x)) then 8 else 0)

/-- Apply level E1 for a cause, or add the cause to the level in force. -/
def applyE1 (s : State) (cause : Nat) : State :=
  let e := s.tnd.emerg
  setEmerg s (max 1 e.level) (e.cause ||| cause)

/-- Close the boost window (R421): payback starts; OPEN clears. -/
def closeBoost (s : State) : State :=
  if s.tnd.boost = 1 then
    let s1 := { s with tnd := { s.tnd with boost := 2, secs := s.tnd.secs.map (fun p => (p.1, { p.2 with op := p.2.op.map (fun o => min o 5) })) },
                       regs := tmod (BitVec.ofNat 64 (150 * 256)) s.regs 0x60030 (fun v => setBits v 0 0 0) }
    raise s1 evTND 3
  else s

/-! ### The Flash edge (R403, R405 to R411, R418) -/

/-- The need of a Sector at points `op`, from the monitors' prediction. -/
def needAt (r : SectorReading) (op : List Nat) : Nat :=
  (List.range 4).foldl (fun a c => a + r.need.getD (8 * c + op.getD c 0) 0) 0

/-- The class with the largest part of the need that can still be lowered, the first of equals; and the one with the
smallest part among `cs`. -/
def largestPart (r : SectorReading) (op : List Nat) : Option Nat :=
  ((List.range 4).filter (fun c => 0 < op.getD c 0)).foldl (fun b c =>
    match b with
    | none => some c
    | some d => if r.need.getD (8 * d + op.getD d 0) 0 < r.need.getD (8 * c + op.getD c 0) 0 then some c else b) none
def smallestPart (r : SectorReading) (op : List Nat) (cs : List Nat) : Option Nat :=
  cs.foldl (fun b c =>
    match b with
    | none => some c
    | some d => if r.need.getD (8 * c + op.getD c 0) 0 < r.need.getD (8 * d + op.getD d 0) 0 then some c else b) none

/-- R411, step 1, with fuel: lower while the need exceeds the budget. -/
def lowerOps (r : SectorReading) (budget : Nat) : Nat → List Nat → List Nat
  | 0, op => op
  | k + 1, op =>
    if needAt r op ≤ budget then op
    else match largestPart r op with
      | none => op
      | some c => lowerOps r budget k (op.set c (op.getD c 0 - 1))

/-- R411, steps 2 and 3, with fuel: raise lowered classes while the need stays within 0.9 of the budget. -/
def raiseOps (r : SectorReading) (budget : Nat) (pref : List Nat) : Nat → List Nat → List Nat
  | 0, op => op
  | k + 1, op =>
    let cs := (List.range 4).filter (fun c => op.getD c 0 < pref.getD c 0 &&
      decide (10 * needAt r (op.set c (op.getD c 0 + 1)) ≤ 9 * budget))
    match smallestPart r op cs with
    | none => op
    | some c => raiseOps r budget pref k (op.set c (op.getD c 0 + 1))

/-- The operating points of a Sector after an edge (R411). -/
def nextOps (r : SectorReading) (budget : Nat) (pref op : List Nat) : List Nat :=
  if needAt r pref ≤ budget then pref
  else
    let o := (List.range 4).map (fun c => min (op.getD c 5) (pref.getD c 5))
    let o1 := lowerOps r budget 32 o
    if o1 = o then raiseOps r budget pref 32 o else o1

/-- One sixteenth of the way from v to m. -/
def toward (v m : Nat) : Nat := ((v : Int) + ((m : Int) - v) / 16).toNat

/-- A Sector's account at an edge: the credit gains a Flash of budget, capped at four, and pays what ran ungated; the
points and the learned values move (R405, R407, R411). -/
def tndSector (s : State) (n : Nat) : State :=
  let x := s.sector n
  if !x.exists_ then s
  else
    let t := s.tndSec n
    let b := tndBudget s n
    let rd := (s.tnd.last.bind (fun r => r.sectors.find? (fun q => q.sector.val == n)))
    let resident := s.ctxs.any (fun c => c.2.sector == n && (c.2.st == .resident || c.2.st == .resetting))
    let accrues := resident && !frozenSector s n
    let gain : Int := if accrues then (b * s.flash.est / 1000 : Nat) else 0
    let c0 := if accrues then min (t.credit + gain) (creditCap s b : Int) else t.credit
    let ungated := (rd.map (fun r => r.ungated)).getD []
    let spent : Nat := ungated.foldl (· + ·) 0
    let settle : Int := match rd with | some r => r.settle | none => 0
    let credit := if accrues then c0 - (spent : Int) + settle else t.credit
    let pref := (List.range 4).map (prefOp s n)
    let op := match rd with
      | some r => nextOps r b pref t.op
      | none => if b = 0 then t.op.map (· - 1) else (List.range 4).map (fun c => min (t.op.getD c 5) (pref.getD c 5))
    let learn := match rd with
      | none => t.learn
      | some r => r.learn.foldl (fun l q =>
          tmod (120, 350, 800) l q.1 (fun v =>
            if q.2.1 = 0 then (toward v.1 q.2.2, v.2) else if q.2.1 = 1 then (v.1, toward v.2.1 q.2.2, v.2.2)
            else (v.1, v.2.1, toward v.2.2 q.2.2))) t.learn
    let idle := bits (tndReg s n 0) 23 20
    let s1 := s.setTnd n { t with credit := credit, budget := b, op := op, learn := learn, idle := idle }
    let s2 := ungated.zipIdx.foldl (fun s p => tndCount s n (1 + p.2) p.1) s1
    let down := (List.range 4).any (fun c => op.getD c 0 < pref.getD c 0)
    let s3 := if down then tndCount s2 n 10 1 else s2
    if 0 < s.tnd.emerg.level then tndCount s3 n 11 1 else s3

/-- Steps below the preferred points, summed over the classes (TND_SEC_STATUS.DOWN). -/
def stepsDown (s : State) (n : Nat) : Nat :=
  (List.range 4).foldl (fun a c => a + (prefOp s n c - (s.tndSec n).op.getD c 0)) 0

/-- The highest point that a LIT Lantern of a die asks for (R409): of the classes whose work its cores run, or the idle
point. -/
def dieAsk (s : State) (d : Nat) : Nat :=
  (List.range 4).foldl (fun a i =>
    let l := 4 * d + i
    let r := s.resAt (resLantern l)
    if r.st != .lit then a
    else
      let gs := ((List.range 12).filterMap (fun k => s.group (s.core (12 * l + k)).group |>.bind (fun g =>
        if g.cores.contains (12 * l + k) then some (groupClass s g) else none)))
      let t := s.tndSec r.sector
      let o := if gs.isEmpty then t.idle else gs.foldl (fun m c => max m (t.op.getD c 0)) 0
      max a (o - s.tnd.emerg.down)) 0

/-- The operating point of a die: the highest asked for (R409), or the one that OP_OVERRIDE gives it (R492). -/
def dieOp (s : State) (d : Nat) : Nat := (tget none s.tnd.override d).getD (dieAsk s d)

/-- The Tender at a Flash edge. -/
def tndEdge (s : State) : State :=
  let t := s.tnd
  let r := t.last
  let w := (r.map (·.inputW)).getD 0
  let rw := (r.map (·.reserveW)).getD 0
  let cal := match r with
    | none => t.cal
    | some q => q.rails.zipIdx.foldl (fun c p =>
        let v := tget 16384 c p.2
        tput 16384 c p.2 (if v ≤ p.1.2.2 then min p.1.2.2 (v + 16) else max p.1.2.2 (v - 16))) t.cal
  let s1 := { s with tnd := { t with
      cal := cal, avg := (w :: t.avg).take 10, resAvg := (rw :: t.resAvg).take 10,
      above := if t.boost = 1 then t.above + ((w : Int) - 2200) * (s.flash.est : Int) / 1000 else t.above,
      used := (List.range 4).foldl (fun u d => if 6 ≤ dieOp s d then tmod 0 u d (· + s.flash.est) else u) t.used,
      edges1024 := t.edges1024 + 1,
      queues := t.queues.map (fun q => (q.1, q.2.map (fun g => { g with edges := g.edges + 1 }))) } }
  let s1 := tndModCount (tndModCount s1 1 (w * s.flash.est / 1000)) 2 (rw * s.flash.est / 1000)
  let s1 := if 0 < t.emerg.level then tndModCount s1 (3 + t.emerg.level) 1 else s1
  let s1 := if t.boost = 1 then tndModCount s1 8 (s.flash.est / 1000) else s1
  let s2 := (List.range 16).foldl tndSector s1
  -- R418: from the deadline on, the average against the target
  let avg := mean s2.tnd.avg
  let under := t.judged && t.ramp.isNone && decide (avg + tolerance s < t.target)
  let least := (match r with
    | none => 0
    | some q => q.reserveW + (q.sectors.map (fun x => needAt x [0, 0, 0, 0])).foldl (· + ·) 0)
  let s3 := { s2 with tnd := { s2.tnd with under := under, floor := decide (t.cap ≤ reserveA s) || decide (t.target < least) } }
  let c := causesNow s3
  let s4 := if c % 8 / 4 = 1 && s3.tnd.emerg.cause % 8 / 4 = 0 then applyE1 s3 4 else s3
  let s5 := { s4 with tnd := { s4.tnd with emerg := { s4.tnd.emerg with
      clear := if c = 0 then s4.tnd.emerg.clear + 1 else 0 } } }
  if 0 < s5.tnd.emerg.level && s5.tnd.boost = 1 then closeBoost s5 else s5

/-- What the Tender does at a 64th tick: the ramp moves, and E1 lowers every Lantern one point (R417, R424). -/
def tndTick (s : State) : State :=
  let s1 := rampMove s
  if 0 < s1.tnd.emerg.level then
    { s1 with tnd := { s1.tnd with emerg := { s1.tnd.emerg with down := min 7 (s1.tnd.emerg.down + 1) } } }
  else s1

end Sys2Proof.Machine
end

