-- ==== Sys2Proof/Machine/Resets.lean ====
section
/-!
DEFINITION. Resets of rungs 1 to 3 (R296, R297, R499 to R503, R508): what a context, engine or Sector reset removes at its
start, when it is complete, what it leaves; the progress watches at an edge (R494, R495). A reset ends with the command
that reports its end; rungs 4 and 5 are in Machine/BootOps.
-/
namespace Sys2Proof.Machine

/-! ### Registers -/

def hngCtl (s : State) : Nat := regAt s 0x90000 (1000 * 2 ^ 48 + 64 * 2 ^ 32 + 16 * 2 ^ 24 + 4 * 2 ^ 16 + 1)
def ctxDefault (s : State) : Nat := max 1 (bits (hngCtl s) 63 48)
def engineWindow (s : State) : Nat := max 1 (bits (hngCtl s) 47 32)
def resetLimit (s : State) : Nat := max 1 (bits (hngCtl s) 31 24)
def autoMax (s : State) : Nat := min 5 (bits (hngCtl s) 18 16)

/-- Counter i of the watches' snapshot bank (HNG_SNAP). -/
def hngCount (s : State) (i n : Nat) : State := bump s (0x90800 + 8 * i) n

/-! ### Entries and records (R503, R508) -/

/-- Write the error record of a reset. -/
def errRecord (s : State) (r : RunReset) (outcome : Nat) : State :=
  let e : ErrRec := {
    seq := s.hng.errSeq, rung := r.rung, startedBy := r.by_, outcome := outcome, cause := r.cause,
    sector := if r.rung < 4 then r.sector else 0xFF, engine := r.engine, ctx := r.ctx, removed := r.removed,
    started := r.start, ended := s.now, logSeq := r.logSeq, dump := r.dump }
  { s with hng := { s.hng with errs := (e :: s.hng.errs).take 65536, errSeq := s.hng.errSeq + 1 } }

/-- Begin a reset's own record: its RESET entry, its count, its place among the running ones. -/
def beginReset (s : State) (r : RunReset) : State :=
  if r.part then { s with resets := s.resets ++ [r] }
  else
    let q := s.logSeq
    let s1 := postLog s 0x80 (if r.rung < 4 then r.sector else 0xFF) (decide (4 ≤ r.rung))
      (r.rung + r.engine * 2 ^ 8 + r.ctx * 2 ^ 16 + r.cause * 2 ^ 32)
    let s2 := if r.rung ≤ 3 then hngCount s1 (2 + r.rung) 1 else s1
    { s2 with resets := s2.resets ++ [{ r with logSeq := q }] }

/-- The running reset of a scope. -/
def runningReset (s : State) (rung target : Nat) : Option RunReset :=
  s.resets.find? (fun r => r.rung == rung && r.target == target)

/-- Change the running reset of a scope. -/
def updReset (s : State) (rung target : Nat) (f : RunReset → RunReset) : State :=
  { s with resets := s.resets.map (fun r => if r.rung = rung && r.target = target then f r else r) }

/-! ### Removing work (R296, Table 18-3) -/

/-- The condition a removed command takes: CONTEXT_RESET, but a command that a watch or a drain deadline ended keeps
PROGRESS_TIMEOUT or GENERATION_RETIRED alone (R496, R114). -/
def removalCond (c : Cmd) : Cond :=
  match c.conds.find? (fun w => w.status == stPROGRESS || w.status == stRETIRED) with
  | some w => w
  | none => ⟨stCTXRESET, 0⟩

/-- A removed SIGNAL abandons its event, where the ring's context owns it (R284, R296). -/
def removeSignal (s : State) (ctx : Nat) (c : Cmd) : State :=
  if c.opcode = 3 && (s.event (c.f 16 2)).owner = ctx then abandonEvent s (c.f 16 2) stCTXRESET else s

/-- The group that runs a command. -/
def groupOfCmd (s : State) (q : Nat) (idx : BitVec 32) (buf : Option Nat) : Option Nat :=
  (s.groups.find? (fun g => match g.2 with
    | some x => x.owner == Owner.cmd q idx buf
    | none => false)).map Prod.fst

/-- A piece of a COPY or FILL moves: its leave and its translation are had. -/
def Piece.moving (p : Piece) : Bool := p.xl == 2

/-- End what a tile instruction or piece waits for: leave, translation, Chain requests. -/
def dropWaits (s : State) (who : Waiter) : State :=
  chRemove (xlDrop (dropLeave s (fun g => g.who == who)) who) (fun r => r.who == who)

/-- Stop a COPY or FILL with a condition: pieces that do not move yet go; it completes once no piece is left. -/
def stopCopy (s : State) (q : Nat) (c : Cmd) (w : Cond) (gone : Piece → Bool) : State :=
  let s1 := c.flight.foldl (fun s p => if gone p then dropWaits s (.piece q c.idx c.buf p.off) else s) s
  let c1 := { c with conds := c.conds ++ [w], next := c.f 40 8, flight := c.flight.filter (fun p => !(gone p)) }
  if c1.flight.isEmpty then completeCmd s1 q c1 stDONE 0
  else s1.setRing q ((s1.ring q).put c1)

/-- Remove one command of a ring of the context (R296, step 2). -/
def removeCmd (s : State) (q : Nat) (c : Cmd) : State :=
  match (s.ring q).find c.idx c.buf with
  | none => s
  | some c =>
    let w := removalCond c
    if c.opcode = 1 && c.st = .started then
      match groupOfCmd s q c.idx c.buf with
      | some g => stopGroup s g w
      | none => completeCmd s q c w.status w.detail
    else if (c.opcode = 0x10 || c.opcode = 0x11) && c.st = .started then
      stopCopy s q c w (fun p => !p.moving)
    else if c.opcode = 2 && 0 < c.left then s
    else completeCmd (removeSignal s (s.ring q).ctx c) q c w.status w.detail

/-- A sequence command that a slot still holds: it ends with its row, or with its slot. -/
def heldBySlot (s : State) (q : Nat) (idx : BitVec 32) : Bool :=
  s.seqs.any (fun p => (match p.2.run with | some u => u.ring == q && u.idx == idx | none => false) ||
    p.2.closer == some (q, idx))

/-- Blocks whose spill or pull is under way go back to where they were (Table 18-3): a spill's block is RESIDENT, a pull's
SPILLED; sequences that waited for a pull are READY and pull again when a batch is formed. -/
def dropBlkMoves (s : State) (n : Nat) (p : Blk → Bool) : State :=
  let x := s.seqSec n
  let hit (b : Blk) : Bool := (b.st == .spilling || b.st == .pulling) && p b
  let ds := (x.blk.filter (fun e => hit e.2)).map Prod.fst
  if ds.isEmpty then s
  else
    let s1 := s.setSeqSec n { x with blk := x.blk.map (fun e => (e.1,
      if hit e.2 then { e.2 with st := if e.2.st = .spilling then .resident else .spilled, begun := false, fb := [] } else e.2)) }
    let s2 := ds.foldl (fun s d => dropWaits s (.blk n d)) s1
    s2.seqs.foldl (fun s e =>
      if e.2.sector = n && e.2.st = .pulling && e.2.table.any (fun t => match t.2 with | some d => ds.contains d | none => false)
      then s.setSeq e.1 { s.seq e.1 with st := .ready } else s) s2

/-- Stop every running group that `p` picks, each with the condition its command takes. -/
def stopGroups (s : State) (p : Group → Bool) : State :=
  s.groups.foldl (fun s g =>
    match s.group g.1 with
    | none => s
    | some x =>
      if p x then
        let w := match x.owner with
          | .cmd q i b => match (s.ring q).find i b with
            | some c => removalCond c
            | none => ⟨stCTXRESET, 0⟩
          | .step n => match (s.seqSec n).step with
            | some t => (t.failed.filter (fun w => w.status == stPROGRESS || w.status == stRETIRED)).getD ⟨stCTXRESET, 0⟩
            | none => ⟨stCTXRESET, 0⟩
        stopGroup s g.1 w
      else s) s

/-- The rings of a context. -/
def ringsOf (s : State) (c : Nat) : List Nat :=
  (s.rings.filter (fun r => r.2.st != .free && r.2.kind != 3 && r.2.ctx == c)).map Prod.fst

/-- The mark of a ring at the start of a reset (R296, step 1), and WAIT_ABANDONED ends. -/
def markRing (r : Ring) : Ring :=
  let m := if r.st = .stopped && r.error = 1 then
      (if (r.tail - r.head).toNat ≤ 2 ^ r.sqLog then r.tail else r.head + BitVec.ofNat 32 (2 ^ r.sqLog))
    else r.tail
  let r1 := { r with mark := some m }
  if r1.st = .stopped && r1.error = 5 then { r1 with st := .enabled, error := 0 } else r1

/-- What a context reset does at once (R296). -/
def ctxResetEffects (s : State) (c : Nat) : State :=
  let s1 := s.setCtx c { s.ctx c with st := .resetting }
  let qs := ringsOf s1 c
  let s2 := qs.foldl (fun s q => s.setRing q (markRing (s.ring q))) s1
  -- a step whose kernels run in this context ends under R223
  let s3 := stopGroups s2 (fun g => g.ctx == c)
  let s4 := (List.range 16).foldl (fun s n =>
    match (s.seqSec n).step with
    | some p => if stepCtx s n p.cls = c && !p.running then failStep s n ⟨stCTXRESET, 0⟩ else s
    | none => s) s3
  let s5 := seqCtxReset s4 c
  let s6 := dropBlkMoves s5 (s5.ctx c).sector (fun b => b.ctx == c)
  let s7 := xlDropCtx (dropLeave s6 (fun g => g.ctx == c)) c
  let s8 := chRemove s7 (fun r => r.ctx == c)
  qs.foldl (fun s q =>
    let r := s.ring q
    let cs := (r.cmds.filter (·.buf.isSome)) ++ (r.cmds.filter (·.buf.isNone))
    cs.foldl (fun s d => if r.kind = 1 && heldBySlot s q d.idx then s else removeCmd s q d) s) s8

/-- The commands a context reset has to remove when it starts. -/
def ctxCommands (s : State) (c : Nat) : Nat :=
  (ringsOf s c).foldl (fun a q => a + (s.ring q).cmds.length + ((s.ring q).tail - (s.ring q).head).toNat) 0

/-- End the wait of a WAITING context (R269): its activation completes with CONTEXT_RESET and it is INACTIVE. -/
def endWait (s : State) (c : Nat) : State :=
  let x := s.ctx c
  let s1 := s.setCtx c {}
  match x.act with
  | none => s1
  | some (q, i) =>
    match (s1.ring q).find i none with
    | none => s1
    | some d => completeCmd s1 q d stCTXRESET 0

/-- Complete a privileged command with DONE. -/
def donePriv (s : State) (p : Nat × BitVec 32) : State :=
  match (s.ring p.1).find p.2 none with
  | none => s
  | some c => completeCmd s p.1 c stDONE 0

/-- Start a context reset, or join the one that runs (R296, R501). -/
def startCtxReset (s : State) (c cause by_ : Nat) (cmd : Option (Nat × BitVec 32) := none) (part : Bool := false) : State :=
  let x := s.ctx c
  match x.st with
  | .inactive => match cmd with | some p => donePriv s p | none => s
  | .waiting =>
    let s1 := endWait s c
    match cmd with | some p => donePriv s1 p | none => s1
  | .resetting =>
    let s1 := updReset s 1 c (fun r => { r with cmds := r.cmds ++ cmd.toList })
    if (match runningReset s 1 c with | some r => r.part | none => false) && !part then hngCount s1 7 1 else s1
  | .resident =>
    let r : RunReset := { rung := 1, target := c, cause := cause, by_ := by_, sector := x.sector, ctx := c, part := part,
                          start := s.now, removed := ctxCommands s c, cmds := cmd.toList }
    ctxResetEffects (beginReset s r) c

/-- Nothing of a context that is being reset is left (R297). -/
def ctxQuiet (s : State) (c : Nat) : Bool :=
  (ringsOf s c).all (fun q =>
    let r := s.ring q
    r.cmds.isEmpty && (r.st == .stopped || r.mark == none || r.mark == some r.head)) &&
  !(s.groups.any (fun g => match g.2 with | some x => x.ctx == c | none => false)) &&
  !(s.chn.reqs.any (fun r => r.ctx == c)) && !(s.xl.waits.any (fun w => w.ctx == c))

/-! ### Engine resets -/

/-- What the reset of Lantern n's engine does at once: groups with a core on it stop; its cores' queues and its tile-DMA
engines' moves are gone. -/
def lanternResetEffects (s : State) (n : Nat) : State :=
  let mine (g : Group) : Bool := g.cores.any (fun c => c / 12 == n)
  let ks := (s.groups.filter (fun g => match g.2 with | some x => mine x | none => false)).map Prod.fst
  let s1 := stopGroups s mine
  let s2 := (List.range 12).foldl (fun s i =>
    let c := 12 * n + i
    let s := (s.core c).q.foldl (fun s o => dropWaits s (.tile c o.num)) s
    s.setCore c { s.core c with q := [] }) s1
  let s3 := ks.foldl settleGroup s2
  s3.rings.foldl (fun s r => r.2.cmds.foldl (fun s c =>
    if c.flight.any (fun p => p.engine / 4 == n) then
      match (s.ring r.1).find c.idx c.buf with
      | none => s
      | some d => stopCopy s r.1 d (removalCond d) (fun p => p.engine / 4 == n || !p.moving)
    else s) s) s3

/-- What the reset of Sector n's sequence engine does at once. -/
def seqResetEffects (s : State) (n : Nat) : State :=
  let s1 := dropBlkMoves s n (fun _ => true)
  match (s1.seqSec n).step with
  | none => s1
  | some p =>
    let w := (p.failed.filter (fun w => w.status == stPROGRESS || w.status == stRETIRED)).getD ⟨stCTXRESET, 0⟩
    if p.running then
      let s2 := stopStep s1 n w
      s2.groups.foldl (fun s g => match s.group g.1 with
        | some x => if x.owner == Owner.step n then stopGroup s g.1 w else s
        | none => s) s2
    else failStep s1 n w

/-- The Sector an engine belongs to (R493). -/
def engineSector (s : State) (e : Nat) : Nat := if e < 16 then (s.resAt (resLantern e)).sector else e - 16

/-- Fail a freeze or a restore that a reset meets (Table 16-7, FZ_RESET): from QUIESCING or FROZEN the Sector runs again
after the reset; a restore is undone. The header of an image that is being written says so. -/
def freezeReset (s : State) (n : Nat) : State :=
  let f := s.frzAt n
  let head (st : Nat) : State :=
    if (extentSet (s.sector n) f.first).isNone then s else smPut s n (f.first * 2 ^ 26 + 10) (leBytes 1 st ++ leBytes 1 5)
  match f.st with
  | .running => s
  | .quiescing => (head 2).setFrz n { f with st := .running, image := 2, error := 5 }
  | .frozen =>
    if f.writing then (head 2).setFrz n { f with st := .running, writing := false, image := 2, error := 5 }
    else s.setFrz n { f with st := .running }
  | .restoring => (head 5).setFrz n { f with st := .running, image := 5, error := 5 }

/-- Commands with work on an engine. -/
def engineCommands (s : State) (e : Nat) : Nat :=
  if e < 16 then
    (s.groups.filter (fun g => match g.2 with | some x => x.cores.any (fun c => c / 12 == e) | none => false)).length +
    s.rings.foldl (fun a r => a + (r.2.cmds.filter (fun c => c.flight.any (fun p => p.engine / 4 == e))).length) 0
  else match (s.seqSec (e - 16)).step with | some p => p.rows.length | none => 0

/-- Start an engine reset, or join the one that runs. -/
def startEngineReset (s : State) (e cause by_ : Nat) (ctx : Nat := 0) (part : Bool := false) : State :=
  match runningReset s 2 e with
  | some r => if r.part && !part then hngCount s 7 1 else s
  | none =>
    let n := engineSector s e
    let r : RunReset := { rung := 2, target := e, cause := cause, by_ := by_, sector := n, engine := e, ctx := ctx,
                          part := part, start := s.now, removed := engineCommands s e }
    let s1 := beginReset s r
    let s2 := if e < 16 then lanternResetEffects s1 e else seqResetEffects s1 (e - 16)
    if part then s2 else freezeReset s2 n

/-- The work of an engine under reset has gone. -/
def engineQuiet (s : State) (e : Nat) : Bool :=
  if e < 16 then
    !(s.groups.any (fun g => match g.2 with | some x => x.cores.any (fun c => c / 12 == e) | none => false)) &&
    !(s.rings.any (fun r => r.2.cmds.any (fun c => c.flight.any (fun p => p.engine / 4 == e))))
  else (s.seqSec (e - 16)).step.isNone

/-! ### Sector resets -/

/-- The engines of a Sector: its Lanterns, LIT or DIMMING, and its sequence engine. -/
def sectorEngines (s : State) (n : Nat) : List Nat :=
  (List.range 16).filter (fun l => (s.resAt (resLantern l)).st != .unlit && (s.resAt (resLantern l)).sector == n) ++ [16 + n]

/-- The contexts of a Sector. -/
def sectorCtxs (s : State) (n : Nat) : List Nat :=
  (s.ctxs.filter (fun c => c.2.st != .inactive && c.2.sector == n)).map Prod.fst

/-- A reset whose scope lies in Sector n. -/
def RunReset.inSector (r : RunReset) (n : Nat) : Bool := decide (r.rung ≤ 2) && r.sector == n

/-- Absorb the narrower resets that `p` picks (R501): their records say so, their commands complete with the wider one. -/
def absorb (s : State) (p : RunReset → Bool) : State × List (Nat × BitVec 32) :=
  let rs := s.resets.filter (fun r => p r && !r.part)
  let s1 := rs.foldl (fun s r => hngCount (if r.escalated then s else errRecord s r 2) 7 1) s
  ({ s1 with resets := s1.resets.map (fun r => if p r then { r with part := true, cmds := [] } else r) },
   rs.flatMap (·.cmds))

/-- Start a Sector reset, or join the one that runs. -/
def startSectorReset (s : State) (n cause by_ : Nat) (engine : Nat := 0xFF) (ctx : Nat := 0) : State :=
  match runningReset s 3 n with
  | some _ => s
  | none =>
    let cs := sectorCtxs s n
    let r : RunReset := { rung := 3, target := n, cause := cause, by_ := by_, sector := n, engine := engine, ctx := ctx,
                          start := s.now, removed := cs.foldl (fun a c => a + ctxCommands s c) 0 }
    let s0 := beginReset s r
    let a := absorb s0 (fun r => r.inSector n)
    let s1 := updReset a.1 3 n (fun r => { r with cmds := r.cmds ++ a.2 })
    let s2 := cs.foldl (fun s c => startCtxReset s c cause by_ none true) s1
    let s3 := (sectorEngines s n).foldl (fun s e => startEngineReset s e cause by_ 0 true) s2
    freezeReset s3 n

/-! ### The end of a reset (R500) -/

/-- End a running reset: event, record, and the commands that waited for it. -/
def endReset (s : State) (r : RunReset) : State :=
  let s0 := { s with resets := s.resets.filter (fun x => !(x.rung == r.rung && x.target == r.target)) }
  let s1 := if s0.hng.reqRung = r.rung && s0.hng.reqTarget = r.target then { s0 with hng := { s0.hng with reqRung := 0 } } else s0
  if r.part then s1
  else
    let s2 := if r.escalated then s1 else errRecord s1 r (if r.stuck then 3 else 0)
    r.cmds.foldl donePriv (raise s2 evHNG 2)

/-- A Sector reset is complete when its parts are. -/
def settleSectorReset (s : State) (n : Nat) : State :=
  match runningReset s 3 n with
  | none => s
  | some r => if s.resets.any (fun x => x.inSector n && x.part) then s else endReset s r

/-- The end of a context reset: the context is RESIDENT and its rings fetch from their marks; a ring STOPPED with one of
the errors 1 to 4 keeps its mark (R296, steps 5 and 6). -/
def endCtxReset (s : State) (c : Nat) : State :=
  match runningReset s 1 c with
  | none => s
  | some r =>
    let s1 := (ringsOf s c).foldl (fun s q =>
      let x := s.ring q
      if x.st = .stopped then s else s.setRing q { x with mark := none }) s
    let s2 := s1.setCtx c { s1.ctx c with st := .resident }
    settleSectorReset (endReset s2 r) r.sector

/-- The end of an engine reset. -/
def endEngineReset (s : State) (e : Nat) : State :=
  match runningReset s 2 e with
  | none => s
  | some r => settleSectorReset (endReset s r) r.sector

/-! ### Rules that start a context reset (R155, R279, R190, R114, R357) -/

/-- An uncorrectable instruction fetch (R155, R356, R358): captured with KIND 5, whose MEM_UE_ADDR the spec does not lay out (a free
value); the group stops with MEM_UNCORRECTABLE and the byte offset in the binary, LNT_EVENTS.FETCH_UNCORR is set, the context is
reset. -/
def fetchUncorr (s : State) (c : Nat) (x : Core) (g : Group) : State :=
  let d := BitVec.ofNat 64 (5 * 2 ^ 60 + 2 ^ 56 + c * 2 ^ 46 + (g.codeOff + x.pc))
  let s1 := raise (memUncorr s 5 1 c g.sector (Config.free s.free)) (evLNT (c / 12)) 2
  startCtxReset (stopGroup s1 x.group ⟨stMEM, d⟩) g.ctx stMEM 3

/-! ### Progress watches (R494, R495) -/

/-- The window that a WATCH field gives (R495). -/
def windowOf (s : State) (watch : Nat) : Nat := if watch = 0 then ctxDefault s else watch

/-- The window in force of a context; none: it never expires. -/
def ctxWindow (x : Ctx) : Option Nat := if x.window = 0xFFFF then none else some x.window

/-- The context that holds a resident slot. -/
def slotCtx (s : State) (k : Nat) : Option Nat :=
  (s.ctxs.find? (fun c => (c.2.st == .resident || c.2.st == .resetting) && c.2.slot == k)).map Prod.fst

/-- A context is busy now (Table 18-2). -/
def ctxBusy (s : State) (c : Nat) : Bool :=
  (ringsOf s c).any (fun q => (s.ring q).cmds.any (fun d => d.st == .started)) ||
  s.seqs.any (fun p => p.2.ctx == c && p.2.st != .free && (p.2.st == .inStep || p.2.st == .pulling || p.2.run.isSome))

/-- A tile instruction that waits on the host, another context or the Tender. -/
def waitsOutside (s : State) (c : Nat) (o : TileOp) : Bool :=
  (tCLASS o.word == 3 && (tOP o.word == 0 || tOP o.word == 2)) || o.leave == 1 ||
  s.xl.waits.any (fun w => w.who == Waiter.tile c o.num && w.units.any (fun u => u.st == .stalled || u.st == .pend))

/-- A Lantern's engine is busy now: a tile instruction has started, or a move is queued, that waits on none of these. -/
def lanternBusy (s : State) (n : Nat) : Bool :=
  (List.range 12).any (fun i => (s.core (12 * n + i)).q.any (fun o =>
    (o.started || o.xl == 1) && !waitsOutside s (12 * n + i) o)) ||
  s.rings.any (fun r => r.2.cmds.any (fun c => c.flight.any (fun p => p.engine / 4 == n && p.moving)))

/-- A sequence engine is busy now. -/
def seqBusy (s : State) (n : Nat) : Bool :=
  (s.seqSec n).step.isSome || (s.seqSec n).blk.any (fun b => b.2.st == .spilling || b.2.st == .pulling)

/-- A watch at an edge: it judges the Flash just ended (R495). -/
def Watch.edge (w : Watch) (now : Bool) (window : Option Nat) : Watch :=
  let busy := now || w.wasBusy || w.progress
  let q := if busy && !w.progress then w.quiet + 1 else 0
  let q := match window with | some n => min q (max n w.quiet) | none => min q 65535
  { w with quiet := q, busy := busy, wasBusy := now, progress := false, fired := w.fired && decide (0 < q) }

/-- Every watch at an edge, and the running resets age. -/
def watchEdge (s : State) : State :=
  let stops (n : Nat) : Bool := frozenSector s n
  let s1 := (List.range 64).foldl (fun s k =>
    match slotCtx s k with
    | none => s.setWatch k {}
    | some c =>
      if stops (s.ctx c).sector then s
      else s.setWatch k ((s.watchAt k).edge (ctxBusy s c) (ctxWindow (s.ctx c)))) s
  let s2 := (List.range 32).foldl (fun s e =>
    let n := engineSector s e
    if stops n then s
    else s.setWatch (64 + e) ((s.watchAt (64 + e)).edge (if e < 16 then lanternBusy s e else seqBusy s (e - 16))
      (some (engineWindow s)))) s1
  { s2 with resets := s2.resets.map (fun r => { r with edges := r.edges + 1 }) }

end Sys2Proof.Machine
end

