-- ==== Sys2Proof/Machine/WaitOps.lean ====
section
/-!
DEFINITION. What a failure does to each kind of waiter (R154, R223, R225, R227, R311, R398): a tile instruction of a core,
a piece of a COPY or FILL, a block's spill or pull, the sequence front end; and a pass over the Chain requests.
-/
namespace Sys2Proof.Machine

/-- End the command of a group's tile instruction (R154): the instruction, where it is still there, comes to nothing more. -/
def failTile (s : State) (c num grp : Nat) (w : Cond) : State :=
  match s.group grp with
  | none => s
  | some g =>
    if !g.cores.contains c then s
    else
      let x := s.core c
      let s1 := dropWaits (s.setCore c { x with q := x.q.map (fun o =>
        if o.num = num then { o with started := true, dead := true } else o) }) (.tile c num)
      stopGroup s1 grp w

/-- End a COPY or FILL whose piece failed: pieces that move finish. -/
def failPiece (s : State) (q : Nat) (idx : BitVec 32) (buf : Option Nat) (off : Nat) (w : Cond) : State :=
  match (s.ring q).find idx buf with
  | none => s
  | some c => stopCopy s q c w (fun p => p.off == off || !p.moving)

/-- The slots of a Sector whose block table names a descriptor. -/
def slotsNaming (s : State) (n d : Nat) : List Nat :=
  (s.seqs.filter (fun p => p.2.sector == n && p.2.st != .free && p.2.table.any (fun t => t.2 == some d))).map Prod.fst

/-- A pull failed (Table 7-15): the command of every sequence that waited for the block ends; the block stays SPILLED, or
is POISONED with every sequence that names it FAILED. -/
def failPull (s : State) (n d : Nat) (w : Cond) : State :=
  let lost := w.status = stORPHAN || w.status = stMEM
  let x := s.seqSec n
  let s1 := s.setSeqSec n { x with blk := tmod {} x.blk d (fun b => { b with st := .spilled, begun := false, fb := [] }) }
  let waiting := (slotsNaming s1 n d).filter (fun i => (s1.seq i).st == .pulling)
  let s2 := if lost then poisonBlk s1 n d w.status else s1
  waiting.foldl (fun s i =>
    let y := s.seq i
    let det := match y.run with
      | some r => if r.opcode = 0x42 then none else some w.detail
      | none => none
    let s1 := endRun s i w.status det 4 .idle
    let z := s1.seq i
    let s2 := if z.st = .pulling then s1.setSeq i { z with st := .idle } else s1
    -- a FORK that waited for the block ends as well
    match y.run, z.queue with
    | none, p :: r =>
      match seqCmd s2 p.1 p.2 with
      | some c => if c.opcode = 0x43 && c.st = .started then
          completeCmd (s2.setSeq i { s2.seq i with queue := r }) p.1 c w.status w.detail else s2
      | none => s2
    | _, _ => s2) s2

/-- A spill failed (R225): the block stays RESIDENT, SPILL_FAIL is set. -/
def failSpill (s : State) (n d : Nat) : State :=
  let x := s.seqSec n
  raiseSeq (s.setSeqSec n { x with blk := tmod {} x.blk d (fun b => { b with st := .resident, begun := false }) }) n 4

/-- A block's move failed. -/
def failBlk (s : State) (n d : Nat) (w : Cond) : State :=
  let s1 := dropWaits s (.blk n d)
  match (tget {} (s1.seqSec n).blk d).st with
  | .spilling => failSpill s1 n d
  | .pulling => failPull s1 n d w
  | _ => s1

/-- A waiter's access failed with a condition. -/
def waiterFail (s : State) (who : Waiter) (grp : Nat) (w : Cond) : State :=
  match who with
  | .tile c num => failTile s c num grp w
  | .piece q i b off => failPiece s q i b off w
  | .blk n d => failBlk s n d w
  | .seq i => endRun s i w.status (match (s.seq i).run with
      | some r => if r.opcode = 0x42 then none else some w.detail
      | none => none) 4 .idle
  | _ => s

/-- A translation failed (R311): the event, and the end of what waited. -/
def xlateFail (s : State) (who : Waiter) (unit reason : Nat) : State :=
  let grp := match who with | .tile c _ => (s.core c).group | _ => 0
  waiterFail (raise s evATF 5) who grp ⟨stXLATE, xlateDetail unit reason⟩

/-- Record a MOORING_ORPHAN (R397): CHN_ORPHAN_INFO with its saturating count, the offset, the event and the entry. -/
def orphanEvent (s : State) (r : ChReq) (reason : Nat) : State :=
  let old := s.chn.orphan.toNat
  let count := if bit old 63 then satAdd 24 (bits old 23 0) 1 else 1
  let s1 := { s with chn := { s.chn with
    orphan := BitVec.ofNat 64 (2 ^ 63 + r.sector * 2 ^ 48 + r.firstMoor * 2 ^ 38 + r.mooring * 2 ^ 28 + reason * 2 ^ 24 + count),
    orphanAddr := BitVec.ofNat 64 r.addr } }
  postLog (postLog (raise s1 evCHN 8) 0x51 r.sector false (r.mooring + r.firstMoor * 2 ^ 10 + reason * 2 ^ 20) true)
    1 r.sector false r.addr

/-- End a request with a condition. -/
def reqFail (s : State) (r : ChReq) (w : Cond) : State :=
  let s1 := dropReq s r.id
  let s2 := if w.status = stORPHAN then orphanEvent s1 r (w.detail.toNat / 2 ^ 16 % 16) else s1
  waiterFail s2 r.who r.group w

/-- Send what can be sent on Chain, and end what has no way to its target. -/
def chRun (s : State) : State :=
  let p := chPump s
  p.1.foldl (fun s f => reqFail s f.1 f.2) p.2

end Sys2Proof.Machine
end

