-- ==== Sys2Proof/Machine/TileOps.lean ====
section
/-!
DEFINITION. Tile instructions before they start (R131 to R148, R153): the checks at issue, the interlocks and waits of
R134 to R137, and the tables of what each instruction reads and writes outside core-local memory.
-/
namespace Sys2Proof.Machine

/-! ### Operands -/

/-- A span word: first block in [31:0], count in [63:32] (R139). -/
def spanOf (v : BitVec 64) : Span := ⟨bits v.toNat 31 0, bits v.toNat 63 32⟩

def TileOp.cls (o : TileOp) : Nat := tCLASS o.word
def TileOp.op (o : TileOp) : Nat := tOP o.word
def TileOp.da (o : TileOp) : Desc := Desc.of o.ta
def TileOp.db (o : TileOp) : Desc := Desc.of o.tb
def TileOp.dc (o : TileOp) : Desc := Desc.of o.tc

/-- A move of the move unit, of tile-DMA stream STREAM. -/
def TileOp.isMove (o : TileOp) : Bool := o.cls == 2
/-- An atomic of R147. -/
def TileOp.isAtomic (o : TileOp) : Bool := o.cls == 2 && decide (2 ≤ o.op)

/-- The descriptor an instruction reads outside core-local memory, where it reads one by address: the source of a move, the
partial of a TRED, the logits of a SAMPLE. -/
def TileOp.source (o : TileOp) : Option Desc :=
  let d := if o.cls = 0 && o.op = 2 then some o.da
    else if o.cls = 4 && o.op = 3 then some o.da
    else if o.cls = 2 && o.op ≤ 1 then some o.db
    else if o.isAtomic then some o.da else none
  match d with
  | some x => if x.space = 0 then none else some x
  | none => none

/-- The descriptor an instruction writes outside core-local memory. -/
def TileOp.dest (o : TileOp) : Option Desc :=
  let d := if o.cls = 2 && o.op = 0 then some o.da
    else if o.isAtomic then some o.da
    else if o.cls = 4 && o.op = 1 then some o.da else none
  match d with
  | some x => if x.space = 0 then none else some x
  | none => none

/-- An earlier instruction that writes LS or SM (R150, R151). -/
def TileOp.writesShared (o : TileOp) : Bool :=
  match o.dest with
  | some d => d.space == 1 || d.space == 2
  | none => o.cls == 4 && o.op == 2

/-- Bytes of a tile, its scale array included. -/
def Desc.bytes (d : Desc) : Nat := d.rows * d.rowLen + d.scaleRows * d.scaleLen

/-! ### Checks at issue -/

/-- Both descriptors have one shape. -/
def Desc.like (a b : Desc) : Bool := a.rows == b.rows && a.cols == b.cols

/-- An operand of the vector unit: in CLM, of an arithmetic format. -/
def Desc.vec (d : Desc) : Bool := d.space == 0 && d.fmt != 15

/-- The shapes of R143 and Table 5-8, by OP of class 1. U32 is allowed where the table names it and nowhere else. -/
def vecOk (op : Nat) (a b k : Desc) : Bool :=
  if op ≤ 5 then a.vec && b.vec && k.vec && a.like b && a.like k
  else if op = 7 then a.vec && b.vec && k.vec && a.like b && k.rows == 1 && k.cols == a.cols
  else if op = 12 || op = 13 then a.vec && b.vec && a.rows == b.rows && a.cols == 1
  else if op = 14 then a.vec && b.vec && k.vec && a.like b && k.rows == a.rows && k.cols == 1
  else if op = 15 then
    a.vec && b.vec && k.space == 0 && k.fmt == 15 && a.rows == b.rows && a.like k &&
    decide (a.cols ≤ 1024) && decide (a.cols ≤ b.cols)
  else if op = 16 then a.space == 0 && a.fmt == 15 && b.vec && a.rows == b.rows && a.cols == 1
  else a.vec && b.vec && a.like b

/-- An eight-byte atomic target and the eight CLM bytes that take its old value (R147). -/
def atomicOk (a b : Desc) : Bool :=
  a.rows == 1 && a.fmt == 8 && a.cols == 8 && (a.space == 1 || a.space == 2) &&
  b.space == 0 && b.rows == 1 && b.rowLen == 8

/-- A tile's HM side touches at most 64 units of 2 MiB (R307). -/
def hmFits (d : Desc) : Bool := d.space != 3 || decide ((unitsOf d.ranges).length ≤ 64)

/-- The MMA's operand checks that need no accumulator (R139). -/
def mmaOk (a b : Desc) (sp : Span) : Bool :=
  a.space == 0 && b.space == 0 && !a.blkdim && !b.blkdim && a.cols == 32 * sp.count && b.cols == 32 * sp.count

/-- Formats of an MMA: both narrow, or both of BF16 and F16 (R139). -/
def mmaFormats (a b : Desc) : Bool :=
  (isNarrow a.fmt && isNarrow b.fmt) || ((a.fmt == 5 || a.fmt == 6) && (b.fmt == 5 || b.fmt == 6))

/-- The row of the running step that SX names (R153). -/
def batchRow (s : State) (g : Group) (sx : BitVec 64) : Option Row :=
  match g.owner with
  | .step n => match (s.seqSec n).step with
    | some p => p.rows[sx.toNat]?
    | none => none
  | _ => none

/-- First position and count that SY names (R153). -/
def kvFirst (o : TileOp) : Nat := bits o.sy.toNat 31 0
def kvCount (o : TileOp) : Nat := bits o.sy.toNat 63 32
def kvLayer (o : TileOp) : Nat := bits (tImm o.word) 7 0
def kvHalf (o : TileOp) : Nat := bits (tImm o.word) 8 8
def kvWindow (o : TileOp) : Bool := bit (tImm o.word) 9

/-- Descriptor checks of one instruction: false gives DESC_INVALID. -/
def descOk (s : State) (g : Group) (o : TileOp) (u : TileUse) : Bool :=
  let a := o.da
  let b := o.db
  let k := o.dc
  (!u.ta || a.ok) && (!u.tb || b.ok) && (!u.tc || k.ok) && hmFits a && hmFits b &&
  (match o.cls, o.op with
  | 0, 0 =>
    let d := tImm o.word % 16 + 1
    a.fmt == 7 && a.space == 0 && decide (a.rows ≤ 128) && decide (a.cols ≤ 128) &&
    decide (1 ≤ o.sx.toNat) && decide (o.sx.toNat ≤ 65536) &&
    decide (a.base + (d - 1) * (a.rows * a.rowStride) + (a.rows - 1) * a.rowStride + a.rowLen ≤ 0x80000)
  | 0, 1 => mmaOk a b (spanOf o.sx)
  | 0, 2 => a.fmt == 7
  | 0, 3 => true
  | 0, _ => a.space == 0 && a.fmt != 15
  | 1, op => vecOk op a b k
  | 2, 0 => a.fmt == b.fmt && a.variant == b.variant && a.like b && a.blkdim == b.blkdim
  | 2, 1 => true
  | 2, _ => atomicOk a b
  | 3, _ => true
  | _, 0 => a.space == 0 && decide (32 ≤ a.rows * a.rowLen)
  | _, 1 => decide (a.space ≤ 2) && a.rowLen == kvE s g.sector && a.rows == kvCount o
  | _, 2 => decide (b.space ≤ 2) && b.rowLen == kvE s g.sector && b.rows == kvCount o
  | _, _ => a.fmt == 7 && decide (a.space ≤ 2) && decide (2 ≤ a.rows * a.cols) && decide (a.rows * a.cols ≤ 262144) &&
      b.fmt == 15 && b.space == 0 && b.rows == 1 && b.cols == 48)

/-- FINAL and ACQ where they have no meaning, and TPF of CLM or LS (R146, R148). -/
def moveLegal (o : TileOp) : Bool :=
  if o.cls != 2 then true
  else if o.op = 0 then (!tFINAL o.word || o.da.space != 0) && (!tACQ o.word || o.db.space != 0)
  else if o.op = 1 then !tFINAL o.word && decide (2 ≤ o.db.space)
  else true

/-- The position checks of KVGATHER and KVPUT, and those of SAMPLE that stand at issue (R153, R243). -/
def seqPosTrap (s : State) (n : Nat) (r : Row) (o : TileOp) : Option Nat :=
  let q := s.seq r.slot
  let f := kvFirst o
  let l := f + kvCount o
  match o.op with
  | 1 =>
    if kvNL s n ≤ kvLayer o then some 0x0A
    else if l ≤ q.c then none
    else if !kvWindow o then some 0x0A
    else if r.kind != 2 then some 0x0B
    else if l ≤ q.c + r.len then none else some 0x0A
  | 2 =>
    if kvNL s n ≤ kvLayer o || f < q.c || q.c + r.len < l then some 0x0A else none
  | 3 => if r.kind = 0 then some 0x0A else none
  | _ => none

/-- The trap that an instruction raises when it is issued, if any: causes in ascending order of their codes. -/
def issueTrap (s : State) (g : Group) (o : TileOp) : Option Nat :=
  match tileUse o.cls o.op with
  | none => some 0x01
  | some u =>
    if !tileLegal o.word || !moveLegal o then some 0x01
    else if !descOk s g o u then some 0x04
    else if o.cls = 0 && o.op = 1 && !mmaFormats o.da o.db then some 0x05
    else if o.cls = 4 && !g.step then some 0x09
    else if o.cls = 4 then
      match batchRow s g o.sx with
      | none => some 0x0A
      | some r => seqPosTrap s g.sector r o
    else none

/-! ### When an instruction may start (R134 to R136, R150, R152, R327, R329) -/

/-- A Chain WRITE of an earlier instruction of the core, on a stream of the mask, is not acknowledged (R152). -/
def writesOut (s : State) (c num mask : Nat) (dstOk : Option Nat) : Bool :=
  s.chn.reqs.any (fun r => (r.type == 1 || r.type == 0x14) &&
    (match r.who with
    | .tile k n => k == c && decide (n < num) && bit mask (r.stream % 16)
    | _ => false) && !(dstOk == some r.dst))

/-- Moves of one stream, or one unit, before this one have started; one accumulator operation runs at a time. -/
def unitReady (pre : List TileOp) (o : TileOp) : Bool :=
  pre.all (fun p =>
    if p.cls != o.cls then true
    else if o.cls = 0 then false
    else if o.cls = 2 then tSTREAM p.word != tSTREAM o.word || p.started
    else p.started)

/-- The CLM interlocks (R135). -/
def clmReady (x : Core) (pre : List TileOp) (o : TileOp) : Bool :=
  let r := opReads x pre o
  let w := opWrites x pre o
  (withPrefix [] pre).all (fun p =>
    !(opWrites x p.1 p.2).any (fun q => overlaps r q.1 q.2 || overlaps w q.1 q.2) &&
    !(opReads x p.1 p.2).any (fun q => overlaps w q.1 q.2))

/-- A final write's earlier REMOTE writes of the stream are acknowledged, but those to its own target (R327). -/
def finalReady (s : State) (c : Nat) (o : TileOp) : Bool :=
  if o.isMove && tFINAL o.word then
    let own := match o.dest with
      | some d => if d.space = 4 then some (s.moor (d.base / 2 ^ 47)).cur.target else none
      | none => none
    !writesOut s c o.num (2 ^ tSTREAM o.word) own
  else true

/-- The instruction may start, leave and translation apart. -/
def mayStartOp (s : State) (c : Nat) (x : Core) (pre : List TileOp) (o : TileOp) : Bool :=
  !o.started && (!tORD o.word || pre.isEmpty) && unitReady pre o && clmReady x pre o && finalReady s c o &&
  -- a barrier and a landed fence hold what comes after them; an acquire read holds its stream
  !(pre.any (fun p => p.cls == 3 && (p.op == 0 || p.op == 3))) &&
  !(pre.any (fun p => p.isMove && tACQ p.word && o.isMove && tSTREAM p.word == tSTREAM o.word)) &&
  (o.cls != 3 || o.op != 0 || pre.all (fun p => !p.writesShared))

/-! ### Leave (R137, Table 14-5) -/

/-- Weight of a multiply-accumulate, F4-equivalent: the ratio of the rates of Table 5-9. -/
def macWeight (a b : Desc) : Nat :=
  let f4 (f : Nat) : Bool := f == 0 || f == 9 || f == 10 || f == 14
  if a.fmt = 5 || a.fmt = 6 then 4 else if f4 a.fmt && f4 b.fmt then 1 else 2

/-- Kind and amount of leave that an instruction needs: 0 multiply-accumulates, 1 bytes of HBM, 2 bytes of Chain. -/
def leaveNeed (s : State) (o : TileOp) : Option (Nat × Nat) :=
  let ask (k n : Nat) : Option (Nat × Nat) := if needsLeave s k n then some (k, n) else none
  if o.cls = 0 && o.op = 1 then ask 0 (o.da.rows * o.db.rows * o.da.cols * macWeight o.da o.db)
  else if o.cls = 2 && o.op ≤ 1 then
    let part (sp : Nat) : Nat :=
      (match o.source with | some d => if d.space = sp then d.bytes else 0 | none => 0) +
      (match o.dest with | some d => if d.space = sp then d.bytes else 0 | none => 0)
    (ask 1 (part 2)).or (ask 2 (part 4))
  else none

/-! ### Changes to a queue -/

/-- Change one instruction of a core's queue. -/
def setOp (s : State) (c num : Nat) (f : TileOp → TileOp) : State :=
  let x := s.core c
  s.setCore c { x with q := x.q.map (fun o => if o.num = num then f o else o) }

/-- Take one instruction off a core's queue. -/
def dropOp (s : State) (c num : Nat) : State :=
  let x := s.core c
  s.setCore c { x with q := x.q.filter (fun o => !(o.num == num)) }

/-- An instruction of a core. -/
def findOp (s : State) (c num : Nat) : Option TileOp := (s.core c).q.find? (fun o => o.num == num)

/-- The engine of a move (R144), numbered over the module. -/
def engineOf (c : Nat) (o : TileOp) : Nat := c / 12 * 4 + (c % 12 + tSTREAM o.word) % 4

/-- The Chain source stream of a core's move stream (Table 13-2). -/
def streamOf (c : Nat) (o : TileOp) : Nat := c * 16 + tSTREAM o.word

/-- Record a halted stream (R149): LNT_TD_e and LNT_EVENTS.DMA_HALT. -/
def haltStream (s : State) (c : Nat) (o : TileOp) (status : Nat) : State :=
  let e := engineOf c o
  let v := BitVec.ofNat 64 (tSTREAM o.word * 2 ^ 28 + c % 12 * 2 ^ 24 + status * 2 ^ 16 + 1)
  raise { s with regs := tput 0 s.regs (0x200300 + 0x10000 * (e / 4) + 8 * (e % 4)) v } (evLNT (c / 12)) 1

/-- The trap of a tile instruction at its issue or start. -/
def trapTile (s : State) (c : Nat) (o : TileOp) (cause : Nat) : State :=
  trapCore s c cause 0 (o.cls + 1) o.op o.pc

/-- Check every range of a tile that is read from CLM, LS or SM. -/
def checkTile (s : State) (g : Group) (c : Nat) (d : Desc) : Option Cond × State :=
  if 3 ≤ d.space then (none, s)
  else d.ranges.foldl (fun (acc : Option Cond × State) r =>
    let q := memCheck acc.2 g c d.space r.1 r.2
    (acc.1.or q.1, q.2)) (none, s)

/-- The trap of the ranges of a tile in LS or SM (R125, R126), or outside the Sector's moorings (R389). -/
def tileTrap (s : State) (g : Group) (d : Desc) : Option Nat :=
  if d.space = 4 then
    (if d.ranges.all (fun r => moorSector s (r.1 / 2 ^ 47) == some g.sector &&
        moorSector s ((r.1 + r.2 - 1) / 2 ^ 47) == some g.sector) then none else some 0x08)
  else d.ranges.foldl (fun a r => a.or (accessTrap s g d.space r.1 r.2)) none

/-- A window of a tile that is FREE or EXPIRED ends the command (R389). -/
def tileUnreachable (s : State) (d : Desc) : Option Cond :=
  if d.space != 4 then none
  else
    match d.ranges.find? (fun r => (s.moor (r.1 / 2 ^ 47)).st != .leased) with
    | some r => some (unreachable (s.moor (r.1 / 2 ^ 47)).cur.target 3 (r.1 / 2 ^ 47))
    | none => none

/-- The bytes of a tile's ranges, in order. -/
def tileBytes (s : State) (g : Group) (c : Nat) (d : Desc) : List (List Byte) :=
  d.ranges.map (fun r => spaceRead s g c d.space r.1 r.2)

/-- Write the ranges of a tile in CLM, LS or SM. -/
def tileWrite (s : State) (g : Group) (c : Nat) (d : Desc) (bs : List (List Byte)) : State :=
  (d.ranges.zip bs).foldl (fun s p => spaceWrite s g c d.space p.1.1 p.2) s

/-- Counters of what a move reads and writes by the tile-DMA engines (Table 5-14, Table 9-16). -/
def dmaCount (s : State) (c : Nat) (g : Group) (write : Bool) (space n : Nat) : State :=
  let k := (s.ctx g.ctx).slot
  let i := if write then 1 else 0
  let s1 := bump (bump s (0x201000 + 0x10000 * (c / 12) + 8 * (5 + i)) n) (tlmWord k (6 + i)) n
  if space = 3 then bump s1 (tlmWord k (8 + i)) n else s1

end Sys2Proof.Machine
end

