-- ==== Sys2Proof/Machine/Sampler.lean ====
section
/-!
DEFINITION. The sampler (R242 to R249): draws, the greedy choice, candidate lists, the test of a draft, and the decision
record of a batch row.
-/
namespace Sys2Proof.Machine

/-- Insertion into a list ordered by `le`: before the first element that `a` may stand before. -/
def insertBy {α : Type} (le : α → α → Bool) (a : α) : List α → List α
  | [] => [a]
  | b :: r => if le a b then a :: b :: r else b :: insertBy le a r

/-- Stable insertion sort. -/
def sortBy {α : Type} (le : α → α → Bool) (l : List α) : List α := l.foldr (insertBy le) []

/-- draw64 of R246. -/
def draw64 (seed : BitVec 64) (pos idx : Nat) : BitVec 64 :=
  let x0 : BitVec 64 := BitVec.ofNat 64 (pos % 2 ^ 32 * 2 ^ 32 + idx)
  let r := (List.range 6).foldl (fun (a : BitVec 64 × BitVec 64) _ =>
    let x := a.1 + a.2
    let x := x ^^^ (x.rotateLeft 23 ^^^ x.rotateLeft 41)
    (x * 0x9b5e2c17d3a8f465, a.2.rotateLeft 17 + 0x71d40e9ac2653b8f)) (x0, seed ^^^ 0x6a3d91c40b7ef258)
  r.1 ^^^ (r.1 >>> 29)

/-- draw_u of R246: the top 24 bits over 2^24, exact. -/
def drawU (seed : BitVec 64) (pos idx : Nat) : F32 := toF32 (.fin false ((draw64 seed pos idx).toNat / 2 ^ 40) (-24))

/-- Logits with their tokens. -/
def tagged (xs : List F32) : List (Nat × F32) := xs.zipIdx.map (fun p => (p.2, p.1))

/-- The greedy choice (R247): the largest logit, NaN excluded, the lowest token among equals. -/
def greedy (xs : List F32) : Option Nat :=
  ((tagged xs).filter (fun p => !isNaN p.2)).foldl (fun (b : Option (Nat × F32)) p =>
    match b with
    | none => some p
    | some q => if orderKey q.2 < orderKey p.2 then some p else some q) none |>.map (·.1)

/-- Running sums in list order, each rounded (R248). -/
def runSum : List F32 → F32
  | [] => 0
  | w :: r => r.foldl fadd w

/-- The smallest prefix whose running sum is at least a bound; all of it where none is. -/
def prefixTo (bound : F32) : F32 → Bool → List (Nat × F32) → List (Nat × F32)
  | _, _, [] => []
  | run, first, p :: r =>
    let run1 := if first then p.2 else fadd run p.2
    p :: (if fge run1 bound then [] else prefixTo bound run1 false r)

/-- The candidate list of a scoring row with its weights (R248); none where every logit is NaN or −∞. -/
def candidates (p : Sampling) (xs : List F32) : Option (List (Nat × F32)) :=
  let z (x : F32) : F32 := let v := fdiv x p.temp; if isNaN x || isNaN v then 0xFF800000 else v
  let l := sortBy (fun a b : Nat × F32 => flt b.2 a.2 || (!flt a.2 b.2 && decide (a.1 ≤ b.1)))
    ((tagged xs).map (fun q => (q.1, z q.2)))
  let kept := if p.topK != 0 && decide (p.topK < xs.length) then l.take p.topK else l
  match kept with
  | [] => none
  | (_, m) :: _ =>
    if m = 0xFF800000 then none
    else
      let ws := if m = 0x7F800000 then (kept.filter (fun q => q.2 == 0x7F800000)).map (fun q => (q.1, (0x3F800000 : F32)))
        else kept.map (fun q => (q.1, vexp (fsub q.2 m)))
      some (if flt p.topP 0x3F800000 then prefixTo (fmul p.topP (runSum (ws.map (·.2)))) 0 true ws else ws)

/-- pick of R248. -/
def pickFrom (r : F32) : F32 → List (Nat × F32) → Option Nat
  | _, [] => none
  | _, [p] => some p.1
  | run, p :: rest =>
    let run1 := fadd run p.2
    if flt r run1 then some p.1 else pickFrom r run1 rest

/-- The choice of a token from a list with a draw. -/
def pick (l : List (Nat × F32)) (u : F32) : Option Nat := pickFrom (fmul u (runSum (l.map (·.2)))) 0 l

/-- The choice of a scoring row at a text position (R247, R248). -/
def chooseTok (q : Seq) (pos : Nat) (xs : List F32) : Option Nat :=
  if q.samp.temp = 0 then greedy xs
  else match candidates q.samp xs with
    | none => none
    | some l => pick l (drawU q.seed pos 1)

/-- The test of a draft at a text position (R249): none without a candidate; otherwise whether it is accepted, and the
token where it is not. -/
def testDraft (q : Seq) (pos d : Nat) (xs : List F32) : Option (Bool × Nat) :=
  if q.samp.temp = 0 then (greedy xs).map (fun t => (t == d && decide (d < xs.length), t))
  else
    match candidates q.samp xs with
    | none => none
    | some l =>
      let wd := match l.find? (fun p => p.1 == d) with
        | some p => p.2
        | none => 0
      let alone := l.length == 1 && l.any (fun p => p.1 == d)
      if alone || flt (fmul (drawU q.seed pos 0) (runSum (l.map (·.2)))) wd then some (true, d)
      else (pick (l.filter (fun p => !(p.1 == d))) (drawU q.seed pos 1)).map (fun t => (false, t))

/-- DRAFT_SOURCE and DRAFT_LEN of a slot's running GENERATE. -/
def Seq.draftSource (q : Seq) : Nat := match q.run with | some u => if u.opcode = 0x42 then fieldAt u.raw 34 1 else 0 | none => 0
def Seq.draftLen (q : Seq) : Nat := match q.run with | some u => fieldAt u.raw 35 1 | none => 0

/-- A further SAMPLE of a row is permitted (R243). -/
def mayTake (q : Seq) (r : Row) : Bool :=
  r.kind != 0 && (if r.done then q.draftSource == 3 && decide (r.heads.length < q.draftLen)
                  else decide (r.taken ≤ r.drafts.length))

/-- Take one SAMPLE of a row (R243, R247 to R249). `m` is the pending token that replaces a forced decision (R240). -/
def takeSample (q : Seq) (r : Row) (m : Option Nat) (xs : List F32) : Row :=
  if r.done then
    match greedy xs with
    | none => { r with noLogits := true }
    | some t => { r with heads := r.heads ++ [t] }
  else
    let i := r.taken
    let r1 := { r with taken := i + 1, vocab := some xs.length, greedy := q.samp.temp == 0 }
    let finish (t : Nat) (all : Bool) : Row :=
      { r1 with toks := r.toks ++ [if r.forced then m.getD t else t], done := true, a := i + 1, allAccepted := all }
    if i < r.drafts.length then
      match testDraft q (q.t + i) (r.drafts.getD i 0) xs with
      | none => { r1 with noLogits := true }
      | some (true, d) => { r1 with toks := r.toks ++ [d] }
      | some (false, t) => finish t false
    else
      match chooseTok q (q.t + i) xs with
      | none => { r1 with noLogits := true }
      | some t => finish t (decide (1 ≤ r.drafts.length))

/-- The decision record (Table 8-4). Tokens past ROWS_SEEN and NEXT values past NEXT_COUNT are not stated: free values. -/
def decision (s : State) (r : Row) : List Byte × State :=
  let open_ (i : Nat) : Nat := (Config.free (s.free + i)).toNat % 2 ^ 32
  let flags := (if r.done then 1 else 0) + (if r.greedy then 2 else 0) + (if r.allAccepted then 4 else 0) +
    (if r.forced then 8 else 0)
  let ws := [if r.done then r.a else 0, r.taken, flags, r.drafts.length] ++
    (List.range 16).map (fun i => (r.toks[i]?).getD (open_ i)) ++
    (List.range 15).map (fun i => (r.heads[i]?).getD (open_ (16 + i))) ++
    [r.heads.length] ++ List.replicate 12 0
  (ws.flatMap (leBytes 4), { s with free := s.free + 31 })

end Sys2Proof.Machine
end

