-- ==== Sys2Proof/Machine/TileEff.lean ====
section
/-!
DEFINITION. What tile instructions do (R138 to R153, R242): their effects at the start, the asking for leave and
translation, the start of whatever can start, and their completion. An instruction's effect on core-local, Lantern and
Sector memory is made when it starts; what it reads from the host or from Chain comes with its completion.
-/
namespace Sys2Proof.Machine

/-- What the start of an instruction comes to: it runs, with its effect made; it traps; it ends its command. -/
inductive Eff where
  | go (s : State)
  | trap (cause : Nat)
  | fail (w : Cond) (s : State)

/-! ### The matrix engine (R138 to R141) -/

/-- Write bytes of core-local memory. -/
def clmPut (s : State) (c a : Nat) (bs : List Byte) : State :=
  { s with clm := cwrite s.clm (clmKey c a) bs, clmChk := byteWritten s.clmChk (clmKey c a) bs.length }

/-- Address of an element of a ladder level. -/
def Acc.at (a : Acc) (l i j : Nat) : Nat := a.base + l * (a.rows * a.stride) + i * a.stride + 4 * j

/-- Write a node into a ladder level, and read an element of one. -/
def putNode (s : State) (c : Nat) (a : Acc) (l : Nat) (v : Nat → Nat → F32) : State :=
  (List.range a.rows).foldl (fun s i =>
    clmPut s c (a.at l i 0) ((List.range a.cols).flatMap (fun j => leBytes 4 (v i j).toNat))) s
def getNode (s : State) (c : Nat) (a : Acc) (l i j : Nat) : F32 :=
  BitVec.ofNat 32 (leNat (cread s.clm (clmKey c (a.at l i j)) 4))

/-- Merge while the top two entries are siblings (R140, step 4). -/
def mergeTop : Nat → State → Nat → Acc → Acc × State
  | 0, s, _, a => (a, s)
  | k + 1, s, c, a =>
    match a.ladder with
    | t :: u :: r =>
      if siblings u t a.nb then
        let l := r.length
        mergeTop k (putNode s c a l (fun i j => fadd (getNode s c a l i j) (getNode s c a (l + 1) i j))) c
          { a with ladder := ⟨u.first, u.count + t.count⟩ :: r }
      else (a, s)
    | _ => (a, s)

/-- A push that does not trap (R140, steps 1 and 2). -/
def mayPush (a : Acc) (sp : Span) : Bool :=
  decide (1 ≤ sp.count) && isNode sp.first sp.count a.nb && decide (a.ladder.length < a.depth) &&
  (match a.ladder with | [] => true | t :: _ => t.first + t.count == sp.first)

/-- Push a node onto accumulator `i` (R140). -/
def pushNode (s : State) (c i : Nat) (a : Acc) (sp : Span) (v : Nat → Nat → F32) : State :=
  let s1 := putNode s c a a.ladder.length v
  let m := mergeTop 20 s1 c { a with ladder := sp :: a.ladder }
  m.2.setCore c { m.2.core c with acc := tput none (m.2.core c).acc i (some m.1) }

/-- The node value of an MMA at (i, j): block values in the canonical tree (R139, R169, R175). -/
def mmaValue (s : State) (g : Group) (c : Nat) (o : TileOp) (i j : Nat) : F32 :=
  let a := o.da
  let b := o.db
  let rd := spaceRead s g c 0
  treeSum (fun β => blockValue (fun k => a.elem rd i (32 * β + k)) (fun k => b.elem rd j (32 * β + k)) a.tnum b.tnum)
    20 0 (spanOf o.sx).count

/-- The push of an MMA. -/
def mmaPush (s : State) (g : Group) (c : Nat) (o : TileOp) (a : Acc) : State :=
  pushNode s c (tACC o.word) a (spanOf o.sx) (mmaValue s g c o)

/-- Matrix instructions at their start. -/
def matrixEff (s : State) (g : Group) (c : Nat) (o : TileOp) : Eff :=
  let x := s.core c
  let i := tACC o.word
  let d := o.da
  let acc := tget none x.acc i
  match o.op with
  | 0 => .go (s.setCore c { x with acc := tput none x.acc i (some
      { base := d.base, rows := d.rows, cols := d.cols, stride := d.rowStride, nb := o.sx.toNat,
        depth := tImm o.word % 16 + 1, ladder := [] }) })
  | 1 =>
    match acc with
    | none => .trap 0x06
    | some a =>
      let sp := spanOf o.sx
      if !(decide (1 ≤ sp.count) && isNode sp.first sp.count a.nb) then .trap 0x06
      else if d.rows != a.rows || o.db.rows != a.cols then .trap 0x04
      else if !mayPush a sp then .trap 0x06
      else
        let q := checkTile s g c d
        let p := checkTile q.2 g c o.db
        match q.1.or p.1 with
        | some w => .fail w p.2
        | none =>
          let n := d.rows * o.db.rows * d.cols / 1024
          let s1 := bump (bump p.2 (0x201018 + 0x10000 * (c / 12)) n) (tlmWord (s.ctx g.ctx).slot 4) n
          if o.residueOk then .go (mmaPush s1 g c o a)
          else .go (setOp s1 c o.num (fun o => { o with attempt := some 1 }))
  | 2 =>
    match acc with
    | none => .trap 0x06
    | some a =>
      let sp := spanOf o.sx
      if !(decide (1 ≤ sp.count) && isNode sp.first sp.count a.nb) then .trap 0x06
      else if d.rows != a.rows || d.cols != a.cols then .trap 0x04
      else if !mayPush a sp then .trap 0x06
      else if 3 ≤ d.space then .go s
      else
        match tileTrap s g d with
        | some t => .trap t
        | none =>
          match checkTile s g c d with
          | (some w, s1) => .fail w s1
          | (none, s1) => .go (pushNode s1 c i a sp (d.f32 (spaceRead s1 g c d.space)))
  | 3 =>
    match acc with
    | some a => if a.ladder.length = 1 then .go s else .trap 0x06
    | none => .trap 0x06
  | _ =>
    match acc with
    | none => .trap 0x06
    | some a =>
      if a.ladder.length != 1 then .trap 0x06
      else if d.rows != a.rows || d.cols != a.cols then .trap 0x04
      else
        match memCheck s g c 0 a.base (a.rows * a.stride) with
        | (some w, s1) => .fail w s1
        | (none, s1) =>
          .go ((d.store (getNode s1 c a 0)).foldl (fun s p => clmPut s c p.1 p.2) s1)

/-! ### The vector unit (R143, R177, R178 to R183) -/

/-- The order of VTOPK: NaN above every other value, then as VMAX orders; lower column first among equals (R182). -/
def topkLe (a b : Nat × F32) : Bool :=
  let k (x : F32) : Int := if isNaN x then 2 ^ 40 else orderKey x
  decide (k b.2 < k a.2) || (decide (k a.2 = k b.2) && decide (a.1 ≤ b.1))

/-- The top-p count of a row (R143): the smallest count whose running sum reaches p, or COLS. -/
def topp (p : F32) : F32 → Nat → List F32 → Option Nat
  | _, _, [] => none
  | run, n, x :: r =>
    let run1 := if n = 0 then x else fadd run x
    if fge run1 p then some (n + 1) else topp p run1 (n + 1) r

/-- The result of a vector instruction at (r, col), from its operands as F32. -/
def vecValue (op : Nat) (o : TileOp) (a b k : Nat → Nat → F32) (bcols r q : Nat) : F32 :=
  let f := o.sx.setWidth 32
  match op with
  | 0 => fadd (b r q) (k r q)
  | 1 => fsub (b r q) (k r q)
  | 2 => fmul (b r q) (k r q)
  | 3 => ffma (b r q) (k r q) (a r q)
  | 4 => fmax (b r q) (k r q)
  | 5 => fmin (b r q) (k r q)
  | 6 => fmul (b r q) f
  | 7 => fadd (b r q) (k 0 q)
  | 8 => vexp (b r q)
  | 9 => vlog (b r q)
  | 10 => vrcp (b r q)
  | 11 => b r q
  | 12 => (List.range (bcols - 1)).foldl (fun m i => fmax m (b r (i + 1))) (b r 0)
  | 13 => treeSum (fun i => b r i) 20 0 bcols
  | 14 => vexp (fsub (b r q) (k r 0))
  | _ => ((sortBy topkLe ((List.range bcols).map (fun i => (i, b r i))))[q]?.map (·.2)).getD 0

/-- Vector instructions at their start: every operand is read before anything is written. -/
def vectorEff (s : State) (g : Group) (c : Nat) (o : TileOp) : Eff :=
  let u := (tileUse 1 o.op).getD {}
  let chk (on : Bool) (d : Desc) (p : Option Cond × State) : Option Cond × State :=
    if on then let q := checkTile p.2 g c d; (p.1.or q.1, q.2) else p
  let p := chk (u.tc && o.op != 15) o.dc (chk true o.db (chk (o.op == 3) o.da (none, s)))
  match p.1 with
  | some w => .fail w p.2
  | none =>
    let s := p.2
    let rd := spaceRead s g c 0
    let put (s : State) (l : List (Nat × List Byte)) : State := l.foldl (fun s p => clmPut s c p.1 p.2) s
    let b := o.db.f32 rd
    let row (r : Nat) : List F32 := (List.range o.db.cols).map (b r)
    if o.op = 16 then
      .go (put s ((List.range o.da.rows).map (fun r =>
        (o.da.base + r * o.da.rowStride, leBytes 4 ((topp (o.sx.setWidth 32) 0 0 (row r)).getD o.db.cols)))))
    else
      let out := o.da.store (vecValue o.op o (o.da.f32 rd) b (o.dc.f32 rd) o.db.cols)
      let s1 := put s out
      if o.op = 15 then
        .go (put s1 ((List.range o.dc.rows).map (fun r => (o.dc.base + r * o.dc.rowStride,
          ((sortBy topkLe ((List.range o.db.cols).map (fun i => (i, b r i)))).take o.da.cols).flatMap (fun p => leBytes 4 p.1)))))
      else .go s1

/-! ### Moves (R144 to R149) -/

/-- The requests of a tile's Chain side: (address, length) of each, at most 4,096 bytes (R379). -/
def chainParts (d : Desc) : List (Nat × Nat) := d.ranges.flatMap (fun r => chSplit (r.2 / 4096 + 2) r.1 r.2)

/-- Issue the Chain requests of a move's side; the numbers of the READs, which it waits for. -/
def chainIssue (s : State) (g : Group) (c : Nat) (o : TileOp) (type : Nat) (ps : List ((Nat × Nat) × List Byte)) :
    List Nat × State :=
  ps.foldl (fun (acc : List Nat × State) p =>
    let s := acc.2
    (acc.1 ++ [s.chn.nextReq],
     chIssue s (.tile c o.num) g.sector g.ctx type (p.1.1 / 2 ^ 47) (streamOf c o) (p.1.1 % 2 ^ 47) p.1.2 p.2
       (type == 1 && tFINAL o.word))) ([], s)

/-- Cut the bytes of ranges as the parts of their requests. -/
def cutParts (d : Desc) (bs : List (List Byte)) : List ((Nat × Nat) × List Byte) :=
  (d.ranges.zip bs).flatMap (fun p =>
    (chSplit (p.1.2 / 4096 + 2) p.1.1 p.1.2).map (fun q => (q, sub p.2 (q.1 - p.1.1) q.2)))

/-- A write of a move to host memory that does not complete successfully ends the command (R311, reason 7). -/
def hmWrite (s : State) (g : Group) (o : TileOp) (d : Desc) (bs : List (List Byte)) : Option Cond × State :=
  (d.ranges.zip bs).foldl (fun (acc : Option Cond × State) p =>
    match acc.1 with
    | some _ => acc
    | none =>
      if hostWriteOk acc.2 p.1.1 then
        (none, hostWrite acc.2 (acc.2.ctx g.ctx).pasid p.1.1 p.2 (tFINAL o.word))
      else (some ⟨stXLATE, xlateDetail (p.1.1 / 2 ^ 21) 7⟩, raise acc.2 evATF 5)) (none, s)

/-- The destination side of a TCOPY: CLM, LS and SM are written, host memory is written, Chain WRITEs are sent. -/
def moveWrite (s : State) (g : Group) (c : Nat) (o : TileOp) (bs : List (List Byte)) : Option Cond × State :=
  let d := o.da
  let s := if d.space = 0 && o.db.space = 0 then s else dmaCount s c g true d.space d.bytes
  let s := setOp s c o.num (fun o => { o with wrote := true })
  if d.space ≤ 2 then (none, tileWrite s g c d bs)
  else if d.space = 3 then hmWrite s g o d bs
  else (none, (chainIssue s g c o 1 (cutParts d bs)).2)

/-- The old value and the new one of an atomic (R147). -/
def atomicNew (op : Nat) (old sx sy : BitVec 64) : BitVec 64 :=
  match op with
  | 2 => old + sx
  | 3 => if old.toNat < sx.toNat then sx else old
  | 4 => if old = sy then sx else old
  | _ => sx

/-- A condition that ends a move: its stream halts (R149). -/
def moveFail (s : State) (c : Nat) (o : TileOp) (w : Cond) : Eff :=
  .fail w (if w.status = stMEM then haltStream s c o stMEM else s)

/-- Moves at their start. -/
def moveEff (s : State) (g : Group) (c : Nat) (o : TileOp) : Eff :=
  let sides := o.source.toList ++ o.dest.toList
  match (sides.filterMap (tileTrap s g)).head?, (sides.filterMap (tileUnreachable s)).head? with
  | some t, _ => .trap t
  | none, some w => .fail w s
  | none, none =>
    if o.op = 1 then
      -- TPF: a hint to a Chain target; what a die cache holds is not part of the state
      if o.db.space = 4 then .go (chainIssue s g c o 3 ((chainParts o.db).map (fun p => (p, [])))).2 else .go s
    else if o.isAtomic then
      match checkTile s g c o.da with
      | (some w, s1) => moveFail s1 c o w
      | (none, s1) =>
        let old := BitVec.ofNat 64 (leNat (spaceRead s1 g c o.da.space o.da.base 8))
        let s2 := clmPut s1 c o.db.base (leBytes 8 old.toNat)
        let s3 := spaceWrite s2 g c o.da.space o.da.base (leBytes 8 (atomicNew o.op old o.sx o.sy).toNat)
        .go (setOp (dmaCount (dmaCount s3 c g false o.da.space 8) c g true o.da.space 8) c o.num (fun o => { o with wrote := true }))
    else if 3 ≤ o.db.space then
      -- the bytes come with the completion; Chain READs go out now
      let s1 := dmaCount s c g false o.db.space o.db.bytes
      if o.db.space = 4 then
        let q := chainIssue s1 g c o 2 ((chainParts o.db).map (fun p => (p, [])))
        .go (setOp q.2 c o.num (fun o => { o with remote := q.1 }))
      else .go s1
    else
      match checkTile s g c o.db with
      | (some w, s1) => moveFail s1 c o w
      | (none, s1) =>
        let s2 := if o.da.space = 0 && o.db.space = 0 then s1 else dmaCount s1 c g false o.db.space o.db.bytes
        match moveWrite s2 g c o (tileBytes s1 g c o.db) with
        | (some w, s3) => .fail w s3
        | (none, s3) => .go s3

/-! ### The sequence unit (R153, R242) -/

/-- The address of one KV entry as a row reads or writes it: its own block, or its provisional buffer (R222, R234). -/
def kvAddr (s : State) (n : Nat) (r : Row) (pos l h : Nat) : Nat :=
  let q := s.seq r.slot
  match r.kind, r.buffer with
  | 2, some b =>
    if q.c < pos then provAddr s n b (pos - q.c - 1) l h
    else entryAddr s n (match tget none q.table (pos / kvB s n) with
      | some d => (tget {} (s.seqSec n).blk d).frame | none => 0) (pos % kvB s n) l h
  | _, _ => entryAddr s n (match tget none q.table (pos / kvB s n) with
      | some d => (tget {} (s.seqSec n).blk d).frame | none => 0) (pos % kvB s n) l h

/-- The descriptor whose frame holds a Sector-relative address (R223). -/
def blkAt (s : State) (n a : Nat) : Option Nat :=
  let p := kvPoolFirst s n * 2 ^ 26
  if a < p || kvFB s n = 0 then none
  else ((s.seqSec n).blk.find? (fun b => blkHasFrame b.2 && b.2.frame == (a - p) / kvFB s n)).map (·.1)

/-- An uncorrectable line of a KV frame poisons its block (R223). -/
def poisonAt (s : State) (n a : Nat) : State :=
  match blkAt s n a with
  | some d => poisonBlk s n d stMEM
  | none => s

/-- Replace the row that SX names. -/
def setRow (s : State) (n i : Nat) (r : Row) : State :=
  let x := s.seqSec n
  match x.step with
  | none => s
  | some p => s.setSeqSec n { x with step := some { p with rows := p.rows.set i r } }

/-- Sequence instructions at their start. -/
def seqEff (s : State) (g : Group) (c : Nat) (o : TileOp) : Eff :=
  let n := g.sector
  match batchRow s g o.sx with
  | none => .trap 0x0A
  | some r =>
    let q := s.seq r.slot
    let e := kvE s n
    let rows (a : Nat) : List (Nat × Nat) :=
      (List.range (kvCount o)).map (fun i => (a + i * (if o.op = 1 then o.da.rowStride else o.db.rowStride),
        kvAddr s n r (kvFirst o + i) (kvLayer o) (kvHalf o)))
    match o.op with
    | 0 =>
      let rec_ := leBytes 8 q.c ++ leBytes 4 q.c ++ leBytes 4 r.len ++ leBytes 2 r.slot ++
        leBytes 1 (s.sector n).kvLog ++ leBytes 1 r.kind ++ List.replicate 12 0
      let d := o.da
      .go ((d.ranges.zipIdx.foldl (fun s p => clmPut s c p.1.1 (sub rec_ (p.2 * d.rowLen) (min p.1.2 (32 - p.2 * d.rowLen)))) s))
    | 1 =>
      match tileTrap s g o.da with
      | some t => .trap t
      | none =>
        let ps := rows o.da.base
        let chk := ps.foldl (fun (acc : (Option Cond × Nat) × State) p =>
          let m := memCheck acc.2 g c 2 p.2 e
          match acc.1.1, m.1 with
          | none, some w => ((some w, p.2), m.2)
          | _, _ => (acc.1, m.2)) ((none, 0), s)
        match chk.1.1 with
        | some w => .fail w (poisonAt chk.2 n chk.1.2)
        | none => .go (ps.foldl (fun s1 p => spaceWrite s1 g c o.da.space p.1 (spaceRead s g c 2 p.2 e)) chk.2)
    | 2 =>
      match tileTrap s g o.db with
      | some t => .trap t
      | none =>
        match checkTile s g c o.db with
        | (some w, s1) => .fail w s1
        | (none, s1) => .go ((rows o.db.base).foldl (fun s2 p => spaceWrite s2 g c 2 p.2 (spaceRead s g c o.db.space p.1 e)) s1)
    | _ =>
      let v := o.da.rows * o.da.cols
      match tileTrap s g o.da with
      | some t => .trap t
      | none =>
        if !mayTake q r then .trap 0x0A
        else if r.vocab.isSome && r.vocab != some v then .trap 0x04
        else
          match checkTile s g c o.da with
          | (some w, s1) => .fail w s1
          | (none, s1) =>
            let rd := spaceRead s1 g c o.da.space
            let xs := (List.range v).map (fun i => o.da.f32 rd (i / o.da.cols) (i % o.da.cols))
            let m := q.reservedBy.map (fun k => (s1.seq k).pendingTok)
            let r1 := takeSample q r m xs
            let d := decision s1 r1
            .go (clmPut (setRow d.2 n o.sx.toNat r1) c o.db.base d.1)

/-! ### Synchronisation (R150 to R152) -/

/-- The key of the arrivals of a logical core at a barrier. -/
def arrivalKey (b l : Nat) : Nat := 192 * b + l

/-- A barrier at its start: the core arrives (R150). -/
def barEff (s : State) (g : Group) (c : Nat) (o : TileOp) : Eff :=
  let x := s.core c
  let k := arrivalKey (tImm o.word % 16) x.logical
  let n := tget 0 g.arrivals k + 1
  .go (setOp (s.setGroup x.group (some { g with arrivals := tput 0 g.arrivals k n })) c o.num (fun o => { o with arrival := n }))

/-- Every core of the group has arrived for the k-th time, or has exited. -/
def barReleased (s : State) (g : Group) (b k : Nat) : Bool :=
  g.cores.all (fun c => (s.core c).run == .exited || decide (k ≤ tget 0 g.arrivals (arrivalKey b (s.core c).logical)))

/-- A context may signal an event, and may wait on one (R282, R283). -/
def maySignal (s : State) (ctx e : Nat) : Bool :=
  s.tables.isSome && (s.event e).st != .free && (s.event e).owner == ctx
def mayWait (s : State) (ctx e : Nat) : Bool :=
  let v := s.event e
  s.tables.isSome && v.st != .free && (v.owner == ctx || (v.group != 0 && v.group == (s.ctx ctx).group))

/-- CV_EVENT as an end of a command by a kernel (R282, R283). -/
def cvEvent : Cond := ⟨stINVALID, invalidDetail 6 0⟩

/-! ### The start -/

/-- The effect of an instruction at its start. -/
def startEff (s : State) (g : Group) (c : Nat) (o : TileOp) : Eff :=
  match o.cls with
  | 0 => matrixEff s g c o
  | 1 => vectorEff s g c o
  | 2 => moveEff s g c o
  | 3 => if o.op = 0 then barEff s g c o else .go s
  | _ => seqEff s g c o

/-- Start one instruction. -/
def startOp (s : State) (g : Group) (c : Nat) (o : TileOp) : State :=
  let s0 := setOp s c o.num (fun o => { o with started := true })
  match startEff s0 g c o with
  | .go s1 => s1
  | .trap t => trapTile (dropOp s c o.num) c o t
  | .fail w s1 => failTile s1 c o.num (s.core c).group w

/-- The HM units of an instruction that are to be translated for reading, and for writing (R307). -/
def hmRead (o : TileOp) : List Nat := match o.source with | some d => if d.space = 3 then unitsOf d.ranges else [] | none => []
def hmWriteUnits (o : TileOp) : List Nat := match o.dest with | some d => if d.space = 3 then unitsOf d.ranges else [] | none => []

/-- The command a group belongs to, as the fault queue names it: ring and index; the step scheduler's launches name none. -/
def ownerCmd (g : Group) : Nat × BitVec 32 := match g.owner with | .cmd q i _ => (q, i) | .step _ => (0, 0)

/-- Ask for the translation of one side of an instruction. -/
def askXlate (s : State) (g : Group) (c : Nat) (o : TileOp) (write : Bool) : Bool × State :=
  let x := s.ctx g.ctx
  xlAsk s { who := .tile c o.num, sector := g.sector, ctx := g.ctx, slot := x.slot, pasid := x.pasid, write := write,
            source := engineOf c o, stream := tSTREAM o.word, ring := (ownerCmd g).1, idx := (ownerCmd g).2, units := [] }
    (if write then hmWriteUnits o else hmRead o)

/-- No extent that an instruction accesses waits for its channels (R112): those of its descriptors, and of the KV pool and the
provisional pool for KVGATHER and KVPUT. -/
def tileReady (s : State) (g : Group) (o : TileOp) : Bool :=
  let ok (d : Option Desc) : Bool := match d with
    | some x => x.space != 2 || x.ranges.all (fun r => rangeReady s g.sector r.1 r.2)
    | none => true
  let kv := o.cls == 4 && (o.op == 1 || o.op == 2)
  ok o.source && ok o.dest && (!(kv && o.op == 2) || ok (some o.db)) &&
  (!kv || (rangeReady s g.sector (kvPoolFirst s g.sector * 2 ^ 26) (kvFrames s g.sector * kvFB s g.sector) &&
           rangeReady s g.sector (provFirst s g.sector * 2 ^ 26) (provExtents s g.sector * 2 ^ 26)))

/-- Take an instruction that may start one stage on: ask for leave, ask for the translation of its source and then of its
destination, start. None where it has to wait. -/
def advance (s : State) (g : Group) (c : Nat) (o : TileOp) : Option State :=
  match leaveNeed s o, o.leave with
  | some (k, n), 0 =>
    some (askLeave (setOp s c o.num (fun o => { o with leave := 1 })) g.sector (.tile c o.num) g.ctx (groupClass s g) k n)
  | some _, 1 => none
  | _, _ =>
    let go (xl : Nat) (b : Bool) : Option State :=
      let q := askXlate s g c o b
      some (setOp q.2 c o.num (fun o => { o with xl := if q.1 then xl + 1 else xl }))
    if o.xl = 1 || o.xl = 4 then none
    else if o.xl = 0 && !(hmRead o).isEmpty then go 1 false
    else if o.xl ≤ 2 && !(hmWriteUnits o).isEmpty then go 4 true
    else if !tileReady s g o then none
    else some (startOp s g c o)

/-- Advance whatever can be advanced on a core. `xl` counts: 0 nothing asked, 1 the source waits, 2 it is translated, 4 the
destination waits, 5 it is translated. -/
def pump : Nat → State → Nat → State
  | 0, s, _ => s
  | k + 1, s, c =>
    let x := s.core c
    match s.group x.group with
    | none => s
    | some g =>
      if g.stopped || !g.cores.contains c then s
      else
        match (withPrefix [] x.q).findSome? (fun p => if mayStartOp s c x p.1 p.2 then advance s g c p.2 else none) with
        | some s1 => pump k s1 c
        | none => s

/-- A core goes on; every core of a group does. -/
def pumpCore (s : State) (c : Nat) : State := chRun (pump (4 * (s.core c).q.length + 4) s c)
def pumpGroup (s : State) (k : Nat) : State :=
  match s.group k with
  | none => s
  | some g => g.cores.foldl pumpCore s

/-! ### Issue -/

/-- Issue the tile word that a core fetched (R133, R134): it captures its descriptors and scalars (R132), and the PC moves
past it. Nothing happens where the core does not issue, where the word is not of this class and OP, or while the unit's
queue of 32 is full. -/
def issueTile (s : State) (c cls op : Nat) (w : BitVec 64) (residueOk : Bool := true) : State :=
  match issuing s c with
  | none => s
  | some (x, g) =>
    if tCLASS w != cls || tOP w != op || bits w.toNat 31 26 != 0x3F then s
    else if g.codeLen ≤ x.pc then trapCore s.fresh.2 c 0x03 0 0 (s.fresh.1.toNat % 64) x.pc
    else if x.pc % 8 != 0 then trapCore s c 0x01 0 0 0x3F x.pc
    else
      let u := (tileUse cls op).getD {}
      let o : TileOp := {
        num := x.issued, word := w, pc := x.pc,
        ta := if u.ta then x.treg (tTA w) else 0, tb := if u.tb then x.treg (tTB w) else 0,
        tc := if u.tc then x.treg (tTC w) else 0,
        sx := if u.sx then x.sreg (tSX w) else 0, sy := if u.sy then x.sreg (tSY w) else 0, residueOk := residueOk }
      match issueTrap s g o with
      | some t => trapTile s c o t
      | none =>
        if 32 ≤ (x.q.filter (fun p => p.cls == cls)).length then s
        else
          pumpCore (s.setCore c { x with q := x.q ++ [o], issued := x.issued + 1, pc := x.pc + 8 }) c

/-! ### Completion (R134) -/

/-- An acquire read of host memory has completed: the epoch of the slot rises (R332). -/
def acquireDone (s : State) (g : Group) (o : TileOp) : State :=
  if o.isMove && tACQ o.word && (match o.source with | some d => d.space == 3 | none => false) then
    epochUp s (s.ctx g.ctx).slot
  else s

/-- Take a completed instruction off: what waited for it goes on, and its group may end. -/
def finishOp (s : State) (c : Nat) (o : TileOp) : State :=
  let x := s.core c
  match s.group x.group with
  | none => dropOp s c o.num
  | some g =>
    let s1 := markLantern (markCtx (acquireDone s g o) g.ctx) (c / 12)
    let s2 := dropOp s1 c o.num
    if g.stopped then settleGroup s2 x.group
    else settleGroup (pumpGroup s2 x.group) x.group

/-- The bytes of a READ's ranges that came over Chain: DATA by window offset (R377), fallback parts from the host (R395). -/
def remoteByte (o : TileOp) (host : HostView) (a : Nat) : Option Byte :=
  match o.got.find? (fun p => decide (p.1 ≤ a) && decide (a < p.1 + p.2.length)) with
  | some p => p.2[a - p.1]?
  | none =>
    match o.fb.find? (fun p => decide (p.1 ≤ a) && decide (a < p.1 + p.2.2)) with
    | some p => (hostRead host p.2.1 p.2.2).bind (fun b => b[a - p.1]?)
    | none => none

/-- The source bytes of an instruction that reads the host or Chain; none where a host read does not complete
successfully. -/
def outsideBytes (o : TileOp) (d : Desc) (host : HostView) : Option (List (List Byte)) :=
  d.ranges.mapM (fun r =>
    if d.space = 3 then hostRead host r.1 r.2
    else (List.range r.2).mapM (fun i => remoteByte o host (r.1 + i)))

/-- An instruction that reads outside delivers its bytes. -/
def deliver (s : State) (g : Group) (c : Nat) (o : TileOp) (d : Desc) (host : HostView) : State :=
  match outsideBytes o d host with
  | none =>
    let a := (d.ranges.find? (fun r => hostRead host r.1 r.2 == none)).map (·.1) |>.getD d.base
    failTile (raise s evATF 5) c o.num (s.core c).group ⟨stXLATE, xlateDetail (a / 2 ^ 21) 7⟩
  | some bs =>
    if o.cls = 0 then
      match tget none (s.core c).acc (tACC o.word) with
      | none => s
      | some a =>
        -- the partial's elements, row by row
        let v (i j : Nat) : F32 := toF32 (ofF32 (BitVec.ofNat 32 (fieldAt (bs.getD i []) (4 * j) 4)))
        setOp (pushNode s c (tACC o.word) a (spanOf o.sx) v) c o.num (fun o => { o with wrote := true })
    else
      match moveWrite s g c o bs with
      | (some w, s1) => failTile s1 c o.num (s.core c).group w
      | (none, s1) => s1

/-- Host event waits and signals at their completion. -/
def syncDone (s : State) (g : Group) (c : Nat) (o : TileOp) (pre : List TileOp) : Option State :=
  let x := s.core c
  let host := bit o.word.toNat 63
  let landed := bit o.word.toNat 62
  let e := bits o.word.toNat 53 48
  let ev := o.sy.toNat % 65536
  match o.op with
  | 0 => if barReleased s g (tImm o.word % 16) o.arrival then some s else none
  | 1 =>
    if pre.any (·.writesShared) || (landed && writesOut s c o.num 65535 none) then none
    else if host then
      if maySignal s g.ctx ev then some (signalEvent s ev o.sx) else some (failTile s c o.num x.group cvEvent)
    else some (s.setGroup x.group (some { g with events := tmod 0 g.events e (· + o.sx) }))
  | 2 =>
    if host then
      let v := s.event ev
      if !mayWait s g.ctx ev then some (failTile s c o.num x.group cvEvent)
      else if o.sx.toNat ≤ v.value.toNat then some s
      else if v.st = .abandoned then
        some (failTile s c o.num x.group ⟨stABANDONED, BitVec.ofNat 64 (ev + v.error * 65536)⟩)
      else none
    else if o.sx.toNat ≤ (tget 0 g.events e).toNat then some s else none
  | _ =>
    let m := tImm o.word
    if writesOut s c o.num (if m = 0 then 65535 else m) none then none else some s

/-- A started instruction reports its completion: one that still waits for something changes nothing. -/
def tileDone (s : State) (c num : Nat) (host : HostView) : State :=
  let x := s.core c
  match (withPrefix [] x.q).find? (fun p => p.2.num == num) with
  | none => s
  | some (pre, o) =>
    if !o.started then s
    else if o.dead then finishOp s c o
    else
      match s.group x.group with
      | none => dropOp s c num
      | some g =>
        let done (s1 : State) : State :=
          match findOp s1 c num with
          | none => s1
          | some o1 => finishOp s1 c o1
        if o.attempt.isSome then s
        else if o.isMove && pre.any (fun p => p.isMove && tSTREAM p.word == tSTREAM o.word) then s
        else if o.cls = 3 then
          match syncDone s g c o pre with
          | none => s
          | some s1 => done s1
        else
          let sent (s1 : State) : State :=
            if (reqsOf s1 (.tile c num)).any (fun r => r.type == 1 && !r.sent) then s1 else done s1
          match o.source with
          | some d =>
            if 3 ≤ d.space && !o.wrote && (o.cls == 0 || o.op == 0) then
              if o.remote.isEmpty then sent (chRun (deliver s g c o d host)) else s
            else sent s
          | none => sent s

/-! ### The recompute ladder (R188 to R192) -/

/-- The relief core (R189). -/
def reliefCore (s : State) (c : Nat) : Option Nat :=
  let n := (s.resAt (resCore c)).sector
  ((List.range 11).map (fun i => c / 12 * 12 + (c % 12 + 1 + i) % 12)).find? (fun k =>
    (s.resAt (resCore k)).st == .lit && (s.resAt (resCore k)).sector == n &&
    !((s.core k).q.any (fun o => o.attempt.isSome)))

/-- A core's bit leaves the capability table, and its Lantern's where no core of that Lantern stays usable; CAP_AVAIL_SEQ is
even again (R38). -/
def availDrop (s : State) (c : Nat) : State :=
  let s1 := setReg s (0x80 + 8 * (c / 64)) (setBits (regNow s (0x80 + 8 * (c / 64))) (c % 64) (c % 64) 0)
  let l := c / 12
  let s2 := if (List.range 12).any (fun k => availCore s1 (12 * l + k)) then s1 else setReg s1 0x78 (setBits (regNow s1 0x78) l l 0)
  setReg s2 0x70 (regNow s2 0x70 + 2)

/-- Quarantine a core (R116, R190): it is DIMMING at once where it is LIT, and lights no more before a module warm reset. -/
def quarantine (s0 : State) (c : Nat) : State :=
  let s := availDrop s0 c
  let r := s.resAt (resCore c)
  s.setRes (resCore c) { r with quarantined := true, st := if r.st = .lit then .drain else r.st, pend := none, ready := false }

/-- One attempt of the ladder ends (R188 to R191). -/
def attemptDone (s : State) (c num : Nat) (pass : Bool) : State :=
  let x := s.core c
  match findOp s c num, s.group x.group with
  | some o, some g =>
    match o.attempt with
    | none => s
    | some k =>
      let s := markLantern s (c / 12)
      if o.dead then setOp s c num (fun o => { o with attempt := none })
      else if pass then
        match tget none x.acc (tACC o.word) with
        | none => s
        | some a =>
          let q := checkTile s g c o.da
          let p := checkTile q.2 g c o.db
          match q.1.or p.1 with
          | some w => failTile (setOp p.2 c num (fun o => { o with attempt := none })) c num x.group w
          | none =>
            let s1 := bump (mmaPush p.2 g c o a) (0x201038 + 0x10000 * (c / 12)) 1
            let s2 := setOp s1 c num (fun o => { o with attempt := none })
            if k = 3 then postLog s2 0x40 g.sector false (o.pc * 2 ^ 32 + (reliefCore s c).getD 0 * 2 ^ 16 + c) else s2
      else if k = 1 || (k = 2 && (reliefCore s c).isSome) then setOp s c num (fun o => { o with attempt := some (k + 1) })
      else
        -- persistent (R190)
        let s1 := quarantine (setOp s c num (fun o => { o with attempt := none })) c
        let s2 := failTile s1 c num x.group ⟨stRESIDUE, BitVec.ofNat 64 c⟩
        let s3 := postLog (postLog s2 0x41 g.sector false (o.pc * 2 ^ 32 + c) true) 1 g.sector false o.sx.toNat
        startCtxReset s3 g.ctx stRESIDUE 3
  | _, _ => s

end Sys2Proof.Machine
end

