-- ==== Sys2Proof/Machine/BlkOps.lean ====
section
/-!
DEFINITION. Spills and pulls of KV blocks (R208, R224 to R227).
-/
namespace Sys2Proof.Machine

def State.blk (s : State) (n d : Nat) : Blk := tget {} (s.seqSec n).blk d
def State.setBlk (s : State) (n d : Nat) (b : Blk) : State :=
  s.setSeqSec n { s.seqSec n with blk := tput {} (s.seqSec n).blk d b }

/-- The committed rows of a block within its frame: (offset, bytes), one for each layer and half (R199, R225). -/
def blkRanges (s : State) (n : Nat) (b : Blk) : List (Nat × Nat) :=
  (List.range (kvNL s n * 2)).map (fun lh => (lh * kvB s n * kvE s n, b.fill * kvE s n))

/-- Sector-relative address of a block's frame, and host address of its spill slot. -/
def frameAddr (s : State) (n : Nat) (b : Blk) : Nat := entryAddr s n b.frame 0 0 0
def slotAddr (s : State) (n : Nat) (b : Blk) : Nat := hspillAddr s n + b.spillAddr * kvFB s n

/-- Begin a spill's or pull's accesses: its leave is had. Host memory waits for its translation; a pool takes WRITE or READ
requests; a mooring that is not LEASED fails it (R225, R226, R379, R389). -/
def blkGo (s : State) (n d : Nat) : State :=
  let b := s.blk n d
  if b.begun || !(b.st == .spilling || b.st == .pulling) then s
  else
    let rs := blkRanges s n b
    -- a spill reads the frame: an uncorrectable line poisons the block, which stays RESIDENT (R356, Table 12-2)
    let chk := if b.st = .spilling then
        rs.foldl (fun (acc : Bool × State) r =>
          let m := memCheck acc.2 (plainGroup n b.ctx) 0 2 (frameAddr s n b + r.1) r.2
          (acc.1 || m.1.isSome, m.2)) (false, s)
      else (false, s)
    let s1 := chk.2.setBlk n d { b with begun := true }
    if chk.1 then poisonBlk (chk.2.setBlk n d { b with st := .resident }) n d stMEM
    else if b.hostTier then
      let w : XWait := { who := .blk n d, sector := n, ctx := b.ctx, slot := (s1.ctx b.ctx).slot,
                         pasid := (s1.ctx (stepCtx s1 n 0)).pasid, write := b.st == .spilling, source := 64, stream := 0,
                         ring := 0, idx := 0, units := [] }
      (xlAsk s1 w (unitsOf (rs.map (fun r => (slotAddr s1 n b + r.1, r.2))))).2
    else if (s1.moor b.mooring).st != .leased then
      failBlk s1 n d (unreachable (s1.moor b.mooring).cur.target 3 b.mooring)
    else
      let s2 := rs.foldl (fun s r =>
        (chSplit (r.2 / 64 + 2) (b.spillAddr + r.1) r.2).foldl (fun s p =>
          let data := if b.st = .spilling then cread s.sm (smKey n (frameAddr s n b + (p.1 - b.spillAddr))) p.2 else []
          chIssue s (.blk n d) n b.ctx (if b.st = .spilling then 1 else 2) b.mooring (frontStream n) p.1 p.2 data false) s) s1
      chRun s2

/-- Ask the Tender for leave where the amount asks for it (R225, Table 14-5), as decode-attention (Table 14-4); go on
otherwise. -/
def blkAsk (s : State) (n d : Nat) : State :=
  let b := s.blk n d
  let amount := ((blkRanges s n b).map Prod.snd).foldl (· + ·) 0
  let kind := if b.hostTier then 1 else 2
  if needsLeave s kind amount then askLeave s n (.blk n d) b.ctx 1 kind amount else blkGo s n d

/-- Something of a block's move is still under way. -/
def blkWaits (s : State) (n d : Nat) : Bool :=
  s.xl.waits.any (fun w => w.who == .blk n d) || s.chn.reqs.any (fun r => r.who == .blk n d) ||
  s.tnd.queues.any (fun q => q.2.any (fun g => g.who == .blk n d)) || !(s.blk n d).begun

/-! ### Spills (R224, R225) -/

/-- Blocks of a tier that hold or take a place there. -/
def tierBlocks (s : State) (n : Nat) (host : Bool) : List Blk :=
  ((s.seqSec n).blk.filter (fun p => p.2.hostTier == host &&
    (p.2.st == .spilling || p.2.st == .spilled || p.2.st == .pulling))).map Prod.snd

/-- The lowest free host spill slot; the lowest free place in the pool, of one frame each: choices of the X1
(notes/assumptions/10). -/
def freeHostSlot (s : State) (n : Nat) : Option Nat :=
  if bit (spillReg s n) 62 then lowestFree ((tierBlocks s n true).map (·.spillAddr)) (bits (spillReg s n) 47 24) else none
def freePoolPlace (s : State) (n : Nat) : Option Nat :=
  (lowestFree ((tierBlocks s n false).map (fun b => b.spillAddr / max 1 (kvFB s n))) (2 ^ 47 / max 1 (kvFB s n))).map (· * kvFB s n)

/-- Spill a victim: to the pool, or to a host slot; where no tier takes it, it stays RESIDENT and SPILL_FAIL is set. -/
def startSpill (s : State) (n d : Nat) : State :=
  let b := s.blk n d
  let place := if bit (spillReg s n) 63 then (freePoolPlace s n).map (fun a => (false, a)) else (freeHostSlot s n).map (fun k => (true, k))
  match place with
  | none => raiseSeq s n 4
  | some (host, a) =>
    blkAsk (s.setBlk n d { b with st := .spilling, hostTier := host, spillAddr := a, fallback := false, begun := false,
                                  mooring := bits (spillReg s n) 57 48 }) n d

/-- The pool answered SHORTFALL: the block goes to the host tier, with FALLBACK set (R225). -/
def spillToHost (s : State) (n d : Nat) : State :=
  let b := s.blk n d
  let s1 := dropWaits s (.blk n d)
  match freeHostSlot s1 n with
  | none => failSpill s1 n d
  | some k => blkGo (s1.setBlk n d { b with hostTier := true, fallback := true, spillAddr := k, begun := false }) n d

/-- Sequences that name a descriptor. -/
def naming (s : State) (n d : Nat) : List Seq :=
  (s.seqs.filter (fun p => p.2.sector == n && p.2.st != .free && p.2.table.any (fun t => t.2 == some d))).map Prod.snd

/-- A block may be a victim (R224). -/
def mayVictim (s : State) (n d : Nat) (b : Blk) : Bool :=
  b.st == .resident && !b.poisoned && (naming s n d).all (fun q => q.st != .inStep && q.st != .pulling && q.st != .closing)

/-- The next victim: blocks named only by IDLE sequences before others, then lower LAST_USE, then lower index. -/
def nextVictim (s : State) (n : Nat) : Option Nat :=
  ((s.seqSec n).blk.foldl (fun (best : Option (Nat × Nat × Nat)) p =>
    if !mayVictim s n p.1 p.2 then best
    else
      let g := if (naming s n p.1).all (fun q => q.st == .idle) then 0 else 1
      match best with
      | none => some (g, p.2.lastUse.toNat, p.1)
      | some (g0, u0, _) => if g < g0 || (g = g0 && p.2.lastUse.toNat < u0) then some (g, p.2.lastUse.toNat, p.1) else best)
    none).map (·.2.2)

/-- Spill victims one by one while more are needed. -/
def spillMore (need : State → Bool) : Nat → State → Nat → State
  | 0, s, _ => s
  | k + 1, s, n =>
    if !need s then s
    else
      match nextVictim s n with
      | none => s
      | some d =>
        let s1 := startSpill s n d
        if (s1.blk n d).st = .resident then s1 else spillMore need k s1 n

/-- Spilling goes on (R224): it begins when free frames fall below LOW or a row is held, and ends at HIGH with no row
held. Blocks being spilled count as room to come; a held row asks for one at a time. -/
def spillPump (s : State) (n : Nat) (held : Bool) : State :=
  let frames := kvFrames s n
  let low := bits (spillReg s n) 7 0
  let high := bits (spillReg s n) 15 8
  let free (s : State) : Nat := freeFrames s n
  let going (s : State) : Nat := ((s.seqSec n).blk.filter (fun p => p.2.st == .spilling)).length
  let on := held || decide (free s * 256 < low * frames) || ((s.seqSec n).spilling && decide (free s * 256 < high * frames))
  let s1 := s.setSeqSec n { s.seqSec n with spilling := on }
  if !on then s1
  else spillMore (fun s => decide ((free s + going s) * 256 < high * frames) || (held && going s == 0)) frames s1 n

/-! ### Pulls (R226) -/

/-- The sequence names a block that is not RESIDENT. -/
def needsPull (s : State) (slot : Nat) : Bool :=
  let x := s.seq slot
  x.table.any (fun t => match t.2 with | some d => (s.blk x.sector d).st != .resident | none => false)

/-- A FORK waits at the head of the sequence's queue with its pull started. -/
def forkWaits (s : State) (slot : Nat) : Option (Nat × BitVec 32) :=
  match (s.seq slot).queue.head? with
  | none => none
  | some p => match seqCmd s p.1 p.2 with
    | some c => if c.opcode = 0x43 && c.st = .started then some p else none
    | none => none

/-- A PULLING sequence whose blocks are all RESIDENT goes on: a PREFETCH is done, other commands make it READY. -/
def settlePull (s : State) (slot : Nat) : State :=
  let x := s.seq slot
  if x.st != .pulling || needsPull s slot then s
  else
    match x.run with
    | some u =>
      if u.opcode = 0x42 && bit (fieldAt u.raw 33 1) 0 then endRun s slot stDONE none 0 .idle
      else s.setSeq slot { x with st := .ready }
    | none => s.setSeq slot { x with st := if (forkWaits s slot).isSome then .ready else .idle }

/-- Read one SPILLED block into a new frame, where one is free. -/
def pullBlock (s : State) (n d : Nat) : State :=
  let b := s.blk n d
  match lowestFree (usedFrames (s.seqSec n)) (kvFrames s n) with
  | none => spillPump s n true
  | some f => blkAsk (s.setBlk n d { b with st := .pulling, frame := f, begun := false, fb := [] }) n d

/-- Every SPILLED block of a PULLING sequence is read back (R226). -/
def pumpPulls (s : State) (n : Nat) : State :=
  s.seqs.foldl (fun s p =>
    let x := s.seq p.1
    if x.sector != n || x.st != .pulling then s
    else
      let s1 := x.table.foldl (fun s t => match t.2 with
        | some d => if (s.blk n d).st = .spilled && (s.seq p.1).st = .pulling then pullBlock s n d else s
        | none => s) s
      settlePull s1 p.1) s

/-- A sequence enters PULLING where it names a block that is not RESIDENT: hints for all of its pool blocks, then the reads
(R226). Otherwise it is READY at once. -/
def startPull (s : State) (slot : Nat) : State :=
  let x := s.seq slot
  let n := x.sector
  let s1 := s.setSeq slot { x with st := .pulling }
  let s2 := x.table.foldl (fun s t => match t.2 with
    | some d =>
      let b := s.blk n d
      if b.st = .spilled && !b.hostTier && (s.moor b.mooring).st = .leased then
        chIssue s (.blk n d) n b.ctx 3 b.mooring (frontStream n) b.spillAddr (kvFB s n) [] false
      else s
    | none => s) s1
  pumpPulls s2 n

/-- A command whose blocks came back from the host tier after a pool shortfall (R226, R398). -/
def markShort (s : State) (slot units moor : Nat) : State :=
  let x := s.seq slot
  let mark (s : State) (q : Nat) (i : BitVec 32) : State :=
    match seqCmd s q i with
    | none => s
    | some c => s.setRing q ((s.ring q).put { c with short := true, units := c.units + units, moor := moor })
  match x.run with
  | some u => mark (s.setSeq slot { x with run := some { u with short := true } }) u.ring u.idx
  | none => match forkWaits s slot with
    | some p => mark s p.1 p.2
    | none => s

/-- A pull has brought its rows (R226): the block is RESIDENT, the sequences that waited go on. -/
def pullDone (s : State) (n d : Nat) : State :=
  let b := s.blk n d
  let units := b.fill * kvE s n * kvNL s n * 2 / 64
  let slots := (slotsNaming s n d).filter (fun i => (s.seq i).st == .pulling)
  let s1 := if b.hostTier && b.fallback then slots.foldl (fun s i => markShort s i units b.mooring) s else s
  let s2 := s1.setBlk n d { b with st := .resident, begun := false, hostTier := false, fallback := false, fb := [] }
  let s3 := slots.foldl settlePull (seqCount (markCtx (markSeqEngine s2 n) b.ctx) n 9 1)
  pumpPulls s3 n

/-- A spill's write is acknowledged (R225): the block is SPILLED and its frame is free. -/
def spillDone (s : State) (n d : Nat) : State :=
  let b := s.blk n d
  let s1 := s.setBlk n d { b with st := .spilled, begun := false }
  pumpPulls (spillPump (seqCount (markSeqEngine s1 n) n (if b.hostTier then 8 else 7) 1) n false) n

end Sys2Proof.Machine
end

