-- ==== Sys2Proof/Machine/RingOps.lean ====
section
/-!
DEFINITION. Fetching and checking commands (R271 to R279, R286 to R292), and what waiters do once a translation or a leave
is had: the shared operations of rings, launches, copies and waits.
-/
namespace Sys2Proof.Machine

/-! ### The checks of R291 -/

/-- An INVALID_COMMAND of class 0 with its code and the offset of the failing field. -/
def cv (code off : Nat) (hi : Nat := 0) : Option Cond := some ⟨stINVALID, invalidDetail code 0 off hi⟩

/-- The opcode is accepted on the ring's kind (Tables 9-5, 9-11, 7-4); BUFFER is not accepted inside a buffer. -/
def opcodeOk (kind op : Nat) (inBuf : Bool) : Bool :=
  if kind = 0 then op ≤ 4 && !(op == 2 && inBuf)
  else if kind = 1 then 0x40 ≤ op && op ≤ 0x45
  else if kind = 2 then op == 0 || op == 3 || op == 4 || op == 0x10 || op == 0x11
  else op == 0 || (0x80 ≤ op && op ≤ 0x88)

/-- Reserved fields of a command: offset, bytes, and how many low bits of them are used (Tables 9-9, 9-12, 7-5 to 7-9). -/
def reservedOf (op : Nat) : List (Nat × Nat × Nat) :=
  [(2, 2, 2), (4, 2, 14), (6, 2, 0)] ++
  (if op = 0x01 then [(34, 1, 1), (35, 5, 0), (48, 16, 0)]
  else if op = 0x02 then [(20, 4, 0), (36, 28, 0)]
  else if op = 0x03 then [(19, 5, 0), (32, 32, 0)]
  else if op = 0x04 then [(18, 6, 0), (32, 32, 0)]
  else if op = 0x10 then [(50, 1, 1), (51, 5, 0)]
  else if op = 0x11 then [(16, 4, 0), (50, 1, 1), (51, 5, 0)]
  else if op = 0x40 then [(21, 1, 0), (56, 8, 0)]
  else if op = 0x41 then [(33, 31, 0)]
  else if op = 0x42 then [(33, 1, 2), (46, 2, 0), (60, 4, 0)]
  else if op = 0x43 then [(50, 14, 0)]
  else if op = 0x44 || op = 0x45 then [(20, 44, 0)]
  else if op = 0x80 then [(42, 22, 0)]
  else if 0x81 ≤ op ∧ op ≤ 0x83 then [(16, 2, 14), (18, 46, 0)]
  else if op = 0x84 then [(19, 1, 1), (42, 2, 0), (48, 16, 0)]
  else if op = 0x85 || op = 0x86 then [(18, 46, 0)]
  else if op = 0x87 then [(32, 32, 0)]
  else if op = 0x88 then [(20, 4, 0), (32, 32, 0)]
  else [(16, 48, 0)])

/-- A vector field names no interrupt, or one of the vectors of rings and events (Table 9-2). -/
def vectorOk (v : Nat) : Bool := v == 0 || (decide (32 ≤ v) && decide (v ≤ 2047))

/-- Fields against Table 9-12, in ascending offset: each with whether it is within its permitted values. -/
def fieldChecks (s : State) (q : Nat) (c : Cmd) : List (Nat × Bool) :=
  let f := c.f
  let n := (s.ring q).sector
  let al (v : Nat) : Bool := v % 4096 == 0
  let lg (v hi : Nat) : Bool := decide (6 ≤ v) && decide (v ≤ hi)
  let sig (o : Nat) : List (Nat × Bool) :=
    let en := bit (f (o + 2) 1) 0
    [(o, en || f o 2 == 0), (o + 8, en || f (o + 8) 8 == 0)]
  let ev := match s.tables with | some t => decide (f 16 2 < 2 ^ t.eventLog) | none => true
  let r := s.ring (f 16 2)
  let foreign := r.sector != n && r.st != .free
  match c.opcode with
  | 0x01 => [(20, f 28 2 != 0 || f 20 4 == 0), (24, f 28 2 != 0 || f 24 4 == 0), (28, f 28 2 ≤ 4096),
             (30, 1 ≤ f 30 2 && f 30 2 ≤ 192)] ++ sig 32
  | 0x02 => [(24, f 24 8 % 64 == 0), (32, 1 ≤ f 32 4 && f 32 4 ≤ 65536)]
  | 0x03 => [(18, f 18 1 ≤ 0x0D)]
  | 0x10 => [(40, 1 ≤ f 40 8 && f 40 8 ≤ 2 ^ 40)] ++ sig 48
  | 0x11 => [(32, f 32 8 % 8 == 0), (40, f 40 8 % 8 == 0 && 8 ≤ f 40 8 && f 40 8 ≤ 2 ^ 40)] ++ sig 48
  | 0x80 => [(16, al (f 16 8)), (24, al (f 24 8)), (32, al (f 32 8)), (40, lg (f 40 1) 20), (41, lg (f 41 1) 16)]
  | 0x84 =>
    let x := s.ctx (f 20 2)
    [(16, f 16 2 < 4096), (18, f 18 1 ≤ 2), (20, x.st == .resident || (x.st != .inactive && x.sector != n)),
     (22, vectorOk (f 22 2)), (24, al (f 24 8)), (32, al (f 32 8)), (40, lg (f 40 1) 16), (41, lg (f 41 1) 16),
     (44, if bit (f 19 1) 0 then f 44 4 < 2 ^ 20 else f 44 4 == 0)]
  | 0x85 => [(16, f 16 2 < 4096 && (foreign || (f 16 2 != q && r.st != .free)))]
  | 0x86 => [(16, f 16 2 < 4096 && (foreign || r.st == .stopped))]
  | 0x87 => [(16, ev), (18, vectorOk (f 18 2)), (20, (s.ctx (f 20 2)).st != .inactive)]
  | 0x88 => [(16, ev), (18, f 18 1 ≤ 2),
             (19, if f 18 1 = 1 then 1 ≤ f 19 1 && f 19 1 ≤ 0x0D else f 19 1 == 0), (24, f 18 1 == 0 || f 24 8 == 0)]
  | _ => []

/-- A command that needs the object tables (R264). -/
def needsTables (op : Nat) : Bool :=
  [0x01, 0x02, 0x03, 0x04, 0x10, 0x11, 0x81, 0x87, 0x88].contains op

/-- A context or ring of another Sector, by the offset of its field (R288). -/
def sectorErr (s : State) (q : Nat) (c : Cmd) : Option Nat :=
  let n := (s.ring q).sector
  let ctxBad (off : Nat) : Option Nat :=
    let x := s.ctx (c.f off 2)
    if x.st != .inactive && x.sector != n then some off else none
  let ringBad : Option Nat := let r := s.ring (c.f 16 2); if r.st != .free && r.sector != n then some 16 else none
  match c.opcode with
  | 0x81 => ctxBad 16
  | 0x82 => ctxBad 16
  | 0x83 => ctxBad 16
  | 0x84 => ctxBad 20
  | 0x85 => ringBad
  | 0x86 => ringBad
  | 0x87 => ctxBad 20
  | _ => none

/-- What a fetch check read for a field. -/
def Cmd.read (c : Cmd) (off : Nat) : Option (List Byte) := (c.rd.find? (fun p => p.1 == off)).map (·.2)

/-- One handle under R278: rights it needs, and the range within the object. -/
def handleErr (s : State) (q : Nat) (c : Cmd) (off rights first len : Nat) : Option Cond :=
  let h := c.f off 4
  let r := s.ring q
  match s.tables with
  | none => cv 0x0C 0
  | some t =>
    if 2 ^ t.handleLog ≤ h % 2 ^ 20 then cv 0x05 off
    else
      match c.read off with
      | none => cv 0x0E off
      | some e =>
        let own := fieldAt e 4 2 % 2 ^ 14
        let o := s.ctx own
        if fieldAt e 2 1 = 0 || fieldAt e 0 2 % 4096 != h / 2 ^ 20 then some ⟨stSTALE, BitVec.ofNat 64 h⟩
        else if (own != r.ctx && !(bit (fieldAt e 6 1) 3 && o.st != .inactive && o.sector == r.sector)) ||
            (fieldAt e 6 1 &&& rights) != rights ||
            !(fieldAt e 3 1 == 2 || fieldAt e 3 1 == 3) ||
            fieldAt e 7 1 != (if fieldAt e 3 1 = 2 then r.sector else 0) ||
            fieldAt e 16 8 < first + len || fieldAt e 16 8 == 0 || fieldAt e 16 8 % 64 != 0 || fieldAt e 8 8 % 64 != 0 ||
            (fieldAt e 3 1 == 2 && 2 ^ 39 < fieldAt e 8 8 + fieldAt e 16 8) ||
            fieldAt e 2 1 != 1 || 4096 ≤ fieldAt e 0 2 || 2 ^ 14 ≤ fieldAt e 4 2 || 16 ≤ fieldAt e 6 1 || !zeroAt e 24 8
        then cv 0x05 off
        else none

/-- The handles of a command, in ascending offset, with rights and range (Table 9-12). -/
def handlesOf (c : Cmd) : List (Nat × Nat × Nat × Nat) :=
  let f := c.f
  match c.opcode with
  | 0x01 => [(16, 4, 0, 0)] ++ (if f 28 2 = 0 then [] else [(20, 1, f 24 4, f 28 2)])
  | 0x02 => [(16, 1, f 24 8, 64 * f 32 4)]
  | 0x10 => [(16, 1, f 24 8, f 40 8), (20, 2, f 32 8, f 40 8)]
  | 0x11 => [(20, 2, f 32 8, f 40 8)]
  | _ => []

/-- The event a command signals or waits on, under R282 and R283. -/
def eventErr (s : State) (q : Nat) (c : Cmd) : Option Cond :=
  let ctx := (s.ring q).ctx
  let idx (e : Nat) : Bool := match s.tables with | some t => decide (e < 2 ^ t.eventLog) | none => false
  match c.opcode with
  | 0x03 => if idx (c.f 16 2) && maySignal s ctx (c.f 16 2) then none else cv 0x06 16
  | 0x04 => if idx (c.f 16 2) && mayWait s ctx (c.f 16 2) then none else cv 0x06 16
  | 0x88 => if c.f 18 1 ≤ 1 && (s.event (c.f 16 2)).st == .free then cv 0x06 16 else none
  | op =>
    match c.signal with
    | none => none
    | some (e, _) => if idx e && maySignal s ctx e then none else cv 0x06 (if op = 1 then 32 else 48)

/-- Steps 1 to 9 of R291; the record version agreed is 1 (R36, R262). -/
def fetchErr (s : State) (q : Nat) (c : Cmd) : Option Cond :=
  let r := s.ring q
  let op := c.opcode
  if !opcodeOk r.kind op c.buf.isSome then
    (if r.kind = 1 then some ⟨stINVALID, invalidDetail 0x01 2⟩ else cv 0x01 0)
  else if c.f 1 1 != 1 then cv 0x02 1
  else if c.f 4 2 % 2 ^ 14 != (if r.kind = 3 then 0 else r.ctx) then cv 0x04 4
  else
    match (reservedOf op).find? (fun p => decide (2 ^ p.2.2 ≤ c.f p.1 p.2.1)) with
    | some p => cv 0x03 p.1
    | none =>
      match (fieldChecks s q c).find? (fun p => !p.2) with
      | some p => cv 0x07 p.1
      | none =>
        if needsTables op && s.tables.isNone then cv 0x0C 0
        else
          match sectorErr s q c with
          | some o => cv 0x0B o
          | none =>
            match (handlesOf c).findSome? (fun h => handleErr s q c h.1 h.2.1 h.2.2.1 h.2.2.2) with
            | some w => some w
            | none => eventErr s q c

/-! ### Objects that handles name (R277, R278) -/

/-- A memory object's range: space, first address, and the PASID of its owner where it lies in host memory. -/
structure Obj where
  space : Nat
  base : Nat
  pasid : Option Nat
  deriving DecidableEq, Repr

/-- The object that a checked field names, at an offset in it. -/
def objOf (s : State) (c : Cmd) (off at_ : Nat) : Obj :=
  let e := (c.read off).getD []
  { space := fieldAt e 3 1, base := fieldAt e 8 8 + at_, pasid := (s.ctx (fieldAt e 4 2 % 2 ^ 14)).pasid }

/-- The first extent of a range that is not mapped. -/
def unmappedExtent (s : State) (n a len : Nat) (tag : Option Nat := none) : Option Nat :=
  ((List.range ((a + len - 1) / 2 ^ 26 + 1 - a / 2 ^ 26)).map (· + a / 2 ^ 26)).find? (fun e => (extentIn s n tag e).isNone)

/-- CV_EXTENT of an access under a field that names its handle (R292). -/
def extentErr (s : State) (n : Nat) (o : Obj) (off len : Nat) (tag : Option Nat := none) : Option Cond :=
  if o.space = 2 then
    match unmappedExtent s n o.base len tag with
    | some e => cv 0x0F off e
    | none => none
  else none

/-- An object's bytes do not wait for a channel (R112). -/
def objReady (s : State) (n : Nat) (o : Obj) (len : Nat) : Bool := o.space != 2 || rangeReady s n o.base len

/-- Read an object's bytes for the module itself: Sector memory, or host memory as the command's operand gives it. -/
def objRead (s : State) (n ctx : Nat) (o : Obj) (len : Nat) (host : HostView) : Except Cond (List Byte) × State :=
  if o.space = 2 then
    match memCheck s (plainGroup n ctx) 0 2 o.base len with
    | (some w, s1) => (.error w, s1)
    | (none, s1) => (.ok (cread s1.sm (smKey n o.base) len), s1)
  else
    match hostRead host o.base len with
    | some b => (.ok b, s)
    | none => (.error ⟨stXLATE, xlateDetail (o.base / 2 ^ 21) 7⟩, raise s evATF 5)

/-! ### Ring state (R272 to R275, R296, R462) -/

/-- Commands fetched and not completed, entries of BUFFERs apart. -/
def Ring.outstanding (r : Ring) : Nat := (r.cmds.filter (·.buf.isNone)).length

/-- A frozen or freezing Sector fetches nothing from its command, copy and sequence rings (R460, R462). -/
def sectorRuns (s : State) (n : Nat) : Bool := (s.frzAt n).st == .running

/-- The Sector's work may start: the junction trip has not stopped the module (R423, R522). -/
def workRuns (s : State) (n : Nat) : Bool := sectorRuns s n && !s.pins.thermTrip

/-- A sequence holds 16 queued commands, some of this ring's: the front end fetches nothing more from it (R210). -/
def seqFull (s : State) (q : Nat) : Bool :=
  s.seqs.any (fun p => decide (16 ≤ p.2.queue.length) && p.2.queue.any (fun e => e.1 == q))

/-- The ring is to fetch its next entry, and remove it without starting it where a context reset has marked it. -/
def mayFetch (s : State) (q : Nat) : Bool :=
  let r := s.ring q
  let marked := match r.mark with | some m => r.head != m | none => false
  let resetting := r.kind != 3 && (s.ctx r.ctx).st == .resetting
  r.head != r.tail && decide (r.outstanding < r.freeRecs) &&
  (r.st == .enabled || (r.st == .destroying && marked && resetting)) &&
  (marked || !resetting) &&
  (r.kind == 3 || sectorRuns s r.sector || marked) &&
  (r.kind != 1 || !seqFull s q) &&
  (r.kind != 3 || r.cmds.all (fun c => c.opcode == 0x81 && c.st == .held))

/-- A ring in DESTROYING whose commands have all posted is ready to become FREE. -/
def ringEmpty (r : Ring) : Bool := r.cmds.isEmpty && r.heldRecs.isEmpty

/-- The range conditions of Table 9-6, which stop an ENABLED ring (R274). -/
def checkRange (s : State) (q : Nat) : State :=
  let r := s.ring q
  if r.st != .enabled then s
  else if 2 ^ r.sqLog < (r.tail - r.head).toNat then s.setRing q { r with st := .stopped, error := 1 }
  else if 2 ^ r.cqLog < (r.cqTail - r.cqHead).toNat then s.setRing q { r with st := .stopped, error := 2 }
  else s

/-- Write the records held under CQ_WRITE, oldest first; one that fails again is held again with the rest. -/
def flushHeld (s : State) (q : Nat) : State :=
  let r := s.ring q
  r.heldRecs.foldl (fun s h => writeRecord s q h.1 h.2) (s.setRing q { r with heldRecs := [] })

/-- Rings of a Sector that are not FREE (R271). -/
def sectorRings (s : State) (n : Nat) : Nat := (s.rings.filter (fun r => r.2.st != .free && r.2.sector == n)).length

/-- What the fetch check reads for a command: handle entries, the context descriptor of a CTX_ACTIVATE, and the header of a
kernel in host memory, at key 0x100 (R120). -/
def fetchReads (s : State) (c : Cmd) (host : HostView) : List (Nat × List Byte) :=
  match s.tables with
  | none => []
  | some t =>
    let hs := (handlesOf c).filterMap (fun h =>
      (hostRead host (t.handle + 32 * (c.f h.1 4 % 2 ^ 20)) 32).map (fun b => (h.1, b)))
    let cx := if c.opcode = 0x81 then
        ((hostRead host (t.ctx + 64 * (c.f 16 2 % 2 ^ 14)) 64).map (fun b => (16, b))).toList else []
    let kh := if c.opcode = 0x01 then
        (match hs.find? (fun p => p.1 == 16) with
        | some p => if fieldAt p.2 3 1 = 3 then ((hostRead host (fieldAt p.2 8 8) 128).map (fun b => (0x100, b))).toList else []
        | none => []) else []
    hs ++ cx ++ kh

/-- The header of a LAUNCH's kernel as the fetch check sees it. -/
def kernelHeader (s : State) (q : Nat) (c : Cmd) : Option (List Byte) :=
  let o := objOf s c 16 0
  if o.space = 2 then
    (if unmappedExtent s (s.ring q).sector o.base 128 = none then
      some (cread s.sm (smKey (s.ring q).sector o.base) 128) else none)
  else c.read 0x100

/-- MAGIC of a kernel binary (Table 5-12). -/
def kernelMagic : Nat := 0x4C454E52454B584F

/-- A group size that a binary permits (R120). -/
def groupOk (h : List Byte) (g : Nat) : Bool :=
  decide (fieldAt h 48 2 ≤ g) && decide (g ≤ fieldAt h 50 2) && fieldAt h 52 2 != 0 && g % fieldAt h 52 2 == 0

/-- KL_GROUP at the fetch check of a LAUNCH (R120). -/
def launchFetchErr (s : State) (q : Nat) (c : Cmd) : Option Cond :=
  if c.opcode != 1 then none
  else match kernelHeader s q c with
    | none => none
    | some h => if fieldAt h 0 8 = kernelMagic && !groupOk h (c.f 30 2) then some ⟨stINVALID, invalidDetail 0x08 1⟩ else none

/-- A command that fails its check completes and starts nothing; a stale handle resets the context (R279). -/
def refuseCmd (s : State) (q : Nat) (c : Cmd) (w : Cond) : State :=
  let ctx := (s.ring q).ctx
  let s1 := completeCmd s q c w.status w.detail
  if w.status = stSTALE then startCtxReset s1 ctx stSTALE 3 else s1

/-- Queue a fetched sequence command at the slot it names, where it names one of its context (R210). -/
def queueSeq (s : State) (q : Nat) (c : Cmd) : State :=
  if 0x41 ≤ c.opcode && c.opcode ≤ 0x43 then
    let id := c.f 16 4
    let slot := id % 65536
    let x := s.seq slot
    if slot < 2048 && x.st != .free && x.gen.toNat == id / 65536 && x.ctx == (s.ring q).ctx then
      s.setSeq slot { x with queue := x.queue ++ [(q, c.idx)] }
    else s
  else s

/-- Take in one fetched command: it joins its ring and, where it fails its check, ends at once. A privileged command is
checked when it starts, after the one before it (R273); an opcode that its ring does not accept ends at once. -/
def takeCmd (s : State) (q : Nat) (c : Cmd) : State :=
  let r := s.ring q
  let s1 := s.setRing q { r with cmds := r.cmds ++ [c] }
  if r.kind = 3 then (if opcodeOk 3 c.opcode false then s1 else refuseCmd s1 q c ⟨stINVALID, invalidDetail 0x01 0⟩)
  else
    match (fetchErr s1 q c).or (launchFetchErr s1 q c) with
    | some w => refuseCmd s1 q c w
    | none => queueSeq s1 q c

/-- Fetch one entry (R272): a read that does not complete stops the ring with FETCH; an entry below a reset's mark is
removed. -/
def fetchOne (s : State) (q : Nat) (host : HostView) : State :=
  let r := s.ring q
  match hostRead host (r.sqBase + r.head.toNat % 2 ^ r.sqLog * 64) 64 with
  | none => if r.st = .enabled then s.setRing q { r with st := .stopped, error := 0x03 } else s
  | some raw =>
    let c0 : Cmd := { idx := r.head, raw := raw }
    let below := r.mark.isSome && r.mark != some r.head
    let m := match r.mark with
      | some m => if m = r.head + 1 && (s.ctx r.ctx).st != .resetting then none else r.mark
      | none => none
    let s1 := s.setRing q { r with head := r.head + 1, mark := m }
    if below then
      let s2 := s1.setRing q { s1.ring q with cmds := (s1.ring q).cmds ++ [c0] }
      completeCmd (removeSignal s2 r.ctx c0) q c0 stCTXRESET 0
    else takeCmd s1 q { c0 with rd := fetchReads s c0 host }

/-- Fetch while the ring allows it, at most `n` entries. -/
def fetchRing : Nat → State → Nat → HostView → State
  | 0, s, _, _ => s
  | n + 1, s, q, host => if mayFetch s q then fetchRing n (fetchOne s q host) q host else s

/-! ### Launches that wait for cores (R120) -/

/-- Cores LIT in a Sector that may be given a launch: no core of a dimming Lantern is (Table 4-4). -/
def litCores (s : State) (n : Nat) : List Nat :=
  (List.range 192).filter (fun k =>
    let l := s.resAt (resLantern (k / 12))
    (s.resAt (resCore k)).st == .lit && (s.resAt (resCore k)).sector == n && l.st == .lit && l.sector == n)

/-- LAUNCHes of a Sector that wait for more cores than are LIT end with KL_GROUP; a step's launch fails its step. To be
called wherever the LIT count of a Sector falls. -/
def recheckLaunches (s : State) (n : Nat) : State :=
  let lit := (litCores s n).length
  let s1 := s.rings.foldl (fun s r =>
    if r.2.sector != n then s
    else r.2.cmds.foldl (fun s c =>
      if c.opcode = 1 && c.st = .held && lit < c.f 30 2 then completeCmd s r.1 c stINVALID (invalidDetail 0x08 1) else s) s) s
  match (s1.seqSec n).step with
  | some p =>
    if !p.running && lit < ((tget [] (s1.seqSec n).program p.cls).getD p.launch default).group then
      failStep s1 n ⟨stINVALID, invalidDetail 0x08 1⟩ else s1
  | none => s1

/-! ### Pieces of a COPY or FILL (R290, R307) -/

/-- Source and destination of a COPY; a FILL has only a destination. -/
def copySrc (s : State) (c : Cmd) : Option Obj := if c.opcode = 0x10 then some (objOf s c 16 (c.f 24 8)) else none
def copyDst (s : State) (c : Cmd) : Obj := objOf s c 20 (c.f 32 8)

/-- Replace a piece of a command. -/
def setPiece (s : State) (q : Nat) (idx : BitVec 32) (buf : Option Nat) (off : Nat) (f : Piece → Piece) : State :=
  match (s.ring q).find idx buf with
  | none => s
  | some c => s.setRing q ((s.ring q).put { c with flight := c.flight.map (fun p => if p.off = off then f p else p) })

/-- Take one piece a stage on: leave, then the translation of its source (1 asked, 3 had) and of its destination (4 asked),
until it moves (2). -/
def advPiece (s : State) (q : Nat) (c : Cmd) (p : Piece) : Option State :=
  let r := s.ring q
  let x := s.ctx r.ctx
  let set (s : State) (f : Piece → Piece) : State := setPiece s q c.idx c.buf p.off f
  let src := copySrc s c
  let dst := copyDst s c
  let hbm := (match src with | some o => if o.space = 2 then p.len else 0 | none => 0) + (if dst.space = 2 then p.len else 0)
  let ask (o : Obj) (write : Bool) (yes no : Nat) : Option State :=
    let w : XWait := { who := .piece q c.idx c.buf p.off, sector := r.sector, ctx := r.ctx, slot := x.slot, pasid := o.pasid,
                       write := write, source := p.engine, stream := 0, ring := q, idx := c.idx, units := [] }
    let a := xlAsk s w (unitsOf [(o.base + p.off, p.len)])
    some (set a.2 (fun p => { p with xl := if a.1 then yes else no }))
  if p.leave = 0 && needsLeave s 1 hbm then
    some (askLeave (set s (fun p => { p with leave := 1 })) r.sector (.piece q c.idx c.buf p.off) r.ctx (slotClass s r.ctx) 1 hbm)
  else if p.leave = 1 then none
  else if p.xl = 0 then
    match src with
    | some o => if o.space = 3 then ask o false 3 1 else some (set s (fun p => { p with xl := 3 }))
    | none => some (set s (fun p => { p with xl := 3 }))
  else if p.xl = 3 then (if dst.space = 3 then ask dst true 2 4 else some (set s (fun p => { p with xl := 2 })))
  else none

/-- The tile-DMA engines of a Sector's LIT Lanterns, in turn. -/
def sectorDma (s : State) (n : Nat) : List Nat :=
  ((List.range 16).filter (fun l => (s.resAt (resLantern l)).st == .lit && (s.resAt (resLantern l)).sector == n)).flatMap
    (fun l => [4 * l, 4 * l + 1, 4 * l + 2, 4 * l + 3])

/-- Go on with a COPY or FILL: hand out pieces while fewer than 16 run, and take each as far as it can go. A piece whose
range reaches an unmapped extent ends the command with CV_EXTENT (R73, R292). -/
def runCopy : Nat → State → Nat → BitVec 32 → Option Nat → State
  | 0, s, _, _, _ => s
  | k + 1, s, q, idx, buf =>
    match (s.ring q).find idx buf with
    | none => s
    | some c =>
      let r := s.ring q
      match c.flight.findSome? (advPiece s q c) with
      | some s1 => runCopy k s1 q idx buf
      | none =>
        let total := c.f 40 8
        let es := sectorDma s r.sector
        if c.next < total && c.flight.length < 16 && !es.isEmpty then
          let len := min (2 ^ 20) (total - c.next)
          let bad := (match copySrc s c with
            | some o => extentErr s r.sector { o with base := o.base + c.next } 16 len c.tag
            | none => none).or (extentErr s r.sector { copyDst s c with base := (copyDst s c).base + c.next } 20 len c.tag)
          match bad with
          | some w => stopCopy s q c w (fun p => !p.moving)
          | none =>
            let p : Piece := { off := c.next, len := len, engine := es.getD (c.next / 2 ^ 20 % es.length) 0 }
            runCopy k (s.setRing q (r.put { c with next := c.next + len, flight := c.flight ++ [p] })) q idx buf
        else s

/-- The bytes a piece writes: the pattern of a FILL, the source of a COPY. -/
def pieceBytes (s : State) (q : Nat) (c : Cmd) (p : Piece) (host : HostView) : Except Cond (List Byte) × State :=
  let r := s.ring q
  match copySrc s c with
  | none => (.ok ((List.range p.len).map (fun i => sub c.raw (24 + i % 8) 1 |>.headD 0)), s)
  | some o =>
    let e := { o with base := o.base + p.off }
    objRead s r.sector r.ctx e p.len host

/-- Bytes of a COPY within one object's overlap take unspecified values (R290). -/
def overlapBytes (s : State) (c : Cmd) (p : Piece) (bs : List Byte) : List Byte × State :=
  match copySrc s c with
  | none => (bs, s)
  | some o =>
    let d := copyDst s c
    if o.space != d.space || o.pasid != d.pasid then (bs, s)
    else
      let n := c.f 40 8
      let hit (a : Nat) : Bool := decide (o.base ≤ a) && decide (a < o.base + n)
      (bs.zipIdx.map (fun b => if hit (d.base + p.off + b.2) then (Config.free (s.free + b.2)).setWidth 8 else b.1),
       if (o.base < d.base + n && d.base < o.base + n) then { s with free := s.free + bs.length } else s)

/-- A piece that moves completes (R290). -/
def pieceDone (s : State) (q : Nat) (idx : BitVec 32) (buf : Option Nat) (off : Nat) (host : HostView) : State :=
  match (s.ring q).find idx buf with
  | none => s
  | some c =>
    match c.flight.find? (fun p => p.off == off && p.moving) with
    | none => s
    | some p =>
      let r := s.ring q
      -- an access to a waiting extent waits (R112)
      let ready := objReady s r.sector { copyDst s c with base := (copyDst s c).base + off } p.len &&
        (match copySrc s c with | some o => objReady s r.sector { o with base := o.base + off } p.len | none => true)
      if !ready then s else
      let drop (s : State) (cs : List Cond) : State :=
        match (s.ring q).find idx buf with
        | none => s
        | some c1 =>
          let c2 := { c1 with flight := c1.flight.filter (fun x => !(x.off == off)), conds := c1.conds ++ cs,
                              next := if cs.isEmpty then c1.next else c1.f 40 8 }
          let s1 := s.setRing q ((s.ring q).put c2)
          if !c2.conds.isEmpty then
            -- it ends with its condition once the pieces that move have ended
            let c3 := { c2 with flight := c2.flight.filter (·.moving) }
            let s2 := (c2.flight.filter (fun x => !x.moving)).foldl (fun s x => dropWaits s (.piece q idx buf x.off)) s1
            if c3.flight.isEmpty then completeCmd s2 q c3 stDONE 0 else s2.setRing q ((s2.ring q).put c3)
          else if c2.flight.isEmpty && c2.f 40 8 ≤ c2.next then completeCmd s1 q c2 stDONE 0
          else runCopy 256 s1 q idx buf
      let s0 := markLantern (markCtx s r.ctx) (p.engine / 4)
      let halt (s : State) (w : Cond) : State :=
        if w.status = stMEM then
          let off := 0x200300 + 0x10000 * (p.engine / 4) + 8 * (p.engine % 4)
          let t := tput 0 s.regs off (BitVec.ofNat 64 (stMEM * 2 ^ 16 + 1))
          raise { s with regs := t } (evLNT (p.engine / 4)) 1
        else s
      match pieceBytes s0 q c p host with
      | (.error w, s1) => drop (halt s1 w) [w]
      | (.ok b0, s1) =>
        let b := overlapBytes s1 c p b0
        let d := copyDst s c
        let a := d.base + off
        let k := (s.ctx r.ctx).slot
        let l := 0x201000 + 0x10000 * (p.engine / 4)
        let s2 := bump (bump b.2 (l + 40) (if c.opcode = 0x10 then p.len else 0)) (l + 48) p.len
        let s3 := bump (bump s2 (tlmWord k 6) (if c.opcode = 0x10 then p.len else 0)) (tlmWord k 7) p.len
        if d.space = 2 then
          drop (smPut s3 r.sector a b.1) []
        else if hostWriteOk s3 a then drop (bump (hostWrite s3 d.pasid a b.1 false) (tlmWord k 9) p.len) []
        else drop (raise s3 evATF 5) [⟨stXLATE, xlateDetail (a / 2 ^ 21) 7⟩]

/-! ### What waits goes on -/

/-- A waiter's translation is had (R308). -/
def waiterReady (s : State) (w : XWait) : State :=
  match w.who with
  | .tile c num => pumpCore (setOp s c num (fun o => { o with xl := o.xl + 1 })) c
  | .piece q i b off =>
    runCopy 256 (setPiece s q i b off (fun p => { p with xl := if p.xl = 1 then 3 else 2 })) q i b
  | .seq i => let x := s.seq i; s.setSeq i { x with xl := if x.xl = 1 then 2 else x.xl }
  | _ => s

/-- A waiter's leave is had (R413). -/
def waiterGranted (s : State) (who : Waiter) : State :=
  match who with
  | .tile c num => pumpCore (setOp s c num (fun o => { o with leave := 2 })) c
  | .piece q i b off => runCopy 256 (setPiece s q i b off (fun p => { p with leave := 2 })) q i b
  | .blk n d => blkGo s n d
  | .fill r => s.setRes r { s.resAt r with leave := 2 }
  | .scrub m =>
    let x : Scrub := tget {} s.mem.scrub m
    { s with mem := { s.mem with scrub := tput {} s.mem.scrub m { x with leave := 2 } } }
  | .rebind n => s.setGen n { s.gen n with leave := 2 ^ 26, asked := false }
  | _ => s

/-- Work off the translations that are decided (R308 to R311). -/
def xlRun (s : State) : State :=
  let p := xlPump s
  let s1 := p.1.failed.foldl (fun s f => xlateFail s f.1.who f.2.1 f.2.2) p.2
  p.1.ready.foldl waiterReady s1

end Sys2Proof.Machine
end

