-- ==== Sys2Proof/Machine/SatOps.lean ====
section
/-!
DEFINITION. The scheduled-action table (R55 to R61): validity of an entry, arming, and the states an entry ends in.
-/
namespace Sys2Proof.Machine

/-- A terminal state: neither EMPTY nor ARMED (Table 2-5). -/
def SatSt.terminal : SatSt → Bool
  | .empty | .armed => false
  | _ => true

/-- An entry enters a state: the Flash and tick are noted; a terminal state other than DONE and CANCELLED sets SAT_MISSED, and IRQ
raises the Flash interrupt at any of them (R56). -/
def satEnter (s : State) (e : Nat) (st : SatSt) : State :=
  let x := s.satEntry e
  let s1 := s.setSat e { x with st := st, doneFlash := s.flash.count, doneTick := s.flash.tick }
  let s2 := if st.terminal && st != .done && st != .cancelled then raise s1 evFLS 7 else s1
  if st.terminal && x.irq then sendMsix s2 (eventVector evFLS) else s2

/-- Values that an action permits for its operand (Table 2-4, R364, R416, R459, R466): none is reserved. -/
def satOperandOk (action op : Nat) : Bool :=
  match action with
  | 1 => decide (op < 2)
  | 2 => decide (bits op 15 0 ≤ 2200) && decide (320 ≤ bits op 15 0) && decide (bits op 23 16 ≤ 250) && decide (op < 2 ^ 24)
  | 3 => op == 0
  | 4 => bits op 15 8 == 0 && bits op 31 29 == 0 && decide (op < 2 ^ 45) && bits op 44 32 != 0 &&
      decide (bits op 44 32 ≤ 8191) && decide (bits op 28 16 + bits op 44 32 ≤ 8192)
  | 5 => bits op 9 8 != 3 && bits op 15 10 == 0 && decide (op < 2 ^ 29) &&
      (bits op 9 8 == 1 || bits op 28 16 == 0)
  | 6 => decide (op < 4)
  | 7 => decide (op < 16)
  | _ => false

/-- The time of an entry is not later than the current Flash and tick (R57). -/
def satPast (s : State) (x : Sat) : Bool :=
  decide (x.when_.toNat < s.flash.count.toNat) ||
  (x.when_ == s.flash.count && decide (x.tick ≤ s.flash.tick))

/-- Arm an entry that is not ARMED (R57): validity before time. -/
def satArmNow (s : State) (e : Nat) (host : Bool) : State :=
  let x := s.satEntry e
  if x.st = .armed then s
  else if !satOperandOk x.action x.op.toNat || (host && x.action == 1) then satEnter s e .invalid
  else if satPast s x then satEnter s e .late
  else satEnter s e .armed

/-- The lowest EMPTY entry of 224–255 (R55). -/
def satFree (s : State) : Option Nat :=
  ((List.range 32).map (224 + ·)).find? (fun e => (s.satEntry e).st == .empty)

/-- A unit of the X1 arms an entry of its own (R55): owner 1 loader, 2 Chain link layer, 3 Tender. None where no entry is EMPTY. -/
def satArmUnit (s : State) (owner action : Nat) (when_ op : BitVec 64) (tick : Nat) (fleet : Bool) : Option (Nat × State) :=
  match satFree s with
  | none => none
  | some e =>
    let s1 := s.setSat e { when_ := when_, op := op, tick := tick, action := action, fleet := fleet, owner := owner }
    some (e, satArmNow s1 e false)

/-- Cancel an ARMED entry before its tick is issued (R59). -/
def satCancelNow (s : State) (e : Nat) : State :=
  if (s.satEntry e).st = .armed then satEnter s e .cancelled else s

end Sys2Proof.Machine
end

