-- ==== Sys2Proof/Machine/ChainRx.lean ====
section
/-!
DEFINITION. The link and responder side of Chain (R374 to R388, R390 to R397): ports, lanes and routes, HELLOs, requests served for
other modules, and what the answers to this module's own requests do.
-/
namespace Sys2Proof.Machine

/-! ### Ports, lanes, routes -/

/-- A port is down by BYPASS, by a module that is stopped, or by its own state: whether its ring position is open to it. -/
def rpOpen (s : State) (k : Nat) : Bool := let x : RingPos := tget {} s.chn.rps k; x.open_ && x.moving.isNone
def setRp (s : State) (k : Nat) (x : RingPos) : State := { s with chn := { s.chn with rps := tput {} s.chn.rps k x } }

/-- CHN_RP_STATUS_k.MODE (R386): 0 WHOLE, 1 HALF, 2 DOWN, 3 DARK. -/
def rpMode (s : State) (k : Nat) : Nat :=
  let up (p : Nat) : Bool := (s.port p).st == .up
  if !(tget {} s.chn.rps k : RingPos).open_ then 3
  else if up (2 * k) && up (2 * k + 1) then 0 else if up (2 * k) || up (2 * k + 1) then 1 else 2

/-- A HELLO of this module on wavelength 0 of each port of a position that is up (R385): its payload holds the position's mode. -/
def helloSend (s : State) (k : Nat) : State :=
  [2 * k, 2 * k + 1].foldl (fun s p =>
    if (s.port p).st = .up then
      laneOriginate s (8 * p) { type := 0x20, src := s.chn.id.toNat, payload := leBytes 64 (rpMode s k) }
    else s) s

/-- A port changes its state (R401): LINK_CHANGE. -/
def setPortSt (s : State) (p : Nat) (st : PortSt) : State :=
  if (s.port p).st = st then s else raise (s.setPort p { s.port p with st := st }) evCHN 0

/-- Routes learned through a port are dropped at once when it goes down (R385). -/
def dropRoutes (s : State) (p : Nat) : State :=
  let rs := s.chn.routes.filter (fun r => !(r.1 / 2 ^ 20 == p))
  if rs.length = s.chn.routes.length then s else raise { s with chn := { s.chn with routes := rs } } evCHN 1

/-- A port leaves UP, or stays down, in a state: its lanes are down, its routes go, the other port of its position says so. -/
def portDown (s : State) (p : Nat) (st : PortSt) : State :=
  let was := (s.port p).st == .up
  let s1 := (List.range 8).foldl (fun s i => s.setLane (8 * p + i) { s.lane (8 * p + i) with up := false }) s
  let s2 := dropRoutes (setPortSt s1 p st) p
  let s3 := s2.setPort p { s2.port p with rekey := 0, oldKey := none }
  if was then chRun (helloSend s3 (p / 2)) else s3

/-- A port begins to train, where its position's bypass is open to it and it is neither disabled nor unavailable (R380). -/
def portTrain (s : State) (p : Nat) : State :=
  if (s.port p).st = .dark || !availPort s p then portDown s p .dark
  else if bit (regNow s (0x50200 + 0x40 * p)).toNat 0 then portDown s p .disabled
  else if rpOpen s (p / 2) && lifeCycle s != 7 && lifeCycle s != 4 && lifeCycle s != 5 then portDown s p .training
  else portDown s p .down

/-- The KEY frame that this module sends (R380, R383). -/
def keySend (s : State) (p epoch : Nat) : State := s.emit (.key p s.chn.id epoch)

/-- A delay request of this module on a port that is up (R388). -/
def delaySend (s : State) (p : Nat) : State :=
  if (s.port p).st = .up then laneSend s (8 * p) { type := 0x21, src := s.chn.id.toNat } else s

/-- A lane is up: what waits in its retry buffer is sent again (R382). -/
def laneUpNow (s : State) (l : Nat) : State :=
  let x := s.lane l
  let s1 := s.setLane l { x with up := true, naks := 0, fctr := x.fctr + x.unacked.length }
  x.unacked.foldl (fun s f => s.emit (.frame l f.2)) s1

/-- A port is UP with the lanes it has trained (R380). -/
def portUp (s : State) (p : Nat) (k : KeyFrame) : State :=
  let x := s.port p
  let s1 := s.setPort p { x with epoch := 0, oldKey := none, rekey := 0, retrain := false, minor := min k.minor 0,
                                 peerPort := k.port.val, peerDev := k.device.toNat, serial := k.serial }
  let s2 := setPortSt s1 p .up
  let s3 := (List.range 8).foldl (fun s i =>
    let l := 8 * p + i
    let s := s.setLane l { s.lane l with fctr := 0, armed := false, held := false, dead := false, retrains := 0 }
    if bit x.trained i then laneUpNow s l else s) s2
  chRun (helloSend (delaySend s3 p) (p / 2))

/-- Start a rekey of a port that is UP (R383). -/
def rekeyStart (s : State) (p : Nat) : State :=
  let x := s.port p
  if x.st = .up && x.rekey = 0 then keySend (s.setPort p { x with rekey := 1 }) p (x.epoch + 1) else s

/-- At a Flash edge the new keys are in use (R383); REKEY_DONE. Old keys age. -/
def rekeyEdge (s : State) (p : Nat) : State :=
  let x := s.port p
  let x := { x with oldKey := x.oldKey.map (· + 1) }
  if x.rekey = 2 then
    let s1 := s.setPort p { x with rekey := 0, epoch := x.epoch + 1, oldKey := some 0 }
    let s2 := (List.range 8).foldl (fun s i =>
      let l := 8 * p + i
      let y := s.lane l
      s.setLane l { y with fctr := 0, armed := false, held := false }) s1
    chRun (raise s2 evCHN 4)
  else s.setPort p x

/-! ### Frames that arrive -/

/-- A frame of a type for this module arrives on a lane that is up; it is counted. None where it is not for this module, or is
discarded under R375, with the state then. -/
def rxFrame (s : State) (l : Nat) (f : Frame) (type : Nat) : Except State State :=
  let p := l / 8
  if !(s.lane l).up || f.type != type || f.dst != s.chn.id.toNat then .error s
  else
    let s1 := portCount (portCount s p 5 1) p 6 f.payload.length
    let req := decide (type < 0x10)
    let bad := decide (16 ≤ f.flags) || decide (1024 ≤ f.mooring) || decide (2 ^ 47 ≤ f.addr) || decide (4096 < f.payload.length) ||
      f.payload.length % 64 != 0 || (req && f.status != 0) || (type == 1 && f.payload.isEmpty) || ((type == 2 || type == 4) && f.payload.isEmpty)
    if bad then .error (portCount s1 p 11 1) else .ok s1

/-- Answer a request on the lane it came by (R376): its numbers are echoed. -/
def answer (s : State) (l : Nat) (f : Frame) (type status : Nat) (payload : List Byte := []) : State :=
  laneOriginate s l { type := type, dst := f.src, src := s.chn.id.toNat, status := status, mooring := f.mooring, stream := f.stream,
                      seq := f.seq, lgen := f.lgen, addr := f.addr, payload := payload }

/-! ### Requests served for other modules (R377, R378, R393) -/

/-- Key of a source stream's record. -/
def recKey (f : Frame) : Nat := f.stream * 2 ^ 20 + f.src
def State.seqIn (s : State) (k : Nat) : SeqIn := tget {} s.chn.recs k
def State.setSeqIn (s : State) (k : Nat) (r : SeqIn) : State := { s with chn := { s.chn with recs := tput {} s.chn.recs k r } }

/-- Take notice of a numbered request: FIRST begins a new record, unless it is the resend of a request already performed (R377). -/
def seqNote (s : State) (f : Frame) : State :=
  let k := recKey f
  let r := s.seqIn k
  let again := bit f.flags 2 && r.done.contains f.seq
  if bit f.flags 1 && !again then s.setSeqIn k {} else s.setSeqIn k { r with idle := 0 }

/-- The request has been performed. -/
def seqDone (s : State) (f : Frame) : State :=
  let k := recKey f
  let r := s.seqIn k
  s.setSeqIn k { r with seen := r.seen || f.seq == 0, done := if r.done.contains f.seq then r.done else f.seq :: r.done, idle := 0 }

/-- Why a peer's request is not served (R393): ERROR 1 no mooring matches, 2 outside the window, 3 unmapped, 5 while the Sector is
frozen or on its way (R462); else the Sector and the address in it. -/
def inbound (s : State) (f : Frame) (len : Nat) : Except Nat (Nat × Nat) :=
  let m := s.moor f.mooring
  match moorSector s f.mooring with
  | none => .error 1
  | some n =>
    if m.st != .leased || !m.cur.peer || m.cur.target != f.src then .error 1
    else if m.cur.extents * 2 ^ 26 < f.addr + len || 8192 < m.cur.firstExtent + m.cur.extents then .error 2
    else
      let a := m.cur.firstExtent * 2 ^ 26 + f.addr
      if !rangeMapped s n a len then .error 3
      else if !sectorRuns s n then .error 5
      else .ok (n, a)

/-- The request waits for an extent that a pending channel will hold (R112): it is not served yet. -/
def inboundWaits (s : State) (f : Frame) (len : Nat) : Bool :=
  match inbound s f len with
  | .ok (n, a) => !rangeReady s n a len
  | .error _ => false

/-- A final write may be performed (R378): the FIRST of its stream and every lower SEQ have been. -/
def mayLand (r : SeqIn) (seq : Nat) : Bool := r.seen && (List.range seq).all (fun i => r.done.contains i)

/-- Perform a WRITE and acknowledge it, or say why not. -/
def landWrite (s : State) (l : Nat) (f : Frame) : State :=
  match inbound s f f.payload.length with
  | .error e => answer s l f 0x16 e
  | .ok (n, a) => answer (seqDone (smPut s n a f.payload) f) l f 0x11 0

/-- Held final writes of a stream whose turn has come are performed, lowest SEQ first. -/
def landHeld : Nat → State → Nat → State
  | 0, s, _ => s
  | i + 1, s, k =>
    let r := s.seqIn k
    match r.held.find? (fun h => mayLand r h.1.seq) with
    | none => s
    | some h =>
      let s1 := s.setSeqIn k { r with held := r.held.filter (fun g => !(g.1.seq == h.1.seq)) }
      landHeld i (landWrite s1 h.2.1 h.1) k

/-- After a request of a stream was performed. -/
def landMore (s : State) (f : Frame) : State := landHeld ((s.seqIn (recKey f)).held.length) s (recKey f)

/-! ### Answers to this module's requests -/

/-- The outstanding request that an answer belongs to. -/
def reqFor (s : State) (f : Frame) : Option ChReq :=
  s.chn.reqs.find? (fun r => r.sent && r.type != 0x14 && r.dst == f.src && r.stream == f.stream && r.seq == f.seq)

/-- A command used a fallback area: it completes with SHORTFALL_FALLBACK in place of DONE (R395, R398). -/
def fellBack (s : State) (r : ChReq) : State :=
  let units := r.len / 64
  match r.who with
  | .tile _ _ =>
    match s.group r.group with
    | none => s
    | some g =>
      match g.owner with
      | .cmd q i b =>
        match (s.ring q).find i b with
        | none => s
        | some c => s.setRing q ((s.ring q).put { c with short := true, units := c.units + units, moor := r.mooring })
      | .step n =>
        match (s.seqSec n).step with
        | none => s
        | some p => p.rows.foldl (fun s w => markShort s w.slot units r.mooring) s
  | .blk n d => (slotsNaming s n d).foldl (fun s i => if (s.seq i).st = .pulling then markShort s i units r.mooring else s) s
  | _ => s

/-- Writes that wait for their fallback area (R395): a final one is sent only after every earlier write of its stream to the pool has
been acknowledged. -/
def fallbackRun (s : State) : State :=
  s.chn.reqs.foldl (fun s r =>
    if r.type != 0x14 || !s.chn.reqs.contains r then s
    else if r.final && s.chn.reqs.any (fun x => decide (x.id < r.id) && x.stream == r.stream && x.dst == r.dst && (x.type == 1 || x.type == 0x14)) then s
    else
      let a := r.lease.fallback + r.addr
      if hostWriteOk s a then fellBack (hostWrite (dropReq s r.id) r.lease.pasid a r.payload r.final) r
      else reqFail (raise s evATF 5) r ⟨stXLATE, xlateDetail (a / 2 ^ 21) 7⟩) s

/-- What waits for Chain goes on. -/
def chGo (s : State) (who : Waiter) : State :=
  let s1 := chRun (fallbackRun s)
  match who with
  | .tile c _ => pumpCore s1 c
  | _ => s1

/-- Give a request another mooring: the chase goes on there (R396). -/
def reqMove (s : State) (r : ChReq) (m : Nat) (tried : List Nat) (reask : Bool) : State :=
  let l := (s.moor m).cur
  setReq s { r with mooring := m, lease := l, dst := l.target, refused := tried, reask := reask, sent := false, numbered := false,
                    resend := false, resends := 0, redirects := if reask then r.redirects else r.redirects + 1 }

/-- The LEASED pool mooring of the Sector and group whose target is a device; the lowest number where there are several. -/
def poolMooring (s : State) (n group dev : Nat) : Option Nat :=
  let x := s.sector n
  ((List.range x.moorCount).map (· + x.moorFirst)).find? (fun m =>
    let y := s.moor m
    y.st == .leased && !y.cur.peer && y.cur.group == group && y.cur.target == dev)

/-- Among the moorings that refused, the one with the highest generation, the one asked first on a tie. -/
def reaskWhom (s : State) (tried : List Nat) : Nat :=
  (tried.foldl (fun (b : Option Nat) t =>
    match b with
    | none => some (t % 1024)
    | some m => if (s.moor m).cur.gen.toNat < (s.moor (t % 1024)).cur.gen.toNat then some (t % 1024) else b) none).getD 0

/-- A pool refused a request (R396): the redirect, the double refusal with its re-ask, the end. -/
def chase (s : State) (r : ChReq) (f : Frame) : State :=
  let tried := r.refused ++ [r.mooring + 1024 * r.dst]
  let dev := f.addr % 2 ^ 20
  if r.reask then reqFail s r (orphaned r.lease.gen 1 r.mooring)
  else if 3 ≤ r.redirects then reqFail s r (orphaned r.lease.gen 4 r.mooring)
  else if f.status != 1 || tried.any (fun t => t / 1024 == dev) then reqMove s r (reaskWhom s tried) tried true
  else match poolMooring s r.sector r.lease.group dev with
    | none => reqFail s r (orphaned r.lease.gen 3 r.mooring)
    | some m => reqMove s r m tried false

/-- The data of a READ (R377): to the window of a tile, or to the frame of a pulled block. -/
def readData (s : State) (r : ChReq) (bs : List Byte) : State :=
  match r.who with
  | .tile c num =>
    let at_ := r.firstMoor * 2 ^ 47 + r.addr
    markLantern (setOp s c num (fun o => { o with remote := o.remote.filter (· != r.id), got := o.got ++ [(at_, bs)] })) (c / 12)
  | .blk n d =>
    let b := s.blk n d
    if b.st = .pulling then smPut s n (frameAddr s n b + (r.addr - b.spillAddr)) bs else s
  | _ => s

/-- A READ whose bytes lie in the fallback area (R395). -/
def readFallback (s : State) (r : ChReq) : State :=
  let h := r.lease.fallback + r.addr
  match r.who with
  | .tile c num =>
    setOp s c num (fun o => { o with remote := o.remote.filter (· != r.id), fb := o.fb ++ [(r.firstMoor * 2 ^ 47 + r.addr, h, r.len)] })
  | .blk n d => let b := s.blk n d; s.setBlk n d { b with fb := b.fb ++ [(r.addr, h, r.len)] }
  | _ => s

/-- An answer that ends a request in one way or another: `f` acts on the request that it belongs to; one that belongs to none is
ignored (R400). -/
def onAnswer (s : State) (l : Nat) (fr : Frame) (type : Nat) (f : State → ChReq → State) : State :=
  match rxFrame s l fr type with
  | .error s1 => s1
  | .ok s1 =>
    match reqFor s1 fr with
    | none => s1
    | some r => chGo (f s1 r) r.who

/-! ### Edges -/

/-- Chain at a Flash edge: requests, records, numberings, routes and held final writes age; keys switch. -/
def chainEdge (s : State) : State :=
  let out (k : Nat) : Bool := s.chn.reqs.any (fun r => r.type != 3 && r.stream * 2 ^ 20 + r.dst == k)
  let c := { s.chn with
    reqs := s.chn.reqs.map (fun r => if r.sent then { r with edges := r.edges + 1 } else r)
    recs := s.chn.recs.map (fun p => (p.1, { p.2 with idle := p.2.idle + 1, held := p.2.held.map (fun h => (h.1, h.2.1, h.2.2 + 1)) }))
    nums := s.chn.nums.map (fun p => (p.1, { p.2 with idle := if out p.1 then 0 else p.2.idle + 1 }))
    routes := s.chn.routes.map (fun p => (p.1, (p.2.1, p.2.2 + 1)))
    lanes := (s.chn.lanes.map (fun p => (p.1, { p.2 with retrains := 0 }))).filter (fun p => p.2 != ({} : Lane)) }
  chRun ((List.range 16).foldl rekeyEdge { s with chn := c })

end Sys2Proof.Machine
end

