-- ==== Sys2Proof/Machine/Fw.lean ====
section
/-!
DEFINITION. Firmware in service (R486 to R488): images and their slots, the Logbook entries of an activation, Chain firmware port by
port, microcode of a Lantern, Tender tables at their Flash.
-/
namespace Sys2Proof.Machine

/-- The slots of component c: 1 Keeper, 2 Lantern microcode, 3 Chain firmware, 4 Tender tables. -/
def fwOf (s : State) (c : Nat) : Fw := tget {} s.kpr.fw c
def setFw (s : State) (c : Nat) (f : Fw) : State := { s with kpr := { s.kpr with fw := tput {} s.kpr.fw c f } }

/-- The image in slot 0 (A) or 1 (B). -/
def Fw.image (f : Fw) (slot : Nat) : List Byte := if slot = 0 then f.a else f.b
def Fw.put (f : Fw) (slot : Nat) (b : List Byte) : Fw := if slot = 0 then { f with a := b } else { f with b := b }

/-- VERSION and SVN of an image (Table 17-9). -/
def imgVersion (b : List Byte) : Nat := fieldAt b 12 4
def imgSvn (b : List Byte) : Nat := fieldAt b 16 4

/-- The image of the active slot. -/
def fwImage (s : State) (c : Nat) : List Byte := (fwOf s c).image (fwOf s c).active

/-- ARG of FW_ACTIVATE and FW_REFUSED (Table 17-7). -/
def fwArg (c port slot version : Nat) : Nat := c + port * 2 ^ 8 + slot * 2 ^ 16 + version * 2 ^ 32

/-- An activation takes effect (R488). -/
def fwActivated (s : State) (c port slot : Nat) : State :=
  raise (postLog s 0x20 0xFF false (fwArg c port slot (imgVersion ((fwOf s c).image slot)))) evKPR 4

/-- An image or an activation is refused (R486, R488). -/
def fwRefused (s : State) (c port slot version result : Nat) : State :=
  raise (postLog s 0x21 0xFF false (fwArg c port slot version + result * 2 ^ 24)) evKPR 5

/-- A refusal that no mailbox result of Table 15-14 describes: [31:24] of its entry is not stated (a free value). -/
def fwRefusedFree (s : State) (c port slot version : Nat) : State :=
  let v := s.fresh
  fwRefused v.2 c port slot version (v.1.toNat % 256)

/-- A Lantern takes the active microcode image (R488). -/
def takeUcode (s : State) (n : Nat) : State :=
  { s with kpr := { s.kpr with ucode := tput 0 s.kpr.ucode n (BitVec.ofNat 32 (imgVersion (fwImage s 2))) } }

/-- Go on with Chain firmware over the ports that are left: an available port goes down, loads the image and trains; one that cannot
train is passed. -/
def chainFwGo : List Nat → State → State
  | [], s => { s with kpr := { s.kpr with chainPort := none, tries := 0 } }
  | p :: r, s =>
    if !availPort s p then chainFwGo r s
    else
      let slot := (fwOf s 3).active
      let up (st : PortSt) : Bool := st == .up || st == .keying || st == .training || st == .authFailed
      let s1 := { s with kpr := { s.kpr with portSlot := tput 0 s.kpr.portSlot p slot } }
      if up (s.port p).st then
        let s2 := portTrain (portDown s1 p .down) p
        { s2 with kpr := { s2.kpr with chainPort := some p, tries := 0 } }
      else chainFwGo r (fwActivated s1 3 p slot)

/-- The ports after p. -/
def portsAfter (p : Nat) : List Nat := (List.range 16).filter (fun q => decide (p < q))

/-- A port is UP: where Chain firmware stands at it, it runs there, and the next port follows. -/
def chainFwUp (s : State) (p : Nat) : State :=
  if s.kpr.chainPort = some p then chainFwGo (portsAfter p) (fwActivated s 3 p (fwOf s 3).active) else s

/-- A port failed to train: the third time it returns to the old image and the activation ends with FW_REFUSED. -/
def chainFwFail (s : State) (p : Nat) : State :=
  if s.kpr.chainPort != some p then s
  else if s.kpr.tries < 2 then { s with kpr := { s.kpr with tries := s.kpr.tries + 1 } }
  else
    let slot := (fwOf s 3).active
    let s1 := { s with kpr := { s.kpr with chainPort := none, tries := 0, portSlot := tput 0 s.kpr.portSlot p (1 - slot) } }
    fwRefusedFree s1 3 p slot (imgVersion (fwImage s 3))

/-- Staged Tender tables take effect at the commit of the Flash in KPR_FW_ACT_FLASH (R488). -/
def tablesCommit (s : State) : State :=
  if s.kpr.tables && decide ((regNow s 0x70040).toNat ≤ s.flash.count.toNat) then
    let slot := (fwOf s 4).active
    fwActivated { s with kpr := { s.kpr with tables := false, tabSlot := slot } } 4 0xFF slot
  else s

end Sys2Proof.Machine
end

