-- ==== Sys2Proof/Machine/Control.lean ====
section
/-!
DEFINITION. The control instructions (R128 to R130, Table 5-2). `w` holds bits [25:0] of the word that the core fetched
at its PC; a core that does not issue is left alone. The result of a scalar read-modify chain is written before PC moves.
-/
namespace Sys2Proof.Machine

abbrev Ans := Host.Outcome State Fault Refusal

/-- ADD: sd ← sa + sb (R128). -/
def execAdd (c : Fin 192) (w : BitVec 26) (s : State) : Ans := .next (formA s c 0x01 w (· + ·))
/-- SUB: sd ← sa − sb (R128). -/
def execSub (c : Fin 192) (w : BitVec 26) (s : State) : Ans := .next (formA s c 0x02 w (· - ·))
/-- AND: sd ← sa & sb (R128). -/
def execAnd (c : Fin 192) (w : BitVec 26) (s : State) : Ans := .next (formA s c 0x03 w (· &&& ·))
/-- OR: sd ← sa | sb (R128). -/
def execOr (c : Fin 192) (w : BitVec 26) (s : State) : Ans := .next (formA s c 0x04 w (· ||| ·))
/-- XOR: sd ← sa ^ sb (R128). -/
def execXor (c : Fin 192) (w : BitVec 26) (s : State) : Ans := .next (formA s c 0x05 w (· ^^^ ·))
/-- SLL: sd ← sa << sb[5:0] (R128). -/
def execSll (c : Fin 192) (w : BitVec 26) (s : State) : Ans := .next (formA s c 0x06 w (fun a b => a <<< (b.toNat % 64)))
/-- SRL: sd ← sa >> sb[5:0], logical (R128). -/
def execSrl (c : Fin 192) (w : BitVec 26) (s : State) : Ans := .next (formA s c 0x07 w (fun a b => a >>> (b.toNat % 64)))
/-- SRA: sd ← sa >> sb[5:0], arithmetic (R128). -/
def execSra (c : Fin 192) (w : BitVec 26) (s : State) : Ans := .next (formA s c 0x08 w (fun a b => a.sshiftRight (b.toNat % 64)))
/-- SLT: sd ← 1 if sa < sb signed (R128). -/
def execSlt (c : Fin 192) (w : BitVec 26) (s : State) : Ans := .next (formA s c 0x09 w (fun a b => if a.slt b then 1 else 0))
/-- SLTU: sd ← 1 if sa < sb unsigned (R128). -/
def execSltu (c : Fin 192) (w : BitVec 26) (s : State) : Ans := .next (formA s c 0x0A w (fun a b => if a.ult b then 1 else 0))
/-- MUL: sd ← low 64 bits of sa × sb (R128). -/
def execMul (c : Fin 192) (w : BitVec 26) (s : State) : Ans := .next (formA s c 0x0B w (· * ·))
/-- MULHU: sd ← high 64 bits of the unsigned product (R128). -/
def execMulhu (c : Fin 192) (w : BitVec 26) (s : State) : Ans := .next (formA s c 0x0C w (fun a b => BitVec.ofNat 64 (a.toNat * b.toNat / 2 ^ 64)))
/-- DIVU: sd ← sa / sb unsigned, all ones when sb = 0 (R128). -/
def execDivu (c : Fin 192) (w : BitVec 26) (s : State) : Ans := .next (formA s c 0x0D w (fun a b => if b = 0 then BitVec.allOnes 64 else BitVec.ofNat 64 (a.toNat / b.toNat)))
/-- REMU: sd ← sa mod sb unsigned, sa when sb = 0 (R128). -/
def execRemu (c : Fin 192) (w : BitVec 26) (s : State) : Ans := .next (formA s c 0x0E w (fun a b => if b = 0 then a else BitVec.ofNat 64 (a.toNat % b.toNat)))
/-- ADDI: sd ← sa + imm (R128). -/
def execAddi (c : Fin 192) (w : BitVec 26) (s : State) : Ans := .next (formI s c 0x10 w true (· + immS w))
/-- ANDI: sd ← sa & imm, zero-extended (R128). -/
def execAndi (c : Fin 192) (w : BitVec 26) (s : State) : Ans := .next (formI s c 0x11 w true (· &&& immZ w))
/-- ORI: sd ← sa | imm, zero-extended (R128). -/
def execOri (c : Fin 192) (w : BitVec 26) (s : State) : Ans := .next (formI s c 0x12 w true (· ||| immZ w))
/-- XORI: sd ← sa ^ imm, zero-extended (R128). -/
def execXori (c : Fin 192) (w : BitVec 26) (s : State) : Ans := .next (formI s c 0x13 w true (· ^^^ immZ w))
/-- SLLI: sd ← sa << imm[5:0] (R128). -/
def execSlli (c : Fin 192) (w : BitVec 26) (s : State) : Ans := .next (formI s c 0x14 w (bits w.toNat 15 6 == 0) (· <<< bits w.toNat 5 0))
/-- SRLI: sd ← sa >> imm[5:0], logical (R128). -/
def execSrli (c : Fin 192) (w : BitVec 26) (s : State) : Ans := .next (formI s c 0x15 w (bits w.toNat 15 6 == 0) (· >>> bits w.toNat 5 0))
/-- SRAI: sd ← sa >> imm[5:0], arithmetic (R128). -/
def execSrai (c : Fin 192) (w : BitVec 26) (s : State) : Ans := .next (formI s c 0x16 w (bits w.toNat 15 6 == 0) (fun a => a.sshiftRight (bits w.toNat 5 0)))
/-- SLTI: sd ← 1 if sa < imm signed (R128). -/
def execSlti (c : Fin 192) (w : BitVec 26) (s : State) : Ans := .next (formI s c 0x17 w true (fun a => if a.slt (immS w) then 1 else 0))

/-- MOVZ: sd ← imm16 << (16 × hw) (R128). -/
def execMovz (c : Fin 192) (w : BitVec 26) (s : State) : Ans :=
  .next (control s c 0x18 (bits w.toNat 20 18 == 0) (fun x _ => writeSd s c (wSd w) x (immZ w <<< (16 * wHw w))))
/-- MOVK: bits [16hw+15:16hw] of sd ← imm16, the others kept (R128). -/
def execMovk (c : Fin 192) (w : BitVec 26) (s : State) : Ans :=
  .next (control s c 0x19 (bits w.toNat 20 18 == 0) (fun x _ =>
    writeSd s c (wSd w) x (setBits (x.sreg (wSd w)) (16 * wHw w + 15) (16 * wHw w) (wImm w).toNat)))

/-- LD, LW, LB: bytes of CLM at sa + imm, zero-extended (R128, R130). -/
def execLd (c : Fin 192) (w : BitVec 26) (s : State) : Ans := .next (loadClm s c 0x1A w 8)
def execLw (c : Fin 192) (w : BitVec 26) (s : State) : Ans := .next (loadClm s c 0x1B w 4)
def execLb (c : Fin 192) (w : BitVec 26) (s : State) : Ans := .next (loadClm s c 0x1C w 1)
/-- SD, SW, SB: the low bytes of the register in [25:21] to CLM at sa + imm (R128, R130). -/
def execSd (c : Fin 192) (w : BitVec 26) (s : State) : Ans := .next (storeClm s c 0x1D w 8)
def execSw (c : Fin 192) (w : BitVec 26) (s : State) : Ans := .next (storeClm s c 0x1E w 4)
def execSb (c : Fin 192) (w : BitVec 26) (s : State) : Ans := .next (storeClm s c 0x1F w 1)

/-- The six branches of form B, signed and unsigned (R128). -/
def execBeq (c : Fin 192) (w : BitVec 26) (s : State) : Ans := .next (formB s c 0x20 w (· == ·))
def execBne (c : Fin 192) (w : BitVec 26) (s : State) : Ans := .next (formB s c 0x21 w (· != ·))
def execBlt (c : Fin 192) (w : BitVec 26) (s : State) : Ans := .next (formB s c 0x22 w (fun a b => a.slt b))
def execBge (c : Fin 192) (w : BitVec 26) (s : State) : Ans := .next (formB s c 0x23 w (fun a b => !a.slt b))
def execBltu (c : Fin 192) (w : BitVec 26) (s : State) : Ans := .next (formB s c 0x24 w (fun a b => a.ult b))
def execBgeu (c : Fin 192) (w : BitVec 26) (s : State) : Ans := .next (formB s c 0x25 w (fun a b => !a.ult b))

/-- JAL: s31 ← PC + 4, then jump by off26 words (R128). -/
def execJal (c : Fin 192) (w : BitVec 26) (s : State) : Ans :=
  .next (control s c 0x26 true (fun x _ =>
    retire (s.setCore c { x.setSreg 31 (BitVec.ofNat 64 (x.pc + 4)) with pc := branchTarget x.pc 26 w.toNat }) c))
/-- JALR: sd ← PC + 4; PC ← (sa + imm) with bits [1:0] cleared, sa read before sd is written (R128). -/
def execJalr (c : Fin 192) (w : BitVec 26) (s : State) : Ans :=
  .next (control s c 0x27 true (fun x _ =>
    retire (s.setCore c { x.setSreg (wSd w) (BitVec.ofNat 64 (x.pc + 4)) with
      pc := (x.sreg (wSa w) + immS w).toNat / 4 * 4 }) c))

/-- SPR: sd ← special register imm (R128, Table 5-4); an index not in the table traps ILLEGAL (R129). The count of
cycles is a free value. -/
def execSpr (c : Fin 192) (w : BitVec 26) (s : State) : Ans :=
  .next (control s c 0x28 (wSa w == 0) (fun x g =>
    match sprValue s c (wImm w).toNat x g with
    | none => trapCore s c 0x01 0 0 0x28 x.pc
    | some v => writeSd (if (wImm w).toNat = 3 then s.fresh.2 else s) c (wSd w) x v))

/-- TLD: t[sd] ← 32 bytes of CLM at sa + imm, 32-byte aligned (R128, R130). -/
def execTld (c : Fin 192) (w : BitVec 26) (s : State) : Ans :=
  .next (clmAccess s c 0x29 w 32 false (fun x a =>
    let q := clmFault s c a 32
    let d := BitVec.ofNat 256 (leNat (cread s.clm (clmKey c a) 32))
    if q.1 then q.2 else retire (q.2.setCore c { x with t := tput 0 x.t (wSd w) d, pc := x.pc + 4 }) c))
/-- TSETB: t[sd].BASE ← sa[56:0]; DESC_INVALID if sa[63:57] is not zero (R128). The sb field is not used and must be
zero (form A). -/
def execTsetb (c : Fin 192) (w : BitVec 26) (s : State) : Ans :=
  .next (control s c 0x2A (bits w.toNat 15 0 == 0) (fun x _ =>
    let v := x.sreg (wSa w)
    if bits v.toNat 63 57 != 0 then trapCore s c 0x04 0 0 0x2A x.pc
    else
      let d := x.treg (wSd w)
      let d1 := BitVec.ofNat 256 (d.toNat - bits d.toNat 56 0 + v.toNat)
      retire (s.setCore c { x with t := tput 0 x.t (wSd w) d1, pc := x.pc + 4 }) c))
/-- TWAIT: wait until the pending count of the unit in [25:21] is at most imm (R128, Table 5-3); until then nothing
changes. -/
def execTwait (c : Fin 192) (w : BitVec 26) (s : State) : Ans :=
  .next (control s c 0x2B (wSa w == 0) (fun x _ =>
    match pendingOf x (wSd w) with
    | none => trapCore s c 0x01 0 0 0x2B x.pc
    | some n => if n ≤ (wImm w).toNat then retire (s.setCore c { x with pc := x.pc + 4 }) c else s))
/-- EXIT: this core's part ends with result code imm[7:0]; the group ends once all have (R122, R128). -/
def execExit (c : Fin 192) (w : BitVec 26) (s : State) : Ans :=
  .next (control s c 0x2C (bits w.toNat 25 8 == 0) (fun x _ =>
    settleGroup (retire (s.setCore c { x with run := .exited, code := bits w.toNat 7 0, pc := x.pc + 4 }) c) x.group))

/-- The core traps, or its fetch was uncorrectable (R128, R129, R154, R155). The row stands for the instruction TRAP
(SOFTWARE with code imm), for every word that is no instruction (ILLEGAL), for the second word of a tile instruction
(R129), and for a fetch that no check code corrects. -/
def execTrap (c : Fin 192) (fetched : Fetched) (s : State) : Ans :=
  .next (match issuing s c with
  | none => s
  | some (x, g) =>
    if g.codeLen ≤ x.pc then trapCore s.fresh.2 c 0x03 0 0 (s.fresh.1.toNat % 64) x.pc
    else match fetched with
    | .uncorrectable => fetchUncorr s c x g
    | .second =>
      if x.pc % 8 = 4 then trapCore s.fresh.2 c 0x01 0 0 (s.fresh.1.toNat % 64) x.pc else s
    | .word w =>
      let op := bits w.toNat 31 26
      if op = 0x2D then
        if bits w.toNat 25 16 = 0 then trapCore s c 0x0C (bits w.toNat 15 0) 0 op x.pc
        else trapCore s c 0x01 0 0 op x.pc
      else if op = 0 || op = 0x0F || (0x2E ≤ op && op ≤ 0x3E) || (op = 0x3F && x.pc % 8 = 4) then
        trapCore s c 0x01 0 0 op x.pc
      else if op = 0x3F && (tileUse (bits w.toNat 25 23) (bits w.toNat 22 16)).isNone then
        trapCore s c 0x01 0 (bits w.toNat 25 23 + 1) (bits w.toNat 22 16) x.pc
      else s)

end Sys2Proof.Machine
end

