-- ==== Sys2Proof/Machine/Memory.lean ====
section
/-!
DEFINITION. The commands of the memory model and of memory integrity (11, 12): final writes that are discarded, directory
rebuilds, escalations, rehomes, scrubbing, and bandwidth levels and shares.
-/
namespace Sys2Proof.Machine

/-- Counter i of Table 11-12. -/
def cohCount (s : State) (i n : Nat) : State := bump s (0x4E100 + 8 * i) n

/-- The mode of a die's directory, and its change. -/
def dirMode (s : State) (d : Nat) : DirMode := tget .boot s.mem.dir d
def setDir (s : State) (d : Nat) (m : DirMode) : State := { s with mem := { s.mem with dir := tput .boot s.mem.dir d m } }

/-- FORCE of MEM_COH_TEST (R350). -/
def cohForce (s : State) : Nat := (regNow s 0x4E008).toNat % 16

/-- FINAL_WRITE_DISCARD (R328): a held final write whose earlier writes have not all landed within 16 Flashes never becomes
visible; it is counted, with its event and a Logbook entry that names the source module and stream. -/
def execFinalWriteDiscard (src : BitVec 20) (stream : BitVec 16) (seq : BitVec 32) (s : State) : Ans :=
  let k := stream.toNat * 2 ^ 20 + src.toNat
  let r : SeqIn := tget {} s.chn.recs k
  .next (match r.held.find? (fun h => h.1.seq == seq.toNat && decide (16 ≤ h.2.2)) with
  | none => s
  | some h =>
    let r1 := { r with held := r.held.filter (fun g => !(g.1.seq == seq.toNat)) }
    let s1 := { s with chn := { s.chn with recs := tput {} s.chn.recs k r1 } }
    let n := (moorSector s h.1.mooring).getD 0xFF
    postLog (raise (cohCount s1 9 1) evCOH 5) 0x47 n false (src.toNat + stream.toNat * 2 ^ 20))

/-- Directory entries of a die in error, by what the code says of them. -/
def dirErrs (s : State) (d k : Nat) : Tbl Nat := s.mem.dirChk.filter (fun p => p.1 / 2 ^ 40 == d && p.2 == k)

/-- Correctable directory errors of a die that a walk meets (R344): corrected, counted. -/
def dirCorrect (s : State) (d : Nat) : State :=
  let es := dirErrs s d 1
  if es.isEmpty then s
  else raise (cohCount { s with mem := { s.mem with dirChk := s.mem.dirChk.filter (fun p => !(es.contains p)) } } 5 es.length) evCOH 0

/-- The first uncorrectable directory error of a die that a walk meets (R344): the die is in REBUILD. -/
def dirUncorr (s : State) (d : Nat) : Option State :=
  match dirErrs s d 2 with
  | [] => none
  | e :: _ =>
    let s1 := setDir { s with mem := { s.mem with dirChk := s.mem.dirChk.filter (fun p => !(p.1 == e.1)) } } d .rebuild
    some (postLog (raise (cohCount s1 6 1) evCOH 1) 0x46 0xFF false (d + e.1 % 2 ^ 32 * 2 ^ 16))

/-- DIRECTORY_REBUILD_DONE (R344): the walk of a die in REBUILD completes; a further uncorrectable error restarts it. The die
returns to DIRECTORY, or to BROADCAST_TEST while FORCE holds it there (notes/assumptions/20). -/
def execDirectoryRebuildDone (die : Fin 4) (s : State) : Ans :=
  .next (if dirMode s die != .rebuild then s
  else
    let s1 := dirCorrect s die
    match dirUncorr s1 die with
    | some s2 => s2
    | none => raise (setDir s1 die (if bit (cohForce s1) die then .test else .directory)) evCOH 2)

/-- COHERENCE_ESCALATION (R346): a request was refused until its age reached 16; it is escalated. `refusals` are the
refusals counted up to it. -/
def execCoherenceEscalation (refusals : Nat) (s : State) : Ans :=
  .next (raise (cohCount (cohCount s 3 (max 16 refusals)) 4 1) evCOH 3)

/-- Die-cache tag entries in error that a rehome's walk of a die meets (R357): the line is invalid; where a copy of its dirty
bit read 1, the Sector's contents are lost and every context of it is reset. -/
def tagWalk (s : State) (n d : Nat) : State :=
  let es := s.mem.tagChk.filter (fun p => p.1 / 2 ^ 40 == d)
  let s0 := { s with mem := { s.mem with tagChk := s.mem.tagChk.filter (fun p => !(p.1 / 2 ^ 40 == d)) } }
  es.foldl (fun s e =>
    if e.2 = 1 then bump s (0x48400 + 0x40 * d + 32) 1
    else if e.2 = 2 then s
    else
      -- key: die, then way [31:24] and set [23:0]
      let s1 := postLog (raise s evMEM 6) 0x44 n false (d + bits e.1 31 24 * 2 ^ 8 + bits e.1 23 0 * 2 ^ 16)
      (sectorCtxs s1 n).foldl (fun s c => startCtxReset s c stMEM 3) s1) s0

/-- The dies of a way list. -/
def waysDies (ways : List Nat) : List Nat := (List.range 4).filter (fun d => ways.contains d)

/-- REHOME_WALK_DONE (R348): no moving line remains at the old homes; `lines` were written back. The new list takes effect at
the next edge. -/
def execRehomeWalkDone (sector : Fin 16) (lines : Nat) (s : State) : Ans :=
  .next (match s.mem.rehomes.find? (fun r => r.sector == sector.val && !r.walked) with
  | none => s
  | some r =>
    let s1 := r.old.foldl (fun s d => let s1 := dirCorrect (tagWalk s sector d) d
                                      (dirUncorr s1 d).getD s1) s
    let s2 := { s1 with mem := { s1.mem with rehomes := s1.mem.rehomes.map (fun x => if x = r then { x with walked := true } else x) } }
    cohCount s2 10 lines)

/-- At the edge, a walked rehome ends where no die of its lists is in REBUILD (R348, R349). -/
def rehomeEdge (s : State) : State :=
  let ends (r : Rehome) : Bool := r.walked && (r.old ++ r.new).all (fun d => dirMode s d != .rebuild)
  let es := s.mem.rehomes.filter ends
  if es.isEmpty then s
  else raise { s with mem := { s.mem with rehomes := s.mem.rehomes.filter (fun r => !(ends r)) } } evCOH 4

/-- A home list of a Sector as it should be: the dies with a LIT way of a class (R339). -/
def homeList (s : State) (n : Nat) (host : Bool) : List Nat :=
  (List.range 4).filter (fun d => (List.range 32).any (fun i =>
    let w := 32 * d + i
    let r := s.resAt (resWay w)
    r.st == .lit && r.sector == n && (tget 0 (s.sector n).ways w == 1) == host))

/-- The home list in force. -/
def homesNow (s : State) (n : Nat) (host : Bool) : List Nat :=
  match s.mem.rehomes.find? (fun r => r.sector == n && r.host == host) with
  | some r => r.old
  | none => homeList s n host

/-- After ways lit or left LIT, begin or restart the rehomes whose list changed (R348). `before` gives each list as it was in
force. -/
def rehomeCheck (s : State) (before : Nat → Bool → List Nat) : State :=
  (List.range 16).foldl (fun s n =>
    [false, true].foldl (fun s host =>
      let old := before n host
      let new := homeList s n host
      let others := s.mem.rehomes.filter (fun r => !(r.sector == n && r.host == host))
      let running := s.mem.rehomes.find? (fun r => r.sector == n && r.host == host)
      match running with
      | some r => if r.new = new then s else { s with mem := { s.mem with rehomes := others ++ [{ r with new := new, walked := false }] } }
      | none =>
        if old = new then s
        else { s with mem := { s.mem with rehomes := others ++ [{ sector := n, host := host, old := old, new := new }] } }) s) s

/-- MEM_COH_TEST_FORCE (R343, R350): writable in MAKER and INTEGRATOR; each bit puts its die in BROADCAST_TEST, or takes it
out. A die in BROADCAST_BOOT or REBUILD follows when it leaves that mode (notes/assumptions/20). -/
def execMemCohTestForce (value : BitVec 4) (s : State) : Ans :=
  .next (if !rwlOpen s then s
  else
    let s1 := setReg s 0x4E008 (value.setWidth 64)
    (List.range 4).foldl (fun s d =>
      let m := dirMode s d
      if bit value.toNat d then (if m = .directory then setDir s d .test else s)
      else if m = .test then setDir s d .directory else s) s1)

/-! ### Scrubbing (R360 to R364) -/

/-- The scrubbed memories by number: channel m, and Lantern memory n at 128 + n. -/
def scrubNo : ScrubMem → Nat
  | .channel n => n.val
  | .lantern n => 128 + n.val

def State.scrubAt (s : State) (k : Nat) : Scrub := tget {} s.mem.scrub k
def State.setScrub (s : State) (k : Nat) (x : Scrub) : State := { s with mem := { s.mem with scrub := tput {} s.mem.scrub k x } }

/-- Units of one lap: 64-byte lines of 3 GiB, or of 64 MiB; units between two leaves (R360, R362). -/
def lapUnits (k : Nat) : Nat := if k < 128 then 50331648 else 1048576

/-- The memory is scrubbed: enabled, available and not in its fill phase (R360). -/
def scrubs (s : State) (k : Nat) : Bool :=
  let ctl := (regNow s 0x40040).toNat
  if k < 128 then bit ctl 0 && availChannel s k && (s.resAt (resChannel k)).st != .fill
  else bit ctl 1 && availLantern s (k - 128) && (s.resAt (resLantern (k - 128))).st != .fill

/-- A lap longer than the limit warns (R363). -/
def lapWarn (s : State) (k : Nat) : State :=
  let x := s.scrubAt k
  let lim := (regNow s 0x40048).toNat
  let limit := if k < 128 then lim % 2 ^ 32 else lim / 2 ^ 32
  if limit < x.flashes then
    let off := if k < 64 then 0x40050 else if k < 128 then 0x40058 else 0x40060
    raise { s with regs := tmod 0 s.regs off (fun v => v ||| BitVec.ofNat 64 (2 ^ (k % 64))) } evMEM 3
  else s

/-- The owner of a channel or Lantern, for a scrub's records. -/
def scrubOwner (s : State) (k : Nat) : Nat :=
  let r := s.resAt (if k < 128 then resChannel k else resLantern (k - 128))
  if r.st = .unlit then 0 else r.sector

/-- What the scrub read of a channel's line, or of a Lantern's 64-byte unit, does where it is not clean (R360, R361). `line`
names it by its key in `smChk`, or by 1/64 of its bytes' keys in `lsChk`; the place of a channel's share of an extent is
unspecified (R71). -/
def scrubLine (s : State) (k line : Nat) : State :=
  let n := scrubOwner s k
  if k < 128 then
    let v := tget 0 s.smChk line
    if v = 0 || v = 3 || channelOf s (line * 64 / 2 ^ 40) (line * 64 % 2 ^ 40) != k then s
    else
      let addr := Config.free s.free
      if v = 1 then bump (memCorr { s with smChk := tput 0 s.smChk line 0 } 1 k n addr) (0x44000 + 0x80 * k + 88) 1
      else
        let s1 := raise (memCapture { s with smChk := tput 0 s.smChk line 3 } 1 1 k n addr true) evMEM 2
        postLog (postLog s1 0x43 n false k true) 1 n false addr.toNat
  else
    let l := k - 128
    let frame := (s.ctx (line * 64 / 2 ^ 30)).pages.getD (line * 64 % 2 ^ 30 / 2 ^ 20) none
    if frame.getD 1024 / 64 != l then s
    else
      let addr := BitVec.ofNat 64 (frame.getD 0 % 64 * 2 ^ 20 + line * 64 % 2 ^ 20)
      let bad := s.lsChk.filter (fun p => p.1 / 64 == line && p.2 != 3)
      let fix := bad.filter (fun p => p.2 == 1)
      let lost := bad.filter (fun p => p.2 == 2)
      let chk := s.lsChk.filterMap (fun p => if fix.contains p then none else if lost.contains p then some (p.1, 3) else some p)
      let s1 := fix.foldl (fun s p => memCorr s 3 l n (addr + BitVec.ofNat 64 (p.1 % 64))) { s with lsChk := chk }
      let s2 := if fix.isEmpty then s1 else bump s1 (0x48000 + 0x40 * l + 40) 1
      match lost with
      | [] => s2
      | p :: _ =>
        let a := addr + BitVec.ofNat 64 (p.1 % 64)
        let s3 := raise (lost.foldl (fun s q => memCapture s 3 1 l n (addr + BitVec.ofNat 64 (q.1 % 64)) true) s2) evMEM 2
        postLog (postLog s3 0x43 n false (l + 2 ^ 10) true) 1 n false a.toNat

/-- SCRUB_READ (R360 to R363): the next unit of a lap in an idle cycle. Before each 64 MiB the scrubber asks the Tender for
leave, of the module's own account (R362), and reads nothing until it is had. `line` is the stored line that the unit
holds, where Sector memory or a Lantern page lies there. -/
def execScrubRead (mem : ScrubMem) (line : Option Nat) (s : State) : Ans :=
  let k := scrubNo mem
  .next (if !scrubs s k then s
  else
    let x := s.scrubAt k
    if x.pos % 2 ^ 20 = 0 && x.leave != 2 then
      if x.leave = 1 then s
      else askLeave (s.setScrub k { x with leave := 1 }) 16 (.scrub k) 0 5 1 (2 ^ 26)
    else
      let x0 := if x.pos = 0 then { x with flashes := 0, warned := false } else x
      let s1 := match line with | some l => scrubLine s k l | none => s
      let s1 := if k < 128 then bump s1 (0x44000 + 0x80 * k + 48) 64 else s1
      if x0.pos + 1 = lapUnits k then
        lapWarn (s1.setScrub k { x0 with pos := 0, leave := 0, last := x0.flashes }) k
      else s1.setScrub k { x0 with pos := x0.pos + 1, leave := if (x0.pos + 1) % 2 ^ 20 = 0 then 0 else x0.leave })

/-- Laps that run age by a Flash (R363); a lap whose memory is in its fill, or whose scrubbing is off, is abandoned. -/
def scrubEdge (s : State) : State :=
  { s with mem := { s.mem with scrub := s.mem.scrub.map (fun p =>
      if p.2.pos = 0 then p
      else if scrubs s p.1 then (p.1, { p.2 with flashes := p.2.flashes + 1 }) else (p.1, { p.2 with pos := 0, leave := 0 })) } }

/-- Every memory that can be scrubbed. -/
def scrubReport (s : State) (op : Nat) : State :=
  let ks := (if bit op 0 then List.range 128 else []) ++ (if bit op 1 then (List.range 16).map (128 + ·) else [])
  let s1 := ks.foldl (fun s k =>
    let x := s.scrubAt k
    let s1 := s.setScrub k { x with current := if x.pos = 0 then 0 else min x.flashes (2 ^ 24 - 1),
                                    progress := x.pos * 256 / lapUnits k }
    if x.pos != 0 && !x.warned then
      let s2 := lapWarn s1 k
      let lim := (regNow s 0x40048).toNat
      if (if k < 128 then lim % 2 ^ 32 else lim / 2 ^ 32) < x.flashes then s2.setScrub k { s2.scrubAt k with warned := true } else s2
    else s1) s
  raise { s1 with mem := { s1.mem with reported := s.now } } evMEM 4

/-- MEM_SCRUB_CTL (R371): scrubbing is enabled or disabled; disabling abandons the running laps. -/
def execMemScrubCtl (value : Word) (s : State) : Ans :=
  let s1 := setReg s 0x40040 (BitVec.ofNat 64 (value.toNat % 4))
  .next ((s1.mem.scrub.map Prod.fst).foldl (fun s k =>
    if (k < 128 && !bit value.toNat 0) || (128 ≤ k && !bit value.toNat 1) then
      dropLeave (s.setScrub k { s.scrubAt k with pos := 0, leave := 0 }) (fun g => g.who == .scrub k)
    else s) s1)

/-! ### Bandwidth regulation (R365 to R368) -/

/-- The share of class c of the Sector that owns a channel. -/
def bwShare (s : State) (n c : Nat) : Nat := bits (regNow s (0x40100 + 8 * n)).toNat (8 * c + 7) (8 * c)

/-- LEVEL_PUBLISH (R366): a channel's LEVEL from the peak occupancy of its queue in the last 64 ns, and its OVER mask from the
bytes served to classes 0–4 in the last 16 intervals; what was served is counted. -/
def execLevelPublish (channel : Fin 128) (peak : Nat) (served : List Nat) (s : State) : Ans :=
  let high := max 1 ((regNow s 0x40070).toNat % 256)
  let level := if peak = 0 then 0 else if 256 ≤ peak then 3 else if high ≤ peak then 2 else 1
  let win := (served :: tget [] s.mem.served channel).take 16
  let tot (c : Nat) : Nat := win.foldl (fun a w => a + w.getD c 0) 0
  let all := (List.range 5).foldl (fun a c => a + tot c) 0
  let r := s.resAt (resChannel channel)
  let owner : Option Nat := if r.st = .lit || r.st = .drain then some r.sector else none
  let overs := match owner with
    | none => 0
    | some n => (List.range 5).foldl (fun a c => if bwShare s n c * all < tot c * 256 then a + 2 ^ c else a) 0
  let s1 := { s with mem := { s.mem with served := tput [] s.mem.served channel win,
                                         level := tput (0, 0) s.mem.level channel (level, overs) } }
  let s2 := (List.range 5).foldl (fun s c => bump s (0x44000 + 0x80 * channel + 8 * (c + 1)) (served.getD c 0)) s1
  .next (if 2 ≤ level then bump s2 (0x44000 + 0x80 * channel + 64) 64 else s2)

/-- MEM_BW_SHARE (R368): the class shares of an existing Sector; a sum above 256 changes nothing. -/
def execMemBwShare (sector : Fin 16) (value : Word) (s : State) : Ans :=
  let v := value.toNat % 2 ^ 40
  .next (if !(s.sector sector).exists_ then s
  else if 256 < (List.range 5).foldl (fun a c => a + bits v (8 * c + 7) (8 * c)) 0 then raise s evMEM 5
  else setReg s (0x40100 + 8 * sector) (BitVec.ofNat 64 v))

end Sys2Proof.Machine
end

