-- ==== Sys2Proof/Machine/BootOps.lean ====
section
/-!
DEFINITION. Boots (R472 to R477, Table 17-2), module warm resets and power cycles (R504, R505, Table 18-3), and what power-on and a warm
reset leave of the state. VIN is in tenths of a volt.
-/
namespace Sys2Proof.Machine

/-! ### What is cleared -/

/-- Registers that keep their values over a module warm reset: Flash registers but FLS_EVENTS and FLS_EVENT_EN (R43), the ports' and
lanes' availability (Table 17-2), Chain registers below the mooring range (R401), TND_RESERVE (R427), KPR registers but KPR_EVENTS,
KPR_EVENT_EN and KPR_MBOX_STATUS (R492), HNG_CTL and HNG_ALERT_EN (R511). -/
def warmKeeps (off : Nat) : Bool :=
  (decide (0x10000 ≤ off) && decide (off < 0x11000) && off != 0x10028 && off != 0x10030) ||
  (decide (0xB8 ≤ off) && decide (off < 0xD0)) ||
  (decide (0x50000 ≤ off) && decide (off < 0x58000)) || off == 0x60008 ||
  (decide (0x70000 ≤ off) && decide (off < 0x80000) && off != 0x70020 && off != 0x70028 && off != 0x70010) ||
  off == 0x90000 || off == 0x90028

/-- Rights open without a certificate (Table 15-4). -/
def openRights (s : State) : BitVec 64 :=
  match lifeCycle s with
  | 1 | 4 => 0xFF
  | 2 => 0x91
  | _ => 0

/-- What remains of Daymark over any reset of the module: fuses, keys, and SCAN until power-on (R444, R454). -/
def dmkKept (s : State) (power : Bool) : Daymark :=
  { s.dmk with rights := if s.dmk.scan && !power then openRights s ||| 8 else openRights s,
               scan := s.dmk.scan && !power, fails := if power then 0 else s.dmk.fails,
               prog := none, seq := 0, result := 0, busy := false, slotmap := [], keys := [] }

/-- A module warm reset takes everything of rung 4 (Table 18-3, R69, R98, R99, R194, R427, Table 13-8). -/
def warmClear (s : State) : State :=
  { State.reset with
    pending := s.pending, free := s.free, out := s.out, env := s.env, log := s.log, logSeq := s.logSeq, resets := s.resets
    nextGroup := s.nextGroup, pins := s.pins
    regs := s.regs.filter (fun p => warmKeeps p.1)
    flash := { s.flash with takeReq := false, snapFlash := 0, snapTick := 0 }
    ll := { litGen := s.ll.litGen }
    seqs := (s.seqs.map (fun p => (p.1, ({ gen := p.2.gen } : Seq)))).filter (fun p => p.2 != ({} : Seq))
    ctr := s.ctr.filter (fun p => decide (0x51000 ≤ p.1) && decide (p.1 < 0x52000))
    shadow := s.shadow.filter (fun p => decide (0x51000 ≤ p.1) && decide (p.1 < 0x52000))
    chn := { s.chn with moors := [], reqs := [], nums := [], recs := [], orphan := 0, orphanAddr := 0 }
    tnd := { target := s.tnd.target, slope := s.tnd.slope, cap := s.tnd.cap, ramp := s.tnd.ramp, wearSpent := s.tnd.wearSpent,
             used := s.tnd.used, trim := s.tnd.trim, avg := s.tnd.avg, resAvg := s.tnd.resAvg, droop := s.tnd.droop,
             last := s.tnd.last.map (fun r => { r with sectors := [] }) }
    dmk := dmkKept s false
    kpr := { s.kpr with seq := 0, result := 0, busy := false }
    hng := { errs := s.hng.errs, errSeq := s.hng.errSeq, dumpSlot := s.hng.dumpSlot, dumps := s.hng.dumps, stopped := true,
             pwrReq := s.hng.pwrReq } }

/-- The drive of a bypass is released (R387, R530): an open one begins to close, without power. -/
def RingPos.release (x : RingPos) (dark : Bool) : RingPos :=
  { x with moving := if x.open_ || x.moving.isSome then some false else none, dark := dark }

/-- Power-on, or its counterpart at RESET_N (R472, R519): rung 5 of Table 18-3. The Keeper and Daymark keep what they hold while standby is
held; TND takes its retained fields from the wear record (R427). -/
def powerClear (s : State) : State :=
  { State.reset with
    pending := s.pending, free := s.free, out := s.out, env := s.env, log := s.log, logSeq := s.logSeq
    resets := s.resets.filter (fun r => r.rung == 5), nextGroup := s.nextGroup, pins := s.pins
    regs := s.regs.filter (fun p => decide (0x70000 ≤ p.1) && decide (p.1 < 0x80000) && warmKeeps p.1)
    ll := { litGen := s.ll.litGen }
    chn := { rps := (List.range 8).foldl (fun t k => tput {} t k ((tget {} s.chn.rps k).release false)) [] }
    tnd := { wearSpent := s.kpr.wearSpent, used := s.kpr.wearUsed, trim := s.kpr.wearTrim }
    dmk := dmkKept s true
    kpr := { s.kpr with seq := 0, result := 0, busy := false, chainPort := none, tables := false }
    hng := { errs := s.hng.errs, errSeq := s.hng.errSeq, dumpSlot := s.hng.dumpSlot, dumps := s.hng.dumps, stopped := true,
             pwrReq := s.hng.pwrReq, pwrWait := s.hng.pwrWait } }

/-- Results reach the NVM: it is mounted, or a standby boot has not yet come to the end of NVM_OPEN (its records wait for it). -/
def stores (s : State) : Bool :=
  let b := s.kpr.boot
  s.kpr.nvmOk || (b.kind == 0 && decide (b.stage ≤ 3) && !(b.steps.any (fun x => x.id == 0x10 && x.ended)))

/-- A boot stops; the levels it left started stay to be found, where they were stored (R474). -/
def stopBoot (s : State) : State :=
  let b := s.kpr.boot
  { s with kpr := { s.kpr with boot := { b with stage := 0, steps := if stores s then b.steps else [] } } }

/-- Standby power comes: the Keeper keeps only what its NVM holds (R484), and the SRAM ring is empty; SEQ goes on from NVM (R481). -/
def standbyClear (s : State) : State :=
  let k := (stopBoot s).kpr
  let s1 := powerClear s
  let next := match k.nvmLog with | e :: _ => e.seq + 1 | [] => 0
  { s1 with
    regs := [], log := [], logSeq := next
    hng := { s1.hng with pwrReq := false, pwrWait := false }
    kpr := { boot := k.boot, levels := k.levels, quar := k.quar, journal := k.journal, nvmLog := k.nvmLog, flushed := next, fw := k.fw,
             wearUsed := k.wearUsed, wearTrim := k.wearTrim, wearSpent := k.wearSpent } }

/-! ### Boot steps (Table 17-2) -/

/-- The steps of a stage for a boot kind (0 standby, 1 cold, 2 warm), in ascending ID. -/
def stageSteps (kind stage : Nat) : List Nat :=
  let up (base n : Nat) : List Nat := (List.range n).map (base + ·)
  match stage with
  | 1 => if kind = 0 then [1, 2] else [2]
  | 2 => if kind = 0 then [3, 4] else []
  | 3 => if kind = 0 then up 0x10 5 else if kind = 1 then up 0x11 4 else []
  | 4 => up 0x20 8 ++ (if kind = 2 then [] else up 0x50 16)
  | 5 => up 0x28 8 ++ (if kind = 2 then [] else up 0x60 8)
  | 6 => up 0x30 16
  | 7 => up 0x40 4
  | 8 => [0x70]
  | _ => []

/-- The last level of a step. -/
def stepMax (id : Nat) : Nat :=
  if id = 3 || id = 0x10 || id = 0x11 || (0x60 ≤ id && id < 0x68) || (0x28 ≤ id && id < 0x40) then 1
  else if id = 0x12 || (0x40 ≤ id && id < 0x44) || (0x50 ≤ id && id < 0x60) then 2
  else if 0x20 ≤ id && id < 0x28 then 3
  else 0

/-- A step whose last level fails ends the boot in BOOT_FAILED. -/
def stepFatal (id : Nat) : Bool := [3, 4, 0x13, 0x14, 0x70].contains id

/-- Write a boot journal record (R477). -/
def journalPut (s : State) (step level outcome ms : Nat) (detail : BitVec 32) : State :=
  if stores s then
    { s with kpr := { s.kpr with journal := ({ boot := s.kpr.boot.number, step := step, level := level, outcome := outcome,
                                               ms := ms, detail := detail } :: s.kpr.journal).take 4096 } }
  else s

def setBoot (s : State) (b : Boot) : State := { s with kpr := { s.kpr with boot := b } }

/-- A step runs at a level, which is stored first (R474). -/
def runLevel (s : State) (ms id lvl : Nat) : State :=
  let s1 := if stores s then { s with kpr := { s.kpr with levels := tput 0 s.kpr.levels id lvl } } else s
  let b := s1.kpr.boot
  let x : BStep := { id := id, level := lvl }
  let steps := if b.steps.any (fun y => y.id == id) then b.steps.map (fun y => if y.id = id then x else y) else b.steps ++ [x]
  journalPut (setBoot s1 { b with steps := steps }) id lvl 0 ms 0

/-- RATE_k of CAP_HBM_RATE. -/
def stackRate (s : State) (k : Nat) : Nat := bits (regNow s 0x68).toNat (8 * k + 7) (8 * k)

/-- The life cycle forbids Chain links and open bypasses (Tables 15-4, 19-7). -/
def chainForbidden (s : State) : Bool := lifeCycle s == 4 || lifeCycle s == 5 || lifeCycle s == 7

/-- The release of every bypass drive (R519, R530). -/
def releaseBypass (s : State) (dark : Bool) : State :=
  let s1 := (List.range 16).foldl (fun s p => if (s.port p).st = .dark then s else portDown s p .down) s
  (List.range 8).foldl (fun s k => setRp s k ((tget {} s.chn.rps k).release dark)) s1

/-- The boot ends in BOOT_FAILED at a step (R476). -/
def bootFailed (s : State) (step : Nat) : State :=
  let b := s.kpr.boot
  let s1 := setBoot s { b with result := 2 }
  let s2 := { s1 with kpr := { s1.kpr with st := .failed, runs := s1.kpr.runs && step != 3 && step != 4 } }
  releaseBypass (postLog s2 0x12 0xFF true step) true

/-- A step starts at its stored level (R474); BYPASS_k at level 1 where both its ports are unavailable (R530); the fill of a stack that is
not trained is skipped (R359). An unfinished level may have left a step no level: then the boot ends in BOOT_FAILED where Table 17-2 says
so, and else the last level runs. -/
def startStep (ms : Nat) (s : State) (id : Nat) : State :=
  let lvl := if stores s then tget 0 s.kpr.levels id else 0
  if s.kpr.boot.result != 0 then s
  else if 0x28 ≤ id && id < 0x30 && stackRate s (id - 0x28) = 0 then
    let b := s.kpr.boot
    journalPut (setBoot s { b with steps := b.steps ++ [{ id := id, level := 0, ended := true }] }) id 0 3 ms 0
  else if stepMax id < lvl && stepFatal id then bootFailed s id
  else
    let k := 2 * (id - 0x60)
    let low := if 0x60 ≤ id && id < 0x68 && ((!availPort s k && !availPort s (k + 1)) || chainForbidden s) then 1 else 0
    runLevel s ms id (min (stepMax id) (max low lvl))

/-- Stage 3 may start (R518): VIN within 40–60 V and RESET_N deasserted. -/
def powerGood (s : State) : Bool := decide (400 ≤ s.pins.vin) && decide (s.pins.vin ≤ 600) && !s.pins.resetN

/-- Start the steps of a stage. -/
def startStage (s : State) (ms stage : Nat) : State :=
  let b := s.kpr.boot
  (stageSteps b.kind stage).foldl (startStep ms) (setBoot s { b with stage := stage, steps := [] })

/-- Go on to the next stage that holds a step of the boot's kind once every step has ended (R473); stage 3 waits for power. -/
def bootAdvance : Nat → Nat → State → State
  | 0, _, s => s
  | n + 1, ms, s =>
    let b := s.kpr.boot
    if b.result != 0 || b.stage = 0 || b.steps.isEmpty || b.steps.any (fun x => !x.ended) then s
    else match ((List.range 9).drop (b.stage + 1)).find? (fun st => !(stageSteps b.kind st).isEmpty) with
      | none => s
      | some st =>
        if st = 3 && !powerGood s then setBoot s { b with stage := 3, steps := [] }
        else bootAdvance n ms (startStage s ms st)

/-- Stage 3 starts where it waits and power is good (R518). -/
def tryStage3 (s : State) : State :=
  let b := s.kpr.boot
  if b.result = 0 && b.stage = 3 && b.steps.isEmpty && powerGood s then startStage s 0 3 else s

/-- Set or clear bit `i` of an availability register. -/
def putAvail (s : State) (base i : Nat) (v : Bool) : State :=
  let off := base + 8 * (i / 64)
  setReg s off (setBits (regNow s off) (i % 64) (i % 64) (if v then 1 else 0))
def putAvails (s : State) (base first n : Nat) (f : Nat → Bool) : State :=
  (List.range n).foldl (fun s i => putAvail s base (first + i) (f i)) s

/-- A Lantern is defective: it and its cores are unavailable. -/
def lanternOut (s : State) (n : Nat) : State := putAvail (putAvails s 0x80 (12 * n) 12 (fun _ => false)) 0x78 n false

/-- The unit is LOST (R437): no Keeper is started, no boot goes on. -/
def bootLost (s : State) : State := setBoot s { s.kpr.boot with result := 3, stage := 0, steps := [] }

/-- The Keeper takes entries from the collector; what was lost there is reported (R480). -/
def takeCollector (s : State) : State :=
  let n := s.kpr.lost
  let s1 := { s with kpr := { s.kpr with lost := 0, coll := 0 } }
  if n = 0 then s1 else raise (postLog s1 0x23 0xFF false n) evKPR 6

/-- What a step leaves when it has ended at a level (Table 17-2). `pass` says which cores of the Lantern, or ways of the die, pass. -/
def stepEffect (s : State) (id lvl : Nat) (detail : BitVec 32) (pass : BitVec 32) : State :=
  let other (c : Nat) : Nat := if lvl = 0 then (fwOf s c).active else 1 - (fwOf s c).active
  if id = 3 then { s with kpr := { s.kpr with slot := other 1 } }
  else if id = 4 then takeCollector { s with kpr := { s.kpr with runs := true, st := .booting } }
  else if id = 0x10 then
    if lvl = 0 then { s with kpr := { s.kpr with nvmOk := true } }
    else { s with kpr := { s.kpr with nvmOk := false, journal := s.kpr.journal.filter (fun r => r.boot != s.kpr.boot.number) } }
  else if id = 0x11 then
    if lvl = 1 && detail.toNat < 160 then { s with kpr := { s.kpr with invalid := detail.toNat :: s.kpr.invalid } } else s
  else if id = 0x12 then { s with kpr := { s.kpr with tabSlot := if lvl = 2 then 2 else other 4 } }
  else if 0x20 ≤ id && id < 0x28 then
    let k := id - 0x20
    let r := ([100, 80, 64] : List Nat).getD lvl 0
    putAvails (setReg s 0x68 (setBits (regNow s 0x68) (8 * k + 7) (8 * k) r)) 0x98 (16 * k) 16 (fun _ => r != 0)
  else if 0x28 ≤ id && id < 0x30 then
    let k := id - 0x28
    if lvl = 0 then
      { s with dmk := { s.dmk with keys := (List.range 16).foldl (fun t i => tput (0, 0) t (16 * k + i) (0xFF, s.ll.litGen)) s.dmk.keys } }
    else putAvails (setReg s 0x68 (setBits (regNow s 0x68) (8 * k + 7) (8 * k) 0)) 0x98 (16 * k) 16 (fun _ => false)
  else if 0x30 ≤ id && id < 0x40 then
    let n := id - 0x30
    let good (i : Nat) : Bool := bit pass.toNat i && (!s.kpr.nvmOk || decide (tget 0 s.kpr.quar (12 * n + i) < 3))
    if lvl = 0 && (List.range 12).any good then
      takeUcode (putAvail (putAvails s 0x80 (12 * n) 12 good) 0x78 n true) n
    else lanternOut s n
  else if 0x40 ≤ id && id < 0x44 then
    let d := id - 0x40
    let s1 := putAvails s 0xA8 (32 * d) 32 (fun i => lvl == 0 || (lvl == 1 && bit pass.toNat i))
    let s2 := if lvl = 2 then (List.range 4).foldl (fun s i => lanternOut s (4 * d + i)) s1 else s1
    setDir s2 d (if bit (cohForce s2) d then .test else .directory)
  else if 0x50 ≤ id && id < 0x60 then
    let p := id - 0x50
    let s1 := putAvails (putAvail s 0xB8 p (lvl != 2)) 0xC0 (8 * p) 8 (fun _ => lvl != 2)
    if lvl = 2 then s1.setPort p { s1.port p with st := .dark }
    else { s1 with kpr := { s1.kpr with portSlot := tput 0 s1.kpr.portSlot p (other 3) } }
  else if 0x60 ≤ id && id < 0x68 then
    let k := id - 0x60
    if lvl = 1 then setRp s k { open_ := false, moving := none, dark := true }
    else [2 * k, 2 * k + 1].foldl portTrain (raise (setRp s k { open_ := true, moving := none, dark := false }) evCHN 9)
  else s

/-- The first BOOT_DONE after an activation programs the anti-rollback fuse where the image carries COMMIT (R489). -/
def commitFuses (s : State) : State :=
  [1, 2, 3, 4].foldl (fun s c =>
    let f := fwOf s c
    if f.commit then
      let s1 := setFw s c { f with commit := false }
      { s1 with dmk := { s1.dmk with fuses := { s1.dmk.fuses with svn := tmod 0 s1.dmk.fuses.svn c (max (imgSvn (f.image f.active))) } } }
    else s) s

/-- A reset of rung 4 or 5 ends with the release of the function (R500). -/
def endModuleReset (s : State) : State :=
  let rs := s.resets.filter (fun r => decide (4 ≤ r.rung))
  rs.foldl (fun s r => if r.escalated then s else errRecord s r (if r.stuck then 3 else 0))
    { s with resets := s.resets.filter (fun r => !(decide (4 ≤ r.rung))), hng := { s.hng with reqRung := 0 } }

/-- CAPS has ended: the function is released (R33), and the boot is done (R477). -/
def bootDone (s : State) (ms : Nat) : State :=
  let s1 := if s.tnd.wearSpent then setReg s 0x38 (setBits (regNow s 0x38) 15 0 1600) else s
  let s2 := journalPut s1 0x7F 0 1 ms 0
  let b := s2.kpr.boot
  let s3 := setBoot s2 { b with result := 1 }
  let s4 := commitFuses { s3 with kpr := { s3.kpr with st := .running }, hng := { s3.hng with stopped := false } }
  let s5 := postLog s4 0x11 0xFF false (b.number.toNat + b.kind * 2 ^ 32 + b.alternates * 2 ^ 40)
  endModuleReset (if 0 < b.alternates then raise s5 evKPR 3 else s5)

/-- A step has ended at its level for good. -/
def stepDone (s : State) (id lvl ms : Nat) (detail pass : BitVec 32) : State :=
  let s1 := stepEffect s id lvl detail pass
  let b := s1.kpr.boot
  let s2 := setBoot s1 { b with steps := b.steps.map (fun x => if x.id = id then { x with ended := true } else x),
                                alternates := if 0 < lvl then b.alternates + 1 else b.alternates }
  if id = 0x70 then bootDone s2 ms
  else if id = 2 then
    if lifeCycle s2 = 7 then bootLost s2
    else bootAdvance 9 ms { s2 with dmk := { s2.dmk with rights := openRights s2 ||| (if s2.dmk.scan then 8 else 0) } }
  else bootAdvance 9 ms s2

/-- A level that did not end DONE (R474): record, Logbook entry, and the next level, or what the table says where none is left. -/
def stepFailed (s : State) (id lvl outcome ms : Nat) (detail pass : BitVec 32) : State :=
  let s1 := journalPut s id lvl outcome ms detail
  if id = 1 then { bootLost s1 with dmk := { s1.dmk with running := false } }
  else
    let s2 := postLog s1 0x10 0xFF false (id + lvl * 2 ^ 16 + outcome * 2 ^ 24 + detail.toNat * 2 ^ 32)
    let s3 := setBoot s2 { s2.kpr.boot with lastFail := id }
    if lvl < stepMax id then runLevel s3 ms id (lvl + 1)
    else if id = 2 then bootLost { s3 with dmk := { s3.dmk with lost := true } }
    else if stepFatal id then bootFailed s3 id
    else stepDone s3 id lvl ms detail pass

/-- The running step of an ID. -/
def runningStep (s : State) (id : Nat) : Option BStep :=
  let b := s.kpr.boot
  if b.result = 0 && b.stage != 0 then b.steps.find? (fun x => x.id == id && !x.ended) else none

/-- A boot begins (R472, R474): levels that started and did not end in the boot before are unfinished, and their steps run at the next
level; Daymark's own steps start anew. -/
def beginBoot (s : State) (kind : Nat) : State :=
  let b := s.kpr.boot
  let left := if b.result = 0 && (kind == 0 || stores s) then b.steps.filter (fun x => !x.ended) else []
  let s1 := { s with
    dmk := { s.dmk with lost := false }
    kpr := { s.kpr with st := .booting, levels := left.foldl (fun t x => tput 0 t x.id (if x.id ≤ 2 then 0 else x.level + 1)) s.kpr.levels,
                        boot := { kind := kind, number := b.number + 1, result := 0, stage := 1 } } }
  let s2 := left.foldl (fun s x => journalPut s x.id x.level 5 0 0) s1
  startStage s2 0 1

/-! ### Rungs 4 and 5 (R504, R505) -/

/-- PWR_CYCLE_REQ_N is asserted once the Logbook is flushed (R505). -/
def requestCycle (s : State) : State :=
  raise { s with hng := { s.hng with pwrReq := true, pwrWait := false } } evHNG 8

/-- What follows the dump, or the stop where none is taken: the warm boot, or the flush and the request of a power cycle. -/
def afterDump (s : State) : State :=
  if s.resets.any (fun r => r.rung == 5) then
    let s1 := startFlush s
    if s1.kpr.flushing.isSome then { s1 with hng := { s1.hng with pwrWait := true } } else requestCycle s1
  else beginBoot s 2

/-- A reset of rung 4 or 5 starts (R499 to R505): narrower resets are absorbed. `dump` says that what started it takes a dump, where
DUMP_EN is 1. While the Keeper restarts, or fuses are programmed, it waits (Table 18-7, R453); one that a running reset of its own or a
wider scope contains is absorbed. -/
def startModuleReset (s : State) (r : RunReset) (dump : Bool) : State :=
  if s.resets.any (fun x => decide (r.rung ≤ x.rung)) then hngCount s 7 1
  else if s.kpr.st == .restarting || s.dmk.prog.isSome then
    match s.hng.wait with
    | some (w, _) => if w.rung < r.rung then { s with hng := { s.hng with wait := some (r, dump) } } else s
    | none => { s with hng := { s.hng with wait := some (r, dump) } }
  else
    let on := bit (hngCtl s) 0
    let s1 := beginReset s r
    let a := absorb s1 (fun x => decide (x.rung < r.rung))
    let s2 := warmClear { a.1 with resets := a.1.resets.filter (fun x => x.rung == r.rung) }
    let s2 := if s2.kpr.boot.result = 0 then stopBoot s2 else s2
    if s.hng.dumping then
      -- a dump that is being written is this reset's too
      { updReset s2 r.rung r.target (fun x => { x with dump := s.hng.dumpSlot }) with hng := { s2.hng with dumping := true } }
    else if dump && on && s2.kpr.runs then
      let slot := if s2.hng.dumps.isEmpty then 0 else (s2.hng.dumpSlot + 1) % 4
      let s3 := updReset s2 r.rung r.target (fun x => { x with dump := slot })
      { s3 with hng := { s3.hng with dumping := true, dumpSlot := slot, dumps := tput (0, 0) s3.hng.dumps slot (1, s3.hng.errSeq.toNat) } }
    else afterDump s2

/-- A rung that waited starts. -/
def startWaiting (s : State) : State :=
  match s.hng.wait with
  | none => s
  | some (r, dump) => startModuleReset { s with hng := { s.hng with wait := none } } { r with start := s.now } dump

/-- A new reset of rung 4 or 5. -/
def moduleRung (s : State) (rung cause by_ : Nat) (engine : Nat := 0xFF) (ctx : Nat := 0) : RunReset :=
  { rung := rung, target := 0, cause := cause, by_ := by_, sector := 0xFF, engine := engine, ctx := ctx, start := s.now }

end Sys2Proof.Machine
end

