-- ==== Sys2Proof/Machine/Signatures.lean ====
section
/-!
DEFINITION. HKDF-SHA-384, AES-256-GCM decryption and ECDSA P-384 verification, which the spec names and does not define: PRESUMED as
RFC 5869, FIPS 197, SP 800-38D and FIPS 186 give them (notes/assumptions/7).
-/
namespace Sys2Proof.Machine

/-! ### HKDF -/

/-- HKDF-SHA-384 with one block of output: at most 48 bytes. An absent salt is 48 zero bytes. -/
def hkdf384 (salt ikm info : List Byte) (len : Nat) : List Byte :=
  (hmac384 (hmac384 (if salt.isEmpty then List.replicate 48 0 else salt) ikm) (info ++ [1])).take len

/-! ### AES-256 -/

/-- The S-box, 32 bytes to a word, byte 0 lowest. -/
def aesSbox : List Nat :=
  [0xc072a49cafa2d4adf04759fa7dc982ca76abd7fe2b670130c56f6bf27b777c63, 0x75b227ebe28012079a059618c323c7041531d871f1e5a534ccf73f362693fdb7] ++
  [0xcf584c4a39becb6a5bb1fc20ed00d153842fe329b3d63b52a05a6e1b1a2c8309, 0xd2f3ff1021dab6bcf5389d928f40a351a89f3c507f02f94585334d43fbaaefd0] ++
  [0xdb0b5ede14b8ee4688902a22dc4f816073195d643d7ea7c41744975fec130ccd, 0x08ae7a65eaf4566ca94ed58d6d37c8e779e4959162acd3c25c2406490a3a32e0] ++
  [0x9e1dc186b95735610ef6034866b53e708a8bbd4b1f74dde8c6b4a61c2e2578ba, 0x16bb54b00f2d99416842e6bf0d89a18cdf2855cee9871e9b948ed9691198f8e1]

/-- SubBytes of one byte. -/
def aesSub (b : Nat) : Nat := aesSbox.getD (b / 32) 0 / 2 ^ (8 * (b % 32)) % 256

/-- Multiplication by x in the field of AES. -/
def aesX (a : Nat) : Nat := if a < 128 then 2 * a else (2 * a) ^^^ 0x11B

/-- Round keys: the next word from the eight before it, newest first; `i` is its number. -/
def aesKeyWord (w : List (List Nat)) (i rcon : Nat) : List Nat :=
  let last := w.getD 0 []
  let t := if i % 8 = 0 then
      let r := (last.drop 1 ++ last.take 1).map aesSub
      r.set 0 (r.getD 0 0 ^^^ rcon)
    else if i % 8 = 4 then last.map aesSub
    else last
  List.zipWith (· ^^^ ·) (w.getD 7 []) t

/-- `n` further words of the key schedule. -/
def aesExpand : Nat → Nat → Nat → List (List Nat) → List (List Nat)
  | 0, _, _, w => w
  | n + 1, i, rcon, w => aesExpand n (i + 1) (if i % 8 = 0 then aesX rcon else rcon) (aesKeyWord w i rcon :: w)

/-- The 240 bytes of the fifteen round keys. -/
def aesKeys (key : List Byte) : List Nat :=
  let k := key.map (·.toNat)
  let w := (List.range 8).map (fun i => (List.range 4).map (fun j => k.getD (4 * i + j) 0))
  ((aesExpand 52 8 1 w.reverse).reverse).foldr (· ++ ·) []

/-- ShiftRows of the state, column by column. -/
def aesShift (x : List Nat) : List Nat := (List.range 16).map (fun i => x.getD ((i + 4 * (i % 4)) % 16) 0)

/-- MixColumns. -/
def aesMix (x : List Nat) : List Nat :=
  (List.range 16).map (fun i =>
    let c (j : Nat) : Nat := x.getD (i / 4 * 4 + (i + j) % 4) 0
    aesX (c 0) ^^^ (aesX (c 1) ^^^ c 1) ^^^ c 2 ^^^ c 3)

/-- The round key of round r added. -/
def aesAdd (keys : List Nat) (r : Nat) (x : List Nat) : List Nat := List.zipWith (· ^^^ ·) x ((keys.drop (16 * r)).take 16)

/-- AES-256 of one block under expanded keys. -/
def aesBlock (keys : List Nat) (blk : List Nat) : List Nat :=
  let x := (List.range 13).foldl (fun x r => aesAdd keys (r + 1) (aesMix (aesShift (x.map aesSub)))) (aesAdd keys 0 blk)
  aesAdd keys 14 (aesShift (x.map aesSub))

/-! ### GCM -/

/-- The number that big-endian bytes spell, and its sixteen bytes. -/
def beNat (b : List Nat) : Nat := b.foldl (fun a x => 256 * a + x) 0
def be16 (n : Nat) : List Nat := (List.range 16).map (fun i => n / 2 ^ (8 * (15 - i)) % 256)

/-- Multiplication in the field of GHASH: bit 127 of a number is the first bit of its block. -/
def ghMul (x y : Nat) : Nat :=
  ((List.range 128).foldl (fun (p : Nat × Nat) i =>
    let z := if x / 2 ^ (127 - i) % 2 = 1 then p.1 ^^^ p.2 else p.1
    let v := if p.2 % 2 = 1 then (p.2 / 2) ^^^ (0xE1 * 2 ^ 120) else p.2 / 2
    (z, v)) (0, y)).1

/-- GHASH of whole blocks. -/
def ghash (h : Nat) (blocks : List Nat) : Nat := blocks.foldl (fun a b => ghMul (a ^^^ b) h) 0

/-- Blocks of a text, the last filled with zeros. -/
def gcmBlocks (t : List Nat) : List Nat :=
  (List.range ((t.length + 15) / 16)).map (fun i => beNat ((List.range 16).map (fun j => t.getD (16 * i + j) 0)))

/-- Decrypt and authenticate under AES-256-GCM with a 12-byte nonce and no additional data; none where the tag does not match. -/
def gcmOpen (key nonce text tag : List Byte) : Option (List Byte) :=
  let ks := aesKeys key
  let n := nonce.map (·.toNat)
  let ctr (i : Nat) : List Nat := aesBlock ks (n ++ (List.range 4).map (fun j => i / 2 ^ (8 * (3 - j)) % 256))
  let h := beNat (aesBlock ks (List.replicate 16 0))
  let c := text.map (·.toNat)
  let t := ghash h (gcmBlocks c ++ [8 * c.length]) ^^^ beNat (ctr 1)
  if be16 t = tag.map (·.toNat) then
    let stream := ((List.range ((c.length + 15) / 16)).map (fun i => ctr (2 + i))).foldr (· ++ ·) []
    some ((List.zipWith (· ^^^ ·) c stream).map (BitVec.ofNat 8))
  else none

/-! ### ECDSA P-384 -/

/-- The field prime, the order, and the base point of P-384. -/
def p384P : Nat := 2 ^ 384 - 2 ^ 128 - 2 ^ 96 + 2 ^ 32 - 1
def p384N : Nat := 0xffffffffffffffffffffffffffffffffffffffffffffffffc7634d81f4372ddf581a0db248b0a77aecec196accc52973
def p384B : Nat := 0xb3312fa7e23ee7e4988e056be3f82d19181d9c6efe8141120314088f5013875ac656398d8a2ed19d2a85c8edd3ec2aef
def p384G : Nat × Nat :=
  (0xaa87ca22be8b05378eb1c71ef320ad746e1d3b628ba79b9859f741e082542a385502f25dbf55296c3a545e3872760ab7,
   0x3617de4a96262c6f5d9e98bf9292dc29f8f41dbd289a147ce9da3113b5f0b8c00a60b1ce1d7e819d7a431d7c90ea0e5f)

/-- a^e modulo m, over `n` bits of e. -/
def powMod (m : Nat) : Nat → Nat → Nat → Nat
  | 0, _, _ => 1
  | n + 1, a, e =>
    let r := powMod m n (a * a % m) (e / 2)
    if e % 2 = 1 then r * a % m else r

/-- The inverse modulo a prime. -/
def invMod (m a : Nat) : Nat := powMod m 384 a (m - 2)

/-- Point addition; none is the point at infinity. -/
def p384Add (a b : Option (Nat × Nat)) : Option (Nat × Nat) :=
  match a, b with
  | none, q => q
  | p, none => p
  | some (x1, y1), some (x2, y2) =>
    let p := p384P
    if x1 = x2 && (y1 + y2) % p = 0 then none
    else
      let l := if x1 = x2 then (3 * x1 * x1 + (p - 3)) % p * invMod p (2 * y1 % p) % p
               else (y2 + (p - y1)) % p * invMod p ((x2 + (p - x1)) % p) % p
      let x := (l * l + (p - x1) + (p - x2)) % p
      some (x, (l * ((x1 + (p - x)) % p) + (p - y1)) % p)

/-- k times a point, over `n` bits of k. -/
def p384Mul : Nat → Nat → Option (Nat × Nat) → Option (Nat × Nat)
  | 0, _, _ => none
  | n + 1, k, q =>
    if k = 0 then none
    else
      let r := p384Mul n (k / 2) (p384Add q q)
      if k % 2 = 1 then p384Add r q else r

/-- A point lies on the curve. -/
def p384On (q : Nat × Nat) : Bool :=
  decide (q.1 < p384P) && decide (q.2 < p384P) && q.2 * q.2 % p384P == (q.1 * q.1 * q.1 + (p384P - 3) * q.1 + p384B) % p384P

/-- A signature (r, s) over a SHA-384 digest verifies under a public key. -/
def ecdsaOk (key : Nat × Nat) (digest : List Byte) (r s : Nat) : Bool :=
  let n := p384N
  if r = 0 || n ≤ r || s = 0 || n ≤ s || !p384On key then false
  else
    let w := invMod n s
    let z := beNat (digest.map (·.toNat))
    match p384Add (p384Mul 384 (z * w % n) (some p384G)) (p384Mul 384 (r * w % n) (some key)) with
    | none => false
    | some q => q.1 % n == r

/-- The big-endian integer of 48 bytes at an offset. -/
def be48 (b : List Byte) (off : Nat) : Nat := beNat ((sub b off 48).map (·.toNat))

end Sys2Proof.Machine
end

