-- ==== Sys2Proof/Machine/Daymark.lean ====
section
/-!
DEFINITION. Daymark (R428 to R454): its mailbox, life-cycle transitions, the composition key, debug certificates, and SPDM.
-/
namespace Sys2Proof.Machine

/-! ### The mailbox (R454) -/

/-- The body of a mailbox request of `len` bytes: opcode, RVER 1, two zero bytes, the body's length. None where it is malformed. -/
def mboxBody (b : List Byte) (len : Nat) : Option (List Byte) :=
  if 8 ≤ len && len ≤ 2048 && len ≤ b.length && fieldAt b 1 1 == 1 && fieldAt b 2 2 == 0 && fieldAt b 4 4 + 8 == len then
    some ((b.take len).drop 8)
  else none

/-- A mailbox command ends: the response from byte 2,048 on, the status with DONE, and the event (R454). -/
def dmkFinish (s : State) (result : Nat) (resp : List Byte) : State :=
  let s1 := if resp.isEmpty then s else hostWrite s none ((regNow s 0x80000).toNat / 4096 * 4096 + 2048) resp false
  let s2 := { s1 with dmk := { s1.dmk with seq := s1.dmk.seq + 1, result := result, busy := false } }
  raise (setReg s2 0x80010 2) evDMK 0

/-- Results of Table 15-14. -/
def mOK : Nat := 0
def mBAD : Nat := 1
def mSTATE : Nat := 2
def mTOKEN : Nat := 3
def mLOCKOUT : Nat := 4
def mSECTORS : Nat := 5
def mPOWER : Nat := 6
def mCERT : Nat := 7
def mBINDING : Nat := 8
def mSPENT : Nat := 9
def mKEY : Nat := 10
def mSET : Nat := 11
def mBUSY : Nat := 12
def mDENIED : Nat := 13
def mNVM : Nat := 14

/-- Run a Daymark mailbox request of an opcode: `f` answers the state, the result and the response. A GO while a command runs is BUSY; a
request of another command is not this one's; one that cannot be fetched, or has no command's opcode, is malformed. -/
def dmkRun (s : State) (req : Option (List Byte)) (op : Nat) (f : List Byte → State × Nat × List Byte) : State :=
  let len := bits (regNow s 0x80008).toNat 11 0
  if !s.dmk.running || lifeCycle s == 7 then s
  else if s.dmk.busy then { s with dmk := { s.dmk with result := mBUSY } }
  else match req with
    | none => dmkFinish s mBAD []
    | some b =>
      let o := fieldAt b 0 1
      if o != op && 1 ≤ o && o ≤ 6 then s
      else match (if o = op then mboxBody b len else none) with
        | none => dmkFinish s mBAD []
        | some body =>
          let r := f body
          if r.1.dmk.busy then r.1 else dmkFinish r.1 r.2.1 r.2.2

/-- DMK_LC. -/
def dmkLc (s : State) : Nat :=
  let f := s.dmk.fuses
  lifeCycle s + (if f.fieldDigest.isSome then 2 ^ 8 else 0) + (if f.scrapDigest.isSome then 2 ^ 9 else 0) + s.dmk.fails * 2 ^ 16 +
    f.counter * 2 ^ 32

/-- GET_STATE (R454): DMK_LC and DMK_DEBUG. -/
def execGetState (req : Option (List Byte)) (_vin _vsb : Nat) (s : State) : Ans :=
  .next (dmkRun s req 1 (fun b => if b.isEmpty then (s, mOK, leBytes 8 (dmkLc s) ++ leBytes 8 s.dmk.rights.toNat) else (s, mBAD, [])))

/-! ### Life cycle (R437 to R441) -/

/-- The digest of the token that a transition asks for (Table 15-5): none where there is no such row; `some none` where its digest is not
stored. -/
def tokenDigest (s : State) (target : Nat) : Option (Option (List Byte)) :=
  let f := s.dmk.fuses
  match lifeCycle s, target with
  | 1, 2 => some (some f.integDigest)
  | 2, 3 => some f.fieldDigest
  | 3, 4 | 1, 5 | 2, 5 | 4, 5 => some (some f.returnDigest)
  | 3, 5 => some f.scrapDigest
  | _, _ => none

/-- A Sector exists. -/
def anySector (s : State) : Bool := s.sectors.any (fun p => p.2.exists_)

/-- LC_TRANSITION (R439, R440): lockout, the row, the token, then what programming needs; `vin` in tenths of a volt, `vsb` in mV. -/
def execLcTransition (req : Option (List Byte)) (vin vsb : Nat) (s : State) : Ans :=
  .next (dmkRun s req 2 (fun b =>
    let target := fieldAt b 0 1
    if b.length != 36 || !zeroAt b 1 3 then (s, mBAD, [])
    else if 8 ≤ s.dmk.fails then (s, mLOCKOUT, [])
    else match tokenDigest s target with
      | none | some none => (s, mSTATE, [])
      | some (some d) =>
        if sha384 (sub b 4 32) != d then
          let s1 := { s with dmk := { s.dmk with fails := satAdd 8 s.dmk.fails 1 } }
          (raise (postLog s1 0x61 0xFF false (target + s1.dmk.fails * 256)) evDMK 3, mTOKEN, [])
        else if anySector s then (s, mSECTORS, [])
        else if vin < 440 || 600 < vin || vsb < 3200 then (s, mPOWER, [])
        else ({ s with dmk := { s.dmk with prog := some target, busy := true } }, mOK, [])))

/-- Kill rows and the composition key on entry to a state (R440, step 1): 1 memory root, 2 link identity, 3 device identity. -/
def entryKills (d : Daymark) (target : Nat) : Daymark :=
  if target = 4 || target = 5 then
    let add := ([1, 2] ++ (if target = 5 then [3] else [])).filter (fun k => !d.fuses.killed.contains k)
    { d with compKey := none, fuses := { d.fuses with killed := d.fuses.killed ++ add } }
  else d

/-- FUSE_PROGRAMMING_DONE (R440): every row is programmed; the Logbook entry, and a module warm reset. -/
def execFuseProgrammingDone (s : State) : Ans :=
  .next (match s.dmk.prog with
  | none => s
  | some t =>
    let from_ := lifeCycle s
    let d := entryKills s.dmk t
    let s1 := { s with dmk := { d with prog := none, fuses := { d.fuses with copies := [some t, some t, some t] } } }
    let s2 := postLog (dmkFinish s1 mOK []) 0x60 0xFF true (from_ + t * 256)
    match s2.hng.wait with
    | some (r, _) =>
      if r.rung = 5 then startWaiting s2
      else
        startModuleReset { s2 with hng := { s2.hng with wait := none } } (moduleRung s2 4 stCTXRESET 5) false
    | none => startModuleReset s2 (moduleRung s2 4 stCTXRESET 5) false)

/-- What power lost while fuses are programmed leaves (Table 15-6): `stage` 0 is step 1, 1 to 3 the copies 0 to 2. -/
def fusesCut (s : State) (stage : Nat) : State :=
  match s.dmk.prog with
  | none => s
  | some t =>
    let d := entryKills s.dmk t
    let c (i : Nat) : Option Nat := d.fuses.copies.getD i none
    let cs := match stage with
      | 0 => d.fuses.copies
      | 1 => [none, c 1, c 2]
      | 2 => [some t, none, c 2]
      | _ => [some t, some t, none]
    { s with dmk := { d with prog := none, busy := false, fuses := { d.fuses with copies := cs } } }

/-- LC_SET_DIGESTS (R439): once each, in INTEGRATOR; an all-zero digest is skipped. -/
def execLcSetDigests (req : Option (List Byte)) (_vin _vsb : Nat) (s : State) : Ans :=
  .next (dmkRun s req 3 (fun b =>
    let f := s.dmk.fuses
    let a := sub b 0 48
    let c := sub b 48 48
    let za := a.all (· == 0)
    let zc := c.all (· == 0)
    if b.length != 96 then (s, mBAD, [])
    else if lifeCycle s != 2 then (s, mSTATE, [])
    else if (!za && f.fieldDigest.isSome) || (!zc && f.scrapDigest.isSome) then (s, mSET, [])
    else ({ s with dmk := { s.dmk with fuses := { f with fieldDigest := if za then f.fieldDigest else some a,
                                                          scrapDigest := if zc then f.scrapDigest else some c } } }, mOK, [])))

/-! ### The composition key (R435) -/

/-- The bytes of "OXCKWRAP". -/
def wrapInfo : List Byte := [0x4F, 0x58, 0x43, 0x4B, 0x57, 0x52, 0x41, 0x50]

/-- COMPKEY_ENROL (R435): plain in MAKER and INTEGRATOR; in FIELDED encrypted under the current key. -/
def execCompkeyEnrol (req : Option (List Byte)) (_vin _vsb : Nat) (s : State) : Ans :=
  .next (dmkRun s req 4 (fun b =>
    let put (k : List Byte) : State × Nat × List Byte := (raise { s with dmk := { s.dmk with compKey := some k } } evDMK 2, mOK, [])
    match lifeCycle s with
    | 1 | 2 => if b.length != 48 then (s, mBAD, []) else put b
    | 3 =>
      if b.length != 76 then (s, mBAD, [])
      else match s.dmk.compKey with
        | none => (s, mKEY, [])
        | some k =>
          match gcmOpen (hkdf384 [] k wrapInfo 32) (sub b 0 12) (sub b 12 48) (sub b 60 16) with
          | none => (s, mKEY, [])
          | some n => put n
    | _ => (s, mSTATE, [])))

/-! ### Debug certificates (R442 to R444) -/

/-- The layout and reserved fields of a certificate (Table 15-7). -/
def certLayout (b : List Byte) : Bool :=
  fieldAt b 0 8 == 0x545243474244584F && fieldAt b 8 1 == 1 && zeroAt b 9 1 && decide (fieldAt b 10 2 ≤ 3) &&
  decide (fieldAt b 24 8 < 256) && fieldAt b 32 1 % 4 == 0 && decide (fieldAt b 32 1 < 16) && zeroAt b 33 95

/-- Rights that reach tenant state, and SCAN (Table 15-8). -/
def tenantRights (r : Nat) : Bool := bit r 1 || bit r 2 || bit r 3 || bit r 5

/-- DEBUG_CERT (R443, R444): the checks in order, one counter bit, then the rights; SCAN performs a module warm reset first. -/
def execDebugCert (req : Option (List Byte)) (_vin _vsb : Nat) (s : State) : Ans :=
  .next (dmkRun s req 5 (fun b =>
    let f := s.dmk.fuses
    let rights := fieldAt b 24 8
    if lifeCycle s == 5 then (s, mSTATE, [])
    else if b.length != 224 || !certLayout b then (s, mBAD, [])
    else if !ecdsaOk (f.dbgKeys.getD (fieldAt b 10 2) (0, 0)) (sha384 (b.take 128)) (be48 b 128) (be48 b 176) then (s, mCERT, [])
    else if fieldAt b 16 8 != f.serial.toNat || fieldAt b 12 4 != f.counter || !bit (fieldAt b 32 1) (lifeCycle s) then (s, mBINDING, [])
    else if 1024 ≤ f.counter then (s, mSPENT, [])
    else if tenantRights rights && anySector s then (s, mSECTORS, [])
    else
      let s1 := { s with dmk := { s.dmk with fuses := { f with counter := f.counter + 1 } } }
      let grant (s : State) : State :=
        let s2 := { s with dmk := { s.dmk with rights := s.dmk.rights ||| BitVec.ofNat 64 rights, scan := s.dmk.scan || bit rights 3 } }
        raise (postLog s2 0x62 0xFF false s2.dmk.rights.toNat) evDMK 1
      if bit rights 3 then
        let done := dmkFinish s1 mOK (leBytes 8 (openRights s1 ||| BitVec.ofNat 64 rights).toNat)
        let s2 := grant (startModuleReset done (moduleRung done 4 stCTXRESET 5) false)
        -- the command has ended before the reset
        ({ s2 with dmk := { s2.dmk with busy := true } }, mOK, [])
      else
        let s2 := grant s1
        (s2, mOK, leBytes 8 s2.dmk.rights.toNat)))

/-- DEBUG_REVOKE (R444): SCAN that a certificate granted stays until power-on. -/
def execDebugRevoke (req : Option (List Byte)) (_vin _vsb : Nat) (s : State) : Ans :=
  .next (dmkRun s req 6 (fun b =>
    if !b.isEmpty then (s, mBAD, [])
    else
      let d : BitVec 64 := if s.dmk.scan then 8 else 0
      let s1 := { s with dmk := { s.dmk with rights := d } }
      (if d = s.dmk.rights then s1 else raise s1 evDMK 1, mOK, [])))

/-! ### SPDM (R445 to R448) -/

/-- Attestation beyond identity is not open in SCRAPPED and LOST (R437, Table 15-4); nothing answers while Daymark does not run. -/
def identityOnly (s : State) : Bool := lifeCycle s == 5 || lifeCycle s == 7
def spdmAnswer (s : State) (req : Nat) (body : List Byte) (signed : Bool) : State :=
  if s.dmk.running then s.emit (.spdm req body signed) else s
/-- The SPDM ERROR response. -/
def spdmError (s : State) : State := spdmAnswer s 0x7F [] false
/-- The device identity key is alive (R440). -/
def identityKey (s : State) : Bool := !s.dmk.fuses.killed.contains 3

/-- GET_VERSION (R445): SPDM 1.3. -/
def execGetVersion (s : State) : Ans := .next (spdmAnswer s 0x84 [0x13] false)
/-- GET_CAPABILITIES (R445). -/
def execGetCapabilities (s : State) : Ans := .next (spdmAnswer s 0xE1 [] false)
/-- NEGOTIATE_ALGORITHMS (R445): ECDSA P-384 with SHA-384. -/
def execNegotiateAlgorithms (s : State) : Ans := .next (spdmAnswer s 0xE3 [] false)
/-- GET_DIGESTS (R445): of the chain in slot 0. -/
def execGetDigests (s : State) : Ans := .next (spdmAnswer s 0x81 (sha384 s.dmk.fuses.chain) false)
/-- GET_CERTIFICATE (R445): slot 0 holds the device identity chain, and no other slot is provisioned. -/
def execGetCertificate (slot off len : Nat) (s : State) : Ans :=
  .next (if slot = 0 then spdmAnswer s 0x82 ((s.dmk.fuses.chain.drop off).take len) false else spdmError s)
/-- CHALLENGE (R445): a signed response over the requester's nonce. -/
def execChallenge (slot : Nat) (nonce : List Byte) (s : State) : Ans :=
  .next (if slot = 0 && identityKey s then spdmAnswer s 0x83 (sha384 s.dmk.fuses.chain ++ nonce) true else spdmError s)

/-- Bits of a list of numbers, as `n` little-endian bytes. -/
def setBytes (n : Nat) (l : List Nat) : List Byte := leBytes n (l.foldl (fun a i => a ||| 2 ^ i) 0)

/-- The entry of a Sector (Table 15-10); zeros where it does not exist. -/
def mapEntry (s : State) (n : Nat) : List Byte :=
  let x := s.sector n
  if !x.exists_ then List.replicate 96 0
  else
    let cores := x.lanterns.flatMap (fun p => ((List.range 12).filter (fun i => bit p.2 i)).map (12 * p.1 + ·))
    leBytes 1 n ++ leBytes 1 (1 + if x.sealed_ then 2 else 0) ++ leBytes 1 x.slots ++ leBytes 1 x.kvLog ++ leBytes 4 x.tenant ++
    setBytes 2 (x.lanterns.map Prod.fst) ++ leBytes 2 x.share ++ setBytes 24 cores ++ setBytes 16 x.channels ++
    setBytes 16 (x.ways.map Prod.fst) ++ setBytes 16 x.lanes ++ leBytes 2 x.moorFirst ++ leBytes 2 x.moorCount ++
    leBytes 2 (s.gen n).mapGen.toNat ++ List.replicate 6 0

/-- What the fuses hold, as numbers. -/
def fuseNats (f : Fuses) : List Nat :=
  let ns (b : List Byte) : Nat := leNat (b ++ [1])
  [f.serial.toNat, f.counter, ns f.integDigest, ns f.returnDigest, ((f.fieldDigest.map ns).getD 0), ((f.scrapDigest.map ns).getD 0),
   f.fwKey.1, f.fwKey.2] ++ f.copies.map (·.getD 0) ++ f.dbgKeys.flatMap (fun k => [k.1, k.2]) ++ f.killed ++
  f.svn.flatMap (fun p => [p.1, p.2])

/-- A measurement block (Table 15-9a); none where the index names none. The widths within block 6 are those that its 80 bytes leave
(notes/assumptions/22). -/
def measurement (s : State) (index : Nat) : Option (List Byte) :=
  let f := s.dmk.fuses
  match index with
  | 1 => some f.romDigest
  | 2 => some ((if s.kpr.slot = 0 then 0x41 else 0x42) :: sha384 ((fwOf s 1).image s.kpr.slot))
  | 3 => some (sha384 (fwImage s 2))
  | 4 => some ((List.range 16).flatMap (fun p => leBytes 1 p ++ sha384 ((fwOf s 3).image (tget 0 s.kpr.portSlot p))))
  | 5 => some (if s.kpr.tabSlot = 2 then (List.range 48).map Config.builtinTables else sha384 ((fwOf s 4).image s.kpr.tabSlot))
  | 6 => some (leBytes 8 f.serial.toNat ++ leBytes 4 0xB0 ++ leBytes 4 (lifeCycle s) ++ (List.range 48).map (Config.fuseDigest (fuseNats f)) ++
      leBytes 8 s.dmk.rights.toNat ++ leBytes 4 f.counter ++ leBytes 4 (if s.dmk.compKey.isSome then 1 else 0))
  | 7 => some (sub s.ll.litDigest 0 48 ++ leBytes 4 s.ll.litGen.toNat ++ leBytes 8 s.ll.litFlash.toNat)
  | 8 => some ((List.range 16).flatMap (mapEntry s))
  | _ =>
    if 0x40 ≤ index && index < 0x50 then
      let n := index - 0x40
      some (mapEntry s n ++ (List.range 64).map (fun i => if s.dmk.slotmap.getD i 0xFF = n then BitVec.ofNat 8 n else 0xFF))
    else none

/-- GET_MEASUREMENTS (R446, R447): one block, or blocks 1 to 8; signed over the requester's nonce where a signature is asked. Each block
goes out with its index and length. -/
def execGetMeasurements (index : Nat) (nonce : Option (List Byte)) (s : State) : Ans :=
  let ids := if index = 0xFF then [1, 2, 3, 4, 5, 6, 7, 8] else [index]
  let blocks := ids.filterMap (fun i => (measurement s i).map (fun b => leBytes 1 i ++ leBytes 2 b.length ++ b))
  .next (if blocks.isEmpty || (identityOnly s && index != 6) || (nonce.isSome && !identityKey s) then spdmError s
  else spdmAnswer s 0xE0 (blocks.foldr (· ++ ·) [] ++ nonce.getD []) nonce.isSome)

end Sys2Proof.Machine
end

