-- ==== Sys2Proof/Machine/Boot.lean ====
section
/-!
DEFINITION. The commands that begin and advance a boot (R472 to R477), and those of the power inputs and of the Logbook's flush (R479,
R483, R518, R519, R522). VIN is in tenths of a volt, standby in millivolts; `resetN` of the state says that RESET_N is asserted.
-/
namespace Sys2Proof.Machine

/-- A standby or cold boot has not reached the steps of stage 3: it runs on standby power, and waits there for VIN and RESET_N (R518). -/
def bootWaits (s : State) : Bool :=
  let b := s.kpr.boot
  b.result == 0 && decide (b.kind ≤ 1) && (b.stage == 1 || b.stage == 2 || (b.stage == 3 && b.steps.isEmpty))

/-- The boot that ran is cut: the levels it left started stay to be found (R474). -/
def cutBoot (s : State) : State := if bootWaits s then s else stopBoot s

/-- STANDBY_BOOT (R472, R428): the standby rail comes; Daymark starts. Where the newest entry in NVM does not end a flush, LOG_LOST is
written first (R481). `resetN` says whether RESET_N is asserted. -/
def execStandbyBoot (straps : BitVec 4) (resetN : Bool) (s : State) : Ans :=
  .next (
    if s.pins.vsb then s
    else
      let s1 := standbyClear s
      let s2 := { s1 with
        pins := { s1.pins with vsb := true, straps := straps.toNat, resetN := resetN }
        dmk := { s1.dmk with running := true } }
      let s3 := match s2.kpr.nvmLog with
        | e :: _ => if e.typ = 0x24 then s2 else raise (postLog s2 0x23 0xFF false (2 ^ 64 - 1)) evKPR 6
        | [] => s2
      beginBoot s3 0)

/-- COLD_BOOT (R519): RESET_N is deasserted. A boot that waits for it goes on (R518); else a cold boot begins, where the Keeper runs. -/
def execColdBoot (s : State) : Ans :=
  .next (
    if !s.pins.resetN || !s.pins.vsb then s
    else
      let s1 := { s with pins := { s.pins with resetN := false } }
      if bootWaits s1 then tryStage3 s1
      else if s1.kpr.runs then beginBoot (powerClear s1) 1 else s1)

/-- RESET_N_ASSERT (R519): while VIN is present the module stops, its bypasses are released, and a Logbook flush starts. The Keeper and
Daymark keep running. -/
def execResetNAssert (s : State) : Ans :=
  .next (
    if s.pins.resetN || !s.pins.vsb then s
    else
      let s1 := { s with pins := { s.pins with resetN := true } }
      if s1.pins.vin < 380 then s1 else startFlush (cutBoot (powerClear s1)))

/-- VIN_APPLIED (R518, Table 17-1): within 40–60 V it lets stage 3 of a waiting boot start; returning while standby was held and RESET_N is
deasserted, it begins a cold boot. -/
def execVinApplied (volts : Nat) (s : State) : Ans :=
  let gone := decide (s.pins.vin < 380)
  let s1 := { s with pins := { s.pins with vin := volts } }
  .next (
    if bootWaits s1 then tryStage3 s1
    else if gone && powerGood s1 && s1.kpr.runs then beginBoot (powerClear s1) 1 else s1)

/-- Ways that a die-cache step tests: a level 0 passes with all of them, level 1 with one (Table 17-2). -/
def dieLevelOk (id lvl : Nat) (pass : BitVec 32) : Bool :=
  !(decide (0x40 ≤ id) && decide (id < 0x44)) || lvl == 2 || (lvl == 0 && pass == BitVec.allOnes 32) || (lvl == 1 && pass != 0)

/-- BOOT_STEP_END (R473, R474, R477): a level ends at `ms` from the start of the boot; `pass` says which cores or ways pass their test. -/
def execBootStepEnd (step : Fin 128) (ok : Bool) (ms : Nat) (detail : BitVec 32) (pass : BitVec 32) (s : State) : Ans :=
  .next (match runningStep s step with
  | none => s
  | some x =>
    if ok && dieLevelOk step x.level pass then
      stepDone (journalPut s step x.level 1 ms detail) step x.level ms detail pass
    else stepFailed s step x.level 2 ms detail pass)

/-- BOOT_STEP_TIMEOUT (R474): the level has run past its LIMIT, which step 1 does not have. -/
def execBootStepTimeout (step : Fin 128) (ms : Nat) (s : State) : Ans :=
  .next (match runningStep s step with
  | none => s
  | some x => if step.val = 1 then s else stepFailed s step x.level 4 ms 0 0)

/-- The wear record in NVM (R479). -/
def wearWrite (s : State) : State :=
  { s with kpr := { s.kpr with wearUsed := s.tnd.used, wearTrim := s.tnd.trim, wearSpent := s.tnd.wearSpent } }

/-- WEAR_RECORD_WRITE (R479): every 65,536 Flashes, while the Keeper runs and its NVM is mounted. -/
def execWearRecordWrite (s : State) : Ans := .next (if s.kpr.runs && s.kpr.nvmOk then wearWrite s else s)

/-- Standby power is lost: the image being written to an inactive slot is invalid (R491). -/
def imageCut (s : State) : State :=
  if s.kpr.pldm == .download then
    let f := fwOf s s.kpr.comp
    setFw s s.kpr.comp (f.put (1 - f.active) [])
  else s

/-- POWER_FAIL (R483, R519): VIN falls below 38 V, or standby below 3.1 V. The entry and a flush first, on the hold-up; a request for a
power cycle is released (R505); fuse programming stops at its stage `stage` (Table 15-6). -/
def execPowerFail (vin vsb : Nat) (stage : Fin 4) (s : State) : Ans :=
  let vinLost := decide (vin < 380) && decide (380 ≤ s.pins.vin)
  let vsbLost := decide (vsb < 3100) && s.pins.vsb
  .next (
    if !vinLost && !vsbLost then s
    else
      let s1 := fusesCut s stage
      let s2 := if s1.kpr.runs then startFlush (postLog s1 0x32 0xFF true (vin % 2 ^ 16 + vsb % 2 ^ 16 * 2 ^ 16)) else s1
      let s3 := cutBoot (powerClear s2)
      let s4 := { s3 with
        pins := { s3.pins with vin := vin, vsb := s3.pins.vsb && !vsbLost }
        hng := { s3.hng with pwrReq := s3.hng.pwrReq && !(vinLost || vsbLost) } }
      if vsbLost then
        let s5 := imageCut (stopBoot s4)
        { s5 with kpr := { s5.kpr with runs := s5.kpr.runs && s5.kpr.flushing.isSome }, dmk := { s5.dmk with running := false } }
      else s4)

/-- The Keeper restarts (R488, R491): its mailbox command is abandoned with BUSY. -/
def keeperRestart (s : State) (cause : Nat) : State :=
  { s with kpr := { s.kpr with st := .restarting, restart := false, cause := cause, busy := false } }

/-- A restart asked for by an activation starts, unless a flush or fuse programming runs (R491). -/
def tryRestart (s : State) : State :=
  if s.kpr.restart && s.kpr.flushing.isNone && s.dmk.prog.isNone then keeperRestart s 1 else s

/-- Put an entry at its place in a log, newest first: every entry there was posted after it goes before it. -/
def logInsert (e : LogEv) : List LogEv → List LogEv
  | [] => [e]
  | x :: r => if decide ((x.seq - e.seq).toNat < 2 ^ 31) then x :: logInsert e r else e :: x :: r

/-- LOG_FLUSH_DONE (R483, R481): what was posted before the flush is in NVM, then the wear record, and LOG_FLUSHED with the SEQ it had
reserved. Where a FATAL entry, or 4,096 entries, came meanwhile, the next flush starts at once. What waited for the flush goes on: a Keeper
restart, the request for a power cycle; without standby power the Keeper stops. -/
def execLogFlushDone (s : State) : Ans :=
  .next (match s.kpr.flushing with
  | none => s
  | some q =>
    let e : LogEv := { seq := q, when_ := s.now, typ := 0x24, sector := 0xFF, fatal := false, freeRun := s.flash.freeRun, more := false,
                       arg := BitVec.ofNat 64 s.kpr.flushed.toNat }
    let old := s.log.filter (fun x => decide ((q - x.seq).toNat < 2 ^ 31) && decide ((x.seq - s.kpr.flushed).toNat < 2 ^ 31))
    let s1 := wearWrite { s with
      log := (logInsert e s.log).take 65536
      kpr := { s.kpr with nvmLog := (e :: old ++ s.kpr.nvmLog).take 524288, flushed := q + 1, flushing := none } }
    let left := unflushed s1
    if left.any (·.fatal) || decide (4096 ≤ left.length) then startFlush s1
    else if !s1.pins.vsb then { s1 with kpr := { s1.kpr with runs := false } }
    else tryRestart (if s1.hng.pwrWait then requestCycle s1 else s1))

/-- THERM_TRIP_RELEASE (R522): VIN has been below 38 V for 10 s, and the inlet is below 40 °C. -/
def execThermTripRelease (s : State) : Ans :=
  .next (if decide (s.pins.vin < 380) && (match s.tnd.last with | some r => decide (r.inlet < 400) | none => false) then
    { s with pins := { s.pins with thermTrip := false } } else s)

end Sys2Proof.Machine
end

