-- ==== Sys2Proof/Machine/Chain.lean ====
section
/-!
DEFINITION. The commands of Chain (13): frames that arrive, link control, timers, and the host's writes to the CHN registers.
-/
namespace Sys2Proof.Machine

/-! ### Requests of other modules -/

/-- WRITE (R377, R378, R393): performed once; a final write is held until the FIRST of its stream and every lower SEQ have been
performed. -/
def execWrite (lane : Fin 128) (f : Frame) (s : State) : Ans :=
  .next (match rxFrame s lane f 1 with
  | .error s1 => s1
  | .ok s1 =>
    if inboundWaits s1 f f.payload.length then s else
    let s2 := seqNote s1 f
    let r := s2.seqIn (recKey f)
    if r.done.contains f.seq then answer s2 lane f 0x11 0
    else if bit f.flags 0 && !mayLand r f.seq then
      if r.held.any (fun h => h.1.seq == f.seq) then s2
      else bump (s2.setSeqIn (recKey f) { r with held := r.held ++ [(f, lane.val, 0)] }) 0x4E140 1
    else landMore (landWrite s2 lane f) f)

/-- READ (R377, R393): the data, or why not. A resent READ is read again. -/
def execRead (lane : Fin 128) (f : Frame) (s : State) : Ans :=
  .next (match rxFrame s lane f 2 with
  | .error s1 => s1
  | .ok s1 =>
    let len := min 4096 (fieldAt f.payload 0 8)
    if inboundWaits s1 f len then s else
    let s2 := seqNote s1 f
    match inbound s2 f len with
    | .error e => answer s2 lane f 0x16 e
    | .ok (n, a) =>
      match memCheck s2 (plainGroup n 0) 0 2 a len with
      | (some _, s3) => landMore (answer (seqDone s3 f) lane f 0x16 4) f
      | (none, s3) =>
        let bs := cread s3.sm (smKey n a) len
        landMore (answer (seqDone s3 f) lane f 0x12 0 (bs ++ List.replicate ((64 - len % 64) % 64) 0)) f)

/-- PREFETCH (R377, R393): a hint, with no answer and no SEQ; what a die cache holds is not part of the state. -/
def execPrefetch (lane : Fin 128) (f : Frame) (s : State) : Ans :=
  .next (match rxFrame s lane f 3 with | .error s1 => s1 | .ok s1 => s1)

/-- RELEASE (R394, Table 13-3): acknowledged. The X1's own moorings of KIND 1 hold no pool offsets to free. -/
def execRelease (lane : Fin 128) (f : Frame) (s : State) : Ans :=
  .next (match rxFrame s lane f 4 with
  | .error s1 => s1
  | .ok s1 => landMore (answer (seqDone (seqNote s1 f) f) lane f 0x11 0) f)

/-- WITHDRAW (R328, R378): the held final write is discarded, counted and logged; one already performed stays. Acknowledged either
way. -/
def execWithdraw (lane : Fin 128) (f : Frame) (s : State) : Ans :=
  .next (match rxFrame s lane f 5 with
  | .error s1 => s1
  | .ok s1 =>
    let k := recKey f
    let r := s1.seqIn k
    match r.held.find? (fun h => h.1.seq == f.seq) with
    | none => answer (seqDone s1 f) lane f 0x11 0
    | some h =>
      let s2 := s1.setSeqIn k { r with held := r.held.filter (fun g => !(g.1.seq == f.seq)) }
      let s3 := raise (bump s2 0x4E148 1) evCOH 5
      let s4 := postLog s3 0x47 ((moorSector s3 h.1.mooring).getD 0xFF) false (f.src % 2 ^ 20 + f.stream % 2 ^ 16 * 2 ^ 20)
      landMore (answer (seqDone s4 f) lane f 0x11 0) f)

/-! ### Answers -/

/-- ACK (R377): the request is over. -/
def execAck (lane : Fin 128) (f : Frame) (s : State) : Ans :=
  .next (onAnswer s lane f 0x11 (fun s r => dropReq s r.id))

/-- DATA (R377): the data of a READ goes where it is wanted. -/
def execData (lane : Fin 128) (f : Frame) (s : State) : Ans :=
  .next (onAnswer s lane f 0x12 (fun s r => if r.type = 2 then readData (dropReq s r.id) r (sub f.payload 0 r.len) else s))

/-- REFUSE (R396): the chase. -/
def execRefuse (lane : Fin 128) (f : Frame) (s : State) : Ans :=
  .next (onAnswer s lane f 0x13 (fun s r => chase s r f))

/-- SHORTFALL (R395): a spill goes to the host tier; another write goes to the fallback area, where there is one. -/
def execShortfall (lane : Fin 128) (f : Frame) (s : State) : Ans :=
  .next (onAnswer s lane f 0x14 (fun s r =>
    if r.type != 1 then s
    else match r.who with
      | .blk n d => spillToHost (dropReq s r.id) n d
      | _ =>
        if r.lease.fallback = 0 then reqFail s r (unreachable r.dst 5 r.mooring)
        else setReq s { r with type := 0x14 }))

/-- FALLBACK_HERE (R395): the read is served from the fallback area. -/
def execFallbackHere (lane : Fin 128) (f : Frame) (s : State) : Ans :=
  .next (onAnswer s lane f 0x15 (fun s r =>
    if r.type != 2 then s
    else if r.lease.fallback = 0 then reqFail s r (unreachable r.dst 5 r.mooring)
    else readFallback (fellBack (dropReq s r.id) r) r))

/-- ERROR (R377, R393): 1 to 3 the peer refuses; 4 the data is uncorrectable; 5 the request is sent again. -/
def execError (lane : Fin 128) (f : Frame) (s : State) : Ans :=
  .next (onAnswer s lane f 0x16 (fun s r =>
    if f.status = 5 then setReq s { r with sent := false, resend := true, resends := 0 }
    else if f.status = 4 then
      let s1 := memUncorr s 7 1 0 r.sector (BitVec.ofNat 64 r.addr)
      let s2 := match r.who with
        | .tile c num => (match findOp s1 c num with | some o => if o.isMove then haltStream s1 c o stMEM else s1 | none => s1)
        | _ => s1
      reqFail s2 r ⟨stMEM, BitVec.ofNat 64 (7 * 2 ^ 60 + 2 ^ 56)⟩
    else reqFail s r (unreachable r.dst 6 r.mooring)))

/-- UNREACHABLE (R385): it carries no SEQ; it ends the first outstanding request with its stream, its offset and its mooring. -/
def execUnreachable (lane : Fin 128) (f : Frame) (s : State) : Ans :=
  .next (match rxFrame s lane f 0x17 with
  | .error s1 => s1
  | .ok s1 =>
    match s1.chn.reqs.find? (fun r => r.sent && r.type != 0x14 && r.stream == f.stream && r.addr == f.addr && r.lease.remote == f.mooring) with
    | none => s1
    | some r => chGo (reqFail s1 r (unreachable r.dst 1 r.mooring)) r.who)

/-! ### The ring -/

/-- Forward a frame on the other port of its ring position, with one more hop (R384, R385): none where it cannot be. -/
def forward (s : State) (l : Nat) (f : Frame) : Option State :=
  let p := l / 8
  let q := if p % 2 = 0 then p + 1 else p - 1
  if (s.port q).st != .up || 255 ≤ f.hops then none
  else
    let o := 8 * q + l % 8
    some (portCount (portCount (laneSend s o { f with hops := f.hops + 1 }) q 3 1) q 4 f.payload.length)

/-- RELAY_FORWARD (R384, R385): a frame for another device. One that cannot be forwarded is discarded, and a request is answered with
UNREACHABLE. -/
def execRelayForward (lane : Fin 128) (f : Frame) (s : State) : Ans :=
  .next (if !(s.lane lane).up || f.dst = s.chn.id.toNat || 0x20 ≤ f.type then s
  else match forward s lane f with
    | some s1 => s1
    | none =>
      let s1 := portCount s (lane / 8) 11 1
      if f.type = 1 || f.type = 2 || f.type = 4 || f.type = 5 then
        laneOriginate s1 lane { type := 0x17, dst := f.src, src := s.chn.id.toNat, mooring := f.mooring, stream := f.stream,
                                lgen := f.lgen, addr := f.addr }
      else s1)

/-- HELLO (R385): it is relayed; it tells the hops to its originator through the port it came by. This module's own device ID sets
DUP_ID. -/
def execHello (lane : Fin 128) (f : Frame) (s : State) : Ans :=
  .next (if !(s.lane lane).up || f.type != 0x20 then s
  else if f.src = s.chn.id.toNat then
    let rs := s.chn.routes.filter (fun r => !(r.1 % 2 ^ 20 == f.src))
    raise { s with chn := { s.chn with routes := rs } } evCHN 3
  else
    let k := lane / 8 * 2 ^ 20 + f.src % 2 ^ 20
    let old : Nat × Nat := tget (0, 0) s.chn.routes k
    let s1 := { s with chn := { s.chn with routes := tput (0, 0) s.chn.routes k (f.hops + 1, 0) } }
    let s2 := if old.1 = f.hops + 1 then s1 else raise s1 evCHN 1
    chRun ((forward s2 lane f).getD s2))

/-- DELAY_REQ (R388): answered at once; the turnaround that the payload states is a measured value, here a free one. -/
def execDelayReq (port : Fin 16) (s : State) : Ans :=
  .next (if (s.port port).st != .up then s
  else
    let q := s.fresh
    laneSend q.2 (8 * port) { type := 0x22, src := s.chn.id.toNat, payload := leBytes 64 (q.1.toNat % 65536) })

/-- DELAY_RESP (R388): half the round trip less the responder's turnaround. -/
def execDelayResp (port : Fin 16) (trip turn : Nat) (s : State) : Ans :=
  .next (if (s.port port).st != .up then s else s.setPort port { s.port port with delay := (trip - turn) / 2 })

/-- KEY (R380, R383): in KEYING the peer is checked, and the port is UP or AUTH_FAILED; on a port that is UP, a rekey goes on. -/
def execKey (port : Fin 16) (k : KeyFrame) (s : State) : Ans :=
  let x := s.port port
  let fail (s : State) : State := postLog (raise (portDown s port .authFailed) evCHN 2) 0x50 0xFF false (port + k.device.toNat * 256)
  .next (if x.st = .keying then
    if !k.valid then fail s
    else if k.major != 1 then portDown s port .authFailed
    else chainFwUp (portUp s port k) port
  else if x.st = .up then
    if !k.valid then fail s
    else if x.rekey = 1 then s.setPort port { x with rekey := 2 }
    else if x.rekey = 0 then keySend (s.setPort port { x with rekey := 2 }) port (x.epoch + 1)
    else s
  else s)

/-! ### Link control -/

/-- A lane goes down to be retrained (R373, R382): the eighth time within one Flash it stays down until its port trains again. A port
with no lane up is down and trains again. -/
def laneLost (s : State) (l : Nat) (retrain : Bool) : State :=
  let x := s.lane l
  let n := if retrain then x.retrains + 1 else x.retrains
  let s1 := s.setLane l { x with up := false, naks := 0, retrains := n, dead := x.dead || decide (8 ≤ n) }
  let p := l / 8
  if (s1.port p).st = .up && (List.range 8).all (fun i => !(s1.lane (8 * p + i)).up) then portTrain s1 p else chRun s1

/-- LINK_NAK (R382): go-back-N from that LSEQ, each frame under a new frame counter; eight NAKs without progress retrain the lane. -/
def execLinkNak (lane : Fin 128) (lseq : BitVec 16) (s : State) : Ans :=
  let x := s.lane lane
  .next (if !x.up then s
  else
    let again := x.unacked.dropWhile (fun u => u.1 != lseq)
    let s1 := s.setLane lane { x with naks := x.naks + 1, fctr := x.fctr + again.length }
    let s2 := again.foldl (fun s u => portCount (s.emit (.frame lane u.2)) (lane / 8) 10 1) s1
    if 8 ≤ x.naks + 1 then laneLost s2 lane true else s2)

/-- LINK_ACK (R382): cumulative; the frames up to that LSEQ leave the retry buffer. -/
def execLinkAck (lane : Fin 128) (lseq : BitVec 16) (s : State) : Ans :=
  let x := s.lane lane
  .next (if x.unacked.any (fun u => u.1 == lseq) then
    s.setLane lane { x with unacked := (x.unacked.dropWhile (fun u => u.1 != lseq)).drop 1, naks := 0 }
  else s)

/-- LANE_DOWN (R373, R376). -/
def execLaneDown (lane : Fin 128) (s : State) : Ans :=
  .next (if (s.lane lane).up then laneLost s lane false else s)

/-- LANE_UP (R373): a lane of a port that is UP has been trained and keyed again. -/
def execLaneUp (lane : Fin 128) (s : State) : Ans :=
  .next (if (s.port (lane / 8)).st = .up && availLane s lane && !(s.lane lane).dead && !(s.lane lane).up then
    chRun (laneUpNow s lane) else s)

/-- FRAME_COUNTER_LIMIT (R383): past 2^31 frames under one key the link layer arms REKEY for FLS_COUNT + 2, tick 0; without an EMPTY
entry it rekeys at the next edge. At 2^32 − 2^20 frames the lane holds its traffic. -/
def execFrameCounterLimit (lane : Fin 128) (s : State) : Ans :=
  let x := s.lane lane
  let p := lane / 8
  .next (
    let s1 := if 2 ^ 31 < x.fctr && !x.armed then
        let s1 := s.setLane lane { x with armed := true }
        match satArmUnit s1 2 7 (s.flash.count + 2) (BitVec.ofNat 64 p) 0 false with
        | some (_, s2) => s2
        | none => rekeyStart (raise s1 evCHN 5) p
      else s
    let y := s1.lane lane
    if 2 ^ 32 - 2 ^ 20 ≤ y.fctr && !y.held then raise (s1.setLane lane { y with held := true }) evCHN 10 else s1)

/-- OLD_KEY_DISCARD (R383): two Flashes after the switch. -/
def execOldKeyDiscard (port : Fin 16) (s : State) : Ans :=
  let x := s.port port
  .next (match x.oldKey with
  | some n => if 2 ≤ n then s.setPort port { x with oldKey := none } else s
  | none => s)

/-! ### Timers -/

/-- CHN_CTL.RESP_TIMEOUT (R401). -/
def respTimeout (s : State) : Nat := max 1 ((regNow s 0x50008).toNat % 256)

/-- RESP_TIMEOUT (R377): a request without an answer is sent again, with RESEND; after three resends it ends. -/
def execRespTimeout (req : Nat) (s : State) : Ans :=
  .next (match s.chn.reqs.find? (fun r => r.id == req && r.sent && r.type != 0x14) with
  | none => s
  | some r =>
    if r.edges < respTimeout s then s
    else if 3 ≤ r.resends then chGo (reqFail s r (unreachable r.dst 4 r.mooring)) r.who
    else chGo (setReq s { r with sent := false, resend := true, resends := r.resends + 1 }) r.who)

/-- SEQ_RECORD_EXPIRY (R377): idle for 64 Flashes. -/
def execSeqRecordExpiry (src : BitVec 20) (stream : BitVec 16) (s : State) : Ans :=
  let k := stream.toNat * 2 ^ 20 + src.toNat
  .next (if 64 ≤ (s.seqIn k).idle && (s.seqIn k).held.isEmpty then s.setSeqIn k {} else s)

/-- STREAM_SEQ_RESTART (R377): nothing outstanding for 32 Flashes. -/
def execStreamSeqRestart (stream : BitVec 16) (dst : BitVec 20) (s : State) : Ans :=
  let k := stream.toNat * 2 ^ 20 + dst.toNat
  let busy := s.chn.reqs.any (fun r => r.type != 3 && r.stream == stream.toNat && r.dst == dst.toNat)
  .next (if 32 ≤ (tget {} s.chn.nums k : SeqNum).idle && !busy then { s with chn := { s.chn with nums := tput {} s.chn.nums k {} } } else s)

/-- ROUTE_ENTRY_EXPIRY (R385): three periods of 64 Flashes without a HELLO. -/
def execRouteEntryExpiry (port : Fin 16) (device : BitVec 20) (s : State) : Ans :=
  let k := port.val * 2 ^ 20 + device.toNat
  let e : Nat × Nat := tget (0, 0) s.chn.routes k
  .next (if e.1 != 0 && 192 ≤ e.2 then chRun (raise { s with chn := { s.chn with routes := tput (0, 0) s.chn.routes k (0, 0) } } evCHN 1) else s)

/-- PORT_TRAINING_DONE (R380): the wavelengths that trained; KEY frames are exchanged on wavelength 0, without which the training goes
on. A failed training of a port whose Chain firmware is being activated counts (R488). -/
def execPortTrainingDone (port : Fin 16) (lanes : BitVec 8) (s : State) : Ans :=
  let x := s.port port
  .next (if x.st != .training then s
  else
    let ok := (List.range 8).foldl (fun a i => if bit lanes.toNat i && availLane s (8 * port + i) then a + 2 ^ i else a) 0
    if bit ok 0 then keySend (setPortSt (s.setPort port { x with trained := ok }) port .keying) port 0
    else chainFwFail s port)

/-! ### The host's writes -/

/-- BYPASS (R386, R387): the bypass begins to close or open. -/
def execBypass (rp : Fin 8) (close : Bool) (s : State) : Ans :=
  let x : RingPos := tget {} s.chn.rps rp
  let s1 := setReg s (0x50100 + 0x10 * rp) (if close then 1 else 0)
  .next (if x.dark || x.open_ == !close then s1 else setRp s1 rp { x with moving := some (!close) })

/-- BYPASS_MOVED (R387): it has reached its position; a closed position carries nothing, an open one trains. -/
def execBypassMoved (rp : Fin 8) (s : State) : Ans :=
  let x : RingPos := tget {} s.chn.rps rp
  .next (match x.moving with
  | none => s
  | some o =>
    let s1 := raise (setRp s rp { x with open_ := o, moving := none }) evCHN 9
    [2 * rp.val, 2 * rp.val + 1].foldl (fun s p =>
      if o then portTrain s p
      else if (s.port p).st = .dark || (s.port p).st = .disabled then s else portDown s p .down) s1)

/-- End every outstanding request of a mooring that a lease issued (R391, R392): MOORING_ORPHAN, reason 2. -/
def endLease (s : State) (m : Nat) (l : Lease) : State :=
  (s.chn.reqs.filter (fun r => r.mooring == m && r.lease == l)).foldl (fun s r =>
    if s.chn.reqs.any (fun x => x.id == r.id) then reqFail s r (orphaned r.lease.gen 2 r.mooring) else s) s

/-- A number of Flashes is later than the count (R390), as 32-bit values. -/
def laterFlash (s : State) (x : BitVec 32) : Bool :=
  let d := (x - s.flash.count.setWidth 32).toNat
  decide (1 ≤ d) && decide (d < 2 ^ 31)

/-- A mooring is re-mapped or released: its requests become those of the previous generation, until the edge of f + 8; those of an
older generation end at once (R391). -/
def moorTurn (s : State) (m : Nat) (new : Moor) : State :=
  let x := s.moor m
  let s1 := match x.prev with | some l => endLease s m l | none => s
  let out := s1.chn.reqs.any (fun r => r.mooring == m && r.lease == x.cur)
  s1.setMoor m { new with prev := if out then some x.cur else none,
                          graceEnd := if out then (s1.flash.count.setWidth 32) + 8 else x.graceEnd }

/-- LEASE (R390, R391, Table 13-5). -/
def execLease (mooring : Fin 1024) (value : Word) (s : State) : Ans :=
  let m := mooring.val
  let x := s.moor m
  let gen : BitVec 32 := (value >>> 32).setWidth 32
  let exp : BitVec 32 := value.setWidth 32
  .next (if (moorSector s m).isNone then raise s evCHN 6
  else if gen = 0 then moorTurn s m {}
  else if x.cur.gen.toNat < gen.toNat && laterFlash s exp then
    moorTurn s m { st := .leased, cur := ⟨gen, x.stCtl, x.stAux⟩, expiry := exp, stCtl := x.stCtl, stAux := x.stAux }
  else if gen = x.cur.gen && laterFlash s exp && x.st != .free then s.setMoor m { x with st := .leased, expiry := exp }
  else raise s evCHN 6)

/-- LEASE_EXPIRY (R392): at tick 0 of Flash EXPIRY. -/
def execLeaseExpiry (mooring : Fin 1024) (s : State) : Ans :=
  let x := s.moor mooring
  .next (if x.st = .leased && !laterFlash s x.expiry then raise (s.setMoor mooring { x with st := .expired }) evCHN 7 else s)

/-- LEASE_GRACE_END (R391, R392): requests of the previous generation at its grace edge, and those of an EXPIRED mooring at the edge of
EXPIRY + 8. -/
def execLeaseGraceEnd (mooring : Fin 1024) (s : State) : Ans :=
  let x := s.moor mooring
  let s1 := match x.prev with
    | some l => if laterFlash s x.graceEnd then s
                else (endLease s mooring l).setMoor mooring { x with prev := none }
    | none => s
  .next (chRun (if x.st = .expired && !laterFlash s (x.expiry + 8) then endLease s1 mooring x.cur else s1))

/-- DEVICE_ID (R401): accepted only while every mooring is FREE; a change starts HELLOs. -/
def execDeviceId (id : BitVec 20) (s : State) : Ans :=
  .next (if s.chn.moors.any (fun m => m.2.st != .free) then { s with chn := { s.chn with refused := true } }
  else
    let s1 := { s with chn := { s.chn with id := id } }
    if id = s.chn.id then s1 else (List.range 8).foldl helloSend s1)

/-- PORT_DISABLE (R380, R401). -/
def execPortDisable (port : Fin 16) (disable : Bool) (s : State) : Ans :=
  let off := 0x50200 + 0x40 * port.val
  let s1 := setReg s off (setBits (regNow s off) 0 0 (if disable then 1 else 0))
  .next (if (s.port port).st = .dark then s1
  else if disable then portDown s1 port .disabled
  else if (s.port port).st = .disabled then portTrain s1 port
  else s1)

/-- RETRAIN (R401): the port trains and keys again. -/
def execRetrain (port : Fin 16) (s : State) : Ans :=
  let x := s.port port
  .next (if x.st = .dark || x.st = .disabled || !rpOpen s (port / 2) then s
  else
    let s1 := portTrain s port
    s1.setPort port { s1.port port with retrain := true })

end Sys2Proof.Machine
end

