-- ==== Sys2Proof/Machine/Rings.lean ====
section
/-!
DEFINITION. Rings: doorbells, fetch, the privileged ring (R271 to R276), the commands of command and copy rings
(R282, R283, R286, R289, R290), and the host's aperture (R260).
-/
namespace Sys2Proof.Machine

/-- DOORBELL_TAIL: TAIL takes the value; ignored on a FREE ring; out of range, an ENABLED ring stops (R271, R274). -/
def execDoorbellTail (q : Fin 4096) (v : BitVec 32) (s : State) : Ans :=
  .next (let r := s.ring q
    if r.st = .free then s else checkRange (s.setRing q { r with tail := v }) q)

/-- CQ_HEAD: frees completion records (R272, R274). -/
def execCqHead (q : Fin 4096) (v : BitVec 32) (s : State) : Ans :=
  .next (let r := s.ring q
    if r.st = .free then s else checkRange (s.setRing q { r with cqHead := v }) q)

/-- RING_FETCH: entries are fetched while free completion records allow it (R272, R291). -/
def execRingFetch (q : Fin 4096) (host : HostView) (s : State) : Ans := .next (fetchRing 65536 s q host)

/-- The offset of a register of a Sector's window (R276). -/
def secReg (n off : Nat) : Nat := 0x2000000 + 0x100000 * n + off

/-- A host interface is agreed (R262): VALID, and a host-interface major that is not 0. -/
def hifAgreed (s : State) : Bool := bit (regAt s 0x20) 63 && bits (regAt s 0x20) 15 8 != 0

/-- PRIV_RING_ENABLE (R262, R276): the privileged ring is created from the Sector's registers, or PRIV_ERR takes the
lowest code that applies. Writing 1 while ENABLE is 1 changes nothing. -/
def execPrivRingEnable (sector : Fin 16) (s : State) : Ans :=
  .next (let n := sector.val
    let ctl := regAt s (secReg n 0x10)
    let q := bits ctl 27 16
    let sq := bits ctl 4 0
    let cq := bits ctl 12 8
    let v := bits ctl 42 32
    let err := if !hifAgreed s then 1 else if (s.ring q).st != .free then 2
      else if (s.sector n).qRings ≤ sectorRings s n then 3
      else if sq < 6 || 16 < sq || cq < 6 || 16 < cq || !vectorOk v then 4 else 0
    let setErr (s : State) : State :=
      { s with regs := tmod 0 s.regs (secReg n 0x18) (fun w => setBits w 63 56 err) }
    if !(s.sector n).exists_ || bit ctl 63 then s
    else if err != 0 then setErr s
    else
      let s1 := s.setRing q { st := .enabled, kind := 3, sector := n, sqLog := sq, cqLog := cq, vector := v,
                              sqBase := regAt s (secReg n 0) / 4096 * 4096, cqBase := regAt s (secReg n 8) / 4096 * 4096 }
      setErr { s1 with regs := tmod 0 s1.regs (secReg n 0x10) (fun w => setBits w 63 63 1) })

/-- The privileged ring of a Sector that its ENABLE bit stands for. -/
def privRing (s : State) (n : Nat) : Option Nat :=
  (s.rings.find? (fun r => r.2.kind == 3 && r.2.sector == n && r.2.st != .free && r.2.st != .destroying)).map Prod.fst

/-- PRIV_RING_DISABLE (R275): ENABLE is 0 and the ring is DESTROYING. -/
def execPrivRingDisable (sector : Fin 16) (s : State) : Ans :=
  .next (let n := sector.val
    if !(s.sector n).exists_ then s
    else
      let s1 := { s with regs := tmod 0 s.regs (secReg n 0x10) (fun w => setBits w 63 63 0) }
      match privRing s n with
      | none => s1
      | some q => s1.setRing q { s1.ring q with st := .destroying })

/-- RING_DESTROY_COMPLETE (R275): once every command fetched has completed and posted, the ring is FREE, its words take
their reset values, and the RING_DESTROYs that named it complete. A held record is tried again first. Entries below a
running reset's mark are still to be fetched and removed (R296). -/
def execRingDestroyComplete (q : Fin 4096) (s : State) : Ans :=
  .next (let q := q.val
    if (s.ring q).st != .destroying then s
    else
      let s1 := flushHeld s q
      let r := s1.ring q
      let below := r.kind != 3 && (s1.ctx r.ctx).st == .resetting && (match r.mark with | some m => m != r.head | none => false)
      if !ringEmpty r || below then s1
      else r.destroyers.foldl donePriv (s1.setRing q {}))

/-! ### Commands of command and copy rings -/

/-- A command that may start, with its ring. -/
def starting (s : State) (q : Nat) (idx : BitVec 32) (buf : Option Nat) (op : Nat) : Option Cmd :=
  match (s.ring q).find idx buf with
  | none => none
  | some c => if c.opcode = op && mayStart (s.ring q) c && (s.ring q).kind != 1 then some c else none

/-- A running command of the ring: its tag is fixed (R100). -/
def begun (s : State) (q : Nat) (c : Cmd) (st : CmdSt) : State :=
  let r := s.ring q
  s.setRing q (r.put { c with st := st, tag := some (s.gen r.sector).curTag })

/-- NOP (R286): it posts its completion. -/
def execNop (q : Fin 4096) (idx : BitVec 32) (buf : Option Nat) (s : State) : Ans :=
  .next (match starting s q idx buf 0 with
    | none => s
    | some c =>
      match fetchErr s q c with
      | some w => refuseCmd s q c w
      | none => completeCmd s q c stDONE 0)

/-- LAUNCH becomes the next command of its ring to start (R120): more cores than are LIT end it with KL_GROUP; otherwise it
waits for cores. A Sector that is not RUNNING dispatches none (R460). -/
def execLaunch (q : Fin 4096) (idx : BitVec 32) (buf : Option Nat) (s : State) : Ans :=
  .next (match starting s q idx buf 1 with
    | none => s
    | some c =>
      let n := (s.ring q).sector
      if !sectorRuns s n then s
      else if (litCores s n).length < c.f 30 2 then completeCmd s q c stINVALID (invalidDetail 0x08 1)
      else s.setRing q ((s.ring q).put { c with st := .held }))

/-- SIGNAL (R273, R282, R284): once every earlier command has completed, its event takes VALUE, and is abandoned where ERROR
is not 0. -/
def execSignal (q : Fin 4096) (idx : BitVec 32) (buf : Option Nat) (s : State) : Ans :=
  .next (match (s.ring q).find idx buf with
    | none => s
    | some c =>
      let r := s.ring q
      if c.opcode != 3 || c.st != .queued || r.kind == 1 || r.kind == 3 ||
          !(r.before idx buf).all (fun d => d.buf.isNone && buf.isSome && d.idx == idx) then s
      else
        let e := c.f 16 2
        let s1 := if (s.event e).owner = r.ctx then
            let s1 := signalEvent s e (BitVec.ofNat 64 (c.f 24 8))
            if c.f 18 1 = 0 then s1 else abandonEvent s1 e (c.f 18 1)
          else s
        completeCmd s1 q c stDONE 0)

/-- WAIT (R283): it starts, and ends at once where its event allows. -/
def execWait (q : Fin 4096) (idx : BitVec 32) (buf : Option Nat) (s : State) : Ans :=
  .next (match starting s q idx buf 4 with
    | none => s
    | some c =>
      let s1 := s.setRing q ((s.ring q).put { c with st := .started })
      settleWait s1 q { c with st := .started })

/-- COPY and FILL start (R290): their pieces are handed out. -/
def startCopy (s : State) (q : Nat) (idx : BitVec 32) (buf : Option Nat) (op : Nat) : State :=
  match starting s q idx buf op with
  | none => s
  | some c => if workRuns s (s.ring q).sector then runCopy 256 (begun s q c .started) q idx buf else s

/-- COPY (R290). -/
def execCopy (q : Fin 4096) (idx : BitVec 32) (buf : Option Nat) (s : State) : Ans := .next (startCopy s q idx buf 0x10)
/-- FILL (R290). -/
def execFill (q : Fin 4096) (idx : BitVec 32) (buf : Option Nat) (s : State) : Ans := .next (startCopy s q idx buf 0x11)

/-- COPY_PIECE_COMPLETE (R290): the piece's bytes are written; the command completes after its last piece. -/
def execCopyPieceComplete (q : Fin 4096) (idx : BitVec 32) (buf : Option Nat) (off : Nat) (host : HostView) (s : State) : Ans :=
  .next (pieceDone s q idx buf off host)

/-! ### BUFFER (R289) -/

/-- Fetch and check the entries of a BUFFER up to the first that fails: the entries, and the failure. -/
def bufEntries (s : State) (q : Nat) (c : Cmd) (host : HostView) : Nat → Nat → List Cmd → List Cmd × Option (Nat × Cond) × State
  | 0, _, acc => (acc, none, s)
  | k + 1, i, acc =>
    let n := (s.ring q).sector
    let o := objOf s c 16 (c.f 24 8 + 64 * i)
    match extentErr s n o 16 64 with
    | some w => (acc, some (i, w), s)
    | none =>
      match objRead s n (s.ring q).ctx o 64 host with
      | (.error w, s1) => (acc, some (i, w), s1)
      | (.ok raw, _) =>
        let e : Cmd := { idx := c.idx, buf := some i, raw := raw }
        let e1 := { e with rd := fetchReads s e host }
        match (fetchErr s q e1).or (launchFetchErr s q e1) with
        | some w => (acc, some (i, w), s)
        | none => bufEntries s q c host k (i + 1) (acc ++ [e1])

/-- BUFFER (R289): its entries are fetched, checked and queued in its place. Where an entry fails its check, no later entry
starts, and the BUFFER completes when those before it have ended. -/
def execBuffer (q : Fin 4096) (idx : BitVec 32) (host : HostView) (s : State) : Ans :=
  .next (match starting s q idx none 2 with
    | none => s
    | some c =>
      let q := q.val
      let r := s.ring q
      if !objReady s (s.ring q).sector (objOf s c 16 (c.f 24 8)) (64 * c.f 32 4) then s else
      let f := bufEntries s q c host (c.f 32 4) 0 []
      let bad := f.2.1.toList
      let c1 := { c with st := .started, left := f.1.length, bad := bad }
      let cs := r.cmds.flatMap (fun d => if d.idx == idx && d.buf.isNone then c1 :: f.1 else [d])
      let s1 := f.2.2.setRing q { r with cmds := cs }
      let s2 := if f.1.isEmpty then
          -- its first entry failed: BUF_INDEX is 0
          (match bad with
          | (_, w) :: _ => endCmd s1 q c w.status w.detail
          | [] => s1)
        else s1
      if bad.any (fun b => b.2.status == stSTALE) then startCtxReset s2 r.ctx stSTALE 3 else s2)

/-! ### BAR2 (R260, R70, R73, R112, R356) -/

/-- The Sector and address of a BAR2 access; none where it completes as an Unsupported Request. -/
def bar2Place (s : State) (addr len : Nat) : Option (Nat × Nat) :=
  let n := addr / 2 ^ 39
  let a := addr % 2 ^ 39
  if n < 16 && (s.sector n).exists_ && a + len ≤ 2 ^ 39 && rangeMapped s n a len && rangeReady s n a len then some (n, a)
  else none

/-- BAR2_READ: the bytes, a Completer Abort for an uncorrectable line (R356), or an Unsupported Request. -/
def execBar2Read (addr len : Nat) (s : State) : Ans :=
  .next (match bar2Place s addr len with
    | none => s.emit .unsupported
    | some (n, a) =>
      match memCheck s (plainGroup n 0) 0 2 a len with
      | (some _, s1) => s1.emit .completerAbort
      | (none, s1) => s1.emit (.readData (cread s1.sm (smKey n a) len)))

/-- BAR2_WRITE: the bytes land in Sector memory; nothing changes where the Sector or extent is not there. -/
def execBar2Write (addr : Nat) (bytes : List Byte) (s : State) : Ans :=
  .next (match bar2Place s addr bytes.length with
    | none => s.emit .unsupported
    | some (n, a) =>
      smPut s n a bytes)

end Sys2Proof.Machine
end

