-- ==== Sys2Proof/Machine/Launches.lean ====
section
/-!
DEFINITION. The dispatch of a launch (R120, R121, R156, R157, R218): the kernel binary's header and its errors, the start of
a group.
-/
namespace Sys2Proof.Machine

/-- What is launched: a LAUNCH of a ring, or the next launch of a step. -/
structure LaunchSpec where
  owner : Owner
  sector : Nat
  ctx : Nat
  handle : Nat
  kernel : Obj
  /-- length of the kernel's object -/
  length : Nat
  group : Nat
  argBytes : Nat
  args : Obj
  step : Bool
  batch : Nat
  /-- map generation tag (R100) -/
  tag : Nat
  deriving DecidableEq, Repr

/-- The regions of a binary are in order and apart (R156). -/
def layoutOk (h : List Byte) (length : Nat) : Bool :=
  let f := fieldAt h
  let total := f 16 4
  let co := f 20 4
  let cl := f 24 4
  let ko := f 32 4
  let kl := f 36 4
  decide (192 ≤ total) && decide (total ≤ 2097152) && total % 64 == 0 && decide (total ≤ length) &&
  decide (128 ≤ co) && co % 64 == 0 && decide (8 ≤ cl) && decide (cl ≤ 1048576) && cl % 8 == 0 && decide (co + cl ≤ total) &&
  decide (f 28 4 < cl) && f 28 4 % 4 == 0 &&
  ko % 64 == 0 && (kl != 0 || ko == 0) && decide (kl ≤ f 40 4) && decide (f 40 4 ≤ 520192) && decide (f 44 4 ≤ 4096) &&
  (kl == 0 || (decide (128 ≤ ko) && decide (ko + kl ≤ total) && (decide (ko + kl ≤ co) || decide (co + cl ≤ ko)))) &&
  decide (1 ≤ f 48 2) && decide (f 48 2 ≤ 192) && decide (f 48 2 ≤ f 50 2) && decide (f 50 2 ≤ 192) &&
  decide (1 ≤ f 52 2) && decide (f 52 2 ≤ 192) && decide (f 13 1 ≤ 1)

/-- Kernel-load errors of the header, codes 1 to 4 and 7 (Table 5-13), lowest first. -/
def headerErr (h : List Byte) (length : Nat) : Option Nat :=
  let f := fieldAt h
  if f 0 8 != kernelMagic then some 1
  else if f 8 1 != 1 || f 9 1 != 0 || f 10 2 != 1 || f 12 1 != 1 then some 2
  else if 8 ≤ f 14 2 || 2 ^ 15 ≤ f 56 2 || !zeroAt h 60 4 || !zeroAt h 112 16 then some 3
  else if !layoutOk h length then some 4
  else none

/-- The digest of a binary is right (R156, Table 5-12). -/
def digestOk (bin : List Byte) : Bool := sub bin 64 48 == sha384 (bin.take 64 ++ bin.drop 128)

/-- Pages of a context's list that it holds (R114). -/
def heldPages (x : Ctx) : Nat := (x.pages.filter (·.isSome)).length

/-- Errors of a launch of a verified binary, codes 6 to 10 (Table 5-13). -/
def launchErr (s : State) (l : LaunchSpec) (h : List Byte) : Option Nat :=
  let f := fieldAt h
  if f 44 4 < l.argBytes then some 6
  else if !groupOk h l.group || (litCores s l.sector).length < l.group then some 8
  else if (f 13 1 == 1) != l.step then some 9
  else if heldPages (s.ctx l.ctx) < f 54 2 then some 10
  else none

/-- The pair is among the Sector's verified ones (R157). -/
def verified (s : State) (n h : Nat) : Bool := s.binaries.contains ⟨n, h⟩

/-- A pair is launched: it is the most recent; a Sector keeps 256 (R157). -/
def rememberBinary (s : State) (n h : Nat) : State :=
  let l : List Binary := ⟨n, h⟩ :: s.binaries.filter (fun b => !(b == ⟨n, h⟩))
  let mine := (l.filter (fun b => b.sector == n)).take 256
  { s with binaries := l.filter (fun b => b.sector != n || mine.contains b) }

/-- What a launch loads: header, binary and argument block; or why it ends. -/
def loadKernel (s : State) (l : LaunchSpec) (host : HostView) : Except Cond (List Byte × List Byte × List Byte) × State :=
  let kl (c : Nat) : Cond := ⟨stINVALID, invalidDetail c 1⟩
  match extentErr s l.sector l.kernel 16 128 with
  | some w => (.error w, s)
  | none =>
    match objRead s l.sector l.ctx l.kernel 128 host with
    | (.error w, s1) => (.error w, s1)
    | (.ok h, s1) =>
      let ver := verified s1 l.sector l.handle
      match if ver then none else headerErr h l.length with
      | some c => (.error (kl c), s1)
      | none =>
        let total := fieldAt h 16 4
        match extentErr s1 l.sector l.kernel 16 total with
        | some w => (.error w, s1)
        | none =>
          match objRead s1 l.sector l.ctx l.kernel total host with
          | (.error w, s2) => (.error w, s2)
          | (.ok bin, s2) =>
            if !ver && !digestOk bin then (.error (kl 5), s2)
            else
              match launchErr s2 l h with
              | some c => (.error (kl c), s2)
              | none =>
                if l.argBytes = 0 then (.ok (h, bin, []), s2)
                else
                  match extentErr s2 l.sector l.args 20 l.argBytes with
                  | some w => (.error w, s2)
                  | none =>
                    match objRead s2 l.sector l.ctx l.args l.argBytes host with
                    | (.error w, s3) => (.error w, s3)
                    | (.ok a, s3) => (.ok (h, bin, a), s3)

/-- No extent of a launch's binary and argument block waits for a channel (R112). -/
def launchReady (s : State) (l : LaunchSpec) : Bool :=
  let total := if l.kernel.space = 2 then leNat (cread s.sm (smKey l.sector (l.kernel.base + 16)) 4) else 0
  objReady s l.sector l.kernel (max 128 total) && objReady s l.sector l.args l.argBytes

/-- A core runs no command (R120). -/
def coreFree (s : State) (c : Nat) : Bool :=
  !(s.groups.any (fun g => match g.2 with | some x => x.cores.contains c | none => false))

/-- Insert in ascending order. -/
def insertAsc (x : Nat) : List Nat → List Nat
  | [] => [x]
  | a :: r => if x ≤ a then x :: a :: r else a :: insertAsc x r

/-- The cores of a group are G different LIT free cores of the Sector. -/
def coresOk (s : State) (n g : Nat) (cores : List Nat) : Bool :=
  cores.length == g && cores.eraseDups.length == g && cores.all (fun c => (litCores s n).contains c && coreFree s c)

/-- The core-local memory of a core at launch (R121). -/
def launchClm (s : State) (c : Nat) (const args : List Byte) : State :=
  { s with
    clm := cwrite (cwrite (czero s.clm (clmKey c 0) (2 ^ 19)) (clmKey c 0) const) (clmKey c 0x7F000) args
    clmChk := s.clmChk.filter (fun p => !(clmKey c 0 ≤ p.1 && p.1 < clmKey c 0 + 2 ^ 19)) }

/-- Start a group (R120, R121): logical indices by ascending core number. -/
def startGroup (s : State) (l : LaunchSpec) (cores : List Nat) (h bin args : List Byte) : State :=
  let k := s.nextGroup
  let asc := cores.foldr insertAsc []
  let f := fieldAt h
  let const := sub bin (f 32 4) (f 36 4)
  let g : Group := { owner := l.owner, ctx := l.ctx, sector := l.sector, tag := l.tag, cores := asc,
                     codeLen := f 24 4, codeOff := f 20 4, step := l.step, batch := l.batch, startTick := s.now }
  let s1 := { (rememberBinary s l.sector l.handle) with nextGroup := k + 1 }
  asc.zipIdx.foldl (fun s p =>
    let x := s.core p.1
    launchClm (s.setCore p.1 { run := .running, group := k, logical := p.2, pc := f 28 4, trapCause := x.trapCause,
                               trapPc := x.trapPc, issued := x.issued }) p.1 const args) (s1.setGroup k (some g))

/-- The object that a step program's handle names (R217, R278), or why it may not be launched. -/
def stepHandle (s : State) (n ctx handle : Nat) (host : HostView) : Except Cond (Obj × Nat) :=
  match s.tables with
  | none => .error ⟨stINVALID, invalidDetail 0x0C 0⟩
  | some t =>
    if 2 ^ t.handleLog ≤ handle % 2 ^ 20 then .error ⟨stINVALID, invalidDetail 0x05 0⟩
    else
      match hostRead host (t.handle + 32 * (handle % 2 ^ 20)) 32 with
      | none => .error ⟨stINVALID, invalidDetail 0x0E 0⟩
      | some e =>
        -- judged as a LAUNCH of the step context names it
        let r : Ring := { st := .enabled, kind := 0, sector := n, ctx := ctx }
        let c : Cmd := { idx := 0, raw := leBytes 16 0 ++ leBytes 4 handle ++ leBytes 44 0, rd := [(16, e)] }
        match handleErr { s with rings := [(0, r)] } 0 c 16 4 0 0 with
        | some w => .error w
        | none => .ok (objOf s c 16 0, fieldAt e 16 8)

/-- LAUNCH_DISPATCH of a LAUNCH that waits for cores. -/
def dispatchCmd (s : State) (q : Nat) (idx : BitVec 32) (buf : Option Nat) (cores : List Nat) (host : HostView) : State :=
  match (s.ring q).find idx buf with
  | none => s
  | some c =>
    let r := s.ring q
    if c.opcode != 1 || c.st != .held || !workRuns s r.sector then s
    else
      let e := (c.read 16).getD []
      let l : LaunchSpec := {
        owner := .cmd q idx buf, sector := r.sector, ctx := r.ctx, handle := c.f 16 4, kernel := objOf s c 16 0,
        length := fieldAt e 16 8, group := c.f 30 2, argBytes := c.f 28 2, args := objOf s c 20 (c.f 24 4), step := false, batch := 0,
        tag := (s.gen r.sector).curTag }
      if !launchReady s l then s else
      match loadKernel s l host with
      | (.error w, s1) => completeCmd s1 q c w.status w.detail
      | (.ok (h, bin, a), s1) =>
        if coresOk s1 r.sector l.group cores then
          startGroup (begun s1 q c .started) l cores h bin a
        else s

/-- LAUNCH_DISPATCH of the next launch of a Sector's step (R218, R223): a kernel that fails fails the step. -/
def dispatchStep (s : State) (n : Nat) (cores : List Nat) (host : HostView) : State :=
  let x := s.seqSec n
  match x.step with
  | none => s
  | some p =>
    if p.running || p.failed.isSome then s
    else
      let e := (tget [] x.program p.cls).getD p.launch default
      let ctx := stepCtx s n p.cls
      match stepHandle s n ctx e.handle.toNat host with
      | .error w =>
        let s1 := failStep s n w
        if w.status = stSTALE then startCtxReset s1 ctx stSTALE 3 else s1
      | .ok (o, len) =>
        let l : LaunchSpec := {
          owner := .step n, sector := n, ctx := ctx, handle := e.handle.toNat, kernel := o, length := len, group := e.group,
          argBytes := e.argBytes, args := { space := 2, base := e.argAddr, pasid := none }, step := true, batch := p.rows.length,
          tag := p.tag }
        if !launchReady s l then s else
        match loadKernel s l host with
        | (.error w, s1) => failStep s1 n w
        | (.ok (h, bin, a), s1) =>
          if coresOk s1 n l.group cores then
            let s2 := s1.setSeqSec n { s1.seqSec n with step := some { p with running := true } }
            markSeqEngine (startGroup s2 l cores h bin a) n
          else s

/-- LAUNCH_DISPATCH (R120, R218). -/
def execLaunchDispatch (launch : LaunchRef) (cores : List (Fin 192)) (host : HostView) (s : State) : Ans :=
  .next (match launch with
  | .cmd q idx buf => dispatchCmd s q idx buf (cores.map (·.val)) host
  | .step n => dispatchStep s n (cores.map (·.val)) host)

end Sys2Proof.Machine
end

