-- ==== Sys2Proof/Machine/PageOps.lean ====
section
/-!
DEFINITION. Lantern pages and frames (R108, R267) and the residence of a context (R266 to R269).
-/
namespace Sys2Proof.Machine

/-- Frames that hold a page of the Sector's contexts, or that a page move goes to. -/
def usedLsFrames (s : State) (n : Nat) : List Nat :=
  (s.ctxs.filter (fun c => c.2.st != .inactive && c.2.sector == n)).flatMap (fun c => c.2.pages.filterMap id) ++
  (s.gen n).moves.filterMap (fun m => match m.what with | .page _ _ _ new => some new | _ => none)

/-- Frames of the LIT Lanterns of a Sector on the dies of a list, in that order; ascending within a die. -/
def lanternFrames (s : State) (n : Nat) (dies : List Nat) : List Nat :=
  dies.flatMap (fun d => (List.range 4).flatMap (fun i =>
    let l := 4 * d + i
    if (s.resAt (resLantern l)).st = .lit && (s.resAt (resLantern l)).sector = n then (List.range 64).map (64 * l + ·) else []))

/-- Frames of the mapped spill window, ascending (R108); an extent that waits for a channel serves none (R112). -/
def spillFrames (s : State) (n : Nat) : List Nat :=
  (List.range 16).flatMap (fun i =>
    if (extentSet (s.sector n) (16368 + i)).isSome && !(s.gen n).waiting.contains (16368 + i) then (List.range 64).map (fun j => 1024 + 64 * i + j) else [])

/-- Free frames in the order the X1 takes them for a page: Lantern frames before the spill window (R108). Which free frame
is taken is the X1's: the model takes the lowest (notes/assumptions/10). -/
def freeLsFrames (s : State) (n : Nat) (dies : List Nat := [0, 1, 2, 3]) : List Nat :=
  (lanternFrames s n dies ++ spillFrames s n).filter (fun f => !(usedLsFrames s n).contains f)

/-- Contexts of a Sector that hold a resident slot. -/
def residents (s : State) (n : Nat) : Nat :=
  (s.ctxs.filter (fun c => (c.2.st == .resident || c.2.st == .resetting) && c.2.sector == n)).length

/-- The lowest free resident slot of the module (R266). -/
def freeSlotNo (s : State) : Option Nat := (List.range 64).find? (fun k => (slotCtx s k).isNone)

/-- Counters of a slot's telemetry page restart (R294). -/
def clearTlm (s : State) (k : Nat) : State :=
  { s with ctr := s.ctr.filter (fun p => !(tlmWord k 0 ≤ p.1 && p.1 < tlmWord k 64)) }

/-- A context becomes RESIDENT in a free slot with its pages, which read zero, and its activation completes with the slot
(R266, R267); CV_LS_ROOM where the pages cannot be had. -/
def admitCtx (s : State) (c : Nat) : State :=
  let x := s.ctx c
  match freeSlotNo s with
  | none => s
  | some k =>
    let fs := freeLsFrames s x.sector
    let finish (s : State) (st : Nat) (d : BitVec 64) : State :=
      match x.act with
      | none => s
      | some (q, i) => match (s.ring q).find i none with
        | none => s
        | some cmd => completeCmd s q cmd st d
    if fs.length < x.lsPages then finish (s.setCtx c {}) stINVALID (invalidDetail 0x0A 0 16)
    else
      let s1 := s.setCtx c { x with st := .resident, slot := k, pages := (fs.take x.lsPages).map some, act := none, window := windowOf s x.watch }
      let s2 := epochUp (clearTlm s1 k) k
      let s3 := { s2 with ls := czero s2.ls (lsKey c 0) (2 ^ 30),
                          lsChk := s2.lsChk.filter (fun p => !(lsKey c 0 ≤ p.1 && p.1 < lsKey c 0 + 2 ^ 30)) }
      finish (s3.setWatch k {}) stDONE (BitVec.ofNat 64 k)

/-- The first WAITING context of a Sector (R266). -/
def firstWaiting (s : State) (n : Nat) : Option Nat :=
  (s.ctxs.foldl (fun (b : Option (Nat × Nat)) c =>
    if c.2.st = .waiting && c.2.sector = n then
      (match b with
      | some (o, _) => if c.2.order < o then some (c.2.order, c.1) else b
      | none => some (c.2.order, c.1))
    else b) none).map Prod.snd

/-- Take a context's page moves off: it is deactivated. -/
def dropPageMoves (s : State) (n c : Nat) : State :=
  let g := s.gen n
  s.setGen n { g with moves := g.moves.filter (fun m => match m.what with | .page k _ _ _ => !(k == c) | _ => true) }

/-- The error of a context descriptor (R265), with its DETAIL. -/
def descErr (n : Nat) (d : List Byte) : Option Cond :=
  let f := fieldAt d
  let bad (code off : Nat) : Option Cond := cv code 16 off
  if f 0 2 != 1 then bad 0x02 0
  else if 2 ≤ f 2 1 then bad 0x03 2
  else if !zeroAt d 20 44 then bad 0x03 20
  else if f 3 1 != n then bad 0x07 3
  else if 2 ^ 20 ≤ f 4 4 || (f 2 1 == 0 && f 4 4 != 0) then bad 0x07 4
  else if 1024 < f 8 2 then bad 0x07 8
  else if f 12 2 = 0 || 256 < f 12 2 then bad 0x07 12
  else if 2 ^ 14 ≤ f 16 2 then bad 0x07 16
  else if 8192 < f 18 2 || 8192 < f 16 2 + f 18 2 then bad 0x07 18
  else none

/-- CV_PASID of an activation (R455): another tenant's Sector holds the PASID, or a fifth Sector would. -/
def pasidErr (s : State) (n pasid : Nat) : Bool :=
  let ns := (s.ctxs.filter (fun c => c.2.st != .inactive && c.2.pasid == some pasid)).map (·.2.sector)
  ns.any (fun m => (s.sector m).tenant != (s.sector n).tenant) || decide (4 < (n :: ns).eraseDups.length)

end Sys2Proof.Machine
end

