-- ==== Sys2Proof/Machine/LightList.lean ====
section
/-!
DEFINITION. The Light List (R74 to R94): its header and records, the checks in the order of Table 3-7, and the composition a list
results in.
-/
namespace Sys2Proof.Machine

/-! ### Error codes (Table 3-7) -/

def llFETCH : Nat := 0x0001
def llLENGTH : Nat := 0x0002
def llDIGEST : Nat := 0x0030
def llAUTH : Nat := 0x0031
def llSATFULL : Nat := 0x0040
def llGENBUSY : Nat := 0x0041
def llFLEET : Nat := 0x0042
def llMISSED : Nat := 0x0043
def llCANCELLED : Nat := 0x0044
def llDEPENDENT : Nat := 0x0045
def llINUSE : Nat := 0x002C

/-- A failure: code, ERR_RECORD, ERR_OFFSET (R94). -/
structure LErr where
  code : Nat
  record : Nat := 0xFFFF
  off : Nat := 0
  deriving DecidableEq, Repr

/-! ### Records (R78, R79) -/

/-- A record: one-based index, offset in the list, TYPE, bytes. -/
structure LRec where
  idx : Nat
  off : Nat
  typ : Nat
  b : List Byte
  deriving DecidableEq, Repr

def LRec.f (r : LRec) (o n : Nat) : Nat := fieldAt r.b o n
def LRec.sector (r : LRec) : Nat := r.f 8 1
def LRec.action (r : LRec) : Nat := r.f 9 1
/-- A bind record: LANTERN_BIND, CHANNEL_BIND, WAY_BIND, LANE_BIND. -/
def LRec.isBind (r : LRec) : Bool := r.typ == 2 || r.typ == 3 || r.typ == 5 || r.typ == 6
/-- The record names a Sector. -/
def LRec.hasSector (r : LRec) : Bool := decide (1 ≤ r.typ) && decide (r.typ ≤ 10)
def countOff (typ : Nat) : Nat := if typ = 5 then 12 else 10
def LRec.count (r : LRec) : Nat := r.f (countOff r.typ) 2
def entrySize (typ : Nat) : Nat := if typ = 2 then 4 else 2

/-- An entry of a bind record: offset in the record, resource key, CORE_MASK. -/
structure LEntry where
  off : Nat
  res : Nat
  mask : Nat
  deriving DecidableEq, Repr

def LRec.entries (r : LRec) : List LEntry :=
  if !r.isBind then []
  else (List.range r.count).map (fun i =>
    let o := 16 + entrySize r.typ * i
    if r.typ = 2 then ⟨o, resLantern (r.f o 1), r.f (o + 2) 2 % 4096⟩
    else if r.typ = 3 then ⟨o, resChannel (r.f o 2 % 1024), 0⟩
    else if r.typ = 5 then ⟨o, resWay (r.f o 2 % 128), 0⟩
    else ⟨o, resLane (r.f o 2 % 1024), 0⟩)

/-- A STRIPE_SET's channels, in listed order. -/
def LRec.stripe (r : LRec) : List Nat := (List.range (r.f 10 1)).map (fun j => r.f (16 + 2 * j) 2)

/-- The types of Table 3-4. -/
def typeOk (t : Nat) : Bool := (decide (1 ≤ t) && decide (t ≤ 11)) || t == 0xFF

/-- LENGTH as Table 3-4 fixes it for a type, with COUNT where it varies (R78). -/
def lengthOf (t count : Nat) : Nat :=
  if t = 1 || t = 7 then 24
  else if t = 4 then 32
  else if t = 2 || t = 3 || t = 5 || t = 6 then (16 + entrySize t * count + 7) / 8 * 8
  else if t = 0xFF then 8 else 16

/-- Fields of a record: offset, bytes, bits that are used (Tables 3-3, 3-5). -/
def LRec.fields (r : LRec) : List (Nat × Nat × Nat) :=
  (0, 6, 48) ::
  (match r.typ with
  | 1 => [(8, 1, 8), (9, 1, 8), (10, 1, 8), (12, 4, 32), (16, 2, 16)]
  | 4 => [(8, 1, 8), (9, 1, 8), (10, 1, 8), (12, 2, 14), (14, 2, 16)] ++ (List.range 8).map (fun j => (16 + 2 * j, 2, 10))
  | 5 => [(8, 1, 8), (9, 1, 8), (10, 1, 8), (12, 2, 16)] ++ r.entries.map (fun e => (e.off, 2, 7))
  | 7 => [(8, 1, 8), (12, 2, 16), (14, 2, 16), (16, 2, 16)]
  | 8 => [(8, 1, 8), (9, 1, 1), (10, 2, 16)]
  | 9 => [(8, 1, 8), (9, 1, 1), (10, 1, 8)]
  | 10 => [(8, 1, 8), (10, 2, 16), (12, 2, 16)]
  | 11 => [(8, 1, 8), (9, 1, 8)]
  | 2 => [(8, 1, 8), (9, 1, 8), (10, 2, 16)] ++ r.entries.flatMap (fun e => [(e.off, 1, 8), (e.off + 2, 2, 12)])
  | 3 | 6 => [(8, 1, 8), (9, 1, 8), (10, 2, 16)] ++ r.entries.map (fun e => (e.off, 2, 10))
  | _ => [])

/-- The offset of the first reserved field, byte or bit that is not zero; a run of reserved bytes is named by its first. -/
def reservedErr (r : LRec) : Option Nat :=
  let step (acc : Nat × Option Nat) (f : Nat × Nat × Nat) : Nat × Option Nat :=
    (f.1 + f.2.1, acc.2.or (if !zeroAt r.b acc.1 (f.1 - acc.1) then some acc.1
                             else if 2 ^ f.2.2 ≤ r.f f.1 f.2.1 then some f.1 else none))
  let w := r.fields.foldl step (0, none)
  w.2.or (if zeroAt r.b w.1 (r.b.length - w.1) then none else some w.1)

/-- The first of (offset, fine) that is not fine. -/
def firstBad (l : List (Nat × Bool)) : Option Nat := (l.find? (fun p => !p.2)).map Prod.fst

/-- The offset of the first field outside its permitted values (Table 3-5). -/
def recFieldErr (r : LRec) : Option Nat :=
  let a := r.action
  let sec : Nat × Bool := (8, decide (r.sector ≤ 15))
  let act : Nat × Bool := (9, a == 1 || a == 2)
  let set := r.stripe
  match r.typ with
  | 1 => firstBad [sec, (9, decide (1 ≤ a) && decide (a ≤ 3)),
      (10, if a = 1 then [0, 4, 5, 6, 7].contains (r.f 10 1) else r.f 10 1 == 0),
      (16, decide (r.f 16 2 ≤ 4096) && (a != 3 || r.f 16 2 == 0))]
  | 2 => firstBad ([sec, act, (10, decide (1 ≤ r.count) && decide (r.count ≤ 16))] ++
      r.entries.flatMap (fun e => [(e.off, decide (e.res ≤ 15)), (e.off + 2, (e.mask != 0) == (a == 1))]))
  | 3 => firstBad ([sec, act, (10, decide (1 ≤ r.count) && decide (r.count ≤ 128))] ++
      r.entries.map (fun e => (e.off, decide (e.res < resChannel 128))))
  | 4 =>
    let w := r.f 10 1
    let first := r.f 12 2
    let cnt := r.f 14 2
    firstBad ([sec, act, (10, if a = 1 then w == 4 || w == 8 else w == 0),
      (14, decide (1 ≤ cnt) && decide (cnt ≤ 16384) && decide (first + cnt ≤ 16384) &&
           (decide (8192 ≤ first) || decide (first + cnt ≤ 8192)))] ++
      (List.range 8).map (fun j =>
        (16 + 2 * j, if j < w then decide (r.f (16 + 2 * j) 2 < 128) && !(set.take j).contains (r.f (16 + 2 * j) 2)
                     else r.f (16 + 2 * j) 2 == 0)))
  | 5 => firstBad [sec, act, (10, if a = 1 then decide (r.f 10 1 ≤ 1) else r.f 10 1 == 0),
      (12, decide (1 ≤ r.count) && decide (r.count ≤ 128))]
  | 6 => firstBad ([sec, act, (10, decide (1 ≤ r.count) && decide (r.count ≤ 128))] ++
      r.entries.map (fun e => (e.off, decide (e.res < resLane 128))))
  | 7 => firstBad [sec, (12, decide (1 ≤ r.f 12 2) && decide (r.f 12 2 ≤ 64)),
      (14, decide (1 ≤ r.f 14 2) && decide (r.f 14 2 ≤ 4096)), (16, decide (r.f 16 2 ≤ 2048))]
  | 8 => firstBad [sec, (10, decide (r.f 10 2 ≤ 4096))]
  | 9 => firstBad [sec, (10, if bit (r.f 9 1) 0 then decide (1 ≤ r.f 10 1) && decide (r.f 10 1 ≤ 48) else r.f 10 1 == 0)]
  | 10 => firstBad [sec, (10, decide (r.f 10 2 ≤ 1023) && (r.f 12 2 != 0 || r.f 10 2 == 0)),
      (12, decide (r.f 12 2 ≤ 1024) && decide (r.f 10 2 + r.f 12 2 ≤ 1024))]
  | 11 =>
    let sel := r.f 8 1
    let port := r.f 9 1
    firstBad [(8, decide (sel ≤ 2)), (9, if sel = 1 then port == 0xFF else decide (port ≤ 15) || (sel == 0 && port == 0xFF))]
  | _ => none

/-- One record at an offset, checked against codes 0x0010–0x0014 (R94, stage 2). -/
def oneRec (bs : List Byte) (idx off : Nat) : Except LErr LRec :=
  let typ := fieldAt bs off 2
  let len := fieldAt bs (off + 2) 2
  let bad (code o : Nat) : Except LErr LRec := .error ⟨code, idx, off + o⟩
  if !typeOk typ then bad 0x10 0
  else if len % 8 != 0 || len < 8 || bs.length < off + len || len != lengthOf typ (fieldAt bs (off + countOff typ) 2) then bad 0x11 2
  else
    let r : LRec := { idx := idx, off := off, typ := typ, b := sub bs off len }
    if r.f 4 2 != 1 then bad 0x12 4
    else match reservedErr r with
      | some o => bad 0x13 o
      | none => match recFieldErr r with
        | some o => bad 0x14 o
        | none => .ok r

/-- Every record of a list, in order. -/
def walkRecs (bs : List Byte) : Nat → Nat → Nat → Except LErr (List LRec)
  | 0, _, _ => .ok []
  | k + 1, idx, off =>
    if bs.length ≤ off then .ok []
    else match oneRec bs idx off with
      | .error e => .error e
      | .ok r => match walkRecs bs k (idx + 1) (off + r.b.length) with
        | .error e => .error e
        | .ok l => .ok (r :: l)

/-- The records of a list. -/
def listRecs (bs : List Byte) : Except LErr (List LRec) := walkRecs bs 8192 1 128

/-! ### The composition (R80 to R84) -/

/-- A composition: the Sectors, by number. -/
abbrev Comp := Tbl Sector

def Comp.at (c : Comp) (n : Nat) : Sector := tget {} c n

/-- Take a range of extents out of a map. -/
def cutStripes (l : List Stripe) (first count : Nat) : List Stripe :=
  l.flatMap (fun t =>
    let lo := t.first
    let hi := t.first + t.count
    let a : List Stripe := if lo < min hi first then [{ t with count := min hi first - lo }] else []
    let b : List Stripe := if max lo (first + count) < hi then [{ t with first := max lo (first + count), count := hi - max lo (first + count) }] else []
    if hi ≤ first || first + count ≤ lo then [t] else a ++ b)

/-- One record's effect on a Sector's part of the composition. -/
def applyRec (c : Comp) (r : LRec) : Comp :=
  let n := r.sector
  let x := c.at n
  let put (y : Sector) : Comp := tput {} c n y
  let bind := r.action == 1
  let es := r.entries
  match r.typ with
  | 1 =>
    let d := if r.f 16 2 = 0 then 64 else r.f 16 2
    if r.action = 1 then
      put { exists_ := true, tenant := r.f 12 4, drain := d, kvLog := if r.f 10 1 = 0 then 6 else r.f 10 1 }
    else if r.action = 2 then put { x with drain := d }
    else put {}
  | 2 => put { x with lanterns := es.foldl (fun t e => tput 0 t e.res (if bind then e.mask else 0)) x.lanterns }
  | 3 =>
    let ks := es.map (fun e => e.res - 2048)
    put { x with channels := if bind then x.channels ++ ks else x.channels.filter (fun k => !ks.contains k) }
  | 4 =>
    let m := cutStripes x.stripes (r.f 12 2) (r.f 14 2)
    put { x with stripes := if bind then m ++ [{ first := r.f 12 2, count := r.f 14 2, set := r.stripe }] else m }
  | 5 =>
    let ks := es.map (fun e => e.res - 3072)
    put { x with ways := ks.foldl (fun t k => tput 2 t k (if bind then r.f 10 1 else 2)) x.ways }
  | 6 =>
    let ks := es.map (fun e => e.res - 4096)
    put { x with lanes := if bind then x.lanes ++ ks else x.lanes.filter (fun k => !ks.contains k) }
  | 7 => put { x with qCtx := r.f 12 2, qRings := r.f 14 2, qSeq := r.f 16 2, hasQuota := true }
  | 8 => put { x with boost := bit (r.f 9 1) 0, share := r.f 10 2, hasPower := true }
  | 9 => put { x with sealed_ := bit (r.f 9 1) 0, slots := r.f 10 1 }
  | 10 => put { x with moorFirst := r.f 10 2, moorCount := r.f 12 2 }
  | _ => c

/-- The composition a list results in. -/
def applyList (c : Comp) (rs : List LRec) : Comp := rs.foldl applyRec c

/-- A Sector of a composition holds a Lantern, core, channel, way or lane, by resource key. -/
def Sector.holds (x : Sector) (k : Nat) : Bool :=
  if k < 1024 then (tkeys x.lanterns).contains k
  else if k < 2048 then bit (tget 0 x.lanterns ((k - 1024) / 12)) ((k - 1024) % 12)
  else if k < 3072 then x.channels.contains (k - 2048)
  else if k < 4096 then (tkeys x.ways).contains (k - 3072)
  else x.lanes.contains (k - 4096)

/-- The Sector that holds a resource. -/
def Comp.owner (c : Comp) (k : Nat) : Option Nat := (c.find? (fun p => p.2.holds k)).map Prod.fst

/-- Share of an extent on each channel of its set, MiB (R71). -/
def shareMiB (set : List Nat) : Nat := 64 / max 1 set.length

/-! ### The checks (R94) -/

/-- The agreed Light List version: major and minor, at [31:16] of CAP_VER_AGREED. -/
def llAgreed (s : State) : Option (Nat × Nat) :=
  let v := (regNow s 0x20).toNat
  if bit v 63 && bits v 31 24 != 0 then some (bits v 31 24, bits v 23 16) else none

/-- The header against codes 0x0003–0x0008 (R75, R87, R90, Table 3-7). -/
def headerErrLL (s : State) (bs : List Byte) (len : Nat) (base : Comp) (baseGen : BitVec 32) (dep : Option (BitVec 64)) (now : Nat) :
    Option LErr :=
  let f := fieldAt bs
  let bad (code off : Nat) : Option LErr := some ⟨code, 0, off⟩
  let gen := f 12 4
  let target := f 16 8
  let ver := llAgreed s
  if f 28 4 != len then bad 0x02 28
  else if f 0 8 != 0x5453494C5448474C then bad 0x03 0
  else if (match ver with | none => true | some v => f 8 1 != v.1) then bad 0x04 8
  else if (match ver with | none => true | some v => decide (v.2 < f 9 1)) then bad 0x04 9
  else if 2 ≤ f 10 1 then bad 0x05 10
  else if 4 ≤ f 11 1 then bad 0x05 11
  else if f 26 2 != 0 then bad 0x05 26
  else if !bit (f 11 1) 0 && !zeroAt bs 80 48 then bad 0x05 80
  else if baseGen.toNat = 0xFFFFFFFF || (if f 10 1 = 1 then gen != baseGen.toNat + 1 else decide (gen ≤ baseGen.toNat)) then bad 0x06 12
  else if f 10 1 = 0 && !base.isEmpty then bad 0x07 10
  else if target ≤ now || now + 1048576 < target ||
      (match dep with | some t => decide (target ≤ t.toNat) | none => false) then bad 0x08 16
  else none

/-- The first record that names a Sector; the first that names a resource by its key (R94). -/
def nameSector (code : Nat) (rs : List LRec) (n : Nat) : LErr :=
  match rs.find? (fun r => r.hasSector && r.sector == n) with
  | some r => ⟨code, r.idx, r.off + 8⟩
  | none => ⟨code, 0xFFFF, 0⟩
def nameChannel (code : Nat) (rs : List LRec) (c : Nat) (n : Nat) : LErr :=
  let at_ (r : LRec) : Option Nat :=
    if r.typ = 4 && r.action = 1 then (r.stripe.findIdx? (· == c)).map (fun j => 16 + 2 * j)
    else (r.entries.find? (fun e => e.res == resChannel c)).map (·.off)
  match rs.findSome? (fun r => (at_ r).map (fun o => (⟨code, r.idx, r.off + o⟩ : LErr))) with
  | some e => e
  | none => nameSector code rs n

/-- Records that come at most once for a Sector. -/
def onceOnly (t : Nat) : Bool := t == 1 || (decide (7 ≤ t) && decide (t ≤ 10))

/-- LL_STRUCTURE (R80, R87, R91, Table 3-7). -/
def structureErr (bs : List Byte) (rs : List LRec) : Option LErr :=
  let full := fieldAt bs 10 1 == 0
  let ends := rs.filter (·.typ == 0xFF)
  let destroyed (n : Nat) : Bool := rs.any (fun r => r.typ == 1 && r.action == 3 && r.sector == n)
  if fieldAt bs 24 2 != rs.length || ends.isEmpty || ends.length != 1 || (rs.getLast?.map (·.typ)) != some 0xFF then some ⟨0x15, 0xFFFF, 0⟩
  else
    rs.findSome? (fun r =>
      let before := rs.takeWhile (fun q => decide (q.idx < r.idx))
      let e (o : Nat) : Option LErr := some ⟨0x15, r.idx, r.off + o⟩
      if r.typ = 11 then (if before.any (·.typ == 11) then e 0 else none)
      else if r.typ = 0xFF then none
      else if full && (r.isBind || r.typ == 1 || r.typ == 4) && r.action != 1 then e 9
      else if destroyed r.sector && before.any (fun q => q.hasSector && q.sector == r.sector) then e 8
      else if r.typ != 1 && !destroyed r.sector && !before.any (fun q => q.typ == 1 && q.sector == r.sector) then e 8
      else if onceOnly r.typ && before.any (fun q => q.typ == r.typ && q.sector == r.sector) then e 8
      else none)

/-- LL_SECTOR (R68, R80). -/
def sectorErrLL (base : Comp) (rs : List LRec) : Option LErr :=
  rs.findSome? (fun r =>
    if r.typ != 1 then none
    else
      let x := base.at r.sector
      if (r.action == 1) == x.exists_ then some ⟨0x20, r.idx, r.off + 8⟩
      else if r.action != 1 && r.f 12 4 != x.tenant then some ⟨0x20, r.idx, r.off + 12⟩ else none)

/-- Every entry of the bind records, in list order. -/
def bindEntries (rs : List LRec) : List (LRec × LEntry) := rs.flatMap (fun r => r.entries.map (fun e => (r, e)))

/-- A resource is available in the capability table. -/
def availRes (s : State) (k : Nat) : Bool :=
  if k < 1024 then availLantern s k
  else if k < 2048 then availCore s (k - 1024)
  else if k < 3072 then availChannel s (k - 2048)
  else if k < 4096 then availWay s (k - 3072)
  else availLane s (k - 4096)

/-- LL_UNAVAILABLE. -/
def unavailErr (s : State) (rs : List LRec) : Option LErr :=
  ((bindEntries rs).find? (fun p => p.1.action == 1 && !availRes s p.2.res)).map (fun p => ⟨0x21, p.1.idx, p.1.off + p.2.off⟩)

/-- LL_CONFLICT (R88). -/
def conflictErr (base : Comp) (rs : List LRec) : Option LErr :=
  let es := bindEntries rs
  let released (k o : Nat) : Bool := es.any (fun p => p.2.res == k && p.1.action == 2 && p.1.sector == o) ||
    rs.any (fun r => r.typ == 1 && r.action == 3 && r.sector == o)
  (es.zipIdx.find? (fun q =>
    let p := q.1
    let k := p.2.res
    let n := p.1.sector
    let before := (es.take q.2).filter (fun x => x.2.res == k)
    let own := base.owner k
    before.any (fun x => x.1.sector == n || x.1.action == p.1.action) ||
    (if p.1.action = 2 then own != some n
     else match own with
       | none => false
       | some o => if o = n then !(decide (k < 1024) || released k o) else !released k o))).map
    (fun q => ⟨0x22, q.1.1.idx, q.1.1.off + q.1.2.off⟩)

/-- LL_CORE_MASK (R81). -/
def coreMaskErr (s : State) (rs : List LRec) : Option LErr :=
  ((bindEntries rs).find? (fun p => decide (p.2.res < 1024) && p.1.action == 1 &&
    (List.range 12).any (fun k => bit p.2.mask k && !availCore s (12 * p.2.res + k)))).map
    (fun p => ⟨0x23, p.1.idx, p.1.off + p.2.off + 2⟩)

/-- LL_INCOMPLETE (R67, R91). -/
def incompleteErr (c : Comp) (rs : List LRec) : Option LErr :=
  let lacks (n : Nat) (x : Sector) : Bool :=
    rs.any (fun r => r.typ == 1 && r.action == 1 && r.sector == n &&
      !(rs.any (fun q => q.typ == 7 && q.sector == n) && rs.any (fun q => q.typ == 8 && q.sector == n))) ||
    x.lanterns.isEmpty || decide (x.channels.length < 4) || !x.hasQuota || !x.hasPower ||
    x.lanterns.any (fun l => !x.ways.any (fun w => w.2 == 0 && w.1 / 32 == l.1 / 4))
  (c.find? (fun p => lacks p.1 p.2)).map (fun p => nameSector 0x24 rs p.1)

/-- LL_STRIPE (R83). -/
def stripeErr (c : Comp) (rs : List LRec) : Option LErr :=
  let sets := rs.filter (·.typ == 4)
  match sets.find? (fun r => sets.any (fun q => decide (q.idx < r.idx) && q.sector == r.sector &&
      rangesMeet (q.f 12 2) (q.f 14 2) (r.f 12 2) (r.f 14 2))) with
  | some r => some ⟨0x25, r.idx, r.off + 12⟩
  | none =>
    c.findSome? (fun p =>
      ((List.range 128).find? (fun ch => !p.2.channels.contains ch && p.2.stripes.any (fun t => t.set.contains ch))).map
        (fun ch => nameChannel 0x25 rs ch p.1))

/-- MiB that a Sector's map places on a channel. -/
def Sector.load (x : Sector) (ch : Nat) : Nat :=
  x.stripes.foldl (fun a t => if t.set.contains ch then a + t.count * shareMiB t.set else a) 0

/-- LL_CAPACITY (R72). -/
def capacityErr (c : Comp) (rs : List LRec) : Option LErr :=
  ((List.range 128).find? (fun ch => 3072 < c.foldl (fun a p => a + p.2.load ch) 0)).map
    (fun ch => nameChannel 0x26 rs ch ((c.owner (resChannel ch)).getD 0))

/-- The sums of R84, in the order of its table. -/
def sumErr (c : Comp) (rs : List LRec) : Option LErr :=
  let sum (f : Sector → Nat) : Nat := c.foldl (fun a p => a + f p.2) 0
  let first (code typ off : Nat) : Option LErr :=
    some (match rs.find? (·.typ == typ) with
      | some r => ⟨code, r.idx, r.off + off⟩
      | none => ⟨code, 0xFFFF, 0⟩)
  if 64 < sum (·.qCtx) then first 0x27 7 12
  else if 4096 < sum (·.qRings) then first 0x27 7 14
  else if 2048 < sum (·.qSeq) then first 0x27 7 16
  else if 4096 < sum (·.share) then first 0x28 8 10
  else if 48 < sum (fun x => if x.sealed_ then x.slots else 0) then first 0x29 9 10
  else none

/-- LL_MOORING (R84). -/
def mooringErr (c : Comp) (rs : List LRec) : Option LErr :=
  let clash (n : Nat) : Bool := c.any (fun q => q.1 != n && rangesMeet q.2.moorFirst q.2.moorCount (c.at n).moorFirst (c.at n).moorCount)
  if c.any (fun p => clash p.1) then
    some (match rs.find? (fun r => r.typ == 10 && clash r.sector) with
      | some r => ⟨0x2A, r.idx, r.off + 10⟩
      | none => ⟨0x2A, 0xFFFF, 0⟩)
  else none

/-- LL_FLASH_SOURCE. -/
def sourceErr (s : State) (rs : List LRec) : Option LErr :=
  (rs.find? (fun r => r.typ == 11 && r.f 8 1 != 1 && decide (r.f 9 1 ≤ 15) && !availPort s (r.f 9 1))).map
    (fun r => ⟨0x2B, r.idx, r.off + 9⟩)

/-- LL_IN_USE (R85), against what is held when it runs. -/
def inUseErr (s : State) (rs : List LRec) : Option LErr :=
  let open_ (n : Nat) : Nat := (s.seqs.filter (fun q => q.2.st != .free && q.2.sector == n)).length
  let anyCtx (n : Nat) : Bool := s.ctxs.any (fun q => q.2.st != .inactive && q.2.sector == n)
  let leased (n : Nat) : Bool := (List.range (s.sector n).moorCount).any (fun i => (s.moor ((s.sector n).moorFirst + i)).st == .leased)
  let bad (r : LRec) : Bool :=
    let n := r.sector
    let x := s.sector n
    if r.typ = 1 then r.action == 3 && (anyCtx n || decide (0 < sectorRings s n) || decide (0 < open_ n) || leased n)
    else if r.typ = 7 then decide (r.f 12 2 < residents s n) || decide (r.f 14 2 < sectorRings s n) || decide (r.f 16 2 < open_ n)
    else if r.typ = 10 then leased n && !(decide (r.f 10 2 ≤ x.moorFirst) && decide (x.moorFirst + x.moorCount ≤ r.f 10 2 + r.f 12 2))
    else false
  (rs.find? bad).map (fun r => nameSector llINUSE rs r.sector)

/-- Every check of CHECKING: the records, or the first failure (R94). `now` is FLS_COUNT when CHECKING began. -/
def checkList (s : State) (bs : List Byte) (len : Nat) (base : Comp) (baseGen : BitVec 32) (dep : Option (BitVec 64))
    (now : Nat) : Except LErr (List LRec) :=
  if len % 8 != 0 || len < 136 || 65536 < len then .error ⟨llLENGTH, 0xFFFF, 0⟩
  else
    match headerErrLL s bs len base baseGen dep now with
    | some e => .error e
    | none =>
      match listRecs bs with
      | .error e => .error e
      | .ok rs =>
        let c := applyList base rs
        let e1 := (structureErr bs rs).or ((sectorErrLL base rs).or ((unavailErr s rs).or ((conflictErr base rs).or (coreMaskErr s rs))))
        match e1.or ((incompleteErr c rs).or ((stripeErr c rs).or ((capacityErr c rs).or ((sumErr c rs).or
            ((mooringErr c rs).or ((sourceErr s rs).or (inUseErr s rs))))))) with
        | some e => .error e
        | none => .ok rs

/-- DIGEST and AUTH_SIG (R76, R77, R436): the stage AUTHORISING. -/
def authErr (s : State) (bs : List Byte) : Option LErr :=
  let auth := bit (fieldAt bs 11 1) 0
  if sha384 (bs.take 32 ++ bs.drop 128) != sub bs 32 48 then some ⟨llDIGEST, 0, 32⟩
  else match s.dmk.compKey with
    | none => if auth || lifeCycle s == 4 || lifeCycle s == 5 then some ⟨llAUTH, 0, 11⟩ else none
    | some k =>
      if !auth then some ⟨llAUTH, 0, 11⟩
      else if lifeCycle s == 4 || lifeCycle s == 5 || hmac384 k (bs.take 80) != sub bs 80 48 then some ⟨llAUTH, 0, 80⟩
      else none

/-- Sectors a list re-maps (R89). -/
def remapped (rs : List LRec) : List Nat :=
  (List.range 16).filter (fun n => rs.any (fun r => r.sector == n && (r.isBind || r.typ == 4 || (r.typ == 1 && r.action == 3))))

/-- LL_GEN_BUSY (R94, R95, R102): a Sector the list re-maps has two live generations. -/
def genBusyErr (s : State) (rs : List LRec) : Option LErr :=
  ((rs.filter (·.hasSector)).find? (fun r => (remapped rs).contains r.sector && (s.sector r.sector).exists_ && (s.gen r.sector).oldLive)).map
    (fun r => nameSector llGENBUSY rs r.sector)

/-- Owners of the sealed slots at their positions (R449); 255 is the pool. -/
def slotMap (c : Comp) : List Nat :=
  let owners := c.flatMap (fun p => if p.2.sealed_ then List.replicate p.2.slots p.1 else [])
  let n := owners.length
  (List.range 64).map (fun i => ((owners.zipIdx.find? (fun o => o.2 * 64 / max 1 n == i)).map Prod.fst).getD 0xFF)

end Sys2Proof.Machine
end

