-- ==== Sys2Proof/Machine/LightOps.lean ====
section
/-!
DEFINITION. What happens at a light (R95, R106, R110, R111, R116): resources dim, light or are pending, extents and pages are queued
for moving, Sectors begin and end; what a resource waits for before its fill (R105); lights at an edge (R104).
-/
namespace Sys2Proof.Machine

/-! ### Failure of a slot (R93 to R96) -/

/-- One slot is FAILED; its LIGHT entry, where armed, is cancelled. -/
def failOneSlot (s : State) (k : Nat) (e : LErr) : State :=
  let x := s.slotAt k
  let s1 := if x.st = .staged then satCancelNow s x.sat else s
  raise (s1.setSlot k { x with st := .failed, error := e.code, errRec := e.record, errOff := e.off }) evCMP 1

/-- A slot that holds a list not yet LIT or FAILED. -/
def Slot.inProgress (x : Slot) : Bool := x.st == .fetching || x.st == .checking || x.st == .authorising || x.st == .staged

/-- A slot fails, and with it a list whose base it is (R93). -/
def slotFail (s : State) (k : Nat) (e : LErr) : State :=
  let s1 := failOneSlot s k e
  let o := s1.slotAt (1 - k)
  if o.dependent && o.inProgress then failOneSlot s1 (1 - k) ⟨llDEPENDENT, 0xFFFF, 0⟩ else s1

/-! ### Room on channels (R110, R111) -/

/-- Largest share of a channel, MiB. -/
def channelMiB : Nat := 3072

/-- MiB used on each channel: add an extent's share to every channel of its set. -/
def addShare (t : Tbl Nat) (set : List Nat) : Tbl Nat := set.foldl (fun t c => tmod 0 t c (· + shareMiB set)) t
/-- There is room for an extent on every channel of its set. -/
def hasRoom (t : Tbl Nat) (set : List Nat) : Bool := set.all (fun c => decide (tget 0 t c + shareMiB set ≤ channelMiB))

/-- MiB of Sector n on each channel as placed now: the map, without what waits for room, with old shares and removed extents. -/
def placed (s : State) (n : Nat) : Tbl Nat :=
  let x := s.sector n
  let g := s.gen n
  let base : Tbl Nat := (List.range 128).foldl (fun t c => tput 0 t c (x.load c)) []
  let t1 := g.moves.foldl (fun t m => match m.what with
    | .extent _ old new =>
      let t1 := addShare t old
      if m.noRoom then new.foldl (fun t c => tmod 0 t c (· - shareMiB new)) t1 else t1
    | .page _ _ _ _ => t) base
  g.removed.foldl (fun t r => r.set.foldl (fun t c => tmod 0 t c (· + r.count * shareMiB r.set)) t) t1

/-- Every channel of a set is LIT in Sector n. -/
def setLit (s : State) (n : Nat) (set : List Nat) : Bool :=
  set.all (fun c => (s.resAt (resChannel c)).st == .lit && (s.resAt (resChannel c)).sector == n)

/-- A frame for a page that leaves Lantern l (R108): the same die, then the other dies, then the spill window. -/
def newFrame (s : State) (n l : Nat) : Option Nat :=
  let d := l / 4
  (freeLsFrames s n (d :: [0, 1, 2, 3].filter (· != d))).head?

/-- Place what waits for room where room has come (R111). -/
def placeRoom (s : State) (n : Nat) : State :=
  (s.gen n).moves.foldl (fun s m =>
    if !m.noRoom then s
    else
      let g := s.gen n
      let upd (f : List Move → List Move) : State := s.setGen n { g with moves := f g.moves }
      match m.what with
      | .extent e old new =>
        if hasRoom (placed s n) new then
          if old.isEmpty then
            let s1 := upd (fun l => l.filter (· != m))
            if setLit s1 n new then s1.setGen n { s1.gen n with waiting := (s1.gen n).waiting.filter (· != e) } else s1
          else upd (fun l => l.map (fun q => if q = m then { m with noRoom := false } else q))
        else s
      | .page c p old _ =>
        match newFrame s n (old / 64) with
        | some f => upd (fun l => l.map (fun q => if q = m then { m with what := .page c p old f, noRoom := false } else q))
        | none => s) s

/-! ### Resources (R104 to R106) -/

/-- The bound Sector's account, or the module's own, pays for a fill (R118). -/
def fillAccount (s : State) (k : Nat) : Nat := ((s.resAt k).pend).getD 16

/-- Bytes that a fill writes: a Lantern with the core-local memories of its cores, a core's, a channel, a way. -/
def fillBytes (k : Nat) : Nat :=
  if k < 1024 then 2 ^ 26 + 12 * 2 ^ 19 else if k < 2048 then 2 ^ 19 else if k < 3072 then 3 * 2 ^ 30
  else if k < 4096 then 3 * 2 ^ 20 else 0

/-- Ask the Tender for leave for rebind work, of class rebind (R118); a deferral is counted. -/
def askRebind (s : State) (acct : Nat) (who : Waiter) (amount : Nat) : State :=
  let g : Grant := { who := who, ctx := 0, cls := 4, kind := 1, amount := amount, est := tndEst s acct 4 1 amount }
  let q := tget [] s.tnd.queues acct
  let s1 := askLeave s acct who 0 4 1 amount
  if q.isEmpty && mayGrant s acct g then s1 else { s1 with rb := { s1.rb with deferrals := satAdd 16 s1.rb.deferrals 1 } }

/-- Ask the Tender for leave for a fill. -/
def askFill (s : State) (k : Nat) : State :=
  askRebind (s.setRes k { s.resAt k with leave := 1 }) (fillAccount s k) (.fill k) (fillBytes k)

/-- A core of a Lantern that dims fills with it. -/
def fillsWith (s : State) (k : Nat) : Bool :=
  decide (1024 ≤ k) && decide (k < 2048) &&
  ((s.resAt (resLantern ((k - 1024) / 12))).st == .drain || (s.resAt (resLantern ((k - 1024) / 12))).st == .fill)

/-- A resource enters its fill phase. A Lantern takes its dimming cores with it. -/
def enterFill (s : State) (k : Nat) : State :=
  let s1 := s.setRes k { s.resAt k with st := .fill }
  let s2 := if k < 1024 then (List.range 12).foldl (fun s i =>
      let c := resCore (12 * k + i)
      let r := s.resAt c
      if r.st = .drain && !r.quarantined then s.setRes c { r with st := .fill } else s) s1 else s1
  askFill s2 k

/-- What a draining resource of Sector n still waits for beside the request drain (R105): pages on a Lantern, shares on a
channel. -/
def holdsData (s : State) (n k : Nat) : Bool :=
  if k < 1024 then
    s.ctxs.any (fun c => c.2.st != .inactive && c.2.sector == n && c.2.pages.any (fun f => match f with
      | some f => f / 64 == k && decide (f < 1024)
      | none => false))
  else if 2048 ≤ k && k < 3072 then
    let ch := k - 2048
    (s.gen n).moves.any (fun m => match m.what with | .extent _ old _ => old.contains ch | .page _ _ _ _ => false) ||
    (s.gen n).removed.any (fun r => r.set.contains ch)
  else false

/-- Once the request drain of its older generation is complete, a Sector's draining resources enter the fill phase as R105 allows. -/
def drainResources (s : State) (n : Nat) : State :=
  let g := s.gen n
  if g.oldLive && !g.drained then s
  else (s.res.map Prod.fst).foldl (fun s k =>
    let r := s.resAt k
    if r.st = .drain && r.sector = n && !r.quarantined && !fillsWith s k && !holdsData s n k then enterFill s k else s) s

/-- A Sector loses a resource at a light. -/
def releaseRes (s : State) (k : Nat) (gen : BitVec 32) : State :=
  let r := s.resAt k
  if r.st = .lit then s.setRes k { r with st := .drain, left := gen, leave := 0 }
  else if r.pend.isSome then
    let s1 := dropLeave s (fun g => g.who == .fill k)
    if r.ready then raise (s1.setRes k { r with st := .unlit, pend := none, ready := false, leave := 0 }) evRB 4
    else s1.setRes k { r with pend := none, leave := if r.leave = 1 then 0 else r.leave }
  else s

/-- A memory channel's key follows its Sector and generation (R433, R434). -/
def setKey (s : State) (k sector : Nat) (gen : BitVec 32) : State :=
  if 2048 ≤ k && k < 3072 then { s with dmk := { s.dmk with keys := tput (0, 0) s.dmk.keys (k - 2048) (sector, gen) } } else s

/-- A Sector gains a resource at a light. -/
def bindRes (s : State) (k n : Nat) (gen : BitVec 32) : State :=
  let r := s.resAt k
  if r.quarantined then s
  else if r.st = .unlit then setKey (s.setRes k { r with st := .lit, sector := n, bound := gen }) k n gen
  else s.setRes k { r with pend := some n, bound := gen }

/-- Every resource's key. -/
def allRes : List Nat :=
  (List.range 16).map resLantern ++ (List.range 192).map resCore ++ (List.range 128).map resChannel ++
  (List.range 128).map resWay ++ (List.range 128).map resLane

/-- Quarantined cores whose work has retired leave their Sector at a light (R116). -/
def dropQuarantined (s : State) : State :=
  (List.range 192).foldl (fun s c =>
    let r := s.resAt (resCore c)
    if r.quarantined && r.st = .drain && !(s.groups.any (fun g => match g.2 with | some x => x.cores.contains c | none => false)) then
      let l := c / 12
      let s1 := s.setRes (resCore c) { r with st := .unlit }
      { s1 with sectors := s1.sectors.map (fun p =>
          (p.1, if (tkeys p.2.lanterns).contains l then
                  { p.2 with lanterns := p.2.lanterns.map (fun q => if q.1 = l then (l, (setBits (BitVec.ofNat 64 q.2) (c % 12) (c % 12) 0).toNat) else q) }
                else p.2)) }
    else s) s

/-! ### Extents and pages (R106) -/

/-- Parts of a Sector's map in a range of extents, ascending. -/
def runsIn (x : Sector) (first count : Nat) : List Stripe :=
  let cut := x.stripes.filterMap (fun t =>
    let lo := max t.first first
    let hi := min (t.first + t.count) (first + count)
    if lo < hi then some { t with first := lo, count := hi - lo } else none)
  cut.foldr (fun t acc => (acc.takeWhile (fun u => decide (u.first < t.first))) ++ t :: acc.dropWhile (fun u => decide (u.first < t.first))) []

/-- Parts of a range that a map does not hold, mapped to a set. -/
def gapsIn (x : Sector) (first count : Nat) (set : List Nat) : List Stripe :=
  x.stripes.foldl (fun l t => cutStripes l t.first t.count) [{ first := first, count := count, set := set }]

/-- Every extent of runs. -/
def extentsOf (l : List Stripe) : List Nat := l.flatMap (fun t => (List.range t.count).map (t.first + ·))

/-- A Sector's extents at a light: newly mapped ones ready or waiting, re-striped ones queued, removed ones kept for the older
generation. `x` is the Sector before the list. -/
def lightExtents (s : State) (n : Nat) (x : Sector) (rs : List LRec) : State :=
  let mine := rs.filter (fun r => r.typ == 4 && r.sector == n)
  let sets := mine.filter (fun r => r.action == 1)
  let gone := (mine.filter (fun r => r.action != 1)).flatMap (fun r => runsIn x (r.f 12 2) (r.f 14 2))
  let added := sets.flatMap (fun r => gapsIn x (r.f 12 2) (r.f 14 2) r.stripe)
  let moved := sets.flatMap (fun r => (runsIn x (r.f 12 2) (r.f 14 2)).map (fun t => (t, r.stripe)))
  let room0 : Tbl Nat := (List.range 128).foldl (fun t c => tput 0 t c (x.load c)) []
  let new (acc : Tbl Nat × List Move × List Nat) (e : Nat) (old set : List Nat) : Tbl Nat × List Move × List Nat :=
    let wait := old.isEmpty && !setLit s n set
    if hasRoom acc.1 set then
      (addShare acc.1 set, if old.isEmpty then acc.2.1 else acc.2.1 ++ [{ what := .extent e old set }], if wait then acc.2.2 ++ [e] else acc.2.2)
    else (acc.1, acc.2.1 ++ [{ what := .extent e old set, noRoom := true }], if old.isEmpty then acc.2.2 ++ [e] else acc.2.2)
  let a1 := added.foldl (fun acc t => (extentsOf [t]).foldl (fun acc e => new acc e [] t.set) acc) (room0, [], [])
  let a2 := moved.foldl (fun acc p => (extentsOf [p.1]).foldl (fun acc e => new acc e p.1.set p.2) acc) a1
  let ms := a2.2.1
  let key (m : Move) : Nat := match m.what with | .extent e _ _ => e | .page _ _ _ _ => 0
  let asc := ms.foldr (fun m acc => (acc.takeWhile (fun q => decide (key q < key m))) ++ m :: acc.dropWhile (fun q => decide (key q < key m))) []
  let g := s.gen n
  s.setGen n { g with removed := gone, added := added, waiting := a2.2.2, moves := g.moves ++ asc }

/-- A Sector's Lantern pages on dimming Lanterns are queued (R106 step 7, R108), in ascending context and page. -/
def lightPages (s : State) (n : Nat) : State :=
  let dims (f : Nat) : Bool := decide (f < 1024) && (s.resAt (resLantern (f / 64))).st == .drain && (s.resAt (resLantern (f / 64))).sector == n
  s.ctxs.foldl (fun s c =>
    if c.2.st = .inactive || c.2.sector != n then s
    else c.2.pages.zipIdx.foldl (fun s p =>
      match p.1 with
      | none => s
      | some f =>
        if !dims f then s
        else
          let g := s.gen n
          let m : Move := match newFrame s n (f / 64) with
            | some f1 => { what := .page c.1 p.2 f f1 }
            | none => { what := .page c.1 p.2 f f, noRoom := true }
          s.setGen n { g with moves := g.moves ++ [m] }) s) s

/-! ### Sectors (R99, R102, R113) -/

/-- Zero the whole memory of a Sector. -/
def zeroSector (s : State) (n : Nat) : State :=
  { s with sm := czero s.sm (smKey n 0) (2 ^ 40),
           smChk := s.smChk.filter (fun p => !(smKey n 0 / 64 ≤ p.1 && p.1 < smKey n 0 / 64 + 2 ^ 34)) }

/-- Zero extents of a Sector. -/
def zeroExtents (s : State) (n : Nat) (l : List Stripe) : State :=
  l.foldl (fun s t =>
    let k := smKey n (t.first * 2 ^ 26)
    { s with sm := czero s.sm k (t.count * 2 ^ 26),
             smChk := s.smChk.filter (fun p => !(k / 64 ≤ p.1 && p.1 < k / 64 + t.count * 2 ^ 20)) }) s

/-- What a Sector that begins or ends holds of its own: sequence registers, Tender values and bandwidth shares at their reset values
(R229, R426, R368), nothing of an earlier Sector of the number. -/
def freshSector (s : State) (n : Nat) : State :=
  let mine (o : Nat) : Bool := (decide (0xB1000 + 0x100 * n ≤ o) && decide (o < 0xB1100 + 0x100 * n)) ||
    (decide (0x61000 + 0x100 * n ≤ o) && decide (o < 0x61040 + 0x100 * n)) || o == 0x40100 + 8 * n
  let seqBank (o : Nat) : Bool := decide (0xB1080 + 0x100 * n ≤ o) && decide (o < 0xB10E0 + 0x100 * n)
  let s1 := { s with
    regs := s.regs.filter (fun p => !(mine p.1)), ctr := s.ctr.filter (fun p => !(seqBank p.1)), shadow := s.shadow.filter (fun p => !(seqBank p.1)),
    binaries := s.binaries.filter (fun b => b.sector != n) }
  zeroSector (dropLeave (((s1.setTnd n {}).setSeqSec n {}).setFrz n {}) (fun g => g.who == .rebind n)) n

/-- Shares of a new Sector's classes (R368). -/
def shareReset : BitVec 64 := BitVec.ofNat 64 (64 + 128 * 2 ^ 8 + 32 * 2 ^ 16 + 16 * 2 ^ 24 + 16 * 2 ^ 32)

/-- The map generation of a Sector that a list re-maps (R99, R102, R113). `old` is the Sector before the list. -/
def turnGen (s : State) (n : Nat) (old : Sector) : State :=
  let g := s.gen n
  let mg := g.mapGen + 1
  let x := s.sector n
  if old.exists_ then
    let d := if x.exists_ then x.drain else old.drain
    s.setGen n { g with mapGen := mg, oldTag := g.curTag, curTag := mg.toNat % 16, oldLive := true, drained := false,
                        removed := [], added := [], waiting := [], moves := [], deadEdges := d,
                        deadline := s.flash.count + BitVec.ofNat 64 d, deadDone := false }
  else s.setGen n { g with mapGen := mg, curTag := mg.toNat % 16 }

/-- Apply a list's records at once (R95 step 3, R106). -/
def applyLight (s : State) (rs : List LRec) (gen : BitVec 32) : State :=
  let old : Comp := s.sectors
  let homes := (List.range 16).map (fun n => (homesNow s n false, homesNow s n true))
  let new : Comp := applyList old rs
  let re := remapped rs
  let begun := (List.range 16).filter (fun n => (new.at n).exists_ && !(old.at n).exists_)
  let ended := (List.range 16).filter (fun n => (old.at n).exists_ && !(new.at n).exists_)
  let s0 := { s with sectors := new }
  let s1 := re.foldl (fun s n => turnGen s n (old.at n)) s0
  let s2 := (begun ++ ended).foldl freshSector s1
  let s3 := begun.foldl (fun s n => setReg s (0x40100 + 8 * n) shareReset) s2
  let changed := allRes.filter (fun k => old.owner k != new.owner k)
  let s4 := changed.foldl (fun s k => if (old.owner k).isSome then releaseRes s k gen else s) s3
  let s5 := changed.foldl (fun s k => match new.owner k with | some n => bindRes s k n gen | none => s) s4
  let s6 := dropQuarantined s5
  let s7 := re.foldl (fun s n => if (new.at n).exists_ then lightExtents s n (old.at n) rs else s) s6
  let s8 := re.foldl lightPages s7
  -- pages are queued before extents: the place of pages in the order is the model's
  let s9 := re.foldl (fun s n =>
    let g := s.gen n
    let page (m : Move) : Bool := match m.what with | .page _ _ _ _ => true | .extent _ _ _ => false
    s.setGen n { g with moves := g.moves.filter page ++ g.moves.filter (fun m => !(page m)) }) s8
  let s10 := if re.any (fun n => (s9.gen n).moves.any (·.noRoom)) then raise s9 evRB 2 else s9
  -- values of QUOTA, POWER_ALLOT and ISOLATION stand in the composition; credit keeps to four Flashes of the new budget
  let s11 := (List.range 16).foldl (fun s n =>
    if (old.at n).share = (new.at n).share && (old.at n).boost == (new.at n).boost then s
    else
      let t := s.tndSec n
      s.setTnd n { t with credit := min t.credit (creditCap s (tndBudget s n) : Int) }) s10
  let s12 := match rs.find? (·.typ == 11) with
    | some r => setReg s11 0x10020 (BitVec.ofNat 64 (r.f 8 1 + r.f 9 1 * 256))
    | none => s11
  let s13 := { s12 with dmk := { s12.dmk with slotmap := slotMap new } }
  let s14 := rehomeCheck s13 (fun n host => let h := homes.getD n ([], []); if host then h.2 else h.1)
  re.foldl recheckLaunches s14

/-- The LIGHT entry of a STAGED list is issued (R95). -/
def lightSlot (s : State) (k : Nat) : State :=
  let x := s.slotAt k
  if x.st != .staged then s
  else match listRecs x.bytes with
    | .error _ => s
    | .ok rs =>
      match (inUseErr s rs).or (genBusyErr s rs) with
      | some e => slotFail s k e
      | none =>
        let s1 := applyLight s rs x.gen
        let s2 := { s1 with ll := { s1.ll with litGen := x.gen, litFlash := x.target, litDigest := sub x.bytes 32 48 } }
        let o := s2.slotAt (1 - k)
        raise ((s2.setSlot k { x with st := .lit }).setSlot (1 - k) { o with dependent := false }) evCMP 0

/-- The slot whose LIGHT an entry is. -/
def slotOfEntry (s : State) (e : Nat) : Option Nat := [0, 1].find? (fun k => (s.slotAt k).st == .staged && (s.slotAt k).sat == e)

/-- The LIGHT entry of a slot ended without being issued: REFUSED_FLEET, or LATE or MISSED_STEP (Table 3-7). -/
def lightLost (s : State) (e : Nat) (st : SatSt) : State :=
  match slotOfEntry s e with
  | none => s
  | some k => slotFail s k ⟨if st = .refusedFleet then llFLEET else llMISSED, 0xFFFF, 0⟩

/-! ### Lights at an edge (R104, R112) -/

/-- Pending resources whose fill is complete light at tick 0, after the Flash commit; extents that waited for a channel become
ready. -/
def lightEdge (s : State) : State :=
  let ks := (s.res.filter (fun p => p.2.ready)).map Prod.fst
  if ks.isEmpty then s
  else
    let homes := (List.range 16).map (fun n => (homesNow s n false, homesNow s n true))
    let s1 := ks.foldl (fun s k =>
      let r := s.resAt k
      let n := r.pend.getD 0
      setKey (s.setRes k { st := .lit, sector := n, left := r.left, bound := r.bound }) k n r.bound) s
    let s2 := (List.range 16).foldl (fun s n =>
      let g := s.gen n
      let stays (e : Nat) : Bool := !setLit s n ((extentSet (s.sector n) e).getD []) ||
        g.moves.any (fun m => m.noRoom && (match m.what with | .extent x [] _ => x == e | _ => false))
      s.setGen n { g with waiting := g.waiting.filter stays }) s1
    raise (rehomeCheck s2 (fun n host => let h := homes.getD n ([], []); if host then h.2 else h.1)) evRB 3

end Sys2Proof.Machine
end

