-- ==== Sys2Proof/Machine/Rebind.lean ====
section
/-!
DEFINITION. The commands of the rebind engine and of drains (R102 to R118).
-/
namespace Sys2Proof.Machine

/-! ### Moves (R107, R108) -/

/-- Chunks of 64 KiB of a move. -/
def Move.chunks (m : Move) : Nat := match m.what with | .extent _ _ _ => 1024 | .page _ _ _ _ => 16
/-- Bytes still to move. -/
def Move.bytesLeft (m : Move) : Nat := (m.chunks - m.chunk) * 65536

/-- A move may go on: it has room, and every channel of its new place is LIT (R106). -/
def mayMove (s : State) (n : Nat) (m : Move) : Bool :=
  !m.noRoom && (match m.what with
    | .extent _ _ new => setLit s n new
    | .page _ _ _ f => decide (f < 1024) || setLit s n ((extentSet (s.sector n) (16368 + (f - 1024) / 64)).getD []))

/-- The read of a chunk (R117, R354, R356): corrected lines are recorded, and written clean; an uncorrectable or poisoned one is written
so that it reads uncorrectable, with POISON_MOVED. -/
def chunkRead (s : State) (n : Nat) (m : Move) : State :=
  match m.what with
  | .extent e _ _ =>
    let k := (smKey n (e * 2 ^ 26 + m.chunk * 65536)) / 64
    let bad := s.smChk.filter (fun p => decide (k ≤ p.1) && decide (p.1 < k + 1024))
    bad.foldl (fun s p =>
      let u := channelOf s n (p.1 * 64 % 2 ^ 40)
      if p.2 = 1 then memCorr { s with smChk := tput 0 s.smChk p.1 0 } 1 u n (Config.free s.free)
      else raise (memUncorr { s with smChk := tput 0 s.smChk p.1 2 } 1 (if p.2 = 3 then 2 else 1) u n (Config.free s.free)) evRB 5) s
  | .page c p f _ =>
    let k := lsKey c (p * 2 ^ 20 + m.chunk * 65536)
    let bad := s.lsChk.filter (fun q => decide (k ≤ q.1) && decide (q.1 < k + 65536))
    bad.foldl (fun s q =>
      let a := BitVec.ofNat 64 (f % 64 * 2 ^ 20 + q.1 % 2 ^ 20)
      if q.2 = 1 then memCorr { s with lsChk := tput 0 s.lsChk q.1 0 } 3 (f / 64) n a
      else raise (memUncorr { s with lsChk := tput 0 s.lsChk q.1 2 } 3 (if q.2 = 3 then 2 else 1) (f / 64) n a) evRB 5) s

/-- A move is complete: a page lies on its new frame; what waits for room or for the data to leave goes on (R105, R111). -/
def moveDone (s : State) (n : Nat) (m : Move) : State :=
  let g := s.gen n
  let s1 := s.setGen n { g with moves := g.moves.filter (fun q => q.what != m.what) }
  let s2 := match m.what with
    | .page c p _ f => let x := s1.ctx c; s1.setCtx c { x with pages := x.pages.set p (some f) }
    | .extent _ _ _ => s1
  drainResources (placeRoom s2 n) n

/-- REBIND_CHUNK_MOVE (R107, R118): the next chunk of a Sector's moves, once the Tender has given leave for the batch. -/
def execRebindChunkMove (sector : Fin 16) (s : State) : Ans :=
  let n := sector.val
  let s0 := placeRoom s n
  let g := s0.gen n
  .next (match g.moves.find? (mayMove s0 n) with
  | none => s0
  | some m =>
    if g.leave < 65536 then
      if g.asked then s0
      else
        let left := g.moves.foldl (fun a q => a + q.bytesLeft) 0
        askRebind (s0.setGen n { g with asked := true }) n (.rebind n) (min (2 ^ 26) left)
    else
      let s1 := chunkRead s0 n m
      let g1 := s1.gen n
      let m1 : Move := { m with chunk := m.chunk + 1 }
      let s2 := s1.setGen n { g1 with leave := g1.leave - 65536, moves := g1.moves.map (fun q => if q = m then m1 else q) }
      let s3 := { s2 with rb := { s2.rb with chunks := satAdd 32 s2.rb.chunks 1 } }
      if m1.chunk = m1.chunks then moveDone s3 n m1 else s3)

/-! ### Drains (R102, R104) -/

/-- A command is outstanding under a Sector's older generation: its tag is fixed and its record is not posted. -/
def oldCmd (s : State) (n : Nat) (r : Ring) (c : Cmd) : Bool := r.sector == n && r.kind != 3 && c.tag == some (s.gen n).oldTag
/-- The running step is outstanding under it. -/
def oldStep (s : State) (n : Nat) : Bool :=
  match (s.seqSec n).step with | some p => p.tag == (s.gen n).oldTag | none => false

/-- Commands and steps outstanding under the older generation (CMP_RB_OUT_s). -/
def oldCount (s : State) (n : Nat) : Nat :=
  s.rings.foldl (fun a r => a + (r.2.cmds.filter (oldCmd s n r.2)).length) 0 + (if oldStep s n then 1 else 0)

/-- REQUEST_DRAIN_COMPLETE (R102, R104): nothing tagged with the older generation is outstanding. -/
def execRequestDrainComplete (sector : Fin 16) (s : State) : Ans :=
  let n := sector.val
  let g := s.gen n
  .next (if g.oldLive && !g.drained && oldCount s n == 0 then drainResources (s.setGen n { g with drained := true }) n else s)

/-- GENERATION_DRAINED (R102, R106 step 6). -/
def execGenerationDrained (sector : Fin 16) (s : State) : Ans :=
  let n := sector.val
  let g := s.gen n
  .next (if g.oldLive && g.drained && g.moves.isEmpty then
    let s1 := zeroExtents s n g.removed
    drainResources (raise (s1.setGen n { g with oldLive := false, removed := [], added := [], leave := 0, asked := false }) evRB 0) n
  else s)

/-! ### Fills (R103 to R105) -/

/-- Tag entries in error of one way are walked as its fill begins to invalidate it (R357). -/
def walkWay (s : State) (n w : Nat) : State :=
  let mine (p : Nat × Nat) : Bool := p.1 / 2 ^ 40 == w / 32 && bits p.1 31 24 == w % 32
  let rest := s.mem.tagChk.filter (fun p => !(mine p))
  let s1 := tagWalk { s with mem := { s.mem with tagChk := s.mem.tagChk.filter mine } } n (w / 32)
  { s1 with mem := { s1.mem with tagChk := rest } }

/-- What the fill of a resource does (Table 4-4). -/
def fillRes (s : State) (k : Nat) : State :=
  let clmZero (s : State) (c : Nat) : State :=
    { s with clm := czero s.clm (clmKey c 0) (2 ^ 19), clmChk := s.clmChk.filter (fun p => !(clmKey c 0 ≤ p.1 && p.1 < clmKey c 0 + 2 ^ 19)) }
  if k < 1024 then
    let s1 := (List.range 12).foldl (fun s i =>
      if (s.resAt (resCore (12 * k + i))).quarantined then s else clmZero s (12 * k + i)) s
    takeUcode { s1 with xl := { s1.xl with tlb := s1.xl.tlb.filter (fun p => !(4 * k ≤ p.1 && p.1 < 4 * k + 4)) } } k
  else if k < 2048 then clmZero s (k - 1024)
  else if k < 3072 then s
  else if k < 4096 then walkWay s (s.resAt k).sector (k - 3072)
  else
    let l := k - 4096
    s.setLane l { s.lane l with unacked := [], naks := 0 }

/-- A filled resource is UNLIT, or waits for the next edge to light (R104). -/
def filled (s : State) (k : Nat) : State :=
  let r := s.resAt k
  if r.pend.isSome then s.setRes k { r with ready := true, leave := 0 }
  else raise (setKey (s.setRes k { r with st := .unlit, leave := 0 }) k 0xFF r.left) evRB 4

/-- FILL_COMPLETE (R104, R105, R434). A fill for which no leave has been asked asks for it. -/
def execFillComplete (res : Resource) (s : State) : Ans :=
  let k := resKey res
  let r := s.resAt k
  .next (if r.st != .fill || r.ready || fillsWith s k then s
  else if r.leave = 0 then askFill s k
  else if r.leave != 2 then s
  else
    let s1 := filled (fillRes s k) k
    if k < 1024 then (List.range 12).foldl (fun s i =>
      if (s.resAt (resCore (12 * k + i))).st = .fill then filled s (resCore (12 * k + i)) else s) s1
    else s1)

/-! ### The deadline (R113, R114) -/

/-- Step 1 of R114: the commands and the step outstanding under the older generation take GENERATION_RETIRED; the contexts that own
them. -/
def retireOld (s : State) (n : Nat) : State × List Nat :=
  let s1 := s.rings.foldl (fun s r => r.2.cmds.foldl (fun s c =>
    if oldCmd s n r.2 c then
      match (s.ring r.1).find c.idx c.buf with
      | some d => noteCond s r.1 d ⟨stRETIRED, 0⟩
      | none => s
    else s) s) s
  let cs := (s.rings.filter (fun r => r.2.cmds.any (oldCmd s n r.2))).map (fun r => r.2.ctx)
  if oldStep s n then
    let c := match (s.seqSec n).step with | some p => stepCtx s n p.cls | none => 0
    let s2 := stopStep s1 n ⟨stRETIRED, 0⟩
    let s3 := stopGroups s2 (fun g => g.owner == Owner.step n)
    (s3, (cs ++ [c]).eraseDups)
  else (s1, cs.eraseDups)

/-- Step 2: extents that wait for room are mapped at their new sets and read zero; pages are dropped. -/
def dropWaiting (s : State) (n : Nat) : State :=
  (s.gen n).moves.foldl (fun s m =>
    if !m.noRoom then s
    else
      let g := s.gen n
      let s1 := s.setGen n { g with moves := g.moves.filter (· != m) }
      match m.what with
      | .extent e _ new =>
        let s2 := zeroExtents s1 n [{ first := e, count := 1, set := new }]
        if setLit s2 n new then s2.setGen n { s2.gen n with waiting := (s2.gen n).waiting.filter (· != e) } else s2
      | .page c p _ _ =>
        let x := s1.ctx c
        let s2 := s1.setCtx c { x with pages := x.pages.set p none }
        { s2 with ls := czero s2.ls (lsKey c (p * 2 ^ 20)) (2 ^ 20),
                  lsChk := s2.lsChk.filter (fun q => !(lsKey c (p * 2 ^ 20) ≤ q.1 && q.1 < lsKey c (p * 2 ^ 20) + 2 ^ 20)) }) s

/-- DRAIN_DEADLINE (R113, R114). -/
def execDrainDeadline (sector : Fin 16) (s : State) : Ans :=
  let n := sector.val
  let g := s.gen n
  .next (if g.deadDone || g.deadEdges != 0 then s
  else
    let s0 := s.setGen n { g with deadDone := true }
    let k := oldCount s0 n
    let room := g.moves.any (·.noRoom)
    if !g.oldLive || (k == 0 && !room) then s0
    else
      let r := retireOld s0 n
      let s2 := dropWaiting r.1 n
      let cs := if room then sectorCtxs s2 n else r.2
      let s3 := cs.foldl (fun s c => startCtxReset s c stRETIRED 3) s2
      let s4 := s3.setGen n { s3.gen n with retired := satAdd 16 (s3.gen n).retired k }
      drainResources (raise s4 evRB 1) n)

/-- Drain deadlines at an edge (R113): one edge less, or one Flash later while the Sector is frozen. -/
def deadlineEdge (s : State) : State :=
  (List.range 16).foldl (fun s n =>
    let g := s.gen n
    if g.deadDone then s
    else if frozenSector s n then s.setGen n { g with deadline := g.deadline + 1 }
    else s.setGen n { g with deadEdges := g.deadEdges - 1 }) s

end Sys2Proof.Machine
end

