-- ==== Sys2Proof/Machine/Sequences.lean ====
section
/-!
DEFINITION. Sequence commands (R194 to R197, R205, R209 to R216, R239, R241, R255, R256) and the ends of spills and pulls (R225,
R226).
-/
namespace Sys2Proof.Machine

/-! ### Naming and checking -/

/-- A sequence error (Table 7-10, Table 8-8; class 2 of R292). -/
def sqErr (code : Nat) : Cond := ⟨stINVALID, invalidDetail code 2⟩

/-- The slot that a sequence ID names for a context, or why not (R194, R196): a stale generation, no such sequence, another context's. -/
def nameSeq (s : State) (ctx id : Nat) : Except Cond Nat :=
  let k := id % 65536
  let x := s.seq k
  if 2048 ≤ k then .error (sqErr 5)
  else if x.gen.toNat != id / 65536 then .error ⟨stSTALE, BitVec.ofNat 64 id⟩
  else if x.st = .free then .error (sqErr 5)
  else if x.ctx != ctx then .error (sqErr 3)
  else .ok k

/-- Sequence ID of a slot. -/
def seqId (s : State) (k : Nat) : Nat := (s.seq k).gen.toNat * 65536 + k

/-- TEMPERATURE and TOP_P are permitted values (R245). -/
def samplingOk (temp topP : Nat) : Bool :=
  (temp == 0 || (decide (0x00800000 ≤ temp) && decide (temp < 0x7F800000))) &&
  decide (0x00800000 ≤ topP) && decide (topP ≤ 0x3F800000)

/-- A buffer in SM or HM is acceptable (SQ_SPACE): its SM range lies in mapped extents of the aperture region. -/
def spaceOk (s : State) (n space addr len : Nat) : Bool :=
  space == 3 || (space == 2 && decide (addr + len ≤ 2 ^ 39) && (unmappedExtent s n addr len).isNone)

/-- The first code whose condition holds, lowest first. -/
def firstErr (l : List (Nat × Bool)) : Option Cond := (l.find? (·.2)).map (fun p => sqErr p.1)

/-- Sequences open in a Sector. -/
def openSeqs (s : State) (n : Nat) : Nat := (s.seqs.filter (fun p => p.2.st != .free && p.2.sector == n)).length

/-- Class c's program is not valid, or the scheduler is not enabled (SQ_NOT_ENABLED). -/
def notEnabled (s : State) (n : Nat) (draft : Bool) : Bool :=
  !bit (stepReg s n (if draft then 1 else 0)) 63 || !(s.seqSec n).enabled

/-- Sampling fields of a command. -/
def samplingOf (c : Cmd) (t p k : Nat) : Sampling := { temp := BitVec.ofNat 32 (c.f t 4), topP := BitVec.ofNat 32 (c.f p 4), topK := c.f k 2 }

/-- A command of a sequence ring that has not started, in a Sector that runs (R460). -/
def seqWaits (s : State) (q : Nat) (idx : BitVec 32) (op : Nat) : Option Cmd :=
  match (s.ring q).find idx none with
  | none => none
  | some c => if (s.ring q).kind = 1 && c.opcode = op && workRuns s (s.ring q).sector then some c else none

/-- Take a command off its sequence's queue. -/
def unqueue (s : State) (k q : Nat) (idx : BitVec 32) : State :=
  let x := s.seq k
  s.setSeq k { x with queue := x.queue.filter (fun p => !(p == (q, idx))) }

/-- The first uncompleted command of its sequence: the head of the queue; one that came before its sequence was open is accepted
now (R210). -/
def seqTurn (s : State) (k q : Nat) (idx : BitVec 32) : Bool :=
  match (s.seq k).queue with
  | [] => true
  | p :: _ => p == (q, idx)

/-- Start a queued command of a sequence when its turn has come (R210, R216, R239): naming errors first, then the sequence errors, then
a FAILED sequence's status. -/
def seqStart (s : State) (q : Nat) (idx : BitVec 32) (op : Nat) (check : Cmd → Nat → Option Cond) (go : State → Cmd → Nat → State) : State :=
  match seqWaits s q idx op with
  | none => s
  | some c =>
    if c.st != .queued then s
    else
      match nameSeq s (s.ring q).ctx (c.f 16 4) with
      | .error w => refuseCmd s q c w
      | .ok k =>
        let x := s.seq k
        if !seqTurn s k q idx || x.run.isSome || x.reservedBy.isSome || !(x.st == .idle || x.st == .failed) then s
        else
          match check c k with
          | some w => refuseCmd (unqueue s k q idx) q c w
          | none =>
            if x.st = .failed then completeCmd (unqueue s k q idx) q c x.failStatus 0
            else go s c k

/-- The command runs on its sequence. -/
def runSeq (s : State) (k q : Nat) (c : Cmd) : State :=
  let s1 := unqueue s k q c.idx
  let s2 := s1.setRing q ((s1.ring q).put { c with st := .started })
  s2.setSeq k { s2.seq k with run := some { ring := q, idx := c.idx, opcode := c.opcode, raw := c.raw }, xl := 0 }

/-! ### OPEN and FORK -/

/-- OPEN (R194, R195, Table 7-5) in the slot that the X1 chooses; nothing happens where that slot is not free. -/
def execOpen (ring : Fin 4096) (idx : BitVec 32) (slot : Fin 2048) (s : State) : Ans :=
  .next (match seqWaits s ring idx 0x40 with
    | none => s
    | some c =>
      let q := ring.val
      let n := (s.ring q).sector
      let b := kvB s n
      match firstErr [(2, decide ((s.sector n).qSeq ≤ openSeqs s n)),
          (4, !(decide (1 ≤ c.f 16 4) && decide (c.f 16 4 ≤ 8192 * b) && decide (c.f 16 4 ≤ kvFrames s n * b))),
          (5, !(decide (c.f 20 1 ≤ 1) && samplingOk (c.f 32 4) (c.f 36 4)))] with
      | some w => refuseCmd s q c w
      | none =>
        let k := slot.val
        if (s.seq k).st != .free then s
        else
          let x : Seq := { st := .idle, gen := (s.seq k).gen, sector := n, ctx := (s.ring q).ctx, draft := c.f 20 1 == 1,
                           maxTokens := c.f 16 4, seed := BitVec.ofNat 64 (c.f 24 8), samp := samplingOf c 32 36 22,
                           stops := [c.f 40 4, c.f 44 4, c.f 48 4, c.f 52 4] }
          let s1 := s.setSeq k x
          completeCmd s1 q c stDONE (BitVec.ofNat 64 (seqId s1 k)))

/-- The FORK itself, its parent's blocks resident (R205): the child names the parent's blocks of positions below L − 1. -/
def doFork (s : State) (q : Nat) (c : Cmd) (k slot : Nat) : State :=
  let x := s.seq k
  let n := x.sector
  let l := c.f 20 4
  if (s.seq slot).st != .free then s
  else
    let tok := if l = x.t then x.pendingTok else c.f 24 4
    let shared := x.table.filter (fun p => decide (p.1 < (l - 1 + kvB s n - 1) / kvB s n))
    let y : Seq := { st := .idle, gen := (s.seq slot).gen, sector := n, ctx := x.ctx, draft := x.draft, c := l - 1, t := l,
                     maxTokens := c.f 28 4, pendingTok := tok, seed := BitVec.ofNat 64 (c.f 32 8), samp := samplingOf c 40 44 48,
                     stops := x.stops, table := shared, text := tput 0 [] (l - 1) tok }
    let s1 := (unqueue s k q c.idx).setSeq slot y
    let s2 := s1.setSeq k { s1.seq k with st := if x.st = .ready then .idle else x.st }
    let s3 := shared.foldl (fun s p => match p.2 with | some d => addRef s n d | none => s) s2
    completeCmd s3 q c stDONE (BitVec.ofNat 64 (seqId s3 slot))

/-- FORK (R205, R210, R226, Table 7-8): its parent's spilled blocks come back first. -/
def execFork (ring : Fin 4096) (idx : BitVec 32) (slot : Fin 2048) (s : State) : Ans :=
  .next (
    let q := ring.val
    let n := (s.ring q).sector
    let b := kvB s n
    match seqWaits s q idx 0x43 with
    | none => s
    | some c =>
      if c.st = .started then
        match nameSeq s (s.ring q).ctx (c.f 16 4) with
        | .error _ => s
        | .ok k => if (s.seq k).st != .ready then s else if needsPull s k then startPull s k else doFork s q c k slot
      else seqStart s q idx 0x43 (fun c k =>
        let t := (s.seq k).t
        let l := c.f 20 4
        firstErr [(2, decide ((s.sector n).qSeq ≤ openSeqs s n)),
          (4, !(decide (1 ≤ l) && decide (l ≤ t) && decide (l ≤ c.f 28 4) && decide (c.f 28 4 ≤ 8192 * b) &&
                decide (c.f 28 4 ≤ kvFrames s n * b))),
          (5, !(samplingOk (c.f 40 4) (c.f 44 4) && (l != t || c.f 24 4 == 0)))])
        (fun s c k =>
          if needsPull s k then
            let s1 := s.setRing q ((s.ring q).put { c with st := .started })
            startPull (s1.setSeq k { s1.seq k with queue := (q, idx) :: (s1.seq k).queue.filter (fun p => !(p == (q, idx))) }) k
          else doFork s q c k slot))

/-! ### APPEND -/

/-- The token array is read: T grows; prefill work remains, or the command is done (R211). -/
def takeTokens (s : State) (k : Nat) (host : HostView) : State :=
  let x := s.seq k
  match x.run with
  | none => s
  | some u =>
    let f := fieldAt u.raw
    let n := x.sector
    let o : Obj := { space := f 32 1, base := f 24 8, pasid := (s.ctx x.ctx).pasid }
    let bad := extentErr s n o 24 (4 * f 20 4)
    match (match bad with | some w => (.error w, s) | none => objRead s n x.ctx o (4 * f 20 4) host : Except Cond (List Byte) × State) with
    | (.error w, s1) => endRun s1 k w.status (some w.detail) 4 .idle
    | (.ok bs, s1) =>
      let toks := (List.range (f 20 4)).map (fun i => (x.t + i, fieldAt bs (4 * i) 4))
      let y := s1.seq k
      let sec := s1.seqSec n
      let t := x.t + f 20 4
      let s2 := s1.setSeq k { y with t := t, pendingTok := (toks.getLast?.map (·.2)).getD 0,
                                     text := y.text ++ toks.filter (fun p => p.2 != 0), run := some { u with started := sec.appends }, xl := 0 }
      let s3 := s2.setSeqSec n { sec with appends := sec.appends + 1 }
      if x.c + 1 = t then endRun s3 k stDONE (some (BitVec.ofNat 64 (f 20 4))) 0 .idle else startPull s3 k

/-- Ask for the translation of host memory that a sequence's command reads (R307); true where nothing is waited for. -/
def askSeq (s : State) (k : Nat) (ranges : List (Nat × Nat)) : Bool × State :=
  let x := s.seq k
  match x.run with
  | none => (true, s)
  | some u =>
    let w : XWait := { who := .seq k, sector := x.sector, ctx := x.ctx, slot := (s.ctx x.ctx).slot, pasid := (s.ctx x.ctx).pasid,
                       write := false, source := 64, stream := 0, ring := u.ring, idx := u.idx, units := [] }
    let a := xlAsk s w (unitsOf ranges)
    (a.1, a.2.setSeq k { a.2.seq k with xl := if a.1 then 2 else 1 })

/-- APPEND (R211, Table 7-6): it starts; where its tokens lie in host memory, they are read once their translation is had. -/
def execAppend (ring : Fin 4096) (idx : BitVec 32) (host : HostView) (s : State) : Ans :=
  .next (
    let q := ring.val
    let n := (s.ring q).sector
    match seqWaits s q idx 0x41 with
    | none => s
    | some c =>
      if c.st = .started then
        match nameSeq s (s.ring q).ctx (c.f 16 4) with
        | .error _ => s
        | .ok k =>
          let x := s.seq k
          if x.xl = 2 && x.st = .idle && (match x.run with | some u => u.ring == q && u.idx == idx | none => false) then takeTokens s k host
          else s
      else seqStart s q idx 0x41 (fun c k =>
        let x := s.seq k
        firstErr [(4, !(decide (1 ≤ c.f 20 4) && decide (c.f 20 4 ≤ 65536) && decide (x.t + c.f 20 4 ≤ x.maxTokens))),
          (5, c.f 24 8 % 4 != 0), (6, notEnabled s n x.draft), (7, !spaceOk s n (c.f 32 1) (c.f 24 8) (4 * c.f 20 4))])
        (fun s c k =>
          let s1 := runSeq s k q c
          if c.f 32 1 = 2 then takeTokens s1 k host
          else
            let a := askSeq s1 k [(c.f 24 8, 4 * c.f 20 4)]
            if a.1 then takeTokens a.2 k host else a.2))

/-! ### GENERATE -/

/-- The sequence that a GENERATE with DRAFT_SOURCE 2 may reserve (R239). -/
def draftOk (s : State) (ctx m id : Nat) : Bool :=
  match nameSeq s ctx id with
  | .error _ => false
  | .ok d =>
    let x := s.seq m
    let y := s.seq d
    y.draft && y.run.isNone && y.queue.isEmpty && y.reservedBy.isNone && y.st != .closing && y.t == x.t && decide (x.maxTokens ≤ y.maxTokens) &&
    d != m

/-- The checks of a GENERATE (Tables 7-7, 7-10 and 8-8). -/
def generateErr (s : State) (q : Nat) (c : Cmd) (k : Nat) : Option Cond :=
  let n := (s.ring q).sector
  let x := s.seq k
  let pre := bit (c.f 33 1) 0
  let set := bit (c.f 33 1) 1
  let src := c.f 34 1
  let len := c.f 35 1
  let maxNew := c.f 20 4
  let stale := src == 2 && (match nameSeq s (s.ring q).ctx (c.f 56 4) with | .error w => w.status == stSTALE | .ok _ => false)
  if stale then some ⟨stSTALE, BitVec.ofNat 64 (c.f 56 4)⟩
  else firstErr [
    (4, x.t == 0 || (if pre then maxNew != 0 else maxNew == 0 || decide (65536 < maxNew) || decide (x.maxTokens ≤ x.t))),
    (5, c.f 24 8 % 8 != 0 || decide (3 < src) || (if src = 0 then len != 0 else len == 0 || decide (15 < len)) ||
        (if set then !samplingOk (c.f 36 4) (c.f 40 4) else c.f 36 4 != 0 || c.f 40 4 != 0 || c.f 44 2 != 0) ||
        (src != 1 && c.f 48 8 != 0) || (src != 2 && c.f 56 4 != 0)),
    (6, notEnabled s n x.draft),
    (7, !spaceOk s n (c.f 32 1) (c.f 24 8) (8 + 4 * maxNew) || (src == 1 && !spaceOk s n (c.f 32 1) (c.f 48 8) 16)),
    (0x0A, src == 2 && !draftOk s (s.ring q).ctx k (c.f 56 4)),
    (0x0B, src != 0 && provExtents s n == 0)]

/-- GENERATE starts (R212, R213, R226, R239): sampling fields are set, the draft sequence is reserved, spilled blocks come back. -/
def startGenerate (s : State) (q : Nat) (idx : BitVec 32) (pre : Bool) : State :=
  match seqWaits s q idx 0x42 with
  | none => s
  | some c =>
    if bit (c.f 33 1) 0 != pre then s
    else seqStart s q idx 0x42 (generateErr s q) (fun s c k =>
      let s1 := runSeq s k q c
      let s2 := if bit (c.f 33 1) 1 then s1.setSeq k { s1.seq k with samp := samplingOf c 36 40 44 } else s1
      let s3 := if !pre && c.f 34 1 = 2 then
          let d := c.f 56 4 % 65536
          s2.setSeq d { s2.seq d with reservedBy := some k }
        else s2
      startPull s3 k)

/-- GENERATE (R212). -/
def execGenerate (ring : Fin 4096) (idx : BitVec 32) (s : State) : Ans := .next (startGenerate s ring idx false)
/-- GENERATE with PREFETCH = 1 (R213). -/
def execGeneratePrefetch (ring : Fin 4096) (idx : BitVec 32) (s : State) : Ans := .next (startGenerate s ring idx true)

/-! ### ABORT and CLOSE -/

/-- End a sequence's queued commands with ABORTED (R214); a FORK that waits for its parent's blocks is among them. -/
def endQueued (s : State) (k : Nat) : State :=
  let x := s.seq k
  let s1 := s.setSeq k { x with queue := [], st := if x.run.isNone && (x.st == .pulling || x.st == .ready) then .idle else x.st }
  x.queue.foldl (fun s p => completeSeq s p.1 p.2 stABORTED 0) s1

/-- End a reservation of the sequence by another's GENERATE (Table 8-7). -/
def endReservation (s : State) (k : Nat) (reset : Bool) : State :=
  match (s.seq k).reservedBy with
  | none => s
  | some m =>
    let s1 := if reset then resetDraft s m else s
    s1.setSeq k { s1.seq k with reservedBy := none }

/-- The sequence is a row of its Sector's running step. -/
def inStep (s : State) (k : Nat) : Bool :=
  match (s.seqSec (s.seq k).sector).step with
  | some p => p.rows.any (fun r => r.slot == k)
  | none => false

/-- What ABORT does (R214, R255): queued commands end; a running one ends at once, or its ABORT goes to the arbiter. -/
def abortSeq (s : State) (k : Nat) (reset : Bool) : State :=
  let s1 := endReservation (endQueued s k) k reset
  let x := s1.seq k
  match x.run with
  | none => s1
  | some u =>
    if inStep s1 k then s1.setSeq k { x with run := some { u with abortPend := true } }
    else endRun (dropWaits s1 (.seq k)) k stABORTED none 4 .idle

/-- ABORT (R214). -/
def execAbort (ring : Fin 4096) (idx : BitVec 32) (s : State) : Ans :=
  .next (match seqWaits s ring idx 0x44 with
    | none => s
    | some c =>
      match nameSeq s (s.ring ring).ctx (c.f 16 4) with
      | .error w => refuseCmd s ring c w
      | .ok k => completeCmd (abortSeq s k true) ring c stDONE 0)

/-- CLOSE (R215, R256): as ABORT; the slot is free at once, or after the running step. A CLOSE of a slot that is CLOSING waits. -/
def execClose (ring : Fin 4096) (idx : BitVec 32) (s : State) : Ans :=
  .next (match seqWaits s ring idx 0x45 with
    | none => s
    | some c =>
      match nameSeq s (s.ring ring).ctx (c.f 16 4) with
      | .error w => refuseCmd s ring c w
      | .ok k =>
        if (s.seq k).st = .closing then s
        else
          let s1 := abortSeq s k false
          let s2 := s1.setSeq k { s1.seq k with closer := some (ring.val, idx) }
          let s3 := s2.setRing ring ((s2.ring ring).put { c with st := .started })
          if inStep s3 k then s3.setSeq k { s3.seq k with st := .closing } else freeSlot s3 k)

/-- ARBITER_ABORT (R255): an ABORT on its way reaches the arbiter. Before the record its row is aborted; after it, the command ends with
ABORTED where the commit has not ended it. -/
def execArbiterAbort (slot : Fin 2048) (s : State) : Ans :=
  .next (let k := slot.val
    let x := s.seq k
    match x.run with
    | none => s
    | some u =>
      if !u.abortPend then s
      else if inStep s k then s.setSeq k { x with run := some { u with aborted := true } }
      else endRun s k stABORTED none 4 .idle)

/-! ### Spills and pulls -/

/-- SPILL_COMPLETE (R225): nothing of the write is outstanding. Rows for the host tier are written to its slot; a page that refuses them
fails the spill. -/
def execSpillComplete (sector : Fin 16) (desc : Nat) (_host : HostView) (s : State) : Ans :=
  .next (let n := sector.val
    let b := s.blk n desc
    if b.st != .spilling || blkWaits s n desc then s
    else if !b.hostTier then spillDone s n desc
    else
      let rs := blkRanges s n b
      let a := slotAddr s n b
      let pages := rs.flatMap (fun r => (List.range (r.2 / 4096 + 2)).map (fun i => a + r.1 + min (4096 * i) (r.2 - 1)))
      if pages.all (hostWriteOk s) then
        let s1 := rs.foldl (fun s r =>
          hostWrite s (s.ctx (stepCtx s n 0)).pasid (a + r.1) (cread s.sm (smKey n (frameAddr s n b + r.1)) r.2) false) s
        spillDone s1 n desc
      else failBlk (raise s evATF 5) n desc ⟨stXLATE, xlateDetail (a / 2 ^ 21) 7⟩)

/-- The bytes that a pull reads from host memory, with their place in the frame: its spill slot, or the parts that lie in the fallback
area (R226, R395). -/
def pullParts (s : State) (n : Nat) (b : Blk) : List (Nat × Nat × Nat) :=
  if b.hostTier then (blkRanges s n b).filterMap (fun r => if r.2 = 0 then none else some (r.1, slotAddr s n b + r.1, r.2))
  else b.fb.map (fun p => (p.1 - b.spillAddr, p.2.1, p.2.2))

/-- PULL_COMPLETE (R226): nothing of the reads is outstanding; what lies in host memory is read now. -/
def execPullComplete (sector : Fin 16) (desc : Nat) (host : HostView) (s : State) : Ans :=
  .next (let n := sector.val
    let b := s.blk n desc
    if b.st != .pulling || blkWaits s n desc then s
    else
      let ps := pullParts s n b
      match ps.find? (fun p => (hostRead host p.2.1 p.2.2).isNone) with
      | some p => failBlk (raise s evATF 5) n desc ⟨stXLATE, xlateDetail (p.2.1 / 2 ^ 21) 7⟩
      | none =>
        let s1 := ps.foldl (fun s p =>
          smPut s n (frameAddr s n b + p.1) ((hostRead host p.2.1 p.2.2).getD [])) s
        pullDone s1 n desc)

end Sys2Proof.Machine
end

