-- ==== Sys2Proof/Machine/Scheduler.lean ====
section
/-!
DEFINITION. The step scheduler (R217 to R222, R230, R233 to R240): configuration, ENABLE, and the formation of a batch.
-/
namespace Sys2Proof.Machine

/-! ### Configuration (R201, R230, Table 7-18) -/

/-- Extents of the metadata area for the values written (R201). -/
def metaExtents (s : State) (n : Nat) : Nat :=
  let d := kvDescs s n
  (2 ^ 26 + 32 * d + 4 * (kvFrames s n + d + bits (spillReg s n) 47 24) + 2 ^ 26 - 1) / 2 ^ 26

/-- Every one of `count` extents from `first` is mapped and lies in the private region. -/
def privateMapped (s : State) (n first count : Nat) : Bool :=
  decide (8192 ≤ first) && decide (first + count ≤ 16384) &&
  (List.range count).all (fun i => (extentSet (s.sector n) (first + i)).isSome)

/-- A step program as it stands in Sector memory: its launches, or nothing where its header, an address of it or its context is not as
R217 and Table 7-18 ask. -/
def readProgram (s : State) (n c : Nat) : Option (List Launch) × State :=
  let a := bits (stepReg s n c) 39 6 * 64
  let rd (o len : Nat) : List Byte := cread s.sm (smKey n (a + o)) len
  if !spaceOk s n 2 a 16 then (none, s)
  else
    let h := rd 0 16
    let count := fieldAt h 0 2
    if count = 0 || 64 < count || fieldAt h 2 2 != 1 || !zeroAt h 4 12 || !spaceOk s n 2 a (16 + 32 * count) then (none, s)
    else
      match memCheck s (plainGroup n (stepCtx s n c)) 0 2 a (16 + 32 * count) with
      | (some _, s1) => (none, s1)
      | (none, s1) =>
        let es := (List.range count).map (fun i => rd (16 + 32 * i) 32)
        let x := s.ctx (stepCtx s n c)
        let ok (e : List Byte) : Bool :=
          decide (fieldAt e 6 2 ≤ 4096) && zeroAt e 16 16 && (fieldAt e 6 2 == 0 || spaceOk s n 2 (fieldAt e 8 8) (fieldAt e 6 2))
        if !(es.all ok) || x.st != .resident || x.sector != n then (none, s1)
        else (some (es.map (fun e => { handle := BitVec.ofNat 32 (fieldAt e 0 4), group := fieldAt e 4 2, argBytes := fieldAt e 6 2,
                                       argAddr := fieldAt e 8 8 })), s1)

/-- The configuration error of an ENABLE, lowest code first; 0 for none (Table 7-18). -/
def cfgErr (s : State) (n : Nat) (programs : Bool) : Nat :=
  let fb := kvFB s n
  let pool := kvPoolFirst s n * 2 ^ 26
  let plen := kvFrames s n * fb
  let last := (pool + plen + 2 ^ 26 - 1) / 2 ^ 26
  let md := kvMetaFirst s n * 2 ^ 26
  let mlen := metaExtents s n * 2 ^ 26
  let pv := provFirst s n * 2 ^ 26
  let pvlen := provExtents s n * 2 ^ 26
  let x := s.sector n
  let sp := spillReg s n
  let m := bits sp 57 48
  if kvNL s n = 0 || kvE s n = 0 || 2 ^ 26 < fb then 1
  else if kvFrames s n = 0 || (decide (kvPoolFirst s n < 8192) && decide (8192 < last)) || decide (16384 < last) ||
      !((List.range (last - kvPoolFirst s n)).all (fun i => (extentSet x (kvPoolFirst s n + i)).isSome)) then 2
  else if !privateMapped s n (kvMetaFirst s n) (metaExtents s n) then 3
  else if rangesMeet pool plen md mlen || rangesMeet pool plen pv pvlen || rangesMeet md mlen pv pvlen then 4
  else if !programs then 5
  else if kvDescs s n < kvFrames s n || 2 ^ 28 < kvDescs s n then 6
  else if (bit sp 63 && !(decide (x.moorFirst ≤ m) && decide (m < x.moorFirst + x.moorCount))) ||
      (bit sp 62 && bits sp 47 24 == 0) || bits sp 15 8 < bits sp 7 0 then 7
  else if provExtents s n != 0 && (!privateMapped s n (provFirst s n) (provExtents s n) || provBufs s n == 0) then 8
  else 0

/-- Offset of SEQ_SEC_SCHED_s. -/
def schedOff (n : Nat) : Nat := 0xB1030 + 0x100 * n

/-- ENABLE of a Sector's scheduler (R230): the configuration is checked; where it is good, the programs are held and batches are
formed. -/
def schedOn (s : State) (n : Nat) : State :=
  if !(s.sector n).exists_ || (s.seqSec n).enabled then s
  else
    let v (c : Nat) : Bool := bit (stepReg s n c) 63
    let p0 := if v 0 then readProgram s n 0 else (none, s)
    let p1 := if v 1 then readProgram p0.2 n 1 else (none, p0.2)
    let s1 := p1.2
    let e := cfgErr s1 n (p0.1.isSome && (!v 1 || p1.1.isSome))
    let x := s1.seqSec n
    if e != 0 then raiseSeq (s1.setSeqSec n { x with cfgErr := e }) n 1
    else
      let prog : Tbl (List Launch) := tput [] (tput [] [] 0 (p0.1.getD [])) 1 (p1.1.getD [])
      let s2 := s1.setSeqSec n { x with cfgErr := 0, enabled := true, program := prog }
      setReg s2 (schedOff n) (setBits (regNow s2 (schedOff n)) 63 63 1)

/-- SCHED_ENABLE (R230). -/
def execSchedEnable (sector : Fin 16) (s : State) : Ans := .next (schedOn s sector)

/-- SCHED_DISABLE (R230): no more batches; the running step completes. -/
def execSchedDisable (sector : Fin 16) (s : State) : Ans :=
  .next (let n := sector.val
    if !(s.sector n).exists_ then s
    else
      let s1 := s.setSeqSec n { s.seqSec n with enabled := false }
      setReg s1 (schedOff n) (setBits (regNow s1 (schedOff n)) 63 63 0))

/-- SEQ_CONFIG_WRITE (R9, R230): a write to a sequence configuration register is accepted while its conditions hold; any other changes
nothing and sets CFG_REFUSED. -/
def execSeqConfigWrite (off size : Nat) (value : Word) (s : State) : Ans :=
  .next (match wrSpan off size value with
    | none => s.emit .unsupported
    | some (base, mask, new) =>
      let n := (base - 0xB1000) / 0x100
      let r := (base - 0xB1000) % 0x100
      if base < 0xB1000 || 16 ≤ n || !(s.sector n).exists_ || !([0, 8, 0x10, 0x18, 0x20, 0x28, 0x38, 0x40].contains r) then s
      else
        let idle := !(s.seqSec n).enabled
        let spills := (s.seqSec n).blk.any (fun b => b.2.st == .spilling || b.2.st == .spilled || b.2.st == .pulling)
        let ok := if r ≤ 0x10 then idle && openSeqs s n == 0 else if r = 0x38 || r = 0x40 then idle && !spills else idle
        if !ok then raiseSeq s n 0
        else
          match regFind base with
          | none => s
          | some row => setReg s base (BitVec.ofNat 64 (row.write (regNow s base).toNat mask new)))

/-! ### Drafts (R233, R237 to R240) -/

/-- Held drafts for text positions from T on, in unbroken order, at most `k`. -/
def heldRun (l : List (Nat × Nat)) (t : Nat) : Nat → List Nat
  | 0 => []
  | k + 1 =>
    match l.find? (fun p => p.1 == t) with
    | some p => p.2 :: heldRun l (t + 1) k
    | none => []

/-- The draft count's bound without the drafts held (R233). -/
def draftBound (x : Seq) (u : SeqRun) : Nat :=
  min (min (fieldAt u.raw 35 1) (fieldAt u.raw 20 4 - u.posted - 1)) (x.maxTokens - x.t - 1)

/-- The draft sequence that a GENERATE reserves. -/
def reservedSeq (s : State) (k : Nat) : Option Nat := (s.seqs.find? (fun p => p.2.reservedBy == some k)).map Prod.fst

/-- What a formation finds of a sequence's drafts: they are these; the row cannot be formed now; the command has ended. -/
inductive Drafts where
  | held (l : List Nat)
  | wait
  | ended
  deriving DecidableEq, Repr

/-- Read the host draft buffer (R237): its translation first, then the header and the tokens needed. -/
def hostDrafts (s : State) (k : Nat) (host : HostView) : Drafts × State :=
  let x := s.seq k
  match x.run with
  | none => (.wait, s)
  | some u =>
    let f := fieldAt u.raw
    let n := x.sector
    let o (a : Nat) : Obj := { space := f 32 1, base := f 48 8 + a, pasid := (s.ctx x.ctx).pasid }
    let stop (s : State) (w : Cond) : Drafts × State := (.ended, endRun s k w.status (some w.detail) 4 .idle)
    let bound := draftBound x u
    -- what of the buffer is read, by its header
    let want (h : List Byte) : Nat :=
      let b := fieldAt h 0 4
      let c := fieldAt h 4 4
      if 65536 < c || !zeroAt h 8 8 || x.t < b then 0 else min bound (b + c - x.t)
    let hd := (hostRead host (f 48 8) 16).getD []
    let ask := if f 32 1 = 3 && x.xl = 0 then
        askSeq s k ([(f 48 8, 16)] ++ (if want hd = 0 then [] else [(f 48 8 + 16 + 4 * (x.t - fieldAt hd 0 4), 4 * want hd)]))
      else (x.xl != 1, s)
    if !ask.1 then (.wait, ask.2)
    else
      let s0 := ask.2.setSeq k { ask.2.seq k with xl := 0 }
      match extentErr s0 n (o 0) 48 16 with
      | some w => stop s0 w
      | none =>
        match objRead s0 n x.ctx (o 0) 16 host with
        | (.error w, s1) => stop s1 w
        | (.ok h, s0) =>
          -- the header is read with an acquire read (R332)
          let s1 := if f 32 1 = 3 then epochUp s0 (s0.ctx x.ctx).slot else s0
          let m := want h
          if m = 0 then (.held [], s1)
          else
            let at_ := 16 + 4 * (x.t - fieldAt h 0 4)
            match extentErr s1 n (o at_) 48 (4 * m) with
            | some w => stop s1 w
            | none =>
              match objRead s1 n x.ctx (o at_) (4 * m) host with
              | (.error w, s2) => stop s2 w
              | (.ok b, s2) => (.held ((List.range m).map (fun i => fieldAt b (4 * i) 4)), s2)

/-- The drafts of a GENERATE's next row (R233, R237, R238, R240). -/
def rowDrafts (s : State) (k : Nat) (host : HostView) : Drafts × State :=
  let x := s.seq k
  match x.run with
  | none => (.wait, s)
  | some u =>
    let bound := draftBound x u
    match x.draftSource with
    | 1 => if bound = 0 then (.held [], s) else hostDrafts s k host
    | 2 =>
      match reservedSeq s k with
      | none => (.held [], s)
      | some _ =>
        let l := heldRun x.drafts x.t bound
        if l.length < bound then (.wait, s) else (.held l, s)
    | 3 => (.held (heldRun x.stash x.t bound), s)
    | _ => (.held [], s)

/-! ### Formation (R220) -/

/-- A batch being formed. -/
structure Form where
  rows : List Row
  tokens : Nat
  held : Bool
  st : State

/-- A sequence may take a row of its own command. -/
def mayRow (s : State) (n : Nat) (draft : Bool) (x : Seq) : Bool :=
  x.sector == n && x.st == .ready && x.draft == draft && (s.ctx x.ctx).st == .resident &&
  (match x.run with | some u => !u.abortPend && u.conds.isEmpty | none => false)

/-- A sequence's continuing row is a decode or verify row of its GENERATE. -/
def continues (x : Seq) : Bool := match x.run with | some u => u.opcode == 0x42 && !bit (fieldAt u.raw 33 1) 0 | none => false
/-- Its row is a prefill row of its APPEND. -/
def prefills (x : Seq) : Bool := match x.run with | some u => u.opcode == 0x41 | none => false

/-- A reserved draft sequence's next row (R240): none, its catch-up row (true), or a draft row. -/
def draftRow (s : State) (n k : Nat) : Option Bool :=
  let x := s.seq k
  match x.reservedBy with
  | none => none
  | some m =>
    let y := s.seq m
    match y.run with
    | none => none
    | some u =>
      if x.sector != n || !(x.st == .idle || x.st == .ready) || y.st != .ready || u.abortPend || x.maxTokens ≤ x.t ||
          (s.ctx x.ctx).st != .resident then none
      else if x.t + 1 = y.t then some true
      else if y.t ≤ x.t && (heldRun y.drafts y.t (draftBound y u)).length < draftBound y u then some false
      else none

/-- A copy-on-write source that is uncorrectable poisons its block (R356, Table 12-2): true where it was. -/
def badCopy (s : State) (n k : Nat) : Bool × State :=
  let x := s.seq k
  let e := x.c / kvB s n
  match tget none x.table e with
  | none => (false, s)
  | some d =>
    let b := s.blk n d
    if b.refs ≤ 1 then (false, s)
    else
      let r := (List.range (kvNL s n * 2)).foldl (fun (acc : Bool × State) lh =>
        let m := memCheck acc.2 (plainGroup n x.ctx) 0 2 (entryAddr s n b.frame 0 (lh / 2) (lh % 2)) ((x.c - e * kvB s n) * kvE s n)
        (acc.1 || m.1.isSome, m.2)) (false, s)
      if r.1 then (true, poisonBlk r.2 n d stMEM) else r

/-- Admit a row: its blocks are allocated or copied (R204, R206), or it is held under R208. -/
def admitRow (f : Form) (n k kind len : Nat) (drafts : List Nat) (buffer : Option Nat) (forced : Bool) : Form :=
  let x := f.st.seq k
  let bad := badCopy f.st n k
  if bad.1 then { f with st := bad.2 }
  else
    match giveBlocks bad.2 n k x.c len with
    | none => { f with held := true, st := bad.2 }
    | some (given, s1) =>
      let r : Row := { slot := k, gen := x.gen, kind := kind, first := x.c, len := len, drafts := drafts, buffer := buffer,
                       given := given, forced := forced }
      { rows := f.rows ++ [r], tokens := f.tokens + len, held := f.held,
        st := s1.setSeq k { s1.seq k with st := .inStep, windowLen := if kind = 0 then 0 else len } }

/-- A free provisional buffer, apart from those the batch has taken (R235). -/
def freeBuf (s : State) (n : Nat) (rows : List Row) : Option Nat :=
  lowestFree ((s.seqSec n).bufs ++ rows.filterMap (·.buffer)) (provBufs s n)

/-- A continuing row (R220, step 1; R233; R240). -/
def addCont (host : HostView) (n : Nat) (draft : Bool) (maxRows limit : Nat) (f : Form) (k : Nat) : Form :=
  let s := f.st
  let x := s.seq k
  let fits (len : Nat) : Bool := decide (f.rows.length < maxRows) && decide (f.tokens + len ≤ limit)
  if mayRow s n draft x && continues x then
    match rowDrafts s k host with
    | (.held l, s1) =>
      let buf := if l.isEmpty then none else freeBuf s1 n f.rows
      match buf with
      | some b => if fits (l.length + 1) then admitRow { f with st := s1 } n k 2 (l.length + 1) l (some b) false else { f with st := s1 }
      | none => if fits 1 then admitRow { f with st := s1 } n k 1 1 [] none false else { f with st := s1 }
    | (_, s1) => { f with st := s1 }
  else if draft then
    match draftRow s n k with
    | none => f
    | some forced =>
      if needsPull s k then { f with st := startPull s k }
      else if fits 1 then admitRow f n k 3 1 [] none forced else f
  else f

/-- A prefill row (R220, step 2). -/
def addPre (n maxRows budget chunk : Nat) (f : Form) (k : Nat) : Form :=
  let x := f.st.seq k
  let w := min (min (x.t - 1 - x.c) chunk) (budget - f.tokens)
  if w = 0 || maxRows ≤ f.rows.length then f else admitRow f n k 0 w [] none false

/-- Slots in ascending order from a slot on, wrapping. -/
def fromSlot (l : List Nat) (first : Nat) : List Nat := l.filter (first ≤ ·) ++ l.filter (· < first)

/-- Prefill sequences in the order their APPENDs started. -/
def prefillOrder (s : State) (n : Nat) (draft : Bool) : List Nat :=
  let l := s.seqs.filter (fun p => mayRow s n draft p.2 && prefills p.2)
  (sortBy (fun (a b : Nat × Seq) => decide ((a.2.run.map (·.started)).getD 0 ≤ (b.2.run.map (·.started)).getD 0)) l).map Prod.fst

/-- Form a batch of a class (R220). -/
def formClass (s : State) (n cls : Nat) (host : HostView) : Form :=
  let f0 : Form := { rows := [], tokens := 0, held := false, st := s }
  if (tget [] (s.seqSec n).program cls).isEmpty || (s.ctx (stepCtx s n cls)).st != .resident then f0
  else
    let draft := cls == 1
    let r := schedReg s n
    let maxRows := atLeast1 (bits r 59 48)
    let budget := atLeast1 (bits r 47 32)
    let chunk := atLeast1 (bits r 31 16)
    let keep := min (bits r 15 0) (budget - 1)
    let pre := prefillOrder s n draft
    let limit := if pre.isEmpty then budget else budget - keep
    let f1 := (fromSlot (tkeys s.seqs) (tget 0 (s.seqSec n).lastRow cls)).foldl (addCont host n draft maxRows limit) f0
    pre.foldl (addPre n maxRows budget chunk) f1

/-- The tokens of a row's window (R236). -/
def rowTokens (s : State) (r : Row) : List Nat :=
  let x := s.seq r.slot
  if r.kind = 0 then (List.range r.len).map (fun i => tget 0 x.text (r.first + i)) else x.pendingTok :: r.drafts

/-- Write the token table of a step into Lantern page 0 of its step context (R236). -/
def writeTokens (s : State) (n ctx : Nat) (rows : List Row) : State :=
  let heads := rows.foldl (fun (acc : List Byte × Nat) r => (acc.1 ++ leBytes 4 acc.2 ++ leBytes 4 r.len ++ leBytes 8 0, acc.2 + r.len)) ([], 0)
  let toks := rows.flatMap (fun r => (rowTokens s r).flatMap (leBytes 4))
  let g := plainGroup n ctx
  spaceWrite (spaceWrite s g 0 1 0 heads.1) g 0 1 0x8000 toks

/-- Sequences that have failed outside a step end their commands (R216, R223, R227). -/
def endFailed (s : State) (n : Nat) : State :=
  s.seqs.foldl (fun s p =>
    let x := s.seq p.1
    if x.sector = n && x.st = .failed && x.run.isSome then endRun s p.1 x.failStatus none 4 .failed else s) s

/-- READY sequences that name a block which is not RESIDENT pull it first. -/
def pullReady (s : State) (n : Nat) : State :=
  s.seqs.foldl (fun s p =>
    let x := s.seq p.1
    if x.sector = n && x.st = .ready && x.run.isSome && needsPull s p.1 then startPull s p.1 else s) s

/-- STEP_BATCH_FORM (R218, R220, R233, R236): no step runs and ENABLE is 1. The classes alternate while both have rows. -/
def execStepBatchForm (sector : Fin 16) (host : HostView) (s : State) : Ans :=
  .next (let n := sector.val
    let x := s.seqSec n
    if !x.enabled || x.step.isSome || !workRuns s n || s.resets.any (fun r => r.rung == 2 && r.target == 16 + n) then s
    else
      let s1 := pullReady (endFailed s n) n
      let c1 := 1 - x.lastCls
      let f1 := formClass s1 n c1 host
      let p : Nat × Form :=
        if f1.rows.isEmpty then
          let f2 := formClass f1.st n (1 - c1) host
          (1 - c1, { f2 with held := f1.held || f2.held })
        else (c1, f1)
      let cls := p.1
      let f := p.2
      let s2 := if f.held then seqCount (raiseSeq f.st n 3) n 11 1 else f.st
      let s3 :=
        if f.rows.isEmpty then s2
        else
          let sec := s2.seqSec n
          let last := ((f.rows.filter (fun r => r.kind != 0)).getLast?).map (·.slot + 1)
          let s3 := writeTokens s2 n (stepCtx s2 n cls) f.rows
          markSeqEngine (s3.setSeqSec n { sec with
            step := some { cls := cls, rows := f.rows, tag := (s2.gen n).curTag },
            bufs := sec.bufs ++ f.rows.filterMap (·.buffer),
            lastRow := match last with | some k => tput 0 sec.lastRow cls k | none => sec.lastRow }) n
      spillPump (s3.setSeqSec n { s3.seqSec n with held := f.held }) n f.held)

end Sys2Proof.Machine
end

