-- ==== Sys2Proof/Machine/Image.lean ====
section
/-!
DEFINITION. The freeze image (R464, Tables 16-4 and 16-5): what each section holds, and the image as bytes.
-/
namespace Sys2Proof.Machine

/-! ### Registers of a Sector (03) -/

/-- CMP_SEC_INFO_s, CMP_SEC_QUOTA_s, CMP_SEC_ALLOT_s, CMP_SEC_EXTENTS_s (R98). -/
def cmpInfo (x : Sector) : Nat :=
  if x.exists_ then x.tenant * 2 ^ 32 + x.drain * 2 ^ 16 + x.slots * 2 ^ 8 + x.kvLog * 2 ^ 4 + (if x.sealed_ then 2 else 0) + 1 else 0
def cmpQuota (x : Sector) : Nat := x.qSeq * 2 ^ 48 + x.qRings * 2 ^ 32 + x.qCtx * 2 ^ 24
def cmpAllot (x : Sector) : Nat := x.moorCount * 2 ^ 48 + x.moorFirst * 2 ^ 32 + (if x.boost then 2 ^ 16 else 0) + x.share
def extentCount (x : Sector) (priv : Bool) : Nat :=
  ((x.stripes.filter (fun t => decide (8192 ≤ t.first) == priv)).map (·.count)).foldl (· + ·) 0
def cmpExtents (x : Sector) : Nat := extentCount x true * 2 ^ 16 + extentCount x false

/-- BAR0 offsets of section 1's registers after the CMP ones, in its order. -/
def savedRegs (n : Nat) : List Nat :=
  [0, 8, 0x10, 0x18, 0x20, 0x28, 0x30, 0x38, 0x40].map (0xB1000 + 0x100 * n + ·) ++ [0x40100 + 8 * n] ++
  [0, 8, 0x10, 0x18, 0x20].map (0x61000 + 0x100 * n + ·)

/-! ### Sections -/

/-- Bytes padded with zeros to a length. -/
def padTo (n : Nat) (bs : List Byte) : List Byte := bs ++ List.replicate (n - bs.length) 0

/-- Section 1. -/
def secSector (s : State) (n : Nat) : List Byte :=
  let x := s.sector n
  padTo 512 ([cmpInfo x, cmpQuota x, cmpAllot x, cmpExtents x].flatMap (leBytes 8) ++ (savedRegs n).flatMap (fun o => leBytes 8 (regNow s o).toNat))

/-- RESIDENT contexts of a Sector, ascending. -/
def savedCtxs (s : State) (n : Nat) : List (Nat × Ctx) := s.ctxs.filter (fun c => c.2.st == .resident && c.2.sector == n)
/-- The class of a context's slot as TND_SLOT_CLASSi holds it. -/
def slotNibble (s : State) (k : Nat) : Nat := bits (regNow s (0x60200 + 8 * (k / 16))).toNat (4 * (k % 16) + 3) (4 * (k % 16))
/-- The descriptor as read at activation (Table 9-4). -/
def ctxDesc (x : Ctx) : List Byte :=
  padTo 64 (leBytes 2 1 ++ leBytes 1 (if x.pasid.isSome then 1 else 0) ++ leBytes 1 x.sector ++ leBytes 4 (x.pasid.getD 0) ++
    leBytes 2 x.lsPages ++ leBytes 2 x.group ++ leBytes 2 x.share ++ leBytes 2 x.watch ++ leBytes 2 x.smFirst ++ leBytes 2 x.smCount)
/-- Section 2. -/
def secCtxs (s : State) (n : Nat) : List (List Byte) :=
  (savedCtxs s n).map (fun c => padTo 96 (leBytes 2 c.1 ++ leBytes 6 (slotNibble s c.2.slot) ++ leBytes 8 (heldPages c.2) ++ ctxDesc c.2))

/-- Rings saved: those not FREE, the privileged ring apart, which goes on through a freeze (R462, R468). -/
def savedRings (s : State) (n : Nat) : List (Nat × Ring) := s.rings.filter (fun r => r.2.st != .free && r.2.kind != 3 && r.2.sector == n)
/-- Section 3. -/
def secRings (s : State) (n : Nat) : List (List Byte) :=
  (savedRings s n).map (fun q =>
    let r := q.2
    padTo 64 (leBytes 2 q.1 ++ leBytes 1 r.kind ++ leBytes 1 (if r.pasid.isSome then 1 else 0) ++ leBytes 2 r.ctx ++ leBytes 2 r.vector ++
      leBytes 8 r.sqBase ++ leBytes 8 r.cqBase ++ leBytes 1 r.sqLog ++ leBytes 1 r.cqLog ++ leBytes 2 r.error ++
      leBytes 4 r.head.toNat ++ leBytes 4 r.tail.toNat ++ leBytes 4 r.cqHead.toNat ++ leBytes 4 r.cqTail.toNat))

/-- Section 4. -/
def secEvents (s : State) (n : Nat) : List (List Byte) :=
  let owns (v : Event) : Bool := v.st != .free && (savedCtxs s n).any (fun c => c.1 == v.owner)
  (s.events.filter (fun e => owns e.2)).map (fun e =>
    let v := e.2
    let st := match v.st with | .free => 0 | .live => 1 | .abandoned => 2
    padTo 32 (leBytes 8 v.value.toNat ++ leBytes 1 st ++ leBytes 1 v.error ++ leBytes 2 v.owner ++ leBytes 2 v.group ++ leBytes 2 v.vector ++
      leBytes 2 e.1))

/-- Code of a slot's state (Table 7-1). -/
def seqStCode : SeqSt → Nat
  | .free => 0 | .idle => 1 | .pulling => 2 | .ready => 3 | .inStep => 4 | .failed => 5 | .closing => 6
def seqStOf (n : Nat) : SeqSt :=
  if n = 1 then .idle else if n = 2 then .pulling else if n = 3 then .ready else if n = 4 then .inStep else if n = 5 then .failed
  else if n = 6 then .closing else .free

/-- The slot record (Table 7-2). -/
def slotRecord (k : Nat) (x : Seq) : List Byte :=
  leBytes 4 x.c ++ leBytes 4 x.t ++ leBytes 4 x.maxTokens ++ leBytes 4 x.pendingTok ++ leBytes 2 k ++ leBytes 2 x.gen.toNat ++
  leBytes 2 x.ctx ++ leBytes 1 (seqStCode x.st) ++ leBytes 1 (if x.draft then 1 else 0) ++ leBytes 8 x.seed.toNat ++
  leBytes 4 x.samp.temp.toNat ++ leBytes 4 x.samp.topP.toNat ++ leBytes 2 x.samp.topK ++ leBytes 1 x.windowLen ++ leBytes 1 x.failStatus ++
  (List.range 4).flatMap (fun i => leBytes 4 (x.stops.getD i 0)) ++ leBytes 4 0

/-- Tokens appended or posted so far by the running command. An APPEND has appended all of its tokens or none. -/
def runProgress (x : Seq) (u : SeqRun) : Nat :=
  if u.opcode = 0x41 then (if x.st = .idle then 0 else fieldAt u.raw 20 4) else u.posted

/-- Open sequences of a Sector, ascending. -/
def savedSeqs (s : State) (n : Nat) : List (Nat × Seq) := s.seqs.filter (fun q => q.2.st != .free && q.2.sector == n)
/-- Section 5. -/
def secSeqs (s : State) (n : Nat) : List (List Byte) :=
  (savedSeqs s n).map (fun q =>
    let x := q.2
    let entry (raw : List Byte) (ring : Nat) (idx : BitVec 32) (done st : Nat) : List Byte :=
      padTo 128 (sub raw 0 64 ++ leBytes 4 ring ++ leBytes 4 idx.toNat ++ leBytes 4 done ++ leBytes 1 st)
    let run := match x.run with | some u => [entry u.raw u.ring u.idx (runProgress x u) 2] | none => []
    let rest := x.queue.filterMap (fun p => (seqCmd s p.1 p.2).map (fun c => entry c.raw p.1 p.2 0 1))
    padTo 2112 (slotRecord q.1 x ++ ((run ++ rest).take 16).flatten))

/-- The last commit record of a class (Table 8-5, R464). -/
def commitOf (x : SeqSec) (c : Nat) : Commit :=
  if x.commit.cls = c && x.commit.step != 0 then x.commit else if x.commitOld.cls = c then x.commitOld else {}
def commitBytes (r : Commit) : List Byte :=
  padTo 32800 (leBytes 8 r.step ++ leBytes 8 (stampWord r.flash r.tick).toNat ++ leBytes 2 r.rows.length ++ leBytes 1 r.cls ++ leBytes 1 r.tag ++
    leBytes 4 0 ++ r.rows.flatMap (fun w => leBytes 4 w.seqId.toNat ++ leBytes 1 w.outcome ++ leBytes 1 w.aPrime ++ leBytes 2 w.d ++
      leBytes 4 w.cAfter ++ leBytes 4 0))
/-- Section 6. -/
def secCommit (s : State) (n : Nat) : List (List Byte) := [commitBytes (commitOf (s.seqSec n) 0), commitBytes (commitOf (s.seqSec n) 1)]

/-- Section 7: each mooring of the range that is not FREE, its registers as they read. -/
def secMoors (s : State) (n : Nat) : List (List Byte) :=
  let x := s.sector n
  ((List.range x.moorCount).map (x.moorFirst + ·)).filterMap (fun m =>
    let v := s.moor m
    if v.st = .free then none
    else
      let st := if v.st = .leased then 1 else 2
      some (padTo 32 (leBytes 8 m ++ leBytes 8 (st * 2 ^ 62 + v.stCtl.toNat % 2 ^ 62) ++ leBytes 8 (v.cur.gen.toNat * 2 ^ 32 + v.expiry.toNat) ++
        leBytes 8 v.stAux.toNat)))

/-- Section 8: mapped private extents but those of the provisional pool and the spill window. -/
def savedExtents (s : State) (n : Nat) : List Nat :=
  ((List.range 8176).map (8192 + ·)).filter (fun e =>
    (extentSet (s.sector n) e).isSome && !(decide (provFirst s n ≤ e) && decide (e < provFirst s n + provExtents s n)))

/-- Pages of section 9 as (context, page number), in order. -/
def savedPages (s : State) (n : Nat) : List (Nat × Nat) :=
  (savedCtxs s n).flatMap (fun c => ((List.range c.2.pages.length).filter (fun p => pageOk c.2 p)).map (fun p => (c.1, p)))

/-- 64 bytes at a line of a memory, or zeros where the line is uncorrectable or poisoned; and whether it is. -/
def pageLine (s : State) (c p i : Nat) : List Byte × Bool :=
  let k := lsKey c (p * 2 ^ 20 + i * 64)
  let bad := s.lsChk.any (fun q => decide (k ≤ q.1) && decide (q.1 < k + 64) && decide (2 ≤ q.2))
  (if bad then List.replicate 64 0 else cread s.ls k 64, bad)
def extentLine (s : State) (n e i : Nat) : List Byte × Bool :=
  let k := smKey n (e * 2 ^ 26 + i * 64)
  let bad := decide (2 ≤ tget 0 s.smChk (k / 64))
  (if bad then List.replicate 64 0 else cread s.sm k 64, bad)

/-! ### The metadata area (R201 to R203) -/

/-- Bytes of a block descriptor (Table 7-3). -/
def blkBytes (b : Blk) : List Byte :=
  let st := match b.st with | .free => 0 | .resident => 1 | .spilling => 2 | .spilled => 3 | .pulling => 4
  padTo 32 (leBytes 4 b.frame ++ leBytes 2 b.refs ++ leBytes 1 st ++
    leBytes 1 ((if b.hostTier then 1 else 0) + (if b.poisoned then 2 else 0) + (if b.fallback then 4 else 0)) ++
    leBytes 2 b.fill ++ leBytes 2 b.mooring ++ leBytes 4 b.lastUse.toNat ++ leBytes 8 b.spillAddr ++ leBytes 2 b.ctx)

/-- Block tables and descriptors laid out in the metadata area. The free lists behind them, whose order is unspecified (R204), are left
as the memory holds them. -/
def saveMeta (s : State) (n : Nat) : State :=
  let base := smKey n (kvMetaFirst s n * 2 ^ 26)
  if kvDescs s n = 0 then s
  else
    let m1 := (savedSeqs s n).foldl (fun m q =>
      cwrite m (base + q.1 * 32768) ((List.range 8192).flatMap (fun j => leBytes 4 ((tget none q.2.table j).getD 0xFFFFFFFF)))) s.sm
    { s with sm := (s.seqSec n).blk.foldl (fun m b => cwrite m (base + 2 ^ 26 + 32 * b.1) (blkBytes b.2)) m1 }

/-- A descriptor as its bytes say. -/
def blkOf (b : List Byte) : Blk :=
  let f := fieldAt b
  { st := if f 6 1 = 1 then .resident else if f 6 1 = 2 then .spilling else if f 6 1 = 3 then .spilled else if f 6 1 = 4 then .pulling else .free,
    frame := f 0 4, refs := f 4 2, hostTier := bit (f 7 1) 0, poisoned := bit (f 7 1) 1, fallback := bit (f 7 1) 2, fill := f 8 2,
    mooring := f 10 2, lastUse := BitVec.ofNat 32 (f 12 4), spillAddr := f 16 8, ctx := f 24 2 }

/-- Read the metadata area back: every descriptor, and the tables of the open sequences. -/
def loadMeta (s : State) (n : Nat) : State :=
  let base := smKey n (kvMetaFirst s n * 2 ^ 26)
  let blk : Tbl Blk := (List.range (kvDescs s n)).foldl (fun t d => tput {} t d (blkOf (cread s.sm (base + 2 ^ 26 + 32 * d) 32))) []
  let s1 := s.setSeqSec n { s.seqSec n with blk := blk }
  (savedSeqs s1 n).foldl (fun s q =>
    let tbl : Tbl (Option Nat) := (List.range 8192).foldl (fun t j =>
      let v := leNat (cread s.sm (base + q.1 * 32768 + 4 * j) 4)
      tput none t j (if v = 0xFFFFFFFF then none else some v)) []
    s.setSeq q.1 { s.seq q.1 with table := tbl }) s1

/-! ### The image -/

/-- A section: record length, count, bytes. -/
structure ISec where
  recLen : Nat
  count : Nat
  bytes : List Byte
  deriving DecidableEq, Repr

def up4k (n : Nat) : Nat := (n + 4095) / 4096 * 4096

/-- Sections 1 to 10, then the poisoned lines as (section index from 0, offset in it). -/
def imageSecs (s : State) (n : Nat) : List ISec × List (Nat × Nat) :=
  let recs (len : Nat) (l : List (List Byte)) : ISec := ⟨len, l.length, l.flatten⟩
  let es := savedExtents s n
  let ps := savedPages s n
  let pl := ps.flatMap (fun p => (List.range 16384).map (pageLine s p.1 p.2))
  let el := es.flatMap (fun e => (List.range 1048576).map (extentLine s n e))
  let bad (i : Nat) (l : List (List Byte × Bool)) : List (Nat × Nat) := (l.zipIdx.filter (·.1.2)).map (fun q => (i, q.2 * 64))
  ([recs 512 [secSector s n], recs 96 (secCtxs s n), recs 64 (secRings s n), recs 32 (secEvents s n), recs 2112 (secSeqs s n),
    recs 32800 (secCommit s n), recs 32 (secMoors s n), recs 2 (es.map (leBytes 2)),
    ⟨1048576, ps.length, pl.flatMap (·.1)⟩, ⟨67108864, es.length, el.flatMap (·.1)⟩],
   bad 8 pl ++ bad 9 el)

/-- Offsets of sections laid out from an offset; and the end. -/
def secOffsets : Nat → List ISec → List Nat × Nat
  | o, [] => ([], o)
  | o, x :: r =>
    let t := secOffsets (if x.count = 0 then o else o + up4k x.bytes.length) r
    ((if x.count = 0 then 0 else o) :: t.1, t.2)

/-- The bytes of the sections, each padded to 4,096. -/
def secBytes (l : List ISec) : List Byte := l.flatMap (fun x => if x.count = 0 then [] else padTo (up4k x.bytes.length) x.bytes)

/-- The whole image with its header but STATE, ERROR and DIGEST: length, bytes 0–239, bytes from 4,096 on. -/
def imageParts (s : State) (n : Nat) : Nat × List Byte × List Byte :=
  let a := imageSecs s n
  let o1 := (secOffsets 4096 a.1).1
  let poison : ISec := ⟨8, a.2.length, a.2.flatMap (fun p => leBytes 8 (o1.getD p.1 0 + p.2))⟩
  let secs := a.1 ++ [poison]
  let o := secOffsets 4096 secs
  let x := s.sector n
  let f := s.frzAt n
  let head := leBytes 8 0x47414D495A46584F ++ leBytes 1 1 ++ leBytes 1 1 ++ leBytes 2 0 ++ leBytes 4 ((o.2 + 2 ^ 26 - 1) / 2 ^ 26) ++
    leBytes 8 o.2 ++ leBytes 8 f.frozenAt.toNat ++ leBytes 8 (regNow s 8).toNat ++ leBytes 4 x.tenant ++ leBytes 1 n ++ leBytes 1 x.kvLog
  (o.2, padTo 64 head ++ (secs.zip o.1).flatMap (fun p => leBytes 8 p.2 ++ leBytes 4 p.1.count ++ leBytes 4 p.1.recLen), secBytes secs)

/-- DIGEST (Table 16-4): over bytes 0–9, 12–239 and 512 to the end. -/
def imageDigest (head body : List Byte) : List Byte :=
  sha384 (sub head 0 10 ++ sub head 12 228 ++ List.replicate 3584 0 ++ body)

/-- The image area is mapped, and apart from the pool, the metadata area, the provisional pool and the step programs (FZ_AREA). -/
def areaOk (s : State) (n first count : Nat) : Bool :=
  let a := first * 2 ^ 26
  let len := count * 2 ^ 26
  let apart (b l : Nat) : Bool := !rangesMeet a len b l
  (unmappedExtent s n a len).isNone && apart (kvPoolFirst s n * 2 ^ 26) (kvFrames s n * kvFB s n) &&
  apart (kvMetaFirst s n * 2 ^ 26) (metaExtents s n * 2 ^ 26) && apart (provFirst s n * 2 ^ 26) (provExtents s n * 2 ^ 26) &&
  (List.range 2).all (fun c => !bit (stepReg s n c) 63 || apart (bits (stepReg s n c) 39 6 * 64) (16 + 32 * 64))

/-- Write bytes into the image area where its first extent is mapped. -/
def imagePut (s : State) (n first off : Nat) (bs : List Byte) : State :=
  if (extentSet (s.sector n) first).isNone then s else smPut s n (first * 2 ^ 26 + off) bs

/-- STATE and ERROR of the header. -/
def imageState (s : State) (n first st err : Nat) : State :=
  let s1 := imagePut s n first 10 (leBytes 1 st ++ leBytes 1 err)
  s1.setFrz n { s1.frzAt n with image := st, error := err }

end Sys2Proof.Machine
end

