-- ==== Sys2Proof/Machine/Freeze.lean ====
section
/-!
DEFINITION. Freezes (R117, R459 to R471): quiescing, frozen Sectors, the image's end, thaws, restores, discards.
-/
namespace Sys2Proof.Machine

/-! ### FREEZE (R459, R460) -/

/-- A freeze takes effect: the Sector is QUIESCING, its waiting activations end. -/
def freezeBegin (s : State) (op : BitVec 64) : State :=
  let n := bits op.toNat 7 0
  let f : Frz := { st := .quiescing, first := bits op.toNat 28 16, extents := bits op.toNat 44 32, edges := (s.sector n).drain }
  let s1 := s.setFrz n f
  (s1.ctxs.filter (fun c => c.2.st == .waiting && c.2.sector == n)).foldl (fun s c => endWait s c.1) s1

/-- The FREEZE action (R459, R117). -/
def freezeAct (s : State) (op : BitVec 64) : State :=
  let n := bits op.toNat 7 0
  if !(s.sector n).exists_ || (s.frzAt n).st != .running then s
  else if (s.gen n).oldLive then s.setFrz n { s.frzAt n with heldOp := some op }
  else freezeBegin s op

/-! ### Frozen (R461 to R463) -/

/-- Work of steps 2 to 4 of R460 is left: a step, a LAUNCH, COPY, FILL or BUFFER that has started, a spill or a pull. -/
def quiesces (s : State) (n : Nat) : Bool :=
  (s.seqSec n).step.isSome || (s.seqSec n).blk.any (fun b => b.2.st == .spilling || b.2.st == .pulling) ||
  s.rings.any (fun r => r.2.sector == n && (r.2.kind == 0 || r.2.kind == 2) &&
    r.2.cmds.any (fun c => c.st == .started && c.opcode != 4 && c.opcode != 3)) ||
  s.groups.any (fun g => match g.2 with | some x => x.sector == n | none => false)

/-- A command of a sequence ring that its sequence runs, or that waits as the sequence's CLOSE. -/
def seqStarted (s : State) (q : Nat) (c : Cmd) : Bool := c.st == .started || heldBySlot s q c.idx
/-- It is queued at its sequence. -/
def seqQueued (s : State) (q : Nat) (c : Cmd) : Bool := s.seqs.any (fun p => p.2.queue.contains (q, c.idx))

/-- A ring at its restart index (R460): the commands from the first that has not started are fetched again. On a sequence ring, commands
that a sequence holds stay with it, up to the first that none holds. -/
def pauseRing (s : State) (q : Nat) : State :=
  let r := s.ring q
  let gone := if r.kind = 1 then
      let tail := (r.cmds.reverse.takeWhile (fun c => !(seqStarted s q c))).reverse
      tail.dropWhile (seqQueued s q)
    else r.cmds
  match gone with
  | [] => s
  | c :: _ =>
    let hit (i : BitVec 32) : Bool := gone.any (fun d => d.idx == i)
    let s1 := s.setRing q { r with head := c.idx, cmds := r.cmds.filter (fun d => !(hit d.idx)) }
    s1.seqs.foldl (fun s p =>
      let x := s.seq p.1
      if x.queue.any (fun e => e.1 == q && hit e.2) then s.setSeq p.1 { x with queue := x.queue.filter (fun e => !(e.1 == q && hit e.2)) } else s) s1

/-- SECTOR_FROZEN (R461 to R463): the Sector is FROZEN; stashes go; the image begins with its header. -/
def execSectorFrozen (sector : Fin 16) (s : State) : Ans :=
  let n := sector.val
  let f := s.frzAt n
  .next (if f.st != .quiescing || quiesces s n then s
  else
    let s1 := s.setFrz n { f with st := .frozen, frozenAt := s.now, writing := true, image := 0, error := 0 }
    let s2 := (s1.rings.filter (fun r => r.2.st != .free && r.2.kind != 3 && r.2.sector == n)).foldl (fun s r => pauseRing s r.1) s1
    let s3 := s2.seqs.foldl (fun s p =>
      if p.2.sector = n && p.2.st != .free then s.setSeq p.1 { s.seq p.1 with stash := [] } else s) s2
    let h := imageParts s3 n
    imagePut (imagePut s3 n f.first 0 (padTo 512 (sub h.2.1 0 240))) n f.first 10 [0, 0])

/-- FREEZE_DEADLINE (R461): a Sector that is not FROZEN by f + D runs again; the header says FZ_BUSY. -/
def execFreezeDeadline (sector : Fin 16) (s : State) : Ans :=
  let n := sector.val
  let f := s.frzAt n
  .next (if f.st != .quiescing || f.edges != 0 then s
  else
    let s1 := imageState s n f.first 2 1
    s1.setFrz n { s1.frzAt n with st := .running })

/-- IMAGE_WRITE_DONE (R463, R464, R465): the image with its header, COMPLETE or FAILED, and the Logbook entry. -/
def execImageWriteDone (sector : Fin 16) (s : State) : Ans :=
  let n := sector.val
  let f := s.frzAt n
  .next (if f.st != .frozen || !f.writing then s
  else
    let s1 := saveMeta s n
    let p := imageParts s1 n
    let err := if !areaOk s1 n f.first f.extents then 3 else if f.extents * 2 ^ 26 < p.1 then 2 else 0
    let s2 := if err = 0 then imagePut (imagePut s1 n f.first 4096 p.2.2) n f.first 512 (List.replicate 3584 0) else s1
    let st := if err = 0 then 1 else 2
    let head := sub p.2.1 0 10 ++ leBytes 1 st ++ leBytes 1 err ++ sub p.2.1 12 228 ++
      (if err = 0 then imageDigest p.2.1 p.2.2 else List.replicate 48 0)
    let s3 := imagePut s2 n f.first 0 (padTo 512 head)
    let s4 := s3.setFrz n { s3.frzAt n with writing := false, image := st, error := err }
    postLog s4 0x70 n false (err + (if err = 0 then 256 else 0)))

/-! ### DISCARD (R470) -/

/-- Everything a Sector holds is gone, with no record posted (R470). A restore that fails is undone so. -/
def discardSector (s : State) (n : Nat) : State :=
  let cs := sectorCtxs s n
  -- rings, the privileged one with its ENABLE bit
  let s1 := (s.rings.filter (fun r => r.2.st != .free && r.2.sector == n)).foldl (fun s r => s.setRing r.1 {}) s
  let s1 := { s1 with regs := tmod 0 s1.regs (secReg n 0x10) (fun w => setBits w 63 63 0) }
  let s2 := cs.foldl (fun s c =>
    let x := s.ctx c
    ((dropPageMoves (s.setCtx c {}) n c)).setWatch x.slot {}) s1
  let s3 := s2.seqs.foldl (fun s p => if p.2.sector = n && p.2.st != .free then s.setSeq p.1 { gen := p.2.gen + 1 } else s) s2
  let s4 := s3.setSeqSec n { s3.seqSec n with blk := [], step := none, bufs := [], enabled := false }
  let s4 := setReg s4 (schedOff n) (setBits (regNow s4 (schedOff n)) 63 63 0)
  let x := s4.sector n
  let s5 := ((List.range x.moorCount).map (x.moorFirst + ·)).foldl (fun (s : State) m => if (s.moor m).st == .free then s else moorTurn s m {}) s4
  s5.events.foldl (fun s e =>
    if e.2.st = .free || !cs.contains e.2.owner then s
    else if e.2.st = .live && waitPending s e.1 then abandonEvent s e.1 6
    else writeEvent (s.setEvent e.1 { s.event e.1 with st := .free }) e.1) s5

/-! ### RESTORE (R468, R469) -/

/-- A Sector that a RESTORE accepts. -/
def mayRestore (s : State) (n : Nat) : Bool :=
  let x := s.sector n
  x.exists_ && (s.frzAt n).st == .running && (sectorCtxs s n).isEmpty &&
  !(s.rings.any (fun r => r.2.st != .free && r.2.kind != 3 && r.2.sector == n)) && openSeqs s n == 0 &&
  (List.range x.moorCount).all (fun i => (s.moor (x.moorFirst + i)).st == .free) && !(s.seqSec n).enabled

/-- The THAW action (R466 to R468, R470). -/
def thawAct (s : State) (op : BitVec 64) : State :=
  let n := bits op.toNat 7 0
  let mode := bits op.toNat 9 8
  let f := s.frzAt n
  if mode = 0 then
    match f.st with
    | .quiescing =>
      let s1 := imageState s n f.first 2 4
      s1.setFrz n { s1.frzAt n with st := .running }
    | .frozen => s.setFrz n { f with st := .running, writing := false }
    | _ => s
  else if mode = 1 then
    if !mayRestore s n then s
    else
      let first := bits op.toNat 28 16
      let st := leNat (cread s.sm (smKey n (first * 2 ^ 26 + 10)) 1)
      let s1 := imagePut s n first 10 (leBytes 1 3 ++ leBytes 1 0)
      s1.setFrz n { st := .restoring, first := first, image := st }
  else if mode = 2 then
    if f.st = .frozen && !f.writing && (f.image = 1 || f.image = 2) then (discardSector s n).setFrz n {} else s
  else s

/-- Section k (1–11) of an image: offset, count, record length. -/
def imgSec (h : List Byte) (k : Nat) : Nat × Nat × Nat := (fieldAt h (64 + 16 * (k - 1)) 8, fieldAt h (72 + 16 * (k - 1)) 4, fieldAt h (76 + 16 * (k - 1)) 4)

/-- The records of a section. -/
def imgRecs (im : List Byte) (k : Nat) : List (List Byte) :=
  let t := imgSec im k
  (List.range t.2.1).map (fun i => sub im (t.1 + t.2.2 * i) t.2.2)

/-- Sections are in order and apart, with the record lengths of Table 16-5, within the image. -/
def secsOk (im : List Byte) : Bool :=
  let lens := [512, 96, 64, 32, 2112, 32800, 32, 2, 1048576, 67108864, 8]
  let w := (List.range 11).foldl (fun (acc : Bool × Nat) i =>
    let t := imgSec im (i + 1)
    if t.2.1 = 0 then (acc.1 && t.1 == 0, acc.2)
    else (acc.1 && t.2.2 == lens.getD i 0 && t.1 % 4096 == 0 && decide (acc.2 ≤ t.1) && decide (t.1 + t.2.1 * t.2.2 ≤ im.length),
          t.1 + t.2.1 * t.2.2)) (true, 4096)
  w.1 && (imgSec im 1).2.1 == 1 && (imgSec im 6).2.1 == 2 && (imgSec im 8).2.1 == (imgSec im 10).2.1

/-- Record fields are within their permitted values (FZ_IMAGE). -/
def recsOk (im : List Byte) : Bool :=
  (imgRecs im 2).all (fun r => decide (fieldAt r 0 2 < 2 ^ 14) && decide (fieldAt r 2 1 < 16) && decide (fieldAt r 8 8 ≤ 1024)) &&
  (imgRecs im 3).all (fun r => decide (fieldAt r 0 2 < 4096) && decide (fieldAt r 2 1 ≤ 2) && decide (fieldAt r 3 1 ≤ 1) &&
    decide (fieldAt r 4 2 < 2 ^ 14) && vectorOk (fieldAt r 6 2) && fieldAt r 8 8 % 4096 == 0 && fieldAt r 16 8 % 4096 == 0 &&
    decide (6 ≤ fieldAt r 24 1) && decide (fieldAt r 24 1 ≤ 16) && decide (6 ≤ fieldAt r 25 1) && decide (fieldAt r 25 1 ≤ 16) &&
    decide (fieldAt r 26 1 ≤ 5)) &&
  (imgRecs im 4).all (fun r => decide (fieldAt r 8 1 ≤ 2) && vectorOk (fieldAt r 14 2)) &&
  (imgRecs im 5).all (fun r => decide (fieldAt r 16 2 < 2048) && decide (1 ≤ fieldAt r 22 1) && decide (fieldAt r 22 1 ≤ 6) && decide (fieldAt r 23 1 ≤ 1) &&
    decide (fieldAt r 42 1 ≤ 16)) &&
  (imgRecs im 7).all (fun r => decide (fieldAt r 0 2 < 1024)) &&
  (imgRecs im 8).all (fun r => decide (8192 ≤ fieldAt r 0 2) && decide (fieldAt r 0 2 < 16384))

/-- FZ_IMAGE (Table 16-6). -/
def imageOk (s : State) (n first st : Nat) (im : List Byte) : Bool :=
  let k := smKey n (first * 2 ^ 26)
  let bad := s.smChk.any (fun p => decide (k / 64 ≤ p.1) && decide (p.1 * 64 < k + im.length) && decide (2 ≤ p.2))
  fieldAt im 0 8 == 0x47414D495A46584F && fieldAt im 8 1 == 1 && fieldAt im 9 1 == 1 && st == 1 && decide (8192 ≤ im.length) &&
  sub im 240 48 == sha384 (sub im 0 10 ++ sub im 12 228 ++ im.drop 512) && secsOk im && recsOk im && !bad

/-- Extents that saved sequence registers name: pool, metadata, provisional pool. -/
def regExtentsOk (s : State) (n : Nat) (im : List Byte) : Bool :=
  let v (i : Nat) : Nat := fieldAt im (4096 + 8 * i) 8
  -- the Sector as it will stand
  let s1 := (savedRegs n).zipIdx.foldl (fun s p => setReg s p.1 (BitVec.ofNat 64 (v (4 + p.2)))) s
  let mapped (f c : Nat) : Bool := (List.range c).all (fun i => (extentSet (s1.sector n) (f + i)).isSome)
  mapped (kvPoolFirst s1 n) ((kvFrames s1 n * kvFB s1 n + 2 ^ 26 - 1) / 2 ^ 26) &&
  (kvDescs s1 n == 0 || mapped (kvMetaFirst s1 n) (metaExtents s1 n)) && mapped (provFirst s1 n) (provExtents s1 n)

/-- The host's descriptor of a saved context. -/
def hostDesc (s : State) (host : HostView) (c : Nat) : Option (List Byte) :=
  match s.tables with
  | some t => hostRead host (t.ctx + 64 * c) 64
  | none => none

/-- FZ_SHAPE (R468). -/
def shapeOk (s : State) (n : Nat) (im : List Byte) (host : HostView) : Bool :=
  let x := s.sector n
  let ext := fieldAt im (4096 + 24) 8
  let cs := imgRecs im 2
  fieldAt im 45 1 == x.kvLog &&
  decide (bits ext 15 0 ≤ extentCount x false) && decide (bits ext 31 16 ≤ extentCount x true) &&
  (imgRecs im 8).all (fun r => (extentSet x (fieldAt r 0 2)).isSome) && regExtentsOk s n im &&
  decide (cs.length ≤ x.qCtx) && decide ((imgRecs im 3).length ≤ x.qRings) && decide ((imgRecs im 5).length ≤ x.qSeq) &&
  (imgRecs im 7).all (fun r => decide (x.moorFirst ≤ fieldAt r 0 2) && decide (fieldAt r 0 2 < x.moorFirst + x.moorCount)) &&
  cs.all (fun r => match hostDesc s host (fieldAt r 0 2) with
    | none => false
    | some d => (descErr n d).isNone && fieldAt d 8 2 == fieldAt r 24 2 && !(fieldAt d 2 1 == 1 && pasidErr s n (fieldAt d 4 4))) &&
  decide ((cs.map (fun r => fieldAt r 8 8)).foldl (· + ·) 0 ≤ (freeLsFrames s n).length)

/-- FZ_NUMBER (Table 16-6). -/
def numbersOk (s : State) (im : List Byte) : Bool :=
  (imgRecs im 3).all (fun r => (s.ring (fieldAt r 0 2)).st == .free) && (imgRecs im 4).all (fun r => (s.event (fieldAt r 16 2)).st == .free) &&
  (imgRecs im 5).all (fun r => (s.seq (fieldAt r 16 2)).st == .free) && (imgRecs im 2).all (fun r => (s.ctx (fieldAt r 0 2)).st == .inactive)

/-- The extents and pages of sections 9 and 10 and the lines of section 11 (R469 steps 2 to 4). `off` is where a section begins. -/
def restoreExtents (s : State) (n : Nat) (im : List Byte) : State :=
  let o := (imgSec im 10).1
  let s1 := (imgRecs im 8).zipIdx.foldl (fun s p => smPut s n (fieldAt p.1 0 2 * 2 ^ 26) (sub im (o + p.2 * 2 ^ 26) (2 ^ 26))) s
  (imgRecs im 11).foldl (fun s r =>
    let a := fieldAt r 0 8
    if o ≤ a && a < o + (imgSec im 10).2.1 * 2 ^ 26 then
      let e := fieldAt ((imgRecs im 8).getD ((a - o) / 2 ^ 26) []) 0 2
      { s with smChk := tput 0 s.smChk (smKey n (e * 2 ^ 26 + (a - o) % 2 ^ 26) / 64) 3 }
    else s) s1

/-- One context is RESIDENT with its pages (R469 step 2). -/
def restoreCtx (s : State) (n : Nat) (r d : List Byte) (data : List Byte) : State :=
  match freeSlotNo s with
  | none => s
  | some k =>
    let c := fieldAt r 0 2
    let cnt := fieldAt r 8 8
    let f := fieldAt d
    let x : Ctx := { st := .resident, sector := n, pasid := if f 2 1 = 1 then some (f 4 4) else none, lsPages := f 8 2, group := f 10 2,
                     share := f 12 2, watch := f 14 2, smFirst := f 16 2, smCount := f 18 2, slot := k, window := windowOf s (f 14 2),
                     pages := ((freeLsFrames s n).take cnt).map some }
    let s1 := epochUp (clearTlm (s.setCtx c x) k) k
    let s2 := { s1 with ls := cwrite (czero s1.ls (lsKey c 0) (2 ^ 30)) (lsKey c 0) data,
                        lsChk := s1.lsChk.filter (fun p => !(lsKey c 0 ≤ p.1 && p.1 < lsKey c 0 + 2 ^ 30)) }
    let o := 0x60200 + 8 * (k / 16)
    (setReg s2 o (setBits (regNow s2 o) (4 * (k % 16) + 3) (4 * (k % 16)) (fieldAt r 2 1))).setWatch k {}

/-- Every context, with its pages and their poisoned lines. -/
def restoreCtxs (s : State) (n : Nat) (im : List Byte) (host : HostView) : State :=
  let o := (imgSec im 9).1
  let bad := (imgRecs im 11).map (fun r => fieldAt r 0 8)
  ((imgRecs im 2).foldl (fun (acc : State × Nat) r =>
    let cnt := fieldAt r 8 8
    let c := fieldAt r 0 2
    let d := (hostDesc acc.1 host c).getD []
    let s1 := restoreCtx acc.1 n r d (sub im (o + acc.2 * 2 ^ 20) (cnt * 2 ^ 20))
    let mine := bad.filter (fun a => decide (o + acc.2 * 2 ^ 20 ≤ a) && decide (a < o + (acc.2 + cnt) * 2 ^ 20))
    let chk := mine.foldl (fun t a => (List.range 64).foldl (fun t i => tput 0 t (lsKey c (a - (o + acc.2 * 2 ^ 20)) + i) 3) t) s1.lsChk
    ({ s1 with lsChk := chk }, acc.2 + cnt)) (s, 0)).1

/-- The rings (R469 step 5). -/
def restoreRings (s : State) (n : Nat) (im : List Byte) : State :=
  (imgRecs im 3).foldl (fun s r =>
    let f := fieldAt r
    let i (o : Nat) : BitVec 32 := BitVec.ofNat 32 (f o 4)
    let x : Ring := { st := if f 26 1 = 0 then .enabled else .stopped, error := f 26 1, kind := f 2 1, sector := n, ctx := f 4 2, vector := f 6 2,
                      pasid := if f 3 1 = 1 then (s.ctx (f 4 2)).pasid else none, sqBase := f 8 8, cqBase := f 16 8, sqLog := f 24 1,
                      cqLog := f 25 1, head := i 28, tail := i 32, cqHead := i 36, cqTail := i 40 }
    s.setRing (f 0 2) x) s

/-- The events (step 6). -/
def restoreEvents (s : State) (im : List Byte) : State :=
  (imgRecs im 4).foldl (fun s r =>
    let f := fieldAt r
    let v : Event := { st := if f 8 1 = 1 then .live else if f 8 1 = 2 then .abandoned else .free, value := BitVec.ofNat 64 (f 0 8), error := f 9 1,
                       owner := f 10 2, group := f 12 2, vector := f 14 2 }
    writeEvent (s.setEvent (f 16 2) v) (f 16 2)) s

/-- A command that a sequence holds joins its ring, before those that come later: `restart` is the ring's restart index. -/
def ringInsert (r : Ring) (c : Cmd) : Ring :=
  let far (d : Cmd) : Nat := (r.head - d.idx).toNat
  { r with cmds := r.cmds.takeWhile (fun d => decide (far c < far d)) ++ c :: r.cmds.dropWhile (fun d => decide (far c < far d)) }

/-- One sequence with its commands (step 7). -/
def restoreSeq (s : State) (n : Nat) (b : List Byte) (host : HostView) : State :=
  let f := fieldAt b
  let k := f 16 2
  let es := ((List.range 16).map (fun i => sub b (64 + 128 * i) 128)).filter (fun e => fieldAt e 76 1 != 0)
  let idxOf (e : List Byte) : Nat × BitVec 32 := (fieldAt e 64 4, BitVec.ofNat 32 (fieldAt e 68 4))
  let run := es.find? (fun e => fieldAt e 76 1 == 2)
  let sec := s.seqSec n
  let u : Option SeqRun := run.map (fun e =>
    { ring := (idxOf e).1, idx := (idxOf e).2, opcode := fieldAt e 0 1, posted := if fieldAt e 0 1 = 0x42 then fieldAt e 72 4 else 0,
      raw := sub e 0 64, started := sec.appends })
  let x : Seq := {
    st := seqStOf (f 22 1), gen := BitVec.ofNat 16 (f 18 2), sector := n, ctx := f 20 2, draft := f 23 1 == 1, c := f 0 4, t := f 4 4,
    maxTokens := f 8 4, pendingTok := f 12 4, seed := BitVec.ofNat 64 (f 24 8),
    samp := { temp := BitVec.ofNat 32 (f 32 4), topP := BitVec.ofNat 32 (f 36 4), topK := f 40 2 }, windowLen := f 42 1, failStatus := f 43 1,
    stops := (List.range 4).map (fun i => f (44 + 4 * i) 4), queue := (es.filter (fun e => fieldAt e 76 1 == 1)).map idxOf, run := u,
    text := if f 4 4 = 0 then [] else tput 0 [] (f 4 4 - 1) (f 12 4) }
  let s1 := es.foldl (fun s e =>
    let i := idxOf e
    s.setRing i.1 (ringInsert (s.ring i.1) { idx := i.2, raw := sub e 0 64, st := if fieldAt e 76 1 = 2 then .started else .queued })) (s.setSeq k x)
  let s2 := s1.setSeqSec n { sec with appends := sec.appends + 1 }
  match u with
  | none => s2
  | some v =>
    if v.opcode = 0x42 then
      -- a draft reservation returns with its GENERATE
      if fieldAt v.raw 34 1 = 2 then
        let d := fieldAt v.raw 56 4 % 65536
        s2.setSeq d { s2.seq d with reservedBy := some k }
      else s2
    else if v.opcode = 0x41 && x.st != .idle then
      -- the tokens of an APPEND are read again
      let g := fieldAt v.raw
      let o : Obj := { space := g 32 1, base := g 24 8, pasid := (s2.ctx x.ctx).pasid }
      match objRead s2 n x.ctx o (4 * g 20 4) host with
      | (.error w, s3) => endRun s3 k w.status (some w.detail) 4 .idle
      | (.ok bs, s3) =>
        let toks := ((List.range (g 20 4)).map (fun i => (x.t - g 20 4 + i, fieldAt bs (4 * i) 4))).filter (fun p => decide (x.c ≤ p.1) && p.2 != 0)
        s3.setSeq k { s3.seq k with text := toks }
    else s2

/-- A commit record. -/
def commitIn (b : List Byte) : Commit :=
  let f := fieldAt b
  { step := f 0 8, flash := BitVec.ofNat 64 (f 8 8 / 4096), tick := f 8 8 % 4096, cls := f 18 1, tag := f 19 1,
    rows := (List.range (f 16 2)).map (fun r =>
      ⟨BitVec.ofNat 32 (f (24 + 16 * r) 4), f (28 + 16 * r) 1, f (29 + 16 * r) 1, f (30 + 16 * r) 1, f (32 + 16 * r) 4⟩) }

/-- Commit records and moorings (step 8). -/
def restoreRest (s : State) (n : Nat) (im : List Byte) : State :=
  let cs := (imgRecs im 6).map commitIn
  let a := cs.getD 0 {}
  let b := cs.getD 1 {}
  let s1 := s.setSeqSec n { s.seqSec n with commit := if a.step < b.step then b else a, commitOld := if a.step < b.step then a else b }
  (imgRecs im 7).foldl (fun s r =>
    let m := fieldAt r 0 2
    let ctl := BitVec.ofNat 64 (fieldAt r 8 8 % 2 ^ 62)
    let lease := fieldAt r 16 8
    let aux := BitVec.ofNat 64 (fieldAt r 24 8)
    let exp := BitVec.ofNat 32 lease
    s.setMoor m { st := if laterFlash s exp then .leased else .expired, cur := ⟨BitVec.ofNat 32 (lease / 2 ^ 32), ctl, aux⟩, expiry := exp,
                  stCtl := ctl, stAux := aux }) s1

/-- RESTORE_DONE (R468, R469): the checks, then everything at once; the Sector runs at the next edge. -/
def execRestoreDone (sector : Fin 16) (host : HostView) (s : State) : Ans :=
  let n := sector.val
  let f := s.frzAt n
  .next (if f.st != .restoring || f.restored then s
  else
    let len := leNat (cread s.sm (smKey n (f.first * 2 ^ 26 + 16)) 8)
    let fits := decide (len ≤ 2 ^ 39 - f.first * 2 ^ 26) && (unmappedExtent s n (f.first * 2 ^ 26) (max 1 len)).isNone
    let im := if fits then cread s.sm (smKey n (f.first * 2 ^ 26)) len else []
    let err := if !fits || !imageOk s n f.first f.image im then 6 else if !shapeOk s n im host then 7 else if !numbersOk s im then 8 else 0
    let ends (s : State) (st : Nat) : State :=
      let s1 := imageState s n f.first st err
      s1.setFrz n { s1.frzAt n with restored := true }
    if err != 0 then ends s 5
    else
      let v (i : Nat) : Nat := fieldAt im (4096 + 8 * i) 8
      let s1 := (savedRegs n).zipIdx.foldl (fun s p =>
        setReg s p.1 (if p.1 = schedOff n then setBits (BitVec.ofNat 64 (v (4 + p.2))) 63 63 0 else BitVec.ofNat 64 (v (4 + p.2)))) s
      let s2 := restoreExtents (restoreCtxs s1 n im host) n im
      let s3 := restoreEvents (restoreRings s2 n im) im
      let s4 := loadMeta ((imgRecs im 5).foldl (fun s b => restoreSeq s n b host) s3) n
      let s5 := restoreRest s4 n im
      let s6 := if bit (v 10) 63 then schedOn s5 n else s5
      ends s6 4)

/-! ### Edges -/

/-- Freezes at a Flash edge: drain limits count (R461), a held freeze begins once the older generation has drained (R117), a restored
Sector runs (R469). -/
def freezeEdge (s : State) : State :=
  (List.range 16).foldl (fun s n =>
    let f := s.frzAt n
    match f.st with
    | .quiescing => s.setFrz n { f with edges := f.edges - 1 }
    | .restoring => if f.restored then s.setFrz n { f with st := .running, restored := false } else s
    | .running => match f.heldOp with
      | some op => if (s.gen n).oldLive then s else freezeBegin s op
      | none => s
    | .frozen => s) s

end Sys2Proof.Machine
end

