-- ==== Sys2Proof/Machine/Loader.lean ====
section
/-!
DEFINITION. The commands of the Light List loader (R92 to R97).
-/
namespace Sys2Proof.Machine

/-- CMP_SUBMIT_GO (R92): the lowest slot that is EMPTY, LIT or FAILED takes the submission. ADDR and LENGTH are the registers'. -/
def execCmpSubmitGo (s : State) : Ans :=
  let free (k : Nat) : Bool := let x := s.slotAt k; x.st == .empty || x.st == .lit || x.st == .failed
  .next (match [0, 1].find? free with
  | none => raise s evCMP 2
  | some k =>
    let x : Slot := { st := .fetching, len := (regNow s 0x20008).toNat % 2 ^ 17, addr := (regNow s 0x20000).toNat / 64 * 64,
                      dependent := (s.slotAt (1 - k)).inProgress }
    let s1 := s.setSlot k x
    { s1 with ll := { s1.ll with lastSlot := k } })

/-- A submission's LENGTH keeps R74. -/
def lengthOk (len : Nat) : Bool := len % 8 == 0 && decide (136 ≤ len) && decide (len ≤ 65536)

/-- LL_FETCH_DONE (R92, R94): the list is in its slot and CHECKING begins; a LENGTH that breaks R74 has nothing fetched. -/
def execLlFetchDone (slot : Fin 2) (bytes : Option (List Byte)) (s : State) : Ans :=
  let x := s.slotAt slot
  .next (if x.st != .fetching then s
  else if !lengthOk x.len then s.setSlot slot { x with st := .checking, began := s.flash.count }
  else match bytes with
    | none => slotFail s slot ⟨llFETCH, 0xFFFF, 0⟩
    | some bs =>
      let l := sub bs 0 x.len
      s.setSlot slot { x with st := .checking, bytes := l, began := s.flash.count, gen := BitVec.ofNat 32 (fieldAt l 12 4),
                              target := BitVec.ofNat 64 (fieldAt l 16 8) })

/-- The base of a list (R93): the composition, or what the list of the other slot would produce; its generation; the target a
dependent list has to follow. -/
def slotBase (s : State) (k : Nat) : Comp × BitVec 32 × Option (BitVec 64) :=
  let o := s.slotAt (1 - k)
  if (s.slotAt k).dependent then
    ((match listRecs o.bytes with | .ok rs => applyList s.sectors rs | .error _ => s.sectors), o.gen, some o.target)
  else (s.sectors, s.ll.litGen, none)

/-- The checks of a slot end (R94). -/
def checkSlot (s : State) (k : Nat) : State :=
  let x := s.slotAt k
  let b := slotBase s k
  match checkList s x.bytes x.len b.1 b.2.1 b.2.2 x.began.toNat with
  | .error e => slotFail s k e
  | .ok _ => s.setSlot k { x with st := .authorising, checked := false }

/-- LL_CHECK_DONE (R93, R94). A list whose base is another list stays in CHECKING until that list is STAGED. -/
def execLlCheckDone (slot : Fin 2) (s : State) : Ans :=
  let x := s.slotAt slot
  .next (if x.st != .checking then s
  else if x.dependent && (s.slotAt (1 - slot)).st != .staged then s.setSlot slot { x with checked := true }
  else checkSlot s slot)

/-- LL_AUTHORISE_DONE (R55, R94): Daymark's check; the loader arms a LIGHT entry, and the slot is STAGED. A list that waited for this
one goes on. -/
def execLlAuthoriseDone (slot : Fin 2) (s : State) : Ans :=
  let x := s.slotAt slot
  .next (if x.st != .authorising then s
  else match authErr s x.bytes with
    | some e => slotFail s slot e
    | none =>
      match satArmUnit s 1 1 x.target (BitVec.ofNat 64 slot) 0 (bit (fieldAt x.bytes 11 1) 1) with
      | none => slotFail s slot ⟨llSATFULL, 0xFFFF, 0⟩
      | some (e, s1) =>
        if (s1.satEntry e).st != .armed then slotFail s1 slot ⟨llMISSED, 0xFFFF, 0⟩
        else
          let s2 := s1.setSlot slot { x with st := .staged, sat := e }
          let o := s2.slotAt (1 - slot)
          if o.dependent && o.checked && o.st == .checking then checkSlot s2 (1 - slot) else s2)

/-- CMP_SLOT_CANCEL (R97). -/
def execCmpSlotCancel (slot : Fin 2) (s : State) : Ans :=
  let x := s.slotAt slot
  let c : LErr := ⟨llCANCELLED, 0xFFFF, 0⟩
  .next (match x.st with
  | .fetching | .checking | .authorising => slotFail s slot c
  | .staged => if (s.satEntry x.sat).st = .armed then slotFail s slot c else s
  | _ => s)

end Sys2Proof.Machine
end

