-- ==== Sys2Proof/Machine/Tender.lean ====
section
/-!
DEFINITION. The commands of the Tender (14): grants and their timeouts, the reserve, ramps, boost windows, limits at the peak.
-/
namespace Sys2Proof.Machine

/-- The queue of an account. -/
def tndQueue (s : State) (acct : Nat) : List Grant := tget [] s.tnd.queues acct
def setQueue (s : State) (acct : Nat) (q : List Grant) : State :=
  { s with tnd := { s.tnd with queues := tput [] s.tnd.queues acct q } }

/-- The work of a request belongs to a context. -/
def Grant.hasCtx (g : Grant) : Bool :=
  match g.who with
  | .tile _ _ | .piece _ _ _ _ | .blk _ _ => true
  | _ => false

/-- TENDER_GRANT (R413): the request at the head of the queue is granted where the account covers it; its estimate comes off the
credit and is charged to its class. -/
def execTenderGrant (account : Fin 17) (s : State) : Ans :=
  .next (match tndQueue s account with
  | [] => s
  | g :: r =>
    if !mayGrant s account g then s
    else
      let s1 := setQueue s account r
      let s2 :=
        if account.val = 16 then s1
        else
          let t := s1.tndSec account
          let s2 := tndCount (s1.setTnd account { t with credit := t.credit - (askedOf s account g : Int) }) account 7 1
          if g.hasCtx then charge s2 account g.cls g.ctx g.est else tndCount s2 account (1 + g.cls) g.est
      waiterGranted s2 g.who)

/-- The request at place i of a queue taken out, or put at its end with its wait begun anew. -/
def removeAt {α : Type} (l : List α) (i : Nat) : List α := l.take i ++ l.drop (i + 1)

/-- GRANT_TIMEOUT (R414, Table 14-5): a request that has waited its Flashes ends; rebind batches, fills and scrub sections are asked
again. -/
def execGrantTimeout (account : Fin 17) (index : Nat) (s : State) : Ans :=
  let q := tndQueue s account
  .next (match q[index]? with
  | none => s
  | some g =>
    if g.edges < grantTimeout s then s
    else
      let s1 := raise (if account.val = 16 then s else tndCount s account 9 1) evTND 7
      let again := setQueue s1 account (removeAt q index ++ [{ g with edges := 0 }])
      match g.who with
      | .rebind _ | .fill _ => { again with rb := { again.rb with timeouts := satAdd 16 again.rb.timeouts 1 } }
      | .scrub _ | .release _ => again
      | .tile c _ => waiterFail (setQueue s1 account (removeAt q index)) g.who (s.core c).group ⟨stGRANT, 0⟩
      | .piece _ _ _ _ | .seq _ | .blk _ _ => waiterFail (setQueue s1 account (removeAt q index)) g.who 0 ⟨stGRANT, 0⟩)

/-- RESERVE_AUTO_UPDATE (R406): every 1,024 Flashes the reserve is the 99th percentile of its measured power over them, plus
10 W, within 100–1,000 W. -/
def execReserveAutoUpdate (p99 : Nat) (s : State) : Ans :=
  .next (if !bit (tndCtl s) 0 || s.tnd.edges1024 < 1024 then s
  else setReg { s with tnd := { s.tnd with edges1024 := 0 } } 0x60008 (BitVec.ofNat 64 (min 1000 (max 100 (p99 + 10)))))

/-- RAMP_DEADLINE (R418): at the deadline of the latest step the average of the last 10 Flashes is judged. -/
def execRampDeadline (s : State) : Ans :=
  let avg := mean s.tnd.avg
  .next (if s.tnd.judged || decide (s.flash.count.toNat < s.tnd.deadline.toNat) then s
  else
    let s1 := { s with tnd := { s.tnd with judged := true } }
    raise s1 evTND (if avg ≤ s.tnd.target + tolerance s && s.tnd.target ≤ avg + tolerance s then 4 else 5))

/-- TND_SCHED_GO (R419): the Tender arms the lowest EMPTY entry of 224–255 with the operand and FLEET given. -/
def execTndSchedGo (value : Word) (s : State) : Ans :=
  let v := value.toNat
  let s1 := setReg s 0x60028 (BitVec.ofNat 64 (bits v 23 0 + bits v 32 32 * 2 ^ 32))
  .next (match satArmUnit s1 3 2 (regNow s1 0x60020) (BitVec.ofNat 64 (bits v 23 0)) 0 (bit v 32) with
  | some (e, s2) => { s2 with tnd := { s2.tnd with schedEntry := e } }
  | none => raise { s1 with tnd := { s1.tnd with schedEntry := 0 } } evTND 8)

/-- TND_SCHED_CANCEL (R419): the entry named in ENTRY is cancelled under R59. -/
def execTndSchedCancel (s : State) : Ans :=
  .next (if s.tnd.schedEntry = 0 then s else satCancelNow s s.tnd.schedEntry)

/-! ### Boost (R420 to R422) -/

/-- The hottest junction site, in quarters of a degree; 0 before any reading (Table of TND_STATUS). -/
def hottest (s : State) : Int := (validSites s).foldl max 0

/-- The conditions of R420. The 600 ms since the last window have passed when its payback has ended. -/
def boostAllowed (s : State) : Bool :=
  !s.tnd.wearSpent && s.kpr.tabSlot != 2 && bits (regNow s 0x38).toNat 15 0 == 2000 && decide (hottest s ≤ 280) &&
  decide ((s.tnd.last.map (·.inlet)).getD 0 ≤ 350) && s.tnd.boost == 0 && s.tnd.emerg.level == 0

/-- BOOST_OPEN (R420): opens the window, or refuses it. -/
def execBoostOpen (value : Word) (s : State) : Ans :=
  let s1 := setReg s 0x60030 (BitVec.ofNat 64 (bits value.toNat 15 8 * 256 + bits (regNow s 0x60030).toNat 0 0))
  .next (if boostAllowed s then
    let s2 := { setReg s1 0x60030 (setBits (regNow s1 0x60030) 0 0 1) with tnd := { s1.tnd with boost := 1, above := 0 } }
    tndModCount (raise s2 evTND 1) 7 1
  else raise (if s.tnd.boost = 1 then s1 else setReg s1 0x60030 (setBits (regNow s1 0x60030) 0 0 0)) evTND 2)

/-- BOOST_CLOSE (R421): the host writes OPEN 0. -/
def execBoostClose (s : State) : Ans := .next (closeBoost s)

/-- BOOST_WINDOW_END (R421): WINDOW_MS has elapsed. -/
def execBoostWindowEnd (s : State) : Ans := .next (closeBoost s)

/-- PAYBACK_END (R421): 600 ms after the window closed. -/
def execPaybackEnd (s : State) : Ans :=
  .next (if s.tnd.boost = 2 then { s with tnd := { s.tnd with boost := 0, above := 0 } } else s)

/-- A die's budget of boost time, ns (R422). -/
def wearBudget : Nat := 4734000 * 10 ^ 9

/-- WEAR_SPENT (R422): a die has used its boost time: the window closes, and none opens again. -/
def execWearSpent (die : Fin 4) (s : State) : Ans :=
  .next (if s.tnd.wearSpent || tget 0 s.tnd.used die < wearBudget then s
  else
    let s1 := closeBoost s
    raise { s1 with tnd := { s1.tnd with wearSpent := true } } evTND 6)

/-- AGEING_READ (R422): the trims that keep the slowest sites above their margins, in multiples of 5 mV to 40; a trim never
decreases. -/
def execAgeingRead (trims : List Nat) (s : State) : Ans :=
  .next { s with tnd := { s.tnd with trim := (List.range 4).foldl (fun t d =>
    let v := trims.getD d 0
    if v % 5 = 0 ∧ v ≤ 40 then tmod 0 t d (max v) else t) s.tnd.trim } }

/-! ### Limits at the peak (R423, R424) -/

/-- VDD_DROOP (R423): the clock of the die is halved; the stretch is counted. -/
def execVddDroop (die : Fin 4) (s : State) : Ans :=
  .next (if s.tnd.droop.contains die.val then s
  else raise (tndModCount { s with tnd := { s.tnd with droop := s.tnd.droop ++ [die.val] } } 3 1) evTND 9)

/-- DROOP_RECOVERY (R423): the rail recovered 64 cycles ago: the clock is whole again. -/
def execDroopRecovery (die : Fin 4) (s : State) : Ans :=
  .next { s with tnd := { s.tnd with droop := s.tnd.droop.filter (· != die.val) } }

/-- A limit applies E1 at once; a boost window closes (R421). -/
def limitE1 (s : State) (cause : Nat) : State :=
  let s1 := applyE1 s cause
  let s2 := { s1 with tnd := { s1.tnd with emerg := { s1.tnd.emerg with clear := 0 } } }
  closeBoost s2

/-- RAIL_OVERCURRENT (R423): a rail current above LIMIT_A; rail 0 is the input. -/
def execRailOvercurrent (rail : Fin 8) (s : State) : Ans := .next (limitE1 s (if rail.val = 0 then 2 else 1))

/-- INPUT_OVERCURRENT (R423): an input current above 75 A. -/
def execInputOvercurrent (s : State) : Ans := .next (limitE1 s 2)

/-- EMERGENCY_ESCALATE (R424): a level that has held for 1 ms with its cause present goes to the next, up to E3. -/
def execEmergencyEscalate (s : State) : Ans :=
  let e := s.tnd.emerg
  .next (if 1 ≤ e.level && e.level ≤ 2 && e.clear = 0 then setEmerg s (e.level + 1) e.cause else s)

/-- EMERGENCY_RELEASE (R424): a level ends once its cause has been absent for 4 Flashes. -/
def execEmergencyRelease (s : State) : Ans :=
  let e := s.tnd.emerg
  .next (if 1 ≤ e.level && 4 ≤ e.clear then setEmerg s (e.level - 1) e.cause else s)

end Sys2Proof.Machine
end

