-- ==== Sys2Proof/Machine/FlashOps.lean ====
section
/-!
DEFINITION. The Flash time base (R40 to R64): what a tick and an edge do, snapshots, the windows of pulses and markers, locking,
steps and HOLDOVER.
-/
namespace Sys2Proof.Machine

/-! ### Snapshots (R62, R63) -/

/-- The bank that a word of BAR0 lies in, by its SNAP_TAG word; none where no bank is (register tables of the owning chapters). -/
def snapBank (off : Nat) : Option Nat :=
  let within (base stride n words : Nat) : Option Nat :=
    if base ≤ off && off < base + stride * n && (off - base) % stride < 8 * words then some (base + (off - base) / stride * stride) else none
  [within 0x30100 0x100 1 11, within 0x44000 0x80 128 12, within 0x48000 0x40 16 6, within 0x48400 0x40 4 6, within 0x48800 0x40 16 6,
   within 0x4E100 0x100 1 11, within 0x51000 0x80 16 13, within 0x60400 0x100 1 9, within 0x61080 0x100 16 12, within 0x90800 0x100 1 9,
   within 0xA8000 0x200 64 64, within 0xB1080 0x100 16 12, within 0x201000 0x10000 16 10].findSome? id

/-- Every bank's SNAP_TAG word. -/
def snapTags : List Nat :=
  [0x30100, 0x4E100, 0x60400, 0x90800] ++ (List.range 128).map (0x44000 + 0x80 * ·) ++ (List.range 4).map (0x48400 + 0x40 * ·) ++
  (List.range 64).map (0xA8000 + 0x200 * ·) ++ (List.range 16).flatMap (fun n =>
    [0x48000 + 0x40 * n, 0x48800 + 0x40 * n, 0x51000 + 0x80 * n, 0x61080 + 0x100 * n, 0xB1080 + 0x100 * n, 0x201000 + 0x10000 * n])

/-- The bank's unit is in reset or in firmware update, so that the bank does not latch (R63): a stopped module, a Lantern or a sequence
engine under an engine reset, the ports while Chain firmware is being activated. -/
def bankHeld (s : State) (bank : Nat) : Bool :=
  let engine (e : Nat) : Bool := s.resets.any (fun r => r.rung == 2 && r.target == e)
  s.hng.stopped ||
  (decide (0x200000 ≤ bank) && engine ((bank - 0x200000) / 0x10000)) ||
  (decide (0xB1000 ≤ bank) && decide (bank < 0xB2080) && engine (16 + (bank - 0xB1080) / 0x100)) ||
  (s.kpr.chainPort.isSome && decide (0x51000 ≤ bank) && decide (bank < 0x51800))

/-- The words of a telemetry page that are not counters (R294): 1, 17 and 18. -/
def tlmWords (s : State) (k : Nat) : List (Nat × BitVec 64) :=
  match slotCtx s k with
  | none => []
  | some c =>
    let x := s.ctx c
    let spill := (x.pages.filter (fun p => p.any (1024 ≤ ·))).length
    let mapped := ((List.range x.smCount).filter (fun i => (extentSet (s.sector x.sector) (x.smFirst + i)).isSome)).length
    [(tlmWord k 1, BitVec.ofNat 64 (2 ^ 63 + x.sector * 2 ^ 16 + c)), (tlmWord k 17, BitVec.ofNat 64 (heldPages x + spill * 2 ^ 16)),
     (tlmWord k 18, BitVec.ofNat 64 mapped)]

/-- A snapshot latches (R62): every bank whose unit runs copies its counters and takes the new sequence number. -/
def snapshot (s : State) : State :=
  let seq := s.flash.snapSeq + 1
  let held (off : Nat) : Bool := (snapBank off).any (bankHeld s)
  let words := (s.ctr.filter (fun p => (snapBank p.1).isSome && !held p.1)) ++
    ((List.range 64).flatMap (tlmWords s)).filter (fun p => !held p.1) ++
    (snapTags.filter (fun b => !bankHeld s b)).map (fun b => (b, seq.setWidth 64))
  { s with
    shadow := words.foldl (fun t p => tput 0 t p.1 p.2) (s.shadow.filter (fun p => held p.1))
    flash := { s.flash with snapSeq := seq, snapFlash := s.flash.count, snapTick := s.flash.tick, takeReq := false } }

/-! ### Scheduled actions (R56 to R61) -/

/-- An action is carried out by its unit (Table 2-4). A snapshot has latched already. -/
def runAction (s : State) (e : Nat) (x : Sat) : State :=
  match x.action with
  | 1 => match slotOfEntry s e with | some k => lightSlot s k | none => s
  | 2 => powerStep s x.op
  | 4 => freezeAct s x.op
  | 5 => thawAct s x.op
  | 6 => scrubReport s x.op.toNat
  | 7 => rekeyStart s (x.op.toNat % 16)
  | _ => s

/-- An entry that is due is issued, or refused where FLEET is set and the module is free-running (R60). -/
def issueEntry (s : State) (e : Nat) : State :=
  let x := s.satEntry e
  if x.st != .armed then s
  else if x.fleet && s.flash.freeRun then lightLost (satEnter s e .refusedFleet) e .refusedFleet
  else runAction (satEnter s e .done) e x

/-- The entries due at the current tick, in ascending index. -/
def dueEntries (s : State) : List Nat :=
  (s.sat.filter (fun p => p.2.st == .armed && p.2.when_ == s.flash.count && p.2.tick == s.flash.tick)).map Prod.fst

/-- A tick's scheduled actions, the snapshot of the tick first (R60, R62). -/
def issueTick (s : State) : State :=
  let due := dueEntries s
  let snap := due.any (fun e => (s.satEntry e).action == 3 && !((s.satEntry e).fleet && s.flash.freeRun))
  due.foldl issueEntry (if snap || s.flash.takeReq then snapshot s else s)

/-- Tick t of the Flash in progress (R51): every 64th moves the Tender's ramp; at 2,048 of every 64th Flash HELLOs go out (R385). -/
def tickTo (s : State) (t : Nat) : State :=
  let s1 := { s with flash := { s.flash with tick := t } }
  let s2 := if t % 64 = 0 then tndTick s1 else s1
  let s3 := if t = 2048 && s.flash.count.toNat % 64 = 0 then (List.range 8).foldl helloSend s2 else s2
  issueTick s3

/-- Entries that a forward step has passed over end MISSED_STEP (R61). -/
def missEntries (s : State) : State :=
  ((s.sat.filter (fun p => p.2.st == .armed && decide (p.2.when_.toNat < s.flash.count.toNat))).map Prod.fst).foldl
    (fun s e => lightLost (satEnter s e .missedStep) e .missedStep) s

/-! ### Sources and states (R47, R49, R50) -/

/-- The nominated port of the FLS_SOURCE in force; none where it is reserved or unavailable. -/
def nominated (s : State) : Option Nat :=
  let p := bits s.flash.srcNow.toNat 15 8
  if p < 16 && availPort s p then some p else none

/-- FLS_SOURCE.SEL in force. -/
def srcSel (s : State) : Nat := bits s.flash.srcNow.toNat 1 0

/-- FLASH_IN is a source under AUTO and FLASH_IN. -/
def usesFlashIn (s : State) : Bool := srcSel s == 0 || srcSel s == 1

/-- The port whose markers the selection may use. -/
def markerPort (s : State) : Option Nat := if srcSel s = 0 || srcSel s = 2 then nominated s else none

/-- The selection names a source (R47). -/
def namesSource (s : State) : Bool := usesFlashIn s || (markerPort s).isSome

/-- Add to a saturating 16-bit field of FLS_ERRCNT. -/
def err16 (n : Nat) : Nat := satAdd 16 n 1

/-- FREE_RUNNING takes a value; FLS_HOLDOVER counts from its last setting. -/
def setFreeRun (f : Flash) (v : Bool) : Flash :=
  { f with freeRun := v, holdFlashes := if v && f.freeRun then f.holdFlashes else 0 }

/-- HOLDOVER is entered at a time: LOST and LOSSES (R47). -/
def enterHoldover (s : State) (at_ : Nat) : State :=
  let f := setFreeRun s.flash true
  raise { s with flash := { f with st := .holdover, src := .none, port := 0, hops := 0, flywheel := 0, holdAt := at_,
                                   losses := err16 s.flash.losses } } evFLS 1

/-! ### The edge (R52) -/

/-- The Flash commit (R14): FLS_SOURCE and CMP_RB_CTL.RATE, where 0 acts as 1 and a value above 4,096 as 4,096, and staged Tender
tables (R488). -/
def flashCommit (s : State) : State :=
  let rate := (regNow s 0x28000).toNat % 8192
  tablesCommit { s with flash := { s.flash with srcNow := regNow s 0x10020 }, rb := { s.rb with rate := max 1 (min 4096 rate) } }

/-- The selection in force after a commit (R47, R50): a source no longer used is not acquired, and a lock without any source is lost. -/
def reselect (s : State) (at_ : Nat) : State :=
  let f := s.flash
  let f := if usesFlashIn s then f else { f with held := none, pend := f.pend.filter (fun p => p.port.isSome) }
  let ok (p : Nat) : Bool := markerPort s == some p
  let f := { f with heldMk := f.heldMk.filter (fun m => ok m.port), pend := f.pend.filter (fun p => p.port.all ok) }
  let s1 := { s with flash := f }
  if f.st = .locked && !namesSource s then enterHoldover s1 at_ else s1

/-- The markers that the module sends at its edge on every port that is up (R49, R388). Their hop count is not stated while the edges
come from no source: a free value. -/
def sendMarkers (s : State) : State :=
  let ps := (List.range 16).filter (fun p => (s.port p).st == .up)
  let hs : Nat × State := if ps.isEmpty then (0, s) else match s.flash.src with
    | .flashIn => (0, s)
    | .chain => (min 15 (s.flash.hops + 1), s)
    | .none => let v := s.fresh; (v.1.toNat % 16, v.2)
  ps.foldl (fun s p =>
    let x := s.lane (8 * p)
    if x.up && !x.held then
      (s.setLane (8 * p) { x with fctr := x.fctr + 1 }).emit (.marker p s.flash.count s.flash.freeRun hs.1)
    else s) hs.2

/-- What the units do at a Flash edge, beside the scheduled actions. -/
def edgeUnits (s : State) : State :=
  let s1 := chainEdge (rehomeEdge (scrubEdge (watchEdge (tndEdge (lightEdge s)))))
  let s2 := deadlineEdge (freezeEdge s1)
  let s3 := if s2.flash.count.toNat % 64 = 0 then (List.range 16).foldl delaySend s2 else s2
  sendMarkers s3

/-- An edge (R52): the ticks not reached with their actions, the count, the Flash commit, then tick 0. `f` puts the new count and what
the edge means for the Flash unit; `at_` is the time of the edge. -/
def flashEdge (s : State) (at_ : Nat) (f : State → State) : State :=
  let s1 := ((List.range 4096).drop (s.flash.tick + 1)).foldl tickTo s
  let s2 := f s1
  let s3 := { s2 with flash := { s2.flash with tick := 0, holdFlashes :=
    if s1.flash.freeRun && s2.flash.freeRun then satAdd 32 s2.flash.holdFlashes 1 else s2.flash.holdFlashes } }
  tickTo (edgeUnits (reselect (flashCommit s3) at_)) 0

/-- The count of the next Flash. -/
def countUp (s : State) : State := { s with flash := { s.flash with count := s.flash.count + 1 } }

/-! ### Windows and locking (R45, R46) -/

/-- A time lies in the window after a grid time: 0 before it, 1 in it, 2 after it. -/
def window (grid p at_ : Nat) : Nat :=
  if 100 * at_ < 100 * grid + 99 * p then 0 else if 100 * at_ ≤ 100 * grid + 101 * p then 1 else 2

/-- The mean of intervals, truncated to ns. -/
def meanGap (l : List Nat) (d : Nat) : Nat := if l.isEmpty then d else l.foldl (· + ·) 0 / l.length

/-- The period a pending lock is seeded with (R46). -/
def PendLock.p (x : PendLock) (d : Nat) : Nat := meanGap x.seed d

/-- A pulse or marker is rejected (R46). -/
def reject (s : State) : State := raise { s with flash := { s.flash with rejects := err16 s.flash.rejects } } evFLS 6

/-- A pending lock is given up: acquisition starts again with nothing held (R45). -/
def abandonLock (s : State) : State := { s with flash := { s.flash with pend := none, held := none, heldMk := none } }

/-- The local edge at a grid time gives way to the pulse that a pending lock awaits: it is the one nearest that pulse, which ends the
Flash in progress (R45). -/
def edgeAwaited (s : State) (grid : Nat) : Bool :=
  match s.flash.pend with
  | none => false
  | some x => decide (2 * x.base + x.p s.flash.est ≤ 2 * grid)

/-- An accepted pulse or marker (R46): its interval, the estimate, its grid time. -/
def acceptGap (f : Flash) (at_ : Nat) : Flash :=
  let gaps := ((at_ - f.grid) :: f.gaps).take 16
  { f with gaps := gaps, est := meanGap gaps f.est, grid := at_, flywheel := 0 }

/-- A step of the count (R45, R61): the offset; the deadlines that name a Flash number keep naming the same edge. -/
def stepCount (s : State) (num : BitVec 64) : State :=
  let d := num - (s.flash.count + 1)
  let s1 := { s with
    flash := { s.flash with count := num, step := d }
    gens := s.gens.map (fun p => (p.1, if p.2.deadDone then p.2 else { p.2 with deadline := p.2.deadline + d }))
    tnd := { s.tnd with deadline := if s.tnd.judged then s.tnd.deadline else s.tnd.deadline + d } }
  missEntries (raise s1 evFLS 3)

/-- The lock is taken at the awaited pulse or marker (R45), which is the edge of the next Flash. -/
def takeLock (s : State) (x : PendLock) (at_ : Nat) (src : FlashSrc) (port hops : Nat) (free : Bool) : State :=
  flashEdge s at_ (fun s =>
    let num := BitVec.ofNat 64 x.num
    let s1 := if s.flash.count + 1 = num then countUp s else stepCount s num
    let f := setFreeRun s1.flash free
    let f := acceptGap { f with gaps := x.seed, grid := x.base, st := .locked, src := src, port := port, hops := min 15 hops,
                                pend := none, held := none, heldMk := none,
                                code := if x.port.isSome then f.code else x.period } at_
    raise { s1 with flash := f } evFLS 0)

/-! ### Frames (R41, R42) -/

/-- One bit step of the CRC (R41). -/
def crcStep (c : BitVec 16) (msb : Bool) : BitVec 16 := if c.msb != msb then (c <<< 1) ^^^ 0x1021 else c <<< 1

/-- CRC-16 of bytes: polynomial 0x1021, initial value 0xFFFF, no reflection, no final XOR (R41). -/
def crc16 (bs : List Byte) : BitVec 16 :=
  bs.foldl (fun c b => (List.range 8).foldl (fun c i => crcStep c (b.getLsbD (7 - i))) c) 0xFFFF

/-- A frame is valid (R42); `start` is when its preamble began. -/
def frameValid (s : State) (p : List Byte) (start : Nat) : Bool :=
  let per := fieldAt p 10 2
  p.length == 14 && fieldAt p 12 2 == (crc16 (p.take 12)).toNat && fieldAt p 0 1 == 1 && fieldAt p 1 1 == 0 &&
  decide (250 ≤ per) && decide (per ≤ 16000) && fieldAt p 2 8 % 64 == 0 &&
  (match s.flash.lastPulse with
   | none => false
   | some t => decide (t + 20000 ≤ start) && decide (start ≤ t + 60000))

/-- Two valid frames match (R44): the second is the first plus 64, of the same period, with exactly 64 pulse intervals between them, each
within Table 2-1. -/
def framesMatch (h : HeldFrame) (num per : Nat) : Bool :=
  num == h.num + 64 && per == h.period && h.gaps.length == 64 &&
  h.gaps.all (fun g => decide (990 * per ≤ g) && decide (g ≤ 1010 * per))

end Sys2Proof.Machine
end

