-- ==== Sys2Proof/Machine/Flash.lean ====
section
/-!
DEFINITION. The commands of the Flash time base (R42 to R62). Times are on the T-domain oscillator, in ns.
-/
namespace Sys2Proof.Machine

/-- A pulse is measured: the interval to the one before it (R44). -/
def notePulse (s : State) (at_ : Nat) : State :=
  let f := s.flash
  let held := match f.held, f.lastPulse with
    | some h, some t => some { h with gaps := (h.gaps ++ [at_ - t]).take 65 }
    | h, _ => h
  { s with flash := { f with lastPulse := some at_, held := held } }

/-- FLASH_PULSE (R45, R46): it completes a pending lock, is the edge of the next Flash while the unit is locked to FLASH_IN, or is only
measured. -/
def execFlashPulse (at_ : Nat) (s : State) : Ans :=
  .next (if !usesFlashIn s then s
  else
    let s1 := notePulse s at_
    let f := s1.flash
    match f.pend.filter (fun x => x.port.isNone) with
    | some x =>
      match window x.base (x.p f.est) at_ with
      | 1 => takeLock s1 x at_ .flashIn 0 0 false
      | 0 => reject s1
      | _ => reject (abandonLock s1)
    | none =>
      if f.st = .locked && f.src = .flashIn then
        if window f.grid f.est at_ = 1 then
          flashEdge s1 at_ (fun s => countUp { s with flash := acceptGap s.flash at_ })
        else reject s1
      else s1)

/-- FLASH_FRAME (R42, R44, R45, R48): judged at the end of its last bit, 15.2 µs after its preamble began. -/
def execFlashFrame (payload : List Byte) (start : Nat) (s : State) : Ans :=
  .next (if !usesFlashIn s then s
  else if !frameValid s payload start then
    raise { s with flash := { s.flash with frameErrs := err16 s.flash.frameErrs } } evFLS 5
  else
    let f := s.flash
    let num := fieldAt payload 2 8
    let per := fieldAt payload 10 2
    let new : HeldFrame := { num := num, period := per, gaps := [] }
    if f.st = .locked && f.src = .flashIn then
      if per = f.code then s
      else
        let s1 := enterHoldover { s with flash := { f with held := some new } } (start + 15200)
        raise s1 evFLS 4
    else if f.pend.any (fun x => x.port.isNone) then s
    else match f.held with
      | none => { s with flash := { f with held := some new } }
      | some h =>
        if framesMatch h num per then
          let x : PendLock := { num := num + 1, period := per, seed := (h.gaps.reverse).take 16, base := f.lastPulse.getD 0 }
          { s with flash := { f with held := none, pend := some x } }
        else { s with flash := { f with held := some new } })

/-- LOCK_WINDOW_EXPIRY (R45): the window closes without the pulse, no lock is taken, and acquisition restarts. -/
def execLockWindowExpiry (at_ : Nat) (s : State) : Ans :=
  .next (match s.flash.pend with
  | none => s
  | some x => if window x.base (x.p s.flash.est) at_ = 2 then abandonLock s else s)

/-- In AUTO the nominated port takes over from a lost FLASH_IN where the count is kept (R50): its last two markers are a pair, and the
newer one is that of the Flash that begins or of the one before it. -/
def chainTakesOver (s : State) : Option HeldMarker :=
  s.flash.heldMk.filter (fun m => srcSel s == 0 && s.flash.src == .flashIn && markerPort s == some m.port && m.pair.isSome &&
    (m.num == s.flash.count.toNat || m.num + 1 == s.flash.count.toNat))

/-- FLYWHEEL_EDGE (R46, R47): the window closes with no accepted pulse. Its grid time is the last one plus P; the eighth in a row enters
HOLDOVER. -/
def execFlywheelEdge (s : State) : Ans :=
  let p := s.flash.est
  .next (if s.flash.st != .locked || edgeAwaited s (s.flash.grid + p) then s
  else
    let now := s.flash.grid + p + p / 100
    flashEdge s now (fun s =>
      let f := s.flash
      let s1 := countUp { s with flash := { f with grid := f.grid + p, flywheel := f.flywheel + 1, flyEdges := err16 f.flyEdges } }
      if s1.flash.flywheel < 8 then s1
      else match chainTakesOver s1 with
        | none => enterHoldover s1 now
        | some m => { s1 with flash := { s1.flash with src := .chain, port := m.port, flywheel := 0, gaps := m.pair.toList,
                                                       est := m.pair.getD s1.flash.est, heldMk := none } }))

/-- HOLDOVER_EDGE (R47): in HOLDOVER or FREE an edge at each grid time, every P. -/
def execHoldoverEdge (s : State) : Ans :=
  let now := s.flash.grid + s.flash.est
  .next (if s.flash.st = .locked || edgeAwaited s now then s
  else flashEdge s now (fun s => countUp { s with flash := { s.flash with grid := now } }))

/-- HOLDOVER_TIMEOUT (R47): after 10 s in HOLDOVER, FREE. -/
def execHoldoverTimeout (at_ : Nat) (s : State) : Ans :=
  .next (if s.flash.st = .holdover && decide (s.flash.holdAt + 10 ^ 10 ≤ at_) then
    raise { s with flash := { s.flash with st := .free } } evFLS 2
  else s)

/-- PHASE_TICK (R51): the next tick, held at 4,095. -/
def execPhaseTick (s : State) : Ans := .next (if s.flash.tick < 4095 then tickTo s (s.flash.tick + 1) else s)

/-- A host write to an entry of 224–255 is ignored (R58). -/
def satWriteErr (s : State) : State := raise s evFLS 8

/-- SAT_ARM (R57). -/
def execSatArm (entry : Fin 256) (s : State) : Ans :=
  .next (if entry.val < 224 then satArmNow s entry.val true else satWriteErr s)

/-- SAT_CANCEL (R59). -/
def execSatCancel (entry : Fin 256) (s : State) : Ans :=
  .next (if entry.val < 224 then satCancelNow s entry.val else satWriteErr s)

/-- SAT_CLEAR (R56): a terminal entry becomes EMPTY; ignored while ARMED. -/
def execSatClear (entry : Fin 256) (s : State) : Ans :=
  .next (if (s.satEntry entry.val).st.terminal then satEnter s entry.val .empty
  else if entry.val < 224 then s else satWriteErr s)

/-- TAKE (R62): a snapshot at the next tick. -/
def execTake (s : State) : Ans := .next { s with flash := { s.flash with takeReq := true } }

/-- A marker serves acquisition (R44, R49): two consecutive markers whose interval meets Table 2-1 make the pair. While FLASH_IN is
locked in AUTO the pair is only kept (R50). -/
def acquireMarker (s : State) (p num at_ : Nat) : State :=
  let f := s.flash
  let pair := f.heldMk.bind (fun m =>
    if m.port = p && m.num + 1 = num && 247500 ≤ at_ - m.at_ && at_ - m.at_ ≤ 16160000 then some (at_ - m.at_) else none)
  let hold : State := { s with flash := { f with heldMk := some { port := p, num := num, at_ := at_, pair := pair } } }
  match pair with
  | none => hold
  | some g =>
    if f.st = .locked && f.src = .flashIn && srcSel s = 0 then hold
    else
      let x : PendLock := { num := num + 1, period := f.code, seed := [g], base := at_, port := some p }
      { s with flash := { f with heldMk := none, pend := some x } }

/-- FLASH_MARKER (R49, R388): the time of a marker is its arrival less EDGE_OFFSET less the link's delay. It is the edge of the next Flash
while the unit is locked to its port, completes a pending lock, or serves to acquire one. -/
def execFlashMarker (port : Fin 16) (number : BitVec 64) (offset : Nat) (freeRun : Bool) (hops : Nat) (at_ : Nat) (s : State) : Ans :=
  let p := port.val
  let t := at_ - offset - (s.port p).delay
  let free := freeRun || decide (7 < hops)
  let f := s.flash
  .next (if (s.port p).st != .up || markerPort s != some p then s
  else if f.st = .locked && f.src = .chain && f.port = p then
    if edgeAwaited s t then s
    else if window f.grid f.est t = 1 then
      flashEdge s t (fun s =>
        let g := setFreeRun s.flash free
        countUp { s with flash := acceptGap { g with hops := min 15 hops } t })
    else reject s
  else match f.pend with
    | none => acquireMarker s p number.toNat t
    | some x =>
      if x.port != some p then s
      else match window x.base (x.p f.est) t with
        | 1 => takeLock s x t .chain p hops free
        | 0 => reject s
        | _ => acquireMarker (reject (abandonLock s)) p number.toNat t)

end Sys2Proof.Machine
end

