-- ==== Sys2Proof/Machine/Keeper.lean ====
section
/-!
DEFINITION. The Keeper (R478 to R492): its mailbox over the host buffer and over the sideband, the sensors, PLDM firmware update, its
restarts, and the messages of the sideband endpoint.
-/
namespace Sys2Proof.Machine

/-! ### The mailbox (R490, R492) -/

/-- No Keeper runs, and Daymark terminates the sideband endpoint: LOST, or BOOT_FAILED at step 3 or 4 (R490). -/
def daymarkEndpoint (s : State) : Bool :=
  s.dmk.running && !s.kpr.runs && (s.kpr.boot.result == 3 || s.kpr.boot.result == 2)

/-- The endpoint answers that a message type is not supported: kind 2. -/
def mctpUnsupported (s : State) : State := s.emit (.mctp 2)

/-- A mailbox command ends: to the host the response from byte 2,048 on, the status and the event; over the sideband one message. -/
def kprFinish (s : State) (via : MboxVia) (result : Nat) (resp : List Byte) : State :=
  match via with
  | .sideband => s.emit (.sideband result resp)
  | .host =>
    let s1 := if resp.isEmpty then s else hostWrite s none ((regNow s 0x70000).toNat / 4096 * 4096 + 2048) resp false
    let s2 := { s1 with kpr := { s1.kpr with seq := s1.kpr.seq + 1, result := result, busy := false } }
    raise (setReg s2 0x70010 2) evKPR 0

/-- Run a request of an opcode. A restarting Keeper answers BUSY to the host and nothing over the sideband (Table 17-10a); a sideband
message holds at most 1,024 bytes. A request of another command is not this one's; one that cannot be fetched, or has no command's
opcode, is malformed. -/
def kprRun (s : State) (via : MboxVia) (req : Option (List Byte)) (op : Nat) (f : List Byte → State × Nat × List Byte) : State :=
  let len := match via with
    | .host => bits (regNow s 0x70008).toNat 11 0
    | .sideband => (req.map List.length).getD 0
  if !s.kpr.runs then (if via == .sideband && daymarkEndpoint s then mctpUnsupported s else s)
  else if s.kpr.st == .restarting then (if via == .host then kprFinish s via mBUSY [] else s)
  else match req with
    | none => if via == .host then kprFinish s via mBAD [] else s
    | some b =>
      let o := fieldAt b 0 1
      if o != op && 1 ≤ o && o ≤ 8 then s
      else match (if o = op && (via == .host || decide (len ≤ 1024)) then mboxBody b len else none) with
        | none => kprFinish s via mBAD []
        | some body =>
          let r := f body
          kprFinish r.1 via r.2.1 r.2.2

/-- The NVM is not open: the command ends with NVM (KPR_EVENTS.NVM_ERR). -/
def nvmFails (s : State) : State × Nat × List Byte := (raise s evKPR 7, mNVM, [])

/-! ### The Logbook's commands (R482, R483, R485) -/

/-- The view of an entry (Table 17-7): 0 host, 1 its Sector, 2 every Sector. -/
def logView (e : LogEv) : Nat :=
  let t := e.typ
  if [0x11, 0x20, 0x30, 0x32, 0x33, 0x34, 0x60, 0x62].contains t then 2
  else if t = 0x80 then (if 4 ≤ bits e.arg.toNat 3 0 then 2 else 1)
  else if [0x40, 0x41, 0x42, 0x43, 0x44, 0x47, 0x51, 0x70].contains t then 1
  else 0

/-- The 24 bytes of an entry (Table 17-6). -/
def logBytes (e : LogEv) : List Byte :=
  leBytes 4 e.seq.toNat ++ leBytes 8 e.when_.toNat ++ leBytes 2 e.typ ++ leBytes 1 e.sector ++
  leBytes 1 ((if e.fatal then 1 else 0) + (if e.freeRun then 2 else 0) + (if e.more then 4 else 0)) ++ leBytes 8 e.arg.toNat

/-- The Logbook, oldest first: what the NVM holds and SRAM does not, then SRAM. -/
def wholeLog (s : State) : List LogEv :=
  let last := s.log.getLast?
  let old := match last with
    | none => s.kpr.nvmLog
    | some l => s.kpr.nvmLog.dropWhile (fun e => decide ((e.seq - l.seq).toNat < 2 ^ 31))
  (old.reverse) ++ s.log.reverse

/-- The entries that a Sector's view sees; a continuation goes with the entry before it. -/
def logFilter (n : Nat) : Bool → List LogEv → List LogEv
  | _, [] => []
  | before, e :: r =>
    let v := logView e
    let sees := if e.typ = 1 then before else v == 2 || (v == 1 && e.sector == n)
    if sees then e :: logFilter n sees r else logFilter n sees r

/-- LOG_READ (R485): entries from FROM_SEQ on. NEXT_SEQ is the SEQ of the first entry that is left, or the next to be posted. -/
def execLogRead (via : MboxVia) (req : Option (List Byte)) (s : State) : Ans :=
  .next (kprRun s via req 1 (fun b =>
    let from_ := BitVec.ofNat 32 (fieldAt b 0 4)
    let most := min (fieldAt b 4 2) (if via == .host then 85 else 42)
    let filter := fieldAt b 6 1
    if b.length != 8 || 1 < filter then (s, mBAD, [])
    else
      let all := wholeLog s
      let seen := if filter = 1 then logFilter (fieldAt b 7 1) false all else all
      let es := seen.filter (fun e => decide ((e.seq - from_).toNat < 2 ^ 31))
      let next := match es.drop most with | e :: _ => e.seq | [] => s.logSeq
      let out := es.take most
      (s, mOK, leBytes 2 out.length ++ [0, 0] ++ leBytes 4 next.toNat ++ out.flatMap logBytes)))

/-- LOG_FLUSH (R483): answers the SEQ of the LOG_FLUSHED entry of the flush that it starts, or that runs. -/
def execLogFlush (via : MboxVia) (req : Option (List Byte)) (s : State) : Ans :=
  .next (kprRun s via req 2 (fun b =>
    if !b.isEmpty then (s, mBAD, [])
    else
      let s1 := startFlush s
      match s1.kpr.flushing with
      | none => nvmFails s
      | some q => (s1, mOK, leBytes 4 q.toNat)))

/-- LOG_ERASE (R485, Table 15-1): in MAKER or RETURNED. SRAM and SEQ stay. -/
def execLogErase (via : MboxVia) (req : Option (List Byte)) (s : State) : Ans :=
  .next (kprRun s via req 3 (fun b =>
    if !b.isEmpty then (s, mBAD, [])
    else if lifeCycle s != 1 && lifeCycle s != 4 then (s, mSTATE, [])
    else if !s.kpr.nvmOk then nvmFails s
    else ({ s with kpr := { s.kpr with nvmLog := [] }, hng := { s.hng with errs := [], dumps := [] } }, mOK, [])))

/-! ### The boot journal's commands (R474, R477) -/

/-- The 16 bytes of a record (Table 17-3). -/
def journalBytes (r : JRec) : List Byte :=
  leBytes 4 r.boot.toNat ++ leBytes 2 r.step ++ leBytes 1 r.level ++ leBytes 1 r.outcome ++ leBytes 4 r.ms ++ leBytes 4 r.detail.toNat

/-- JOURNAL_READ (R492): the level table, and the oldest records from FROM_BOOT on. -/
def execJournalRead (via : MboxVia) (req : Option (List Byte)) (s : State) : Ans :=
  .next (kprRun s via req 4 (fun b =>
    if b.length != 4 then (s, mBAD, [])
    else if !s.kpr.nvmOk then nvmFails s
    else
      let rs := (s.kpr.journal.filter (fun r => decide (fieldAt b 0 4 ≤ r.boot.toNat))).reverse
      (s, mOK, (List.range 128).map (fun i => BitVec.ofNat 8 (tget 0 s.kpr.levels i)) ++
        (rs.take (if via == .host then 119 else 56)).flatMap journalBytes)))

/-- JOURNAL_RETRY (R474, R475): the levels of the mask go to 0, and with CORES every quarantine count. -/
def execJournalRetry (via : MboxVia) (req : Option (List Byte)) (s : State) : Ans :=
  .next (kprRun s via req 5 (fun b =>
    let mask := fieldAt b 0 16
    let flags := fieldAt b 16 1
    if b.length != 17 || 1 < flags then (s, mBAD, [])
    else if !s.kpr.nvmOk then nvmFails s
    else
      ({ s with kpr := { s.kpr with levels := s.kpr.levels.filter (fun p => !bit mask p.1),
                                    quar := if flags = 1 then [] else s.kpr.quar } }, mOK, [])))

/-! ### Sensors (R478) -/

/-- SENSOR_READ (R492): sites and coolant in quarters of a degree, ageing counts. -/
def execSensorRead (via : MboxVia) (req : Option (List Byte)) (s : State) : Ans :=
  .next (kprRun s via req 6 (fun b =>
    if !b.isEmpty then (s, mBAD, [])
    else
      let sites := (s.tnd.last.map (·.sites)).getD []
      let ageing := (s.tnd.last.map (·.ageing)).getD []
      let cool := [(s.tnd.last.map (·.inlet)).getD 0, (s.tnd.last.map (·.outlet)).getD 0]
      (s, mOK, (List.range 160).flatMap (fun i => leBytes 2 ((sites.getD i 0) % 65536).toNat) ++
        cool.flatMap (fun t => leBytes 2 (2 * t / 5)) ++ (List.range 64).flatMap (fun i => leBytes 4 (ageing.getD i 0)))))

/-- OP_OVERRIDE (R492): the operating point of each die, 0xFF to release it; under TENDER_OVERRIDE. -/
def execOpOverride (via : MboxVia) (req : Option (List Byte)) (s : State) : Ans :=
  .next (kprRun s via req 7 (fun b =>
    let ops := b.map BitVec.toNat
    if b.length != 4 || ops.any (fun o => 7 < o && o != 0xFF) then (s, mBAD, [])
    else if !bit s.dmk.rights.toNat 7 then (s, mDENIED, [])
    else
      ({ s with tnd := { s.tnd with override := (List.range 4).foldl (fun t d =>
        let o := ops.getD d 0xFF
        tput none t d (if o = 0xFF then none else some o)) s.tnd.override } }, mOK, [])))

/-- FW_STATUS (R492): for each component the active slot, VERSION of A and of B, and the fuse SVN, four bytes each. -/
def execFwStatus (via : MboxVia) (req : Option (List Byte)) (s : State) : Ans :=
  .next (kprRun s via req 8 (fun b =>
    if !b.isEmpty then (s, mBAD, [])
    else
      (s, mOK, [1, 2, 3, 4].flatMap (fun c =>
        let f := fwOf s c
        leBytes 4 f.active ++ leBytes 4 (imgVersion f.a) ++ leBytes 4 (imgVersion f.b) ++ leBytes 4 (tget 0 s.dmk.fuses.svn c)))))

/-- The sites of the die or stack of a site (Table 17-5): first, count. -/
def siteGroup (i : Nat) : Nat × Nat :=
  if i < 120 then (i / 30 * 30, 30) else if i < 136 then (120, 16) else (i / 2 * 2, 2)

/-- A reading marks its site invalid: outside −20 to 150 °C, or more than 25 °C from every other site of its die or stack. -/
def siteFails (sites : List Int) (i : Nat) : Bool :=
  let v := sites.getD i 0
  let g := siteGroup i
  let others := ((List.range g.2).map (g.1 + ·)).filter (· != i)
  decide (v < -80) || decide (600 < v) || others.all (fun j => decide (100 < (sites.getD j 0 - v).natAbs))

/-- KPR_TEMP_WARN.WARN in quarters of a degree. -/
def warnLevel (s : State) : Int :=
  let w := bits (regNow s 0x70050).toNat 7 0
  (4 * (if 60 ≤ w && w ≤ 110 then w else 100) : Nat)

/-- Degrees, as the registers and entries hold them. -/
def degrees (v : Int) : Nat := ((v / 4) % 256).toNat

/-- One site of a sample: its register byte, validity, and alarm. -/
def siteSample (sites : List Int) (s : State) (i : Nat) : State :=
  let v := sites.getD i 0
  let put (s : State) (b : Nat) : State :=
    let off := 0x70100 + 8 * (i / 8)
    setReg s off (setBits (regNow s off) (8 * (i % 8) + 7) (8 * (i % 8)) b)
  if s.kpr.invalid.contains i then put s 0xFF
  else if siteFails sites i then
    raise (postLog (put { s with kpr := { s.kpr with invalid := i :: s.kpr.invalid } } 0xFF) 0x31 0xFF false i) evKPR 2
  else
    let s1 := put s (degrees v)
    let w := warnLevel s
    if w < v then
      let off := 0x70200 + 8 * (i / 64)
      let s2 := raise (setReg s1 off (setBits (regNow s1 off) (i % 64) (i % 64) 1)) evKPR 1
      if s.kpr.warned.contains i then s2
      else postLog { s2 with kpr := { s2.kpr with warned := i :: s2.kpr.warned } } 0x30 0xFF false (i + degrees v * 256)
    else if v ≤ w - 20 then { s1 with kpr := { s1.kpr with warned := s1.kpr.warned.filter (· != i) } }
    else s1

/-- The junction trip (R423): THERM_TRIP_N, the cores stop, and the Logbook entry. -/
def thermTrip (s : State) (i : Nat) (v : Int) : State :=
  if s.pins.thermTrip then s
  else
    let s1 := { s with pins := { s.pins with thermTrip := true },
                       cores := s.cores.map (fun p => (p.1, if p.2.run == .running || p.2.run == .waiting then { p.2 with run := .stopped } else p.2)) }
    postLog s1 0x33 0xFF true (i + degrees v * 256)

/-- SENSOR_SAMPLE (R478, R403): the monitors are read. The Keeper keeps the sites' registers and alarms; the hub's limits act on their own
(R423): 95 °C closes a boost window, 105 °C applies E1, 115 °C trips. -/
def execSensorSample (r : Readings) (s : State) : Ans :=
  let s1 := { s with tnd := { s.tnd with last := some r } }
  let s2 := if s1.kpr.runs && s1.kpr.st != .restarting then
      let s3 := (List.range (min 160 r.sites.length)).foldl (siteSample r.sites) s1
      setReg s3 0x70048 (BitVec.ofNat 64 (r.inlet % 65536 + r.outlet % 65536 * 65536))
    else s1
  let hot := hottest s2
  let s3 := if 380 ≤ hot then closeBoost s2 else s2
  let s4 := if 420 ≤ hot then limitE1 s3 8 else s3
  .next (match (List.range r.sites.length).find? (fun i => !s4.kpr.invalid.contains i && decide (460 ≤ r.sites.getD i 0)) with
  | some i => thermTrip s4 i (r.sites.getD i 0)
  | none => s4)

/-! ### Firmware update (R486 to R489) -/

/-- PLDM completion codes (PRESUMED from DMTF DSP0267). -/
def plNotInUpdate : Nat := 0x80
def plAlready : Nat := 0x81
def plBadLength : Nat := 0x83
def plBadState : Nat := 0x84
def plIncomplete : Nat := 0x85
def plRetry : Nat := 0x8E

/-- A PLDM response of the Keeper. -/
def pldmOut (s : State) (cmd code : Nat) (body : List Byte) : State := s.emit (.pldm cmd code body)

/-- A PLDM message: a restarting Keeper is silent; where Daymark has the endpoint, the type is not supported (R490). -/
def pldmRun (s : State) (f : State → State) : State :=
  if !s.kpr.runs then (if daymarkEndpoint s then mctpUnsupported s else s)
  else if s.kpr.st == .restarting then s
  else f s

def setPldm (s : State) (p : Pldm) : State := { s with kpr := { s.kpr with pldm := p } }

/-- An update leaves the state that runs it. -/
def pldmIdle (s : State) : State := { s with kpr := { s.kpr with pldm := .idle, comps := [], comp := 0, accepted := [] } }

/-- The state of the firmware device: an activation is over once nothing of it is left (R488). -/
def pldmNow (s : State) : Pldm :=
  if s.kpr.pldm == .activate && !s.kpr.restart && s.kpr.chainPort.isNone && !s.kpr.tables then .idle else s.kpr.pldm

/-- The completion code of a command that its state does not allow. -/
def plWrong (s : State) : Nat := if pldmNow s == .idle then plNotInUpdate else plBadState

/-- Slot size of a component (Table 17-8). -/
def slotSize (c : Nat) : Nat := ([0, 2 ^ 20, 8 * 2 ^ 20, 4 * 2 ^ 20, 2 ^ 20] : List Nat).getD c 0

/-- QUERY_DEVICE_IDENTIFIERS (R487): the PCI Vendor ID and Device ID. -/
def execQueryDeviceIdentifiers (s : State) : Ans :=
  .next (pldmRun s (fun s => pldmOut s 0x01 0 (leBytes 2 Config.vendor.toNat ++ leBytes 2 0x2400)))

/-- GET_FIRMWARE_PARAMETERS (R487): each component with its active and its other version. -/
def execGetFirmwareParameters (s : State) : Ans :=
  .next (pldmRun s (fun s => pldmOut s 0x02 0 ([1, 2, 3, 4].flatMap (fun c =>
    let f := fwOf s c
    leBytes 2 c ++ leBytes 4 (imgVersion (f.image f.active)) ++ leBytes 4 (imgVersion (f.image (1 - f.active)))))))

/-- GET_STATUS (R487, R488): the device's state, and the components whose activation is under way. -/
def execGetStatus (s : State) : Ans :=
  .next (pldmRun s (fun s =>
    let code : Nat := match pldmNow s with
      | .idle => 0 | .learn => 1 | .ready => 2 | .download => 3 | .verify => 4 | .apply => 5 | .activate => 6
    pldmOut s 0x1B 0 (leBytes 1 code ++ leBytes 1 ((if s.kpr.restart then 2 else 0) + (if s.kpr.chainPort.isSome then 8 else 0) +
      (if s.kpr.tables then 16 else 0)))))

/-- REQUEST_UPDATE (R487): refused with RETRY_REQUEST_UPDATE while a boot runs, in SCRAPPED, and while fuses are programmed. -/
def execRequestUpdate (s : State) : Ans :=
  .next (pldmRun s (fun s =>
    if s.kpr.boot.result = 0 || lifeCycle s == 5 || s.dmk.prog.isSome then pldmOut s 0x10 plRetry []
    else if pldmNow s != .idle then pldmOut s 0x10 plAlready []
    else pldmOut (setPldm (pldmIdle s) .learn) 0x10 0 []))

/-- PASS_COMPONENT_TABLE (R487): the components of the update, 1 to 4. -/
def execPassComponentTable (components : List (Fin 5)) (s : State) : Ans :=
  .next (pldmRun s (fun s =>
    if pldmNow s != .learn then pldmOut s 0x13 (plWrong s) []
    else
      let s1 := { s with kpr := { s.kpr with comps := (components.map Fin.val).filter (· != 0), pldm := .ready } }
      pldmOut s1 0x13 0 []))

/-- UPDATE_COMPONENT (R487): the transfer of one component's image into its inactive slot begins. -/
def execUpdateComponent (component : Fin 5) (s : State) : Ans :=
  .next (pldmRun s (fun s =>
    if pldmNow s != .ready then pldmOut s 0x14 (plWrong s) []
    else if !s.kpr.comps.contains component.val then pldmOut s 0x14 0 [1]
    else
      let f := fwOf s component
      let s1 := setFw s component (f.put (1 - f.active) [])
      pldmOut { s1 with kpr := { s1.kpr with comp := component, pldm := .download, accepted := s1.kpr.accepted.filter (· != component.val) } } 0x14 0 [0]))

/-- REQUEST_FIRMWARE_DATA (R487): at most 4,096 bytes of the image, into the inactive slot; nothing past the slot's size. -/
def execRequestFirmwareData (data : List Byte) (s : State) : Ans :=
  .next (pldmRun s (fun s =>
    let f := fwOf s s.kpr.comp
    let got := f.image (1 - f.active)
    if s.kpr.pldm != .download then pldmOut s 0x15 (plWrong s) []
    else if 4096 < data.length || slotSize s.kpr.comp < got.length + data.length then pldmOut s 0x15 plBadLength []
    else pldmOut (setFw s s.kpr.comp (f.put (1 - f.active) (got ++ data))) 0x15 0 []))

/-- TRANSFER_COMPLETE (R487). -/
def execTransferComplete (s : State) : Ans :=
  .next (pldmRun s (fun s =>
    if s.kpr.pldm != .download then pldmOut s 0x16 (plWrong s) [] else pldmOut (setPldm s .verify) 0x16 0 []))

/-- Daymark's check of an image (R486): the mailbox result; layout and DIGEST, signature, security version. -/
def imageCheck (s : State) (c : Nat) (b : List Byte) : Nat :=
  let len := fieldAt b 24 4
  if b.length < 256 || fieldAt b 0 8 != 0x47414D495746584F || fieldAt b 8 1 != 1 || fieldAt b 9 1 != c || !zeroAt b 10 2 || 64 < imgSvn b ||
     1 < fieldAt b 20 1 || !zeroAt b 21 3 || len != b.length || slotSize c < len || !zeroAt b 28 4 || !zeroAt b 176 80 then mBAD
  else if sha384 (b.take 32 ++ b.drop 256) != sub b 32 48 || !ecdsaOk s.dmk.fuses.fwKey (sha384 (b.take 80)) (be48 b 80) (be48 b 128) then mCERT
  else if imgSvn b < tget 0 s.dmk.fuses.svn c then mSTATE
  else mOK

/-- VERIFY_COMPLETE (R486, R487): what Daymark's check of the image finds; a refused image is not applied, and writes FW_REFUSED. -/
def execVerifyComplete (s : State) : Ans :=
  .next (pldmRun s (fun s =>
    let c := s.kpr.comp
    let f := fwOf s c
    let b := f.image (1 - f.active)
    if s.kpr.pldm != .verify then pldmOut s 0x17 (plWrong s) []
    else
      let r := imageCheck s c b
      if r = mOK then pldmOut (setPldm s .apply) 0x17 0 [0]
      else pldmOut (setPldm (fwRefused s c 0xFF (1 - f.active) (imgVersion b) r) .ready) 0x17 0 [1]))

/-- APPLY_COMPLETE (R487): the image may be activated. -/
def execApplyComplete (s : State) : Ans :=
  .next (pldmRun s (fun s =>
    if s.kpr.pldm != .apply then pldmOut s 0x18 (plWrong s) []
    else pldmOut { s with kpr := { s.kpr with pldm := .ready, accepted := s.kpr.accepted ++ [s.kpr.comp] } } 0x18 0 []))

/-- The slot pointer of a component switches (R484, R488); COMMIT waits for the next BOOT_DONE (R489). -/
def switchSlot (s : State) (c : Nat) : State :=
  let f := fwOf s c
  let slot := 1 - f.active
  setFw s c { f with active := slot, commit := bit (fieldAt (f.image slot) 20 1) 0 }

/-- A component goes into service (Table 17-10a). -/
def activateComp (s : State) (c : Nat) : State :=
  let f := fwOf s c
  let slot := 1 - f.active
  let v := imgVersion (f.image slot)
  if c = 1 then
    let s1 := switchSlot s 1
    { s1 with kpr := { s1.kpr with restart := true } }
  else if c = 2 then
    let lit (n : Nat) : Bool := (s.resAt (resLantern n)).st != .unlit
    if (List.range 16).any (fun n => lit n && (tget 0 s.kpr.ucode n).toNat / 2 ^ 24 != v / 2 ^ 24) then fwRefusedFree s 2 0xFF slot v
    else fwActivated (((List.range 16).filter (fun n => !lit n)).foldl takeUcode (switchSlot s 2)) 2 0xFF slot
  else if c = 3 then chainFwGo (List.range 16) (switchSlot s 3)
  else if (regNow s 0x70040).toNat ≤ s.flash.count.toNat then fwRefusedFree s 4 0xFF slot v
  else
    let s1 := switchSlot s 4
    { s1 with kpr := { s1.kpr with tables := true } }

/-- ACTIVATE_FIRMWARE (R488): every accepted component, in ascending order; the Keeper restarts last, and waits for a flush and for
fuse programming (R491). -/
def execActivateFirmware (s : State) : Ans :=
  .next (pldmRun s (fun s =>
    if pldmNow s != .ready then pldmOut s 0x1A (plWrong s) []
    else if s.kpr.accepted.isEmpty then pldmOut s 0x1A plIncomplete []
    else
      let s1 := ([1, 2, 3, 4].filter (s.kpr.accepted.contains ·)).foldl activateComp s
      tryRestart (pldmOut (setPldm (pldmIdle s1) .activate) 0x1A 0 [])))

/-- CANCEL_UPDATE_COMPONENT (R487): the component under way is given up; an image cut in its transfer is invalid. -/
def execCancelUpdateComponent (s : State) : Ans :=
  .next (pldmRun s (fun s =>
    let p := s.kpr.pldm
    if p == .download || p == .verify || p == .apply then pldmOut (setPldm (imageCut s) .ready) 0x1C 0 []
    else pldmOut s 0x1C (plWrong s) []))

/-- CANCEL_UPDATE (R487): the update is given up; active slots are unchanged. -/
def execCancelUpdate (s : State) : Ans :=
  .next (pldmRun s (fun s =>
    if pldmNow s == .idle || pldmNow s == .activate then pldmOut s 0x1D (plWrong s) []
    else pldmOut (pldmIdle (imageCut s)) 0x1D 0 []))

/-! ### Restarts (R488, R491) -/

/-- A boot step that ran when the watchdog fired is taken at its next level; with no level left, as Table 17-2 states. -/
def retakeStep (s : State) (x : BStep) : State :=
  if s.kpr.boot.result != 0 then s
  else if x.level < stepMax x.id then runLevel s 0 x.id (x.level + 1)
  else if stepFatal x.id then bootFailed s x.id
  else runLevel s 0 x.id x.level

/-- KEEPER_RESTART_DONE (R488): the Keeper runs on its active slot, takes what the collector held, and reports; a reset of the module that
waited for it starts. -/
def execKeeperRestartDone (s : State) : Ans :=
  .next (if s.kpr.st != .restarting then s
  else
    let cause := s.kpr.cause
    let slot := (fwOf s 1).active
    let st : KprSt := if s.kpr.boot.result = 1 then .running else if s.kpr.boot.result = 2 then .failed else .booting
    let s1 := pldmIdle { s with kpr := { s.kpr with st := st, cause := 0, slot := slot } }
    let s2 := takeCollector s1
    let s3 := raise (postLog s2 0x22 0xFF (cause == 2) cause) evKPR 8
    let s4 := if cause = 1 then fwActivated s3 1 0xFF slot
      else if s3.kpr.boot.result = 0 then (s3.kpr.boot.steps.filter (fun x => !x.ended)).foldl retakeStep s3 else s3
    startWaiting s4)

/-- KEEPER_WATCHDOG (R491): one second without service: the Keeper restarts on its active slot with cause 2; running boot steps are
unfinished. -/
def execKeeperWatchdog (s : State) : Ans :=
  .next (if !s.kpr.runs || s.kpr.st == .restarting then s
  else
    let b := s.kpr.boot
    let s1 := if b.result = 0 then (b.steps.filter (fun x => !x.ended)).foldl (fun s x => journalPut s x.id x.level 5 0 0) s else s
    keeperRestart s1 2)

/-! ### The sideband endpoint (R490) -/

/-- MCTP_CONTROL (R490): answered by the Keeper (kind 0), or by Daymark where no Keeper runs; a restarting Keeper is silent. -/
def execMctpControl (s : State) : Ans :=
  .next (if s.kpr.runs then (if s.kpr.st == .restarting then s else s.emit (.mctp 0))
  else if daymarkEndpoint s then s.emit (.mctp 0) else s)

/-- KEEPER_CONSOLE (R490, Table 15-8): carried (kind 1) where the right is granted; elsewhere the type is not supported. -/
def execKeeperConsole (s : State) : Ans :=
  .next (if !s.kpr.runs then (if daymarkEndpoint s then mctpUnsupported s else s)
  else if s.kpr.st == .restarting then s
  else if bit s.dmk.rights.toNat 4 then s.emit (.mctp 1) else mctpUnsupported s)

end Sys2Proof.Machine
end

