-- ==== Sys2Proof/Machine/Hang.lean ====
section
/-!
DEFINITION. Watch expiries, the host's resets, escalation, crash dumps and their copies (R493 to R511), the Function Level Reset (R259),
and the test port (R526).
-/
namespace Sys2Proof.Machine

/-! ### Watch expiries (R496 to R498) -/

/-- DETAIL of PROGRESS_TIMEOUT (R498). -/
def progressDetail (s : State) (window engine kind : Nat) : BitVec 64 :=
  BitVec.ofNat 64 (s.flash.count.toNat % 2 ^ 32 * 2 ^ 32 + window % 2 ^ 16 * 2 ^ 16 + engine * 2 ^ 8 + kind)

/-- Note a condition on the commands of rings that `p` picks. -/
def noteCmds (s : State) (w : Cond) (p : Nat → Ring → Cmd → Bool) : State :=
  s.rings.foldl (fun s r => r.2.cmds.foldl (fun s c =>
    if p r.1 r.2 c then
      match (s.ring r.1).find c.idx c.buf with
      | some d => noteCond s r.1 d w
      | none => s
    else s) s) s

/-- A running step of a Sector fails with a condition when its work ends (R223). -/
def noteStep (s : State) (n : Nat) (w : Cond) : State :=
  let x := s.seqSec n
  match x.step with
  | none => s
  | some p => s.setSeqSec n { x with step := some { p with failed := some (p.failed.getD w) } }

/-- An engine's watch has reached its window and has not acted (R495). -/
def engineDue (s : State) (e : Nat) : Bool :=
  let w := s.watchAt (64 + e)
  !w.fired && decide (engineWindow s ≤ w.quiet)

/-- A rung that a watch or an escalation asks for: started, or STUCK where it is greater than AUTO_MAX (R502). -/
def rungOrStuck (s : State) (rung : Nat) (start : State → State) : State :=
  if rung ≤ autoMax s then start s
  else raise { s with hng := { s.hng with stuck := true } } evHNG 4

/-- CONTEXT_WATCH_EXPIRY (R496): at an edge the engine watches act first (Table 18-7). A context that is being reset has no second
reset, and its commands are that reset's. -/
def execContextWatchExpiry (slot : Fin 64) (s : State) : Ans :=
  let k := slot.val
  let w := s.watchAt k
  .next (match slotCtx s k with
  | none => s
  | some c =>
    match ctxWindow (s.ctx c) with
    | none => s
    | some n =>
      if w.fired || w.quiet < n || (List.range 32).any (engineDue s) then s
      else
        let resetting := (s.ctx c).st == .resetting
        let d := progressDetail s n 0xFF 1
        let s1 := if resetting then s
          else noteCmds s ⟨stPROGRESS, d⟩ (fun _ r x => r.kind != 3 && r.ctx == c && x.st == .started)
        let s2 := s1.setWatch k { w with fired := true, expired := true }
        let s3 := hngCount (raise s2 evHNG 0) 1 1
        if resetting then s3 else rungOrStuck s3 1 (fun s => startCtxReset s c stPROGRESS 1))

/-- The groups with a core on a Lantern. -/
def onLantern (n : Nat) (g : Option Group) : Bool :=
  match g with | some x => x.cores.any (fun c => c / 12 == n) | none => false

/-- ENGINE_WATCH_EXPIRY (R497): every command with work on the engine ends with PROGRESS_TIMEOUT once the engine's reset has removed it. -/
def execEngineWatchExpiry (engine : Fin 32) (s : State) : Ans :=
  let e := engine.val
  .next (if !engineDue s e then s
  else
    let w : Cond := ⟨stPROGRESS, progressDetail s (engineWindow s) e 2⟩
    let s1 := if e < 16 then
        let gs := (s.groups.filter (fun g => onLantern e g.2)).filterMap Prod.snd
        let s2 := noteCmds s w (fun q _ c => gs.any (fun g => g.owner == Owner.cmd q c.idx c.buf) ||
          c.flight.any (fun p => p.engine / 4 == e))
        (List.range 16).foldl (fun s n => if gs.any (fun g => g.owner == Owner.step n) then noteStep s n w else s) s2
      else noteStep s (e - 16) w
    let s3 := s1.setWatch (64 + e) { s1.watchAt (64 + e) with fired := true, expired := true }
    rungOrStuck (hngCount (raise s3 evHNG 1) 2 1) 2 (fun s => startEngineReset s e stPROGRESS 1))

/-! ### The host's resets (R499, R504, R505, Table 18-7) -/

/-- A GO that names nothing that can be reset, or comes while a host request of rung 1 to 3 runs, is refused. -/
def resetRefused (s : State) : State := raise s evHNG 7

/-- The fields of HNG_RESET as written. -/
def hngWritten (s : State) (rung target : Nat) (dump : Bool) : State :=
  setReg s 0x90008 (BitVec.ofNat 64 (target + rung * 2 ^ 32 + (if dump then 2 ^ 35 else 0)))

/-- A host request of rung 1 to 3: refused, absorbed by a wider reset that runs (R501), or started; REQ_RUNG shows it while it runs. -/
def hngRequest (s : State) (rung target sector : Nat) (ok : Bool) (start : State → State) : State :=
  let s1 := hngWritten s rung target false
  if !ok || (1 ≤ s1.hng.reqRung && s1.hng.reqRung ≤ 3) then resetRefused s1
  else if s1.resets.any (fun r => decide (rung < r.rung) && (decide (4 ≤ r.rung) || (r.rung == 3 && r.sector == sector))) then hngCount s1 7 1
  else
    let s2 := start { s1 with hng := { s1.hng with reqRung := rung, reqTarget := target } }
    if (runningReset s2 rung target).isSome then s2 else { s2 with hng := { s2.hng with reqRung := 0 } }

/-- HNG_RESET_CONTEXT: rung 1. -/
def execHngResetContext (target : BitVec 14) (s : State) : Ans :=
  let c := target.toNat
  .next (hngRequest s 1 c (s.ctx c).sector ((s.ctx c).st != .inactive) (fun s => startCtxReset s c stCTXRESET 0))

/-- HNG_RESET_ENGINE: rung 2; engine IDs from 32 on are reserved. -/
def execHngResetEngine (target : BitVec 14) (s : State) : Ans :=
  let e := target.toNat
  .next (hngRequest s 2 e (engineSector s e) (decide (e < 32)) (fun s => startEngineReset s e stCTXRESET 0))

/-- HNG_RESET_SECTOR: rung 3. -/
def execHngResetSector (target : BitVec 14) (s : State) : Ans :=
  let n := target.toNat
  .next (hngRequest s 3 n n (decide (n < 16) && (s.sector n).exists_) (fun s => startSectorReset s n stCTXRESET 0))

/-- A host request of rung 4 or 5 is always accepted. -/
def hngModule (s : State) (rung : Nat) (dump : Bool) : State :=
  let s1 := startModuleReset (hngWritten s rung 0 dump) (moduleRung s rung stCTXRESET 0) dump
  if s1.resets.any (fun r => r.rung == rung) then { s1 with hng := { s1.hng with reqRung := rung, reqTarget := 0 } } else s1

/-- HNG_RESET_MODULE (R504): rung 4. -/
def execHngResetModule (dump : Bool) (s : State) : Ans := .next (hngModule s 4 dump)

/-- HNG_RESET_POWER_CYCLE (R505): rung 5. -/
def execHngResetPowerCycle (dump : Bool) (s : State) : Ans := .next (hngModule s 5 dump)

/-- ENGINE_RESET_COMPLETE (R500): the work that the reset removed has gone. -/
def execEngineResetComplete (engine : Fin 32) (s : State) : Ans :=
  .next (if (runningReset s 2 engine).isSome && engineQuiet s engine then endEngineReset s engine else s)

/-! ### Escalation (R502) -/

/-- Engines that hold work of a context. -/
def ctxEngines (s : State) (c : Nat) : List Nat :=
  let mine := ringsOf s c
  let lantern (n : Nat) : Bool :=
    s.groups.any (fun g => onLantern n g.2 && (match g.2 with | some x => x.ctx == c | none => false)) ||
    mine.any (fun q => (s.ring q).cmds.any (fun d => d.flight.any (fun p => p.engine / 4 == n)))
  let seqE (n : Nat) : Bool :=
    (match (s.seqSec n).step with
     | some p => stepCtx s n p.cls == c || p.rows.any (fun r => (s.seq r.slot).ctx == c)
     | none => false) ||
    (s.seqSec n).blk.any (fun b => (b.2.st == .spilling || b.2.st == .pulling) && b.2.ctx == c)
  (List.range 16).filter lantern ++ ((List.range 16).filter seqE).map (16 + ·)

/-- A reset is escalated: its record says so, and the next rung is started. -/
def escalate (s : State) (r : RunReset) (start : State → State) : State :=
  if r.rung + 1 ≤ autoMax s then
    let s1 := updReset (errRecord s r 1) r.rung r.target (fun x => { x with escalated := true })
    start (hngCount (raise s1 evHNG 3) 6 1)
  else
    rungOrStuck (updReset s r.rung r.target (fun x => { x with stuck := true })) (r.rung + 1) id

/-- RESET_ESCALATION (R502, R503): RESET_LIMIT edges have passed since the reset started. -/
def execResetEscalation (rung target : Nat) (s : State) : Ans :=
  .next (match runningReset s rung target with
  | none => s
  | some r =>
    if r.part || r.escalated || r.stuck || r.edges < resetLimit s || 3 < r.rung then s
    else escalate s r (fun s =>
      if r.rung = 1 then (ctxEngines s target).foldl (fun s e => startEngineReset s e r.cause 2 r.ctx) s
      else if r.rung = 2 then startSectorReset s r.sector r.cause 2 r.engine r.ctx
      else startModuleReset s (moduleRung s 4 r.cause 2 r.engine r.ctx) true))

/-- WARM_BOOT_TIMEOUT (R502): the warm boot has not released the function 2,000 ms after the reset began. -/
def execWarmBootTimeout (s : State) : Ans :=
  .next (match s.resets.find? (fun r => r.rung == 4) with
  | none => s
  | some r =>
    if r.escalated || r.stuck then s
    else escalate s r (fun s => startModuleReset s (moduleRung s 5 r.cause 2 r.engine r.ctx) true))

/-- POWER_CYCLE_TIMEOUT (R505): VIN has not fallen 10 s after the request. -/
def execPowerCycleTimeout (s : State) : Ans :=
  .next (if !s.hng.pwrReq || s.pins.vin < 380 || s.resets.any (fun r => r.rung == 5 && r.stuck) then s
  else
    let r := (s.resets.find? (fun r => r.rung == 5)).getD (moduleRung s 5 stPROGRESS 2)
    let s1 := updReset s 5 0 (fun x => { x with stuck := true })
    let s2 := raise { s1 with hng := { s1.hng with stuck := true } } evHNG 4
    postLog s2 0x80 0xFF true (5 + r.engine * 2 ^ 8 + r.ctx * 2 ^ 16 + stPROGRESS * 2 ^ 32))

/-- FUNCTION_LEVEL_RESET (R259): a module warm reset without a dump. -/
def execFunctionLevelReset (s : State) : Ans :=
  .next (if s.kpr.boot.result != 1 then s else startModuleReset s (moduleRung s 4 stCTXRESET 4) false)

/-! ### Crash dumps (R509, R511) -/

/-- CRASH_DUMP_DONE (R509, R504): the dump is COMPLETE, or could not be written; the reset goes on. -/
def execCrashDumpDone (ok : Bool) (s : State) : Ans :=
  .next (if !s.hng.dumping then s
  else
    let k := s.hng.dumpSlot
    let d := tget (0, 0) s.hng.dumps k
    let s1 := { s with hng := { s.hng with dumping := false, dumps := if ok then tput (0, 0) s.hng.dumps k (2, d.2) else s.hng.dumps } }
    afterDump (raise s1 evHNG (if ok then 5 else 6)))

/-- The 64 bytes of an error record (Table 18-5). -/
def errBytes (e : ErrRec) : List Byte :=
  leBytes 4 e.seq.toNat ++ leBytes 1 e.rung ++ leBytes 1 e.startedBy ++ leBytes 1 e.outcome ++ leBytes 1 e.cause ++ leBytes 1 e.sector ++
  leBytes 1 e.engine ++ leBytes 2 e.ctx ++ leBytes 4 (min e.removed (2 ^ 32 - 1)) ++ leBytes 8 e.started.toNat ++ leBytes 8 e.ended.toNat ++
  leBytes 4 e.logSeq.toNat ++ leBytes 1 e.dump ++ List.replicate 27 0

/-- A byte of the error log's region: record SEQ lies at 64 × (SEQ mod 65,536); what no record covers is not stated (a free value). -/
def errLogByte (s : State) (off : Nat) : Byte :=
  match s.hng.errs.find? (fun e => e.seq.toNat % 65536 == off / 64) with
  | some e => (errBytes e).getD (off % 64) 0
  | none => Config.dumpByte (2 ^ 32) off

/-- The fields of HNG_DUMP_CTL as written: REGION, SLOT, OFFSET, LENGTH. -/
def dumpCtl (v : Nat) : Nat × Nat × Nat × Nat := (bits v 62 60, bits v 59 58, bits v 55 32 * 4096, bits v 22 0)

/-- HNG_DUMP_STATUS: the copy ends. -/
def copyEnd (s : State) (result : Nat) : State :=
  setReg { s with hng := { s.hng with copyBusy := false, copyResult := result } } 0x90050 2

/-- DUMP_COPY (R511): GO checks the range and that the Keeper runs; a GO while a copy runs changes nothing more. -/
def execDumpCopy (value : Word) (s : State) : Ans :=
  .next (if s.hng.copyBusy then s
  else
    let s1 := setReg s 0x90048 (BitVec.ofNat 64 (value.toNat &&& 0x7CFFFFFF007FFFFF))
    let c := dumpCtl (value.toNat)
    let size : Nat := if c.1 = 0 then 24 * 2 ^ 20 else if c.1 = 1 then 4 * 2 ^ 20 else 0
    if !s1.kpr.runs || s1.kpr.st == .restarting then copyEnd s1 3
    else if size < c.2.2.1 + c.2.2.2 || c.2.2.2 % 4096 != 0 || 4 * 2 ^ 20 < c.2.2.2 || 1 < c.1 then copyEnd s1 1
    else { s1 with hng := { s1.hng with copyBusy := true, copyResult := 0 } })

/-- DUMP_COPY_DONE (R511): the bytes are in host memory, or the copy failed. -/
def execDumpCopyDone (ok : Bool) (s : State) : Ans :=
  .next (if !s.hng.copyBusy then s
  else if !ok then copyEnd s 2
  else
    let c := dumpCtl (regNow s 0x90048).toNat
    let d := tget (0, 0) s.hng.dumps c.2.1
    let byte (i : Nat) : Byte := if c.1 = 1 then errLogByte s (c.2.2.1 + i) else Config.dumpByte d.2 (c.2.2.1 + i)
    copyEnd (hostWrite s none ((regNow s 0x90040).toNat / 4096 * 4096) ((List.range c.2.2.2).map byte) false) 0)

/-! ### The test port (R526) -/

/-- TAP_INSTRUCTION (R526): without the JTAG right every instruction but IDCODE selects the bypass register. -/
def execTapInstruction (instr : TapInstr) (s : State) : Ans :=
  let sel : TapInstr := match instr with
    | .other n => if bit s.dmk.rights.toNat 0 then .other n else .bypass
    | i => i
  .next { s with pins := { s.pins with tap := sel } }

end Sys2Proof.Machine
end

