-- ==== Sys2Proof/Machine/Matrix.lean ====
section
/-!
DEFINITION. The matrix instructions (R138 to R141, R188). A word that is not the row's own instruction changes nothing.
-/
namespace Sys2Proof.Machine

/-- ACZ: empty and bind an accumulator (R138). -/
def execAcz (c : Fin 192) (w : BitVec 64) (s : State) : Ans := .next (issueTile s c 0 0 w)
/-- MMA: push the product over a span (R139, R140). -/
def execMma (c : Fin 192) (w : BitVec 64) (residueOk : Bool) (s : State) : Ans := .next (issueTile s c 0 1 w residueOk)
/-- TRED: push a partial (R141). -/
def execTred (c : Fin 192) (w : BitVec 64) (s : State) : Ans := .next (issueTile s c 0 2 w)
/-- LADFIN: the ladder holds one entry (R141). -/
def execLadfin (c : Fin 192) (w : BitVec 64) (s : State) : Ans := .next (issueTile s c 0 3 w)
/-- ACST: store the node (R141). -/
def execAcst (c : Fin 192) (w : BitVec 64) (s : State) : Ans := .next (issueTile s c 0 4 w)

end Sys2Proof.Machine
end

