-- ==== Sys2Proof/Machine/Moves.lean ====
section
/-!
DEFINITION. The moves and atomics (R144 to R149).
-/
namespace Sys2Proof.Machine

/-- TCOPY (R145). -/
def execTcopy (c : Fin 192) (w : BitVec 64) (s : State) : Ans := .next (issueTile s c 2 0 w)
/-- TPF (R148). -/
def execTpf (c : Fin 192) (w : BitVec 64) (s : State) : Ans := .next (issueTile s c 2 1 w)
/-- AADD (R147). -/
def execAadd (c : Fin 192) (w : BitVec 64) (s : State) : Ans := .next (issueTile s c 2 2 w)
/-- AMAX (R147). -/
def execAmax (c : Fin 192) (w : BitVec 64) (s : State) : Ans := .next (issueTile s c 2 3 w)
/-- ACAS (R147). -/
def execAcas (c : Fin 192) (w : BitVec 64) (s : State) : Ans := .next (issueTile s c 2 4 w)
/-- AXCHG (R147). -/
def execAxchg (c : Fin 192) (w : BitVec 64) (s : State) : Ans := .next (issueTile s c 2 5 w)

end Sys2Proof.Machine
end

