-- ==== Sys2Proof/Machine/Privileged.lean ====
section
/-!
DEFINITION. Privileged commands (R264 to R269, R274, R275, R281 to R284, R288, R296, R297, R462): each is checked when it starts, in
the order of R291.
-/
namespace Sys2Proof.Machine

/-- The object a privileged command names belongs to a Sector that is frozen or on its way (R462). -/
def namesFrozen (s : State) (q : Nat) (c : Cmd) : Bool :=
  let own := !sectorRuns s (s.ring q).sector
  let x := s.ctx (s.event (c.f 16 2)).owner
  let foreign := (s.event (c.f 16 2)).st != .free && x.st != .inactive && !sectorRuns s x.sector
  match c.opcode with
  | 0x80 => false
  | 0x87 => own || foreign
  | 0x88 => foreign
  | _ => own

/-- A privileged command that may start: checked by steps 1 to 9 of R291, then given to `f`. CV_BUSY of a frozen Sector
comes with the state conditions, which `f` judges for the CTX_ACTIVATE after its descriptor. -/
def privCmd (s : State) (q : Nat) (idx : BitVec 32) (op : Nat) (f : Cmd → State) : State :=
  match (s.ring q).find idx none with
  | none => s
  | some c =>
    if c.opcode != op || (s.ring q).kind != 3 || !mayStart (s.ring q) c then s
    else
      match fetchErr s q c with
      | some w => refuseCmd s q c w
      | none => if namesFrozen s q c && op != 0x81 then refuseCmd s q c ⟨stINVALID, invalidDetail 0x08 0 16⟩ else f c

/-- End a privileged command with CV_BUSY at a field. -/
def busyCmd (s : State) (q : Nat) (c : Cmd) (off : Nat := 16) : State := refuseCmd s q c ⟨stINVALID, invalidDetail 0x08 0 off⟩

/-- SET_TABLES (R264). -/
def execSetTables (q : Fin 4096) (idx : BitVec 32) (s : State) : Ans :=
  .next (privCmd s q idx 0x80 (fun c =>
    if s.ctxs.any (fun x => x.2.st == .resident || x.2.st == .waiting) then busyCmd s q c 0
    else
      let t : Tables := { ctx := c.f 16 8, handle := c.f 24 8, event := c.f 32 8, handleLog := c.f 40 1, eventLog := c.f 41 1 }
      completeCmd { s with tables := some t } q c stDONE 0))

/-- CTX_ACTIVATE (R265 to R267, R455): the descriptor is checked; the context becomes RESIDENT while the quota has room and
nobody waits before it, otherwise WAITING. -/
def execCtxActivate (q : Fin 4096) (idx : BitVec 32) (s : State) : Ans :=
  .next (privCmd s q idx 0x81 (fun c =>
    let n := (s.ring q).sector
    let k := c.f 16 2
    match c.read 16 with
    | none => refuseCmd s q c ⟨stINVALID, invalidDetail 0x0E 0 16⟩
    | some d =>
      match descErr n d with
      | some w => refuseCmd s q c w
      | none =>
        let f := fieldAt d
        if (s.ctx k).st != .inactive || !sectorRuns s n then busyCmd s q c
        else if f 2 1 = 1 && pasidErr s n (f 4 4) then refuseCmd s q c ⟨stINVALID, invalidDetail 0x0D 0 16⟩
        else
          let order := (s.ctxs.map (fun x => x.2.order)).foldl max 0 + 1
          let x : Ctx := { st := .waiting, sector := n, pasid := if f 2 1 = 1 then some (f 4 4) else none,
                           lsPages := f 8 2, group := f 10 2, share := f 12 2, watch := f 14 2, smFirst := f 16 2,
                           smCount := f 18 2, act := some (q.val, idx), order := order }
          let room := residents s n < (s.sector n).qCtx && (firstWaiting s n).isNone && (freeSlotNo s).isSome
          let s1 := (s.setRing q ((s.ring q).put { c with st := .held })).setCtx k x
          if room then admitCtx s1 k else s1))

/-- CTX_WAIT_ADMIT (R266, R267): the first WAITING context of the Sector takes a freed slot. -/
def execCtxWaitAdmit (sector : Fin 16) (s : State) : Ans :=
  .next (if residents s sector < (s.sector sector).qCtx then
      match firstWaiting s sector with
      | some c => admitCtx s c
      | none => s
    else s)

/-- A RESIDENT context may be deactivated (R269). -/
def mayDeactivate (s : State) (c : Nat) : Bool :=
  (ringsOf s c).isEmpty && !(s.seqs.any (fun p => p.2.st != .free && p.2.ctx == c)) &&
  !((List.range 16).any (fun n => (s.seqSec n).enabled &&
    (List.range 2).any (fun k => bit (stepReg s n k) 63 && stepCtx s n k == c)))

/-- CTX_DEACTIVATE (R269): pages and slot are free; a wait ends. -/
def execCtxDeactivate (q : Fin 4096) (idx : BitVec 32) (s : State) : Ans :=
  .next (privCmd s q idx 0x82 (fun c =>
    let k := c.f 16 2
    let x := s.ctx k
    match x.st with
    | .waiting => completeCmd (endWait s k) q c stDONE 0
    | .resident =>
      if mayDeactivate s k then
        completeCmd ((clearTlm (dropPageMoves (s.setCtx k {}) x.sector k) x.slot).setWatch x.slot {}) q c stDONE 0
      else busyCmd s q c
    | _ => busyCmd s q c))

/-- CTX_RESET (R296, R297): it completes with the reset it starts, or joins. -/
def execCtxReset (q : Fin 4096) (idx : BitVec 32) (s : State) : Ans :=
  .next (privCmd s q idx 0x83 (fun c =>
    startCtxReset (s.setRing q ((s.ring q).put { c with st := .started })) (c.f 16 2) stCTXRESET 0 (some (q.val, idx))))

/-- CTX_RESET_COMPLETE (R297, R500): nothing of the context is left; it is RESIDENT, and what waited for the reset ends. -/
def execCtxResetComplete (ctx : Fin 16384) (s : State) : Ans :=
  .next (if (runningReset s 1 ctx).isSome && ctxQuiet s ctx then endCtxReset s ctx else s)

/-- RING_CREATE (R271, R288, R456). -/
def execRingCreate (q : Fin 4096) (idx : BitVec 32) (s : State) : Ans :=
  .next (privCmd s q idx 0x84 (fun c =>
    let n := (s.ring q).sector
    let p := c.f 16 2
    let pasid : Option Nat := if bit (c.f 19 1) 0 then some (c.f 44 4) else none
    if (s.ring p).st != .free then busyCmd s q c
    else if (s.sector n).qRings ≤ sectorRings s n then refuseCmd s q c ⟨stINVALID, invalidDetail 0x09 0 16⟩
    else if pasid.isSome && pasid != (s.ctx (c.f 20 2)).pasid then refuseCmd s q c ⟨stINVALID, invalidDetail 0x0D 0 44⟩
    else
      let r : Ring := { st := .enabled, kind := c.f 18 1, sector := n, ctx := c.f 20 2, pasid := pasid, sqBase := c.f 24 8,
                        cqBase := c.f 32 8, sqLog := c.f 40 1, cqLog := c.f 41 1, vector := c.f 22 2 }
      completeCmd (s.setRing p r) q c stDONE 0))

/-- RING_DESTROY (R275): the ring is DESTROYING; the command completes when it is FREE. -/
def execRingDestroy (q : Fin 4096) (idx : BitVec 32) (s : State) : Ans :=
  .next (privCmd s q idx 0x85 (fun c =>
    let s1 := s.setRing q ((s.ring q).put { c with st := .started })
    let p := s1.ring (c.f 16 2)
    s1.setRing (c.f 16 2) { p with st := .destroying, destroyers := p.destroyers ++ [(q.val, idx)] }))

/-- RING_RESUME (R274): ERROR is 0, the ring is ENABLED, its held records are written. A range condition that still holds
stops it again. -/
def execRingResume (q : Fin 4096) (idx : BitVec 32) (s : State) : Ans :=
  .next (privCmd s q idx 0x86 (fun c =>
    let p := c.f 16 2
    let s1 := s.setRing p { s.ring p with st := .enabled, error := 0 }
    completeCmd (checkRange (flushHeld s1 p) p) q c stDONE 0))

/-- An event that EVENT_INIT and EVENT_SET with FREE accept (R281). -/
def eventIdle (s : State) (e : Nat) : Bool :=
  (s.event e).st == .free || ((s.event e).st == .abandoned && !waitPending s e)

/-- EVENT_INIT (R281): the event is LIVE; its host record is written (R285). -/
def execEventInit (q : Fin 4096) (idx : BitVec 32) (s : State) : Ans :=
  .next (privCmd s q idx 0x87 (fun c =>
    let e := c.f 16 2
    if !eventIdle s e then busyCmd s q c
    else
      let v : Event := { st := .live, value := BitVec.ofNat 64 (c.f 24 8), owner := c.f 20 2, group := c.f 22 2, vector := c.f 18 2 }
      completeCmd (writeEvent (s.setEvent e v) e) q c stDONE 0))

/-- An EVENT_SET of ACTION k; the checks end every EVENT_SET that fails them. -/
def eventSet (s : State) (q : Nat) (idx : BitVec 32) (k : Nat) (f : Cmd → Nat → State) : State :=
  privCmd s q idx 0x88 (fun c => if c.f 18 1 = k then f c (c.f 16 2) else s)

/-- EVENT_SET with SIGNAL (R282). -/
def execEventSetSignal (q : Fin 4096) (idx : BitVec 32) (s : State) : Ans :=
  .next (eventSet s q idx 0 (fun c e => completeCmd (signalEvent s e (BitVec.ofNat 64 (c.f 24 8))) q c stDONE 0))

/-- EVENT_SET with ABANDON (R284). -/
def execEventSetAbandon (q : Fin 4096) (idx : BitVec 32) (s : State) : Ans :=
  .next (eventSet s q idx 1 (fun c e => completeCmd (abandonEvent s e (c.f 19 1)) q c stDONE 0))

/-- EVENT_SET with FREE (R281): the event is FREE, and its record says so. -/
def execEventSetFree (q : Fin 4096) (idx : BitVec 32) (s : State) : Ans :=
  .next (eventSet s q idx 2 (fun c e =>
    if !eventIdle s e then busyCmd s q c
    else completeCmd (writeEvent (s.setEvent e { s.event e with st := .free }) e) q c stDONE 0))

end Sys2Proof.Machine
end

