-- ==== Sys2Proof/Machine/Regs.lean ====
section
/-!
DEFINITION. Host writes of registers without a command of their own (R9 to R17, R58, R276, R319, R390), the configuration requests (R33,
R259, R300) and the version offer (R36, R37).
-/
namespace Sys2Proof.Machine

/-- Fields of a register that have commands of their own: the generic write leaves them. -/
def ownFields (base : Nat) : Nat :=
  let all : Nat := 2 ^ 64 - 1
  if [0x18, 0x30008, 0x30018, 0x40040, 0x4E008].contains base then all
  else if base = 0x50000 then 2 ^ 20 - 1
  else if 0x50100 ≤ base && base < 0x50180 && (base - 0x50100) % 0x10 == 0 then 1
  else if 0x50200 ≤ base && base < 0x50600 && (base - 0x50200) % 0x40 == 0 then 1
  else if 0x58000 ≤ base && base < 0x60000 && base % 0x20 == 8 then all
  else if 0x40100 ≤ base && base < 0x40180 then all
  else if base = 0x60030 then 1
  else if 0xB1000 ≤ base && base < 0xB2000 then
    (if base % 0x100 = 0x30 then 2 ^ 63 else if base % 0x100 < 0x48 then all else 0)
  else if 0x1000000 ≤ base && base < 0x2000000 then all
  else if 0x2000000 ≤ base && base < 0x3000000 && base % 0x100000 == 0x10 then 2 ^ 63
  else 0

/-- The Sector that a register belongs to, where it holds nothing while that Sector does not exist (R229, R276, R427). -/
def regSector (base : Nat) : Option Nat :=
  if 0x61000 ≤ base && base < 0x62000 then some ((base - 0x61000) / 0x100)
  else if 0xB1000 ≤ base && base < 0xB2000 then some ((base - 0xB1000) / 0x100)
  else if 0x2000000 ≤ base && base < 0x3000000 then some ((base - 0x2000000) / 0x100000)
  else none

/-- A write-one-to-clear bit whose state is not in the register file. -/
def clearHeld (s : State) (base ones : Nat) : State :=
  if base = 0x50000 then (if bit ones 20 then { s with chn := { s.chn with refused := false } } else s)
  else if base = 0x50020 then (if bit ones 63 then { s with chn := { s.chn with orphan := setBits s.chn.orphan 63 63 0 } } else s)
  else if base = 0x40018 then (if bit ones 31 then { s with mem := { s.mem with ueInfo := setBits s.mem.ueInfo 31 31 0 } } else s)
  else if base = 0x90010 then (if bit ones 6 then { s with hng := { s.hng with stuck := false } } else s)
  else if 0x90100 ≤ base && base < 0x90300 then
    let k := (base - 0x90100) / 8
    if bit ones 30 then s.setWatch k { s.watchAt k with expired := false } else s
  else if 0x90400 ≤ base && base < 0x90500 then
    let k := 64 + (base - 0x90400) / 8
    if bit ones 30 then s.setWatch k { s.watchAt k with expired := false } else s
  else s

/-- A host write to a scheduled-action entry (R58): while the entry is ARMED its protected fields keep their values, and a write that
would change one sets SAT_WRITE_ERR; entries 224–255 belong to the X1's units. -/
def satWrite (s : State) (base mask new : Nat) : State :=
  let e := (base - 0x11000) / 0x20
  let r := (base - 0x11000) % 0x20
  let x := s.satEntry e
  if r = 0x18 then s
  else if 224 ≤ e then satWriteErr s
  else
    let y : Sat :=
      if r = 0 then { x with when_ := BitVec.ofNat 64 new }
      else if r = 0x10 then { x with op := BitVec.ofNat 64 new }
      else
        let old := x.tick + x.action * 2 ^ 16 + (if x.fleet then 2 ^ 20 else 0) + (if x.irq then 2 ^ 21 else 0)
        let v := mergeBits old (mask &&& 0x3F0FFF) new
        { x with tick := bits v 11 0, action := bits v 19 16, fleet := bit v 20, irq := bit v 21 }
    if y = x then s
    else if x.st = .armed then satWriteErr s
    else s.setSat e y

/-- A host write to a mooring's CTL or AUX (R390): staged; one of a mooring in no existing Sector's range is refused. -/
def moorWrite (s : State) (base mask new : Nat) : State :=
  let m := (base - 0x58000) / 0x20
  let r := (base - 0x58000) % 0x20
  let x := s.moor m
  if r = 0x18 then s
  else if (moorSector s m).isNone then raise s evCHN 6
  else if r = 0 then
    s.setMoor m { x with stCtl := BitVec.ofNat 64 (mergeBits x.stCtl.toNat (mask &&& 0x3FFFF8FFFFFFFFFF) new) }
  else if r = 0x10 then s.setMoor m { x with stAux := BitVec.ofNat 64 new }
  else s

/-- Held messages whose vector is open again are sent (R261). -/
def flushPba (s : State) : State :=
  s.pci.pba.foldr (fun v s =>
    if msixOpen s v then ({ s with pci := { s.pci with pba := s.pci.pba.filter (· != v) } } : State).emit (.msix v) else s) s

/-- A host write to the MSI-X table: address, data, and the vector's mask bit. -/
def msixWrite (s : State) (base mask new : Nat) : State :=
  let d : BitVec 64 := if base % 16 = 8 then 2 ^ 32 else 0
  let rw := if base % 16 = 8 then 2 ^ 33 - 1 else 2 ^ 64 - 4
  let v := mergeBits (tget d s.regs base).toNat (mask &&& rw) new
  flushPba { s with regs := tput d s.regs base (BitVec.ofNat 64 v) }

/-- REGISTER_WRITE (R9, R10, R11): each field takes what its access type says; a register that is not there, or that belongs to a Sector
that does not exist, ignores the write; one outside every block, or that breaks R9, completes as an Unsupported Request. -/
def execRegisterWrite (off size : Nat) (value : Word) (s : State) : Ans :=
  .next (match wrSpan off size value with
  | none => s.emit .unsupported
  | some (base, mask, new) =>
    if 0x3000000 ≤ base && base < 0x3008000 then msixWrite s base mask new
    else match regFind base with
    | none => s
    | some row =>
      if (match regSector base with | some n => !(s.sector n).exists_ | none => false) then s
      else if 0x11000 ≤ base && base < 0x13000 then satWrite s base mask new
      else if 0x58000 ≤ base && base < 0x60000 then moorWrite s base mask new
      else if base = 0x30000 && (s.xl.fqOn || !s.xl.fq.isEmpty) then raise s evATF 6
      else if 0x2000000 ≤ base && base < 0x3000000 &&
          (bit (regAt s (secReg ((base - 0x2000000) / 0x100000) 0x10)) 63 ||
           s.rings.any (fun r => r.2.kind == 3 && r.2.sector == (base - 0x2000000) / 0x100000 && r.2.st != .free)) then s
      else
        let own := ownFields base
        let m := mask - (mask &&& own)
        clearHeld (setReg s base (BitVec.ofNat 64 (row.write (regNow s base).toNat m new))) base (m &&& new &&& row.w1c))

/-- The function answers configuration requests normally once the boot has written every capability register (R33). -/
def released (s : State) : Bool := s.kpr.boot.result == 1 && !s.hng.stopped

/-- CONFIG_REQUEST (R33, R259, R261, R300). -/
def execConfigRequest (req : CfgReq) (s : State) : Ans :=
  let done := s.emit (.configDone [])
  .next (if !released s then s.emit .retryStatus
  else match req with
  | .readId => s.emit (.configDone [Config.vendor.toNat, 0x2400, 0xB0, 0x120000])
  | .setAts en => xlRun { done with pci := { done.pci with ats := en }, xl := if en then done.xl else { done.xl with tlb := [] } }
  | .setPri en => xlRun { done with pci := { done.pci with pri := en } }
  | .setPasid en => { done with pci := { done.pci with pasid := en } }
  | .setMsix en mask => flushPba { done with pci := { done.pci with msix := en, msixMask := mask } })

/-- CAP_VER_OFFER (R36, R37): refused unless every context is INACTIVE and every ring is FREE. An interface whose offered major is at
least 1 agrees on version 1.0; one offered 0 does not agree. -/
def execCapVerOffer (offer : Word) (s : State) : Ans :=
  let v := offer.toNat
  let busy := s.ctxs.any (fun c => c.2.st != .inactive) || s.rings.any (fun r => r.2.st != .free)
  let one (hi lo : Nat) : Nat := if bits v hi lo = 0 then 0 else 2 ^ lo
  .next (if busy then setReg s 0x20 (setBits (regNow s 0x20) 62 62 1)
  else
    let refused : Nat := if bit (regNow s 0x20).toNat 62 then 2 ^ 62 else 0
    setReg (setReg s 0x18 (BitVec.ofNat 64 (v % 2 ^ 48))) 0x20
      (BitVec.ofNat 64 (2 ^ 63 + refused + one 47 40 + one 31 24 + one 15 8)))

end Sys2Proof.Machine
end

