-- ==== Sys2Proof/Machine/SeqInstr.lean ====
section
/-!
DEFINITION. The sequence instructions (R153, R242).
-/
namespace Sys2Proof.Machine

/-- SQINFO: the slot record of a row (R153). -/
def execSqinfo (c : Fin 192) (w : BitVec 64) (s : State) : Ans := .next (issueTile s c 4 0 w)
/-- KVGATHER: KV entries into a tile (R153). -/
def execKvgather (c : Fin 192) (w : BitVec 64) (s : State) : Ans := .next (issueTile s c 4 1 w)
/-- KVPUT: entries of the window (R153, R222, R234). -/
def execKvput (c : Fin 192) (w : BitVec 64) (s : State) : Ans := .next (issueTile s c 4 2 w)
/-- SAMPLE: a scoring row to the sampler (R242, R243). -/
def execSample (c : Fin 192) (w : BitVec 64) (s : State) : Ans := .next (issueTile s c 4 3 w)

end Sys2Proof.Machine
end

