-- ==== Sys2Proof/Machine/Sync.lean ====
section
/-!
DEFINITION. The synchronisation instructions (R150 to R152), and the ends of tile instructions (R134, R188).
-/
namespace Sys2Proof.Machine

/-- BAR: the core arrives at a barrier (R150). -/
def execBar (c : Fin 192) (w : BitVec 64) (s : State) : Ans := .next (issueTile s c 3 0 w)
/-- ESIG (R151). -/
def execEsig (c : Fin 192) (w : BitVec 64) (s : State) : Ans := .next (issueTile s c 3 1 w)
/-- EWAIT (R151). -/
def execEwait (c : Fin 192) (w : BitVec 64) (s : State) : Ans := .next (issueTile s c 3 2 w)
/-- LFENCE (R152). -/
def execLfence (c : Fin 192) (w : BitVec 64) (s : State) : Ans := .next (issueTile s c 3 3 w)
/-- TILE_INSTRUCTION_COMPLETE: a started tile instruction completes, once nothing it waits for is missing (R134). -/
def execTileInstructionComplete (c : Fin 192) (num : Nat) (host : HostView) (s : State) : Ans :=
  .next (tileDone s c num host)
/-- RECOMPUTE_ATTEMPT_DONE: an attempt of the recompute ladder ends (R188). -/
def execRecomputeAttemptDone (c : Fin 192) (num : Nat) (pass : Bool) (s : State) : Ans :=
  let s1 := attemptDone s c num pass
  .next (if (s1.resAt (resCore c)).quarantined && !(s.resAt (resCore c)).quarantined then recheckLaunches s1 (s.resAt (resCore c)).sector else s1)

end Sys2Proof.Machine
end

