-- ==== Sys2Proof/Machine/Translation.lean ====
section
/-!
DEFINITION. Translation and faults (R300 to R319): completions, invalidations, responses to page requests, the fault queue's
registers.
-/
namespace Sys2Proof.Machine

/-- ATS_COMPLETION (R302, R303, R308, R309): the answer reaches every waiting tile that needs the unit; tiles go on, fault or end. -/
def execAtsCompletion (sector : Fin 16) (pasid : Option (BitVec 20)) (unit : Nat) (ans : AtsAnswer) (s : State) : Ans :=
  .next (let r := xlAnswer s sector (pasid.map (·.toNat)) unit ans
    xlRun (r.1.foldl (fun s f => xlateFail s f.1.who f.2.1 f.2.2) r.2))

/-! ### Invalidation (R305, R306) -/

/-- A set of 2 MiB units overlaps a byte range. -/
def unitsHit (base len u k : Nat) : Bool := rangesMeet (u * 2 ^ 21) (k * 2 ^ 21) base len

/-- An entry is removed by an invalidation. -/
def XEntry.hit (e : XEntry) (pasid : Option Nat) (base len : Nat) : Bool :=
  (match pasid with | none => true | some p => e.pasid == some p) && unitsHit base len e.base e.units

/-- Moves that have begun and use a translation of the range: tile instructions that have started, pieces that move, blocks whose
move goes on. -/
def xlUsers (s : State) (pasid : Option Nat) (base len : Nat) : List Waiter :=
  let mine (p : Option Nat) : Bool := match pasid with | none => true | some q => p == some q
  let hit (us : List Nat) : Bool := us.any (fun u => unitsHit base len u 1)
  s.cores.flatMap (fun c =>
    match s.group c.2.group with
    | none => []
    | some g => if !mine (s.ctx g.ctx).pasid then [] else
        (c.2.q.filter (fun o => o.started && hit (hmRead o ++ hmWriteUnits o))).map (fun o => Waiter.tile c.1 o.num)) ++
  s.rings.flatMap (fun r => r.2.cmds.flatMap (fun c =>
    let objs := (copySrc s c).toList ++ (if c.opcode = 0x10 || c.opcode = 0x11 then [copyDst s c] else [])
    (c.flight.filter (fun p => p.moving && objs.any (fun o =>
      o.space == 3 && mine o.pasid && hit (unitsOf [(o.base + p.off, p.len)])))).map (fun p => Waiter.piece r.1 c.idx c.buf p.off))) ++
  s.seqSecs.flatMap (fun n => (n.2.blk.filter (fun b =>
    b.2.begun && b.2.hostTier && mine (s.ctx (stepCtx s n.1 0)).pasid &&
    hit (unitsOf ((blkRanges s n.1 b.2).map (fun r => (slotAddr s n.1 b.2 + r.1, r.2)))))).map (fun b => Waiter.blk n.1 b.1))

/-- A tile that is translated and has moved nothing translates its removed units again (R306): tile instructions that have not
started, and units of waiting tiles. -/
def xlAgain (s : State) (pasid : Option Nat) (base len : Nat) : State :=
  let mine (p : Option Nat) : Bool := match pasid with | none => true | some q => p == some q
  let redo (o : TileOp) : TileOp :=
    if !o.started && (o.xl == 2 || o.xl == 5) && (hmRead o ++ hmWriteUnits o).any (fun u => unitsHit base len u 1) then { o with xl := 0 } else o
  let onCore (c : Nat × Core) : Nat × Core :=
    match s.group c.2.group with
    | none => c
    | some g => if mine (s.ctx g.ctx).pasid then (c.1, { c.2 with q := c.2.q.map redo }) else c
  let s1 : State := { s with cores := s.cores.map onCore }
  s1.xl.waits.foldl (fun s w =>
    if !mine w.pasid || !(w.units.any (fun u => u.st == .ok && unitsHit base len u.unit 1)) then s
    else
      let us := w.units.filter (fun u => u.st == .ok && unitsHit base len u.unit 1)
      let s2 := us.foldl (fun s u => atsSend s w.sector w.pasid u.unit w.write) s
      setWait s2 { w with units := w.units.map (fun u => if us.contains u then { u with st := .ats, prg := none } else u) }) s1

/-- ATS_INVALIDATE (R305): matching entries leave every TLB. One request is served per ITag. -/
def execAtsInvalidate (itag : Fin 32) (pasid : Option (BitVec 20)) (base len : Nat) (s : State) : Ans :=
  .next (let p := pasid.map (·.toNat)
    if s.xl.invals.any (fun i => i.itag == itag.val) then s
    else
      let tlb := (s.xl.tlb.map (fun t => (t.1, t.2.filter (fun e => !e.hit p base len)))).filter (fun t => !t.2.isEmpty)
      let i : Inval := { itag := itag, users := xlUsers s p base len }
      xlAgain { s with xl := { s.xl with tlb := tlb, invals := s.xl.invals ++ [i] } } p base len)

/-- A move that used a translation is still under way. -/
def stillMoves (s : State) (w : Waiter) : Bool :=
  match w with
  | .tile c num => (findOp s c num).isSome
  | .piece q i b off => match (s.ring q).find i b with | some c => c.flight.any (fun p => p.off == off && p.moving) | none => false
  | .blk n d => (s.blk n d).begun
  | _ => false

/-- INVALIDATE_COMPLETION (R305): the moves that used the removed entries are over. -/
def execInvalidateCompletion (itag : Fin 32) (s : State) : Ans :=
  .next (match s.xl.invals.find? (fun i => i.itag == itag.val) with
    | none => s
    | some i =>
      if i.users.any (stillMoves s) then s
      else
        let s1 := { s with xl := { s.xl with invals := s.xl.invals.filter (fun x => !(x.itag == itag.val)) } }
        atfCount (s1.emit (.invalidateDone itag)) 5 1)

/-! ### Page requests (R310, R314) -/

/-- The waits that need a unit of a group. -/
def groupWaits (s : State) (g : Nat) : List XWait := s.xl.waits.filter (fun w => w.units.any (fun u => u.prg == some g))

/-- Fail every wait that needs a unit of a group. -/
def groupFail (s : State) (g reason : Nat) : State :=
  (groupWaits s g).foldl (fun s w =>
    let unit := ((w.units.find? (fun u => u.prg == some g)).map (·.unit)).getD 0
    xlateFail (xlDrop s w.who) w.who unit reason) s

/-- The entries of answered groups are no longer in use once HEAD is past them. -/
def answerFq (s : State) (p : Nat → Bool) : State :=
  fqFree { s with xl := { s.xl with fq := s.xl.fq.map (fun e => if p e.prg then { e with answered := true } else e) } }

/-- PRG_RESPONSE (R310): its units translate again, or its tiles end. A group that is not outstanding starts nothing. -/
def execPrgResponse (prg : Fin 512) (code : PrgCode) (s : State) : Ans :=
  .next (let g := prg.val
    if !(tkeys s.xl.groups).contains g then s
    else
      match code with
      | .success =>
        let s1 := answerFq { s with xl := { s.xl with groups := tput [] s.xl.groups g [] } } (· == g)
        let s2 := (groupWaits s1 g).foldl (fun s w =>
          let s1 := (w.units.filter (fun u => u.prg == some g)).foldl (fun s u => atsSend s w.sector w.pasid u.unit w.write) s
          setWait s1 { w with units := w.units.map (fun u => if u.prg == some g then { u with st := .ats, prg := none } else u) }) s1
        xlRun s2
      | .invalid =>
        let s1 := answerFq { s with xl := { s.xl with groups := tput [] s.xl.groups g [] } } (· == g)
        xlRun (groupFail s1 g 1)
      | .failure =>
        let gs := tkeys s.xl.groups
        let s1 := answerFq { s with xl := { s.xl with groups := [], priStopped := true } } (gs.contains ·)
        xlRun (gs.foldl (fun s g => groupFail s g 2) (raise s1 evATF 3)))

/-- ATF_FQ_HEAD (R314, R316): HEAD moves forward, up to TAIL; any other value is ignored and sets HEAD_RANGE. -/
def execAtfFqHead (value : BitVec 32) (s : State) : Ans :=
  .next (if (s.xl.fqTail - s.xl.fqHead).toNat < (value - s.xl.fqHead).toNat then raise s evATF 7
    else xlRun (fqFree { s with xl := { s.xl with fqHead := value } }))

/-- The write of SIZE_LOG2 that comes with a write of ATF_FQ_CTL (R319): accepted while the queue is off and no entry is in use. The
second part says whether it was refused. -/
def fqSizeWrite (s : State) (value : Word) : State × Bool :=
  let size := bits value.toNat 4 0
  if size = bits (regNow s 0x30008).toNat 4 0 then (s, false)
  else if s.xl.fqOn || !s.xl.fq.isEmpty then (raise s evATF 6, true)
  else (setReg s 0x30008 (setBits (regNow s 0x30008) 4 0 size), false)

/-- ATF_FQ_ENABLE (R316, R319): the queue is enabled where SIZE_LOG2 is 10 to 16. Enabling it clears FQ_WRITE_ERR. -/
def execAtfFqEnable (value : Word) (s : State) : Ans :=
  .next (let w := fqSizeWrite s value
    let s1 := w.1
    let size := bits (regNow s1 0x30008).toNat 4 0
    if w.2 || s.xl.fqOn then s1
    else if size < 10 || 16 < size then raise s1 evATF 6
    else
      let s2 := setReg s1 0x30008 (setBits (regNow s1 0x30008) 63 63 1)
      xlRun { s2 with xl := { s2.xl with fqOn := true, fqErr := false } })

/-- ATF_FQ_DISABLE (R319): refused while an entry is in use. -/
def execAtfFqDisable (value : Word) (s : State) : Ans :=
  .next (if !s.xl.fqOn then (fqSizeWrite s value).1
    else if !s.xl.fq.isEmpty then raise s evATF 6
    else
      let s1 := setReg s 0x30008 (setBits (regNow s 0x30008) 63 63 0)
      xlRun (fqSizeWrite { s1 with xl := { s1.xl with fqOn := false } } value).1)

/-- ATF_PRI_RESUME (R310): PRI_STOPPED clears; ignored while PRI Enable is 0. -/
def execPriResume (s : State) : Ans :=
  .next (if s.pci.pri then xlRun { s with xl := { s.xl with priStopped := false } } else s)

end Sys2Proof.Machine
end

