-- ==== Sys2Proof/Machine/Vector.lean ====
section
/-!
DEFINITION. The vector instructions (R143, R177 to R183).
-/
namespace Sys2Proof.Machine

/-- VADD: TB + TC (R181). -/
def execVadd (c : Fin 192) (w : BitVec 64) (s : State) : Ans := .next (issueTile s c 1 0 w)
/-- VSUB: TB − TC (R181). -/
def execVsub (c : Fin 192) (w : BitVec 64) (s : State) : Ans := .next (issueTile s c 1 1 w)
/-- VMUL: TB × TC (R181). -/
def execVmul (c : Fin 192) (w : BitVec 64) (s : State) : Ans := .next (issueTile s c 1 2 w)
/-- VFMA: TB × TC + TA, rounded once (R181). -/
def execVfma (c : Fin 192) (w : BitVec 64) (s : State) : Ans := .next (issueTile s c 1 3 w)
/-- VMAX (R182). -/
def execVmax (c : Fin 192) (w : BitVec 64) (s : State) : Ans := .next (issueTile s c 1 4 w)
/-- VMIN (R182). -/
def execVmin (c : Fin 192) (w : BitVec 64) (s : State) : Ans := .next (issueTile s c 1 5 w)
/-- VSCALE: by the F32 in SX (R181). -/
def execVscale (c : Fin 192) (w : BitVec 64) (s : State) : Ans := .next (issueTile s c 1 6 w)
/-- VBIAS: plus a one-row tile (R181). -/
def execVbias (c : Fin 192) (w : BitVec 64) (s : State) : Ans := .next (issueTile s c 1 7 w)
/-- VEXP (R183). -/
def execVexp (c : Fin 192) (w : BitVec 64) (s : State) : Ans := .next (issueTile s c 1 8 w)
/-- VLOG (R183). -/
def execVlog (c : Fin 192) (w : BitVec 64) (s : State) : Ans := .next (issueTile s c 1 9 w)
/-- VRCP (R183). -/
def execVrcp (c : Fin 192) (w : BitVec 64) (s : State) : Ans := .next (issueTile s c 1 10 w)
/-- VCVT: conversion (R178 to R180). -/
def execVcvt (c : Fin 192) (w : BitVec 64) (s : State) : Ans := .next (issueTile s c 1 11 w)
/-- VRMAX: row maxima (R143, R182). -/
def execVrmax (c : Fin 192) (w : BitVec 64) (s : State) : Ans := .next (issueTile s c 1 12 w)
/-- VRSUM: row sums in the canonical tree (R177). -/
def execVrsum (c : Fin 192) (w : BitVec 64) (s : State) : Ans := .next (issueTile s c 1 13 w)
/-- VSMX: e^(TB − TC[row]) (R181, R183). -/
def execVsmx (c : Fin 192) (w : BitVec 64) (s : State) : Ans := .next (issueTile s c 1 14 w)
/-- VTOPK: largest values and their columns (R143, R182). -/
def execVtopk (c : Fin 192) (w : BitVec 64) (s : State) : Ans := .next (issueTile s c 1 15 w)
/-- VTOPP: the top-p count (R143). -/
def execVtopp (c : Fin 192) (w : BitVec 64) (s : State) : Ans := .next (issueTile s c 1 16 w)

end Sys2Proof.Machine
end

