-- ==== Sys2Proof/Machine/Dispatch.lean ====
section
/-!
DEFINITION. One arm per command: its meaning, or its refusal by name.
-/
namespace Sys2Proof.Machine

/-- A command's effect on everything but the queue. -/
def exec (i : Instr) (s : State) : Host.Outcome State Fault Refusal :=
  match i with
  | .registerWrite off size value => Sys2Proof.Machine.execRegisterWrite off size value s
  | .configRequest req => Sys2Proof.Machine.execConfigRequest req s
  | .capVerOffer offer => Sys2Proof.Machine.execCapVerOffer offer s
  | .flashPulse at_ => Sys2Proof.Machine.execFlashPulse at_ s
  | .flashFrame payload start => Sys2Proof.Machine.execFlashFrame payload start s
  | .lockWindowExpiry at_ => Sys2Proof.Machine.execLockWindowExpiry at_ s
  | .flywheelEdge => Sys2Proof.Machine.execFlywheelEdge s
  | .holdoverEdge => Sys2Proof.Machine.execHoldoverEdge s
  | .holdoverTimeout at_ => Sys2Proof.Machine.execHoldoverTimeout at_ s
  | .phaseTick => Sys2Proof.Machine.execPhaseTick s
  | .satArm entry => Sys2Proof.Machine.execSatArm entry s
  | .satCancel entry => Sys2Proof.Machine.execSatCancel entry s
  | .satClear entry => Sys2Proof.Machine.execSatClear entry s
  | .take => Sys2Proof.Machine.execTake s
  | .flashMarker port number offset freeRun hops at_ => Sys2Proof.Machine.execFlashMarker port number offset freeRun hops at_ s
  | .cmpSubmitGo => Sys2Proof.Machine.execCmpSubmitGo s
  | .llFetchDone slot bytes => Sys2Proof.Machine.execLlFetchDone slot bytes s
  | .llCheckDone slot => Sys2Proof.Machine.execLlCheckDone slot s
  | .llAuthoriseDone slot => Sys2Proof.Machine.execLlAuthoriseDone slot s
  | .cmpSlotCancel slot => Sys2Proof.Machine.execCmpSlotCancel slot s
  | .rebindChunkMove sector => Sys2Proof.Machine.execRebindChunkMove sector s
  | .requestDrainComplete sector => Sys2Proof.Machine.execRequestDrainComplete sector s
  | .generationDrained sector => Sys2Proof.Machine.execGenerationDrained sector s
  | .fillComplete res => Sys2Proof.Machine.execFillComplete res s
  | .drainDeadline sector => Sys2Proof.Machine.execDrainDeadline sector s
  | .launchDispatch launch cores host => Sys2Proof.Machine.execLaunchDispatch launch cores host s
  | .add core w => Sys2Proof.Machine.execAdd core w s
  | .sub core w => Sys2Proof.Machine.execSub core w s
  | .and_ core w => Sys2Proof.Machine.execAnd core w s
  | .or_ core w => Sys2Proof.Machine.execOr core w s
  | .xor_ core w => Sys2Proof.Machine.execXor core w s
  | .sll core w => Sys2Proof.Machine.execSll core w s
  | .srl core w => Sys2Proof.Machine.execSrl core w s
  | .sra core w => Sys2Proof.Machine.execSra core w s
  | .slt core w => Sys2Proof.Machine.execSlt core w s
  | .sltu core w => Sys2Proof.Machine.execSltu core w s
  | .mul core w => Sys2Proof.Machine.execMul core w s
  | .mulhu core w => Sys2Proof.Machine.execMulhu core w s
  | .divu core w => Sys2Proof.Machine.execDivu core w s
  | .remu core w => Sys2Proof.Machine.execRemu core w s
  | .addi core w => Sys2Proof.Machine.execAddi core w s
  | .andi core w => Sys2Proof.Machine.execAndi core w s
  | .ori core w => Sys2Proof.Machine.execOri core w s
  | .xori core w => Sys2Proof.Machine.execXori core w s
  | .slli core w => Sys2Proof.Machine.execSlli core w s
  | .srli core w => Sys2Proof.Machine.execSrli core w s
  | .srai core w => Sys2Proof.Machine.execSrai core w s
  | .slti core w => Sys2Proof.Machine.execSlti core w s
  | .movz core w => Sys2Proof.Machine.execMovz core w s
  | .movk core w => Sys2Proof.Machine.execMovk core w s
  | .ld core w => Sys2Proof.Machine.execLd core w s
  | .lw core w => Sys2Proof.Machine.execLw core w s
  | .lb core w => Sys2Proof.Machine.execLb core w s
  | .sd core w => Sys2Proof.Machine.execSd core w s
  | .sw core w => Sys2Proof.Machine.execSw core w s
  | .sb core w => Sys2Proof.Machine.execSb core w s
  | .beq core w => Sys2Proof.Machine.execBeq core w s
  | .bne core w => Sys2Proof.Machine.execBne core w s
  | .blt core w => Sys2Proof.Machine.execBlt core w s
  | .bge core w => Sys2Proof.Machine.execBge core w s
  | .bltu core w => Sys2Proof.Machine.execBltu core w s
  | .bgeu core w => Sys2Proof.Machine.execBgeu core w s
  | .jal core w => Sys2Proof.Machine.execJal core w s
  | .jalr core w => Sys2Proof.Machine.execJalr core w s
  | .spr core w => Sys2Proof.Machine.execSpr core w s
  | .tld core w => Sys2Proof.Machine.execTld core w s
  | .tsetb core w => Sys2Proof.Machine.execTsetb core w s
  | .twait core w => Sys2Proof.Machine.execTwait core w s
  | .exit core w => Sys2Proof.Machine.execExit core w s
  | .trap core fetched => Sys2Proof.Machine.execTrap core fetched s
  | .acz core w => Sys2Proof.Machine.execAcz core w s
  | .mma core w residueOk => Sys2Proof.Machine.execMma core w residueOk s
  | .tred core w => Sys2Proof.Machine.execTred core w s
  | .ladfin core w => Sys2Proof.Machine.execLadfin core w s
  | .acst core w => Sys2Proof.Machine.execAcst core w s
  | .vadd core w => Sys2Proof.Machine.execVadd core w s
  | .vsub core w => Sys2Proof.Machine.execVsub core w s
  | .vmul core w => Sys2Proof.Machine.execVmul core w s
  | .vfma core w => Sys2Proof.Machine.execVfma core w s
  | .vmax core w => Sys2Proof.Machine.execVmax core w s
  | .vmin core w => Sys2Proof.Machine.execVmin core w s
  | .vscale core w => Sys2Proof.Machine.execVscale core w s
  | .vbias core w => Sys2Proof.Machine.execVbias core w s
  | .vexp core w => Sys2Proof.Machine.execVexp core w s
  | .vlog core w => Sys2Proof.Machine.execVlog core w s
  | .vrcp core w => Sys2Proof.Machine.execVrcp core w s
  | .vcvt core w => Sys2Proof.Machine.execVcvt core w s
  | .vrmax core w => Sys2Proof.Machine.execVrmax core w s
  | .vrsum core w => Sys2Proof.Machine.execVrsum core w s
  | .vsmx core w => Sys2Proof.Machine.execVsmx core w s
  | .vtopk core w => Sys2Proof.Machine.execVtopk core w s
  | .vtopp core w => Sys2Proof.Machine.execVtopp core w s
  | .tcopy core w => Sys2Proof.Machine.execTcopy core w s
  | .tpf core w => Sys2Proof.Machine.execTpf core w s
  | .aadd core w => Sys2Proof.Machine.execAadd core w s
  | .amax core w => Sys2Proof.Machine.execAmax core w s
  | .acas core w => Sys2Proof.Machine.execAcas core w s
  | .axchg core w => Sys2Proof.Machine.execAxchg core w s
  | .bar core w => Sys2Proof.Machine.execBar core w s
  | .esig core w => Sys2Proof.Machine.execEsig core w s
  | .ewait core w => Sys2Proof.Machine.execEwait core w s
  | .lfence core w => Sys2Proof.Machine.execLfence core w s
  | .sqinfo core w => Sys2Proof.Machine.execSqinfo core w s
  | .kvgather core w => Sys2Proof.Machine.execKvgather core w s
  | .kvput core w => Sys2Proof.Machine.execKvput core w s
  | .sample core w => Sys2Proof.Machine.execSample core w s
  | .tileInstructionComplete core num host => Sys2Proof.Machine.execTileInstructionComplete core num host s
  | .recomputeAttemptDone core num pass => Sys2Proof.Machine.execRecomputeAttemptDone core num pass s
  | .open_ ring idx slot => Sys2Proof.Machine.execOpen ring idx slot s
  | .append ring idx host => Sys2Proof.Machine.execAppend ring idx host s
  | .generate ring idx => Sys2Proof.Machine.execGenerate ring idx s
  | .generatePrefetch ring idx => Sys2Proof.Machine.execGeneratePrefetch ring idx s
  | .fork ring idx slot => Sys2Proof.Machine.execFork ring idx slot s
  | .abort ring idx => Sys2Proof.Machine.execAbort ring idx s
  | .close ring idx => Sys2Proof.Machine.execClose ring idx s
  | .stepBatchForm sector host => Sys2Proof.Machine.execStepBatchForm sector host s
  | .arbiterAbort slot => Sys2Proof.Machine.execArbiterAbort slot s
  | .spillComplete sector desc host => Sys2Proof.Machine.execSpillComplete sector desc host s
  | .pullComplete sector desc host => Sys2Proof.Machine.execPullComplete sector desc host s
  | .schedEnable sector => Sys2Proof.Machine.execSchedEnable sector s
  | .schedDisable sector => Sys2Proof.Machine.execSchedDisable sector s
  | .seqConfigWrite off size value => Sys2Proof.Machine.execSeqConfigWrite off size value s
  | .functionLevelReset => Sys2Proof.Machine.execFunctionLevelReset s
  | .bar2Read addr len => Sys2Proof.Machine.execBar2Read addr len s
  | .bar2Write addr bytes => Sys2Proof.Machine.execBar2Write addr bytes s
  | .doorbellTail ring value => Sys2Proof.Machine.execDoorbellTail ring value s
  | .cqHead ring value => Sys2Proof.Machine.execCqHead ring value s
  | .ringFetch ring host => Sys2Proof.Machine.execRingFetch ring host s
  | .privRingEnable sector => Sys2Proof.Machine.execPrivRingEnable sector s
  | .privRingDisable sector => Sys2Proof.Machine.execPrivRingDisable sector s
  | .nop ring idx buf => Sys2Proof.Machine.execNop ring idx buf s
  | .launch ring idx buf => Sys2Proof.Machine.execLaunch ring idx buf s
  | .buffer ring idx host => Sys2Proof.Machine.execBuffer ring idx host s
  | .signal ring idx buf => Sys2Proof.Machine.execSignal ring idx buf s
  | .wait ring idx buf => Sys2Proof.Machine.execWait ring idx buf s
  | .copy ring idx buf => Sys2Proof.Machine.execCopy ring idx buf s
  | .fill ring idx buf => Sys2Proof.Machine.execFill ring idx buf s
  | .copyPieceComplete ring idx buf offset host => Sys2Proof.Machine.execCopyPieceComplete ring idx buf offset host s
  | .setTables ring idx => Sys2Proof.Machine.execSetTables ring idx s
  | .ctxActivate ring idx => Sys2Proof.Machine.execCtxActivate ring idx s
  | .ctxWaitAdmit sector => Sys2Proof.Machine.execCtxWaitAdmit sector s
  | .ctxDeactivate ring idx => Sys2Proof.Machine.execCtxDeactivate ring idx s
  | .ctxReset ring idx => Sys2Proof.Machine.execCtxReset ring idx s
  | .ctxResetComplete ctx => Sys2Proof.Machine.execCtxResetComplete ctx s
  | .ringCreate ring idx => Sys2Proof.Machine.execRingCreate ring idx s
  | .ringDestroy ring idx => Sys2Proof.Machine.execRingDestroy ring idx s
  | .ringDestroyComplete ring => Sys2Proof.Machine.execRingDestroyComplete ring s
  | .ringResume ring idx => Sys2Proof.Machine.execRingResume ring idx s
  | .eventInit ring idx => Sys2Proof.Machine.execEventInit ring idx s
  | .eventSetSignal ring idx => Sys2Proof.Machine.execEventSetSignal ring idx s
  | .eventSetAbandon ring idx => Sys2Proof.Machine.execEventSetAbandon ring idx s
  | .eventSetFree ring idx => Sys2Proof.Machine.execEventSetFree ring idx s
  | .atsCompletion sector pasid unit ans => Sys2Proof.Machine.execAtsCompletion sector pasid unit ans s
  | .atsInvalidate itag pasid base len => Sys2Proof.Machine.execAtsInvalidate itag pasid base len s
  | .invalidateCompletion itag => Sys2Proof.Machine.execInvalidateCompletion itag s
  | .prgResponse prg code => Sys2Proof.Machine.execPrgResponse prg code s
  | .atfFqHead value => Sys2Proof.Machine.execAtfFqHead value s
  | .atfFqEnable value => Sys2Proof.Machine.execAtfFqEnable value s
  | .atfFqDisable value => Sys2Proof.Machine.execAtfFqDisable value s
  | .priResume => Sys2Proof.Machine.execPriResume s
  | .finalWriteDiscard src stream seq => Sys2Proof.Machine.execFinalWriteDiscard src stream seq s
  | .directoryRebuildDone die => Sys2Proof.Machine.execDirectoryRebuildDone die s
  | .coherenceEscalation refusals => Sys2Proof.Machine.execCoherenceEscalation refusals s
  | .rehomeWalkDone sector lines => Sys2Proof.Machine.execRehomeWalkDone sector lines s
  | .memCohTestForce value => Sys2Proof.Machine.execMemCohTestForce value s
  | .scrubRead mem line => Sys2Proof.Machine.execScrubRead mem line s
  | .levelPublish channel peak served => Sys2Proof.Machine.execLevelPublish channel peak served s
  | .memBwShare sector value => Sys2Proof.Machine.execMemBwShare sector value s
  | .memScrubCtl value => Sys2Proof.Machine.execMemScrubCtl value s
  | .write lane frame => Sys2Proof.Machine.execWrite lane frame s
  | .read lane frame => Sys2Proof.Machine.execRead lane frame s
  | .prefetch lane frame => Sys2Proof.Machine.execPrefetch lane frame s
  | .release lane frame => Sys2Proof.Machine.execRelease lane frame s
  | .withdraw lane frame => Sys2Proof.Machine.execWithdraw lane frame s
  | .ack lane frame => Sys2Proof.Machine.execAck lane frame s
  | .data lane frame => Sys2Proof.Machine.execData lane frame s
  | .refuse lane frame => Sys2Proof.Machine.execRefuse lane frame s
  | .shortfall lane frame => Sys2Proof.Machine.execShortfall lane frame s
  | .fallbackHere lane frame => Sys2Proof.Machine.execFallbackHere lane frame s
  | .error lane frame => Sys2Proof.Machine.execError lane frame s
  | .unreachable lane frame => Sys2Proof.Machine.execUnreachable lane frame s
  | .hello lane frame => Sys2Proof.Machine.execHello lane frame s
  | .delayReq port => Sys2Proof.Machine.execDelayReq port s
  | .delayResp port trip turn => Sys2Proof.Machine.execDelayResp port trip turn s
  | .key port key => Sys2Proof.Machine.execKey port key s
  | .relayForward lane frame => Sys2Proof.Machine.execRelayForward lane frame s
  | .linkNak lane lseq => Sys2Proof.Machine.execLinkNak lane lseq s
  | .linkAck lane lseq => Sys2Proof.Machine.execLinkAck lane lseq s
  | .respTimeout req => Sys2Proof.Machine.execRespTimeout req s
  | .seqRecordExpiry src stream => Sys2Proof.Machine.execSeqRecordExpiry src stream s
  | .streamSeqRestart stream dst => Sys2Proof.Machine.execStreamSeqRestart stream dst s
  | .routeEntryExpiry port device => Sys2Proof.Machine.execRouteEntryExpiry port device s
  | .portTrainingDone port lanes => Sys2Proof.Machine.execPortTrainingDone port lanes s
  | .laneDown lane => Sys2Proof.Machine.execLaneDown lane s
  | .frameCounterLimit lane => Sys2Proof.Machine.execFrameCounterLimit lane s
  | .oldKeyDiscard port => Sys2Proof.Machine.execOldKeyDiscard port s
  | .bypass rp close => Sys2Proof.Machine.execBypass rp close s
  | .bypassMoved rp => Sys2Proof.Machine.execBypassMoved rp s
  | .lease mooring value => Sys2Proof.Machine.execLease mooring value s
  | .leaseExpiry mooring => Sys2Proof.Machine.execLeaseExpiry mooring s
  | .leaseGraceEnd mooring => Sys2Proof.Machine.execLeaseGraceEnd mooring s
  | .deviceId id => Sys2Proof.Machine.execDeviceId id s
  | .portDisable port disable => Sys2Proof.Machine.execPortDisable port disable s
  | .retrain port => Sys2Proof.Machine.execRetrain port s
  | .tenderGrant account => Sys2Proof.Machine.execTenderGrant account s
  | .grantTimeout account index => Sys2Proof.Machine.execGrantTimeout account index s
  | .reserveAutoUpdate p99 => Sys2Proof.Machine.execReserveAutoUpdate p99 s
  | .rampDeadline => Sys2Proof.Machine.execRampDeadline s
  | .tndSchedGo value => Sys2Proof.Machine.execTndSchedGo value s
  | .tndSchedCancel => Sys2Proof.Machine.execTndSchedCancel s
  | .boostOpen value => Sys2Proof.Machine.execBoostOpen value s
  | .boostClose => Sys2Proof.Machine.execBoostClose s
  | .boostWindowEnd => Sys2Proof.Machine.execBoostWindowEnd s
  | .paybackEnd => Sys2Proof.Machine.execPaybackEnd s
  | .wearSpent die => Sys2Proof.Machine.execWearSpent die s
  | .ageingRead trims => Sys2Proof.Machine.execAgeingRead trims s
  | .vddDroop die => Sys2Proof.Machine.execVddDroop die s
  | .railOvercurrent rail => Sys2Proof.Machine.execRailOvercurrent rail s
  | .inputOvercurrent => Sys2Proof.Machine.execInputOvercurrent s
  | .emergencyEscalate => Sys2Proof.Machine.execEmergencyEscalate s
  | .emergencyRelease => Sys2Proof.Machine.execEmergencyRelease s
  | .sensorSample readings => Sys2Proof.Machine.execSensorSample readings s
  | .getState req vin vsb => Sys2Proof.Machine.execGetState req vin vsb s
  | .lcTransition req vin vsb => Sys2Proof.Machine.execLcTransition req vin vsb s
  | .fuseProgrammingDone => Sys2Proof.Machine.execFuseProgrammingDone s
  | .lcSetDigests req vin vsb => Sys2Proof.Machine.execLcSetDigests req vin vsb s
  | .compkeyEnrol req vin vsb => Sys2Proof.Machine.execCompkeyEnrol req vin vsb s
  | .debugCert req vin vsb => Sys2Proof.Machine.execDebugCert req vin vsb s
  | .debugRevoke req vin vsb => Sys2Proof.Machine.execDebugRevoke req vin vsb s
  | .getVersion => Sys2Proof.Machine.execGetVersion s
  | .getCapabilities => Sys2Proof.Machine.execGetCapabilities s
  | .negotiateAlgorithms => Sys2Proof.Machine.execNegotiateAlgorithms s
  | .getDigests => Sys2Proof.Machine.execGetDigests s
  | .getCertificate slot off len => Sys2Proof.Machine.execGetCertificate slot off len s
  | .challenge slot nonce => Sys2Proof.Machine.execChallenge slot nonce s
  | .getMeasurements index nonce => Sys2Proof.Machine.execGetMeasurements index nonce s
  | .sectorFrozen sector => Sys2Proof.Machine.execSectorFrozen sector s
  | .freezeDeadline sector => Sys2Proof.Machine.execFreezeDeadline sector s
  | .imageWriteDone sector => Sys2Proof.Machine.execImageWriteDone sector s
  | .restoreDone sector host => Sys2Proof.Machine.execRestoreDone sector host s
  | .standbyBoot straps resetN => Sys2Proof.Machine.execStandbyBoot straps resetN s
  | .coldBoot => Sys2Proof.Machine.execColdBoot s
  | .resetNAssert => Sys2Proof.Machine.execResetNAssert s
  | .vinApplied volts => Sys2Proof.Machine.execVinApplied volts s
  | .bootStepEnd step ok ms detail pass => Sys2Proof.Machine.execBootStepEnd step ok ms detail pass s
  | .bootStepTimeout step ms => Sys2Proof.Machine.execBootStepTimeout step ms s
  | .wearRecordWrite => Sys2Proof.Machine.execWearRecordWrite s
  | .powerFail vin vsb stage => Sys2Proof.Machine.execPowerFail vin vsb stage s
  | .logFlushDone => Sys2Proof.Machine.execLogFlushDone s
  | .logRead via req => Sys2Proof.Machine.execLogRead via req s
  | .logFlush via req => Sys2Proof.Machine.execLogFlush via req s
  | .logErase via req => Sys2Proof.Machine.execLogErase via req s
  | .journalRead via req => Sys2Proof.Machine.execJournalRead via req s
  | .journalRetry via req => Sys2Proof.Machine.execJournalRetry via req s
  | .sensorRead via req => Sys2Proof.Machine.execSensorRead via req s
  | .opOverride via req => Sys2Proof.Machine.execOpOverride via req s
  | .fwStatus via req => Sys2Proof.Machine.execFwStatus via req s
  | .queryDeviceIdentifiers => Sys2Proof.Machine.execQueryDeviceIdentifiers s
  | .getFirmwareParameters => Sys2Proof.Machine.execGetFirmwareParameters s
  | .getStatus => Sys2Proof.Machine.execGetStatus s
  | .requestUpdate => Sys2Proof.Machine.execRequestUpdate s
  | .passComponentTable components => Sys2Proof.Machine.execPassComponentTable components s
  | .updateComponent component => Sys2Proof.Machine.execUpdateComponent component s
  | .requestFirmwareData data => Sys2Proof.Machine.execRequestFirmwareData data s
  | .transferComplete => Sys2Proof.Machine.execTransferComplete s
  | .verifyComplete => Sys2Proof.Machine.execVerifyComplete s
  | .applyComplete => Sys2Proof.Machine.execApplyComplete s
  | .activateFirmware => Sys2Proof.Machine.execActivateFirmware s
  | .cancelUpdateComponent => Sys2Proof.Machine.execCancelUpdateComponent s
  | .cancelUpdate => Sys2Proof.Machine.execCancelUpdate s
  | .keeperRestartDone => Sys2Proof.Machine.execKeeperRestartDone s
  | .keeperWatchdog => Sys2Proof.Machine.execKeeperWatchdog s
  | .mctpControl => Sys2Proof.Machine.execMctpControl s
  | .keeperConsole => Sys2Proof.Machine.execKeeperConsole s
  | .contextWatchExpiry slot => Sys2Proof.Machine.execContextWatchExpiry slot s
  | .engineWatchExpiry engine => Sys2Proof.Machine.execEngineWatchExpiry engine s
  | .hngResetContext target => Sys2Proof.Machine.execHngResetContext target s
  | .hngResetEngine target => Sys2Proof.Machine.execHngResetEngine target s
  | .hngResetSector target => Sys2Proof.Machine.execHngResetSector target s
  | .hngResetModule dump => Sys2Proof.Machine.execHngResetModule dump s
  | .hngResetPowerCycle dump => Sys2Proof.Machine.execHngResetPowerCycle dump s
  | .engineResetComplete engine => Sys2Proof.Machine.execEngineResetComplete engine s
  | .resetEscalation rung target => Sys2Proof.Machine.execResetEscalation rung target s
  | .warmBootTimeout => Sys2Proof.Machine.execWarmBootTimeout s
  | .powerCycleTimeout => Sys2Proof.Machine.execPowerCycleTimeout s
  | .crashDumpDone ok => Sys2Proof.Machine.execCrashDumpDone ok s
  | .dumpCopy value => Sys2Proof.Machine.execDumpCopy value s
  | .dumpCopyDone ok => Sys2Proof.Machine.execDumpCopyDone ok s
  | .thermTripRelease => Sys2Proof.Machine.execThermTripRelease s
  | .tapInstruction instr => Sys2Proof.Machine.execTapInstruction instr s
  | .laneUp lane => Sys2Proof.Machine.execLaneUp lane s
  | .droopRecovery die => Sys2Proof.Machine.execDroopRecovery die s

end Sys2Proof.Machine
end

