-- ==== Sys2Proof/Machine/RegRead.lean ====
section
/-!
DEFINITION. What a host read of a BAR0 register returns (R9, R10, R11, R15): the registers that show state held elsewhere, as the tables of
the owning chapters lay them out, and the rest as they are held. No row of the opcode table is a read; the view is for statements.
-/
namespace Sys2Proof.Machine

/-- One bit per number below `n` for which `p` holds. -/
def maskOf (n : Nat) (p : Nat → Bool) : Nat := (List.range n).foldl (fun a i => if p i then a + 2 ^ i else a) 0

/-- Fields of `w` bits, from bit 0 up. -/
def packOf (w n : Nat) (v : Nat → Nat) : Nat := (List.range n).foldl (fun a i => a + v i % 2 ^ w * 2 ^ (w * i)) 0

def bit1 (b : Bool) : Nat := if b then 1 else 0

/-- Codes of states, in the order of their tables. -/
def FlashSt.code : FlashSt → Nat | .locked => 0 | .holdover => 1 | .free => 2
def FlashSrc.code : FlashSrc → Nat | .none => 0 | .flashIn => 1 | .chain => 2
def SatSt.code : SatSt → Nat
  | .empty => 0 | .armed => 1 | .done => 2 | .late => 3 | .cancelled => 4 | .refusedFleet => 5 | .missedStep => 6 | .invalid => 7
def SlotSt.code : SlotSt → Nat
  | .empty => 0 | .fetching => 1 | .checking => 2 | .authorising => 3 | .staged => 4 | .lit => 5 | .failed => 6
def ResSt.code : ResSt → Nat | .unlit => 0 | .lit => 1 | .drain => 2 | .fill => 3
def RingSt.code : RingSt → Nat | .free => 0 | .enabled => 1 | .stopped => 2 | .destroying => 3
def RunSt.code : RunSt → Nat
  | .idle => 0 | .running => 1 | .waiting => 2 | .exited => 3 | .stopped => 4 | .halted => 5 | .notLit => 6
def DirMode.code : DirMode → Nat | .directory => 0 | .boot => 1 | .test => 2 | .rebuild => 3
def PortSt.code : PortSt → Nat
  | .down => 0 | .training => 1 | .keying => 2 | .up => 3 | .disabled => 4 | .dark => 5 | .authFailed => 6
def MoorSt.code : MoorSt → Nat | .free => 0 | .leased => 1 | .expired => 2
def KprSt.code : KprSt → Nat | .booting => 0 | .running => 1 | .failed => 2 | .restarting => 3

/-! ### The blocks -/

/-- FLS (R54, R58). -/
def viewFLS (s : State) (off : Nat) : Option Nat :=
  let f := s.flash
  if off = 0x10000 then some f.count.toNat
  else if off = 0x10008 then some s.now.toNat
  else if off = 0x10010 then
    some (bit1 f.freeRun * 2 ^ 24 + f.port * 2 ^ 16 + min 15 f.hops * 2 ^ 12 + f.src.code * 2 ^ 8 +
      bit1 (f.held.isSome || f.heldMk.isSome) * 2 ^ 4 + f.st.code)
  else if off = 0x10018 then some (f.est * 2 ^ 16 + f.code)
  else if off = 0x10038 then some f.step.toNat
  else if off = 0x10040 then some (f.losses * 2 ^ 48 + f.flyEdges * 2 ^ 32 + f.rejects * 2 ^ 16 + f.frameErrs)
  else if off = 0x10048 then some (if f.freeRun then f.holdFlashes else 0)
  else if 0x11000 ≤ off && off < 0x13000 then
    let x := s.satEntry ((off - 0x11000) / 0x20)
    let r := off % 0x20
    some (if r = 0 then x.when_.toNat
      else if r = 8 then
        x.st.code * 2 ^ 40 + x.owner * 2 ^ 24 + bit1 x.irq * 2 ^ 21 + bit1 x.fleet * 2 ^ 20 + x.action * 2 ^ 16 + x.tick
      else if r = 16 then x.op.toNat
      else (stampWord x.doneFlash x.doneTick).toNat)
  else none

/-- CMP, the loader's part (R98). -/
def viewLL (s : State) (off : Nat) : Option Nat :=
  if off = 0x20008 then some (s.ll.lastSlot * 2 ^ 40 + (regNow s off).toNat)
  else if off = 0x20010 then some (maskOf 16 (fun n => (s.sector n).exists_) * 2 ^ 32 + s.ll.litGen.toNat)
  else if off = 0x20018 then some s.ll.litFlash.toNat
  else if 0x20020 ≤ off && off < 0x20050 then some (fieldAt s.ll.litDigest (off - 0x20020) 8)
  else if off = 0x20050 then some (bit1 s.dmk.compKey.isSome)
  else if 0x20100 ≤ off && off < 0x20180 then
    let x := s.slotAt ((off - 0x20100) / 0x40)
    let r := (off - 0x20100) % 0x40
    if r = 0 then some (x.gen.toNat * 2 ^ 32 + x.error * 2 ^ 16 + x.sat * 2 ^ 8 + x.st.code)
    else if r = 8 then some (x.errRec * 2 ^ 48 + x.errOff)
    else if r = 16 then some x.target.toNat
    else none
  else if 0x21000 ≤ off && off < 0x21800 then
    let x := s.sector ((off - 0x21000) / 0x80)
    let r := (off - 0x21000) % 0x80
    if !x.exists_ then some 0
    else if r = 0 then some (cmpInfo x)
    else if r = 8 then some (maskOf 16 (fun n => (tkeys x.lanterns).contains n))
    else if r = 0x10 || r = 0x18 then some (maskOf 64 (fun b => x.channels.contains (b + (r - 0x10) * 8)))
    else if r = 0x20 || r = 0x28 then some (maskOf 64 (fun b => (tkeys x.ways).contains (b + (r - 0x20) * 8)))
    else if r = 0x30 || r = 0x38 then some (maskOf 64 (fun b => x.lanes.contains (b + (r - 0x30) * 8)))
    else if r = 0x40 then some (cmpQuota x)
    else if r = 0x48 then some (cmpAllot x)
    else if r = 0x50 then some (cmpExtents x)
    else none
  else if 0x21800 ≤ off && off < 0x21880 then
    let l := (off - 0x21800) / 8
    match (List.range 16).find? (fun n => (s.sector n).exists_ && (tkeys (s.sector n).lanterns).contains l) with
    | some n => some (2 ^ 31 + n * 2 ^ 16 + tget 0 (s.sector n).lanterns l)
    | none => some 0
  else none

/-- CMP, the rebind engine's part (R119). -/
def viewRB (s : State) (off : Nat) : Option Nat :=
  let states (key : Nat → Nat) (base : Nat) : Nat := packOf 2 32 (fun b => (s.resAt (key (32 * ((off - base) / 8) + b))).st.code)
  let pends (key : Nat → Nat) (base : Nat) : Nat := maskOf 64 (fun b => (s.resAt (key (64 * ((off - base) / 8) + b))).pend.isSome)
  let pageMove (m : Move) : Bool := match m.what with | .page .. => true | .extent .. => false
  if off = 0x28008 then
    some (maskOf 16 (fun n => (s.gen n).oldLive) * 2 ^ 16 +
      bit1 (s.gens.any (fun g => !g.2.moves.isEmpty) || s.res.any (fun r => r.2.st == .fill)))
  else if off = 0x28020 then some (s.rb.chunks * 2 ^ 32 + s.rb.deferrals * 2 ^ 16 + s.rb.timeouts)
  else if off = 0x28040 then
    some (maskOf 16 (fun n => (s.resAt (resLantern n)).pend.isSome) * 2 ^ 32 + packOf 2 16 (fun n => (s.resAt (resLantern n)).st.code))
  else if 0x28048 ≤ off && off < 0x28078 then some (states resCore 0x28048)
  else if 0x28080 ≤ off && off < 0x280A0 then some (states resChannel 0x28080)
  else if 0x280A0 ≤ off && off < 0x280B0 then some (pends resChannel 0x280A0)
  else if 0x280C0 ≤ off && off < 0x280E0 then some (states resWay 0x280C0)
  else if 0x280E0 ≤ off && off < 0x280F0 then some (pends resWay 0x280E0)
  else if 0x28100 ≤ off && off < 0x28120 then some (states resLane 0x28100)
  else if 0x28120 ≤ off && off < 0x28130 then some (pends resLane 0x28120)
  else if 0x28400 ≤ off && off < 0x28600 then
    let n := (off - 0x28400) / 0x20
    let g := s.gen n
    let r := off % 0x20
    some (if r = 0 then
        g.mapGen.toNat * 2 ^ 32 + g.oldTag * 2 ^ 20 + g.curTag * 2 ^ 16 + bit1 (!g.moves.isEmpty) * 2 + bit1 g.oldLive
      else if r = 8 then g.deadline.toNat
      else if r = 16 then min 0xFFFF g.retired * 2 ^ 32 + (if g.oldLive then oldCount s n else 0)
      else (g.moves.filter pageMove).length * 2 ^ 48 + g.waiting.length * 2 ^ 32 +
        (g.moves.filter (fun m => !pageMove m)).length * 2 ^ 16 + bit1 (g.moves.any (·.noRoom)))
  else none

/-- ATF (R319). -/
def viewATF (s : State) (off : Nat) : Option Nat :=
  if off = 0x30010 then some s.xl.fqTail.toNat
  else if off = 0x30018 then some s.xl.fqHead.toNat
  else if off = 0x30020 then
    some (min 0xFFFF (fqShared s) * 2 ^ 32 + s.xl.groups.length * 2 ^ 16 + bit1 s.xl.fqErr * 2 ^ 4 + bit1 s.pci.pri * 2 ^ 3 +
      bit1 s.pci.ats * 2 ^ 2 + bit1 s.xl.priStopped * 2 + bit1 ((List.range 64).any (slotStalled s)))
  else if off = 0x30038 then some (maskOf 64 (slotStalled s))
  else none

/-- MEM and the coherence registers (R350, R371). -/
def viewMEM (s : State) (off : Nat) : Option Nat :=
  let scrub (k : Nat) : Nat :=
    let x := s.scrubAt k
    x.last % 2 ^ 32 * 2 ^ 32 + min (2 ^ 24 - 1) x.current * 2 ^ 8 + x.progress % 256
  if off = 0x40010 then some s.mem.ueAddr.toNat
  else if off = 0x40018 then some s.mem.ueInfo.toNat
  else if off = 0x40020 then some s.mem.ceAddr.toNat
  else if off = 0x40028 then some s.mem.ceInfo.toNat
  else if off = 0x40068 then some s.mem.reported.toNat
  else if 0x40080 ≤ off && off < 0x400A0 then
    some (packOf 2 32 (fun b => (tget (0, 0) s.mem.level (32 * ((off - 0x40080) / 8) + b)).1))
  else if 0x40100 ≤ off && off < 0x40180 && !(s.sector ((off - 0x40100) / 8)).exists_ then some 0
  else if 0x41000 ≤ off && off < 0x41400 then some (scrub ((off - 0x41000) / 8))
  else if 0x41400 ≤ off && off < 0x41480 then some (scrub (128 + (off - 0x41400) / 8))
  else if off = 0x4E000 then
    some (maskOf 16 (fun n => s.mem.rehomes.any (fun r => r.sector == n)) * 2 ^ 16 + packOf 4 4 (fun d => (dirMode s d).code))
  else none

/-- CHN (R401). -/
def viewCHN (s : State) (off : Nat) : Option Nat :=
  let dev := (regNow s 0x50030).toNat % 2 ^ 20
  let hops (k odd : Nat) : Nat :=
    match s.chn.routes.find? (fun e => e.1 == (2 * k + odd) * 2 ^ 20 + dev) with | some e => min 0xFF e.2.1 | none => 0xFF
  let seen (p : Nat) : Nat := min 0xFF (s.chn.routes.filter (fun e => e.1 / 2 ^ 20 == p)).length
  if off = 0x50000 then some (bit1 s.chn.refused * 2 ^ 20 + s.chn.id.toNat)
  else if off = 0x50020 then some s.chn.orphan.toNat
  else if off = 0x50028 then some s.chn.orphanAddr.toNat
  else if off = 0x50038 then some (packOf 8 8 (fun k => hops k 0))
  else if off = 0x50040 then some (packOf 8 8 (fun k => hops k 1))
  else if 0x50100 ≤ off && off < 0x50180 then
    let k := (off - 0x50100) / 0x10
    if off % 0x10 = 0 then none
    else some (seen (2 * k) * 2 ^ 56 + seen (2 * k + 1) * 2 ^ 48 + rpMode s k * 2 + bit1 (!(tget {} s.chn.rps k : RingPos).open_))
  else if 0x50200 ≤ off && off < 0x50600 then
    let p := (off - 0x50200) / 0x40
    let x := s.port p
    let r := (off - 0x50200) % 0x40
    if r = 0 then some (bit1 x.retrain * 2 + (regNow s off).toNat % 2)
    else if r = 8 then
      some (maskOf 8 (fun i => (s.lane (8 * p + i)).up) * 2 ^ 56 + x.delay % 2 ^ 16 * 2 ^ 40 + x.epoch % 256 * 2 ^ 32 + x.st.code)
    else if r = 0x10 then some (x.peerPort % 256 * 2 ^ 24 + x.peerDev % 2 ^ 20)
    else if r = 0x18 then some x.serial.toNat
    else if r = 0x20 then some ((List.range 8).foldl (fun a i => max a (s.lane (8 * p + i)).fctr) 0)
    else none
  else if 0x58000 ≤ off && off < 0x60000 then
    let m := (off - 0x58000) / 0x20
    let v := s.moor m
    let r := off % 0x20
    some (if r = 0 then v.st.code * 2 ^ 62 + v.stCtl.toNat % 2 ^ 62
      else if r = 8 then v.cur.gen.toNat * 2 ^ 32 + v.expiry.toNat
      else if r = 16 then v.stAux.toNat
      else
        let mine := s.chn.reqs.filter (fun q => q.mooring == m)
        min 0xFFFF (mine.filter (fun q => q.lease == v.cur)).length * 2 ^ 48 +
          min 0xFFFF (mine.filter (fun q => v.prev == some q.lease)).length * 2 ^ 32 + v.graceEnd.toNat)
  else none

/-- TND (R427). -/
def viewTND (s : State) (off : Nat) : Option Nat :=
  let t := s.tnd
  let rd := t.last
  if off = 0x60010 then
    let shares := (List.range 16).foldl (fun a n => if (s.sector n).exists_ then a + (s.sector n).share else a) 0
    some (t.slope * 2 ^ 48 + (reserveA s + shares * (t.target - reserveA s) / 4096) % 2 ^ 16 * 2 ^ 32 + t.cap * 2 ^ 16 + t.target)
  else if off = 0x60018 then some t.deadline.toNat
  else if off = 0x60028 then some (t.schedEntry * 2 ^ 56 + (regNow s off).toNat)
  else if off = 0x60038 then
    let degC (q : Int) : Nat := (q / 4).toNat % 256
    let hot := (validSites s).foldl max 0
    some (((rd.map (·.inlet)).getD 0 / 10) % 256 * 2 ^ 40 + degC hot * 2 ^ 32 + t.emerg.cause % 16 * 2 ^ 24 + bit1 t.ramp.isSome * 2 ^ 9 +
      bit1 t.under * 2 ^ 8 + bit1 t.floor * 2 ^ 7 + bit1 t.wearSpent * 2 ^ 6 + t.boost * 2 ^ 4 + t.emerg.level)
  else if off = 0x60050 then
    some ((rd.map (·.reserveW)).getD 0 % 2 ^ 16 * 2 ^ 32 + mean t.avg % 2 ^ 16 * 2 ^ 16 + (rd.map (·.inputW)).getD 0 % 2 ^ 16)
  else if 0x60100 ≤ off && off < 0x60140 then
    let r := (off - 0x60100) / 8
    let x := ((rd.map (·.rails)).getD []).getD r (0, 0, 0)
    some (([75, 650, 650, 650, 650, 400, 320, 250] : List Nat).getD r 0 * 2 ^ 48 + x.1 % 2 ^ 16 * 2 ^ 32 +
      tget 16384 t.cal r % 2 ^ 16 * 2 ^ 16 + x.2.1 % 2 ^ 16)
  else if 0x60140 ≤ off && off < 0x60160 then
    let d := (off - 0x60140) / 8
    some (tget 0 t.used d % 2 ^ 32 * 2 ^ 32 + tget 0 t.trim d % 256 * 2 ^ 16)
  else if 0x61000 ≤ off && off < 0x62000 then
    let n := (off - 0x61000) / 0x100
    let r := off % 0x100
    let x := s.tndSec n
    if 0x80 ≤ r then none
    else if !(s.sector n).exists_ then some 0
    else if r = 0x28 then
      some ((x.credit % 2 ^ 32).toNat * 2 ^ 32 + x.budget % 2 ^ 16 * 2 ^ 16 + min 255 (tndQueue s n).length * 2 ^ 8 + stepsDown s n)
    else if r = 0x30 then some (x.idle * 2 ^ 20 + packOf 4 4 (fun c => x.op.getD c 0))
    else if 0x40 ≤ r && r < 0x70 then
      let l := tget (120, 350, 800) x.learn ((r - 0x40) / 8)
      some (l.2.2 % 2 ^ 16 * 2 ^ 32 + l.2.1 % 2 ^ 16 * 2 ^ 16 + l.1 % 2 ^ 16)
    else none
  else none

/-- KPR (R492). -/
def viewKPR (s : State) (off : Nat) : Option Nat :=
  let k := s.kpr
  if off = 0x70010 then some (k.seq.toNat * 2 ^ 32 + k.result * 2 ^ 16 + (regNow s off).toNat + bit1 k.busy)
  else if off = 0x70018 then some (bit1 (k.pldm != .idle) * 2 ^ 6 + k.slot % 2 * 2 ^ 5 + bit1 k.nvmOk * 2 ^ 4 + k.st.code)
  else if off = 0x70030 then
    some (k.boot.number.toNat * 2 ^ 32 + k.boot.kind % 16 * 2 ^ 28 + k.boot.result % 3 * 2 ^ 24 + k.boot.alternates % 256 * 2 ^ 16 + k.boot.lastFail % 256)
  else if off = 0x70038 then some ((match k.nvmLog with | e :: _ => e.seq.toNat | [] => 0) * 2 ^ 32 + (match s.log with | e :: _ => e.seq.toNat | [] => 0))
  else none

/-- DMK (R454). -/
def viewDMK (s : State) (off : Nat) : Option Nat :=
  let d := s.dmk
  if off = 0x80010 then some (d.seq.toNat * 2 ^ 32 + d.result * 2 ^ 16 + (regNow s off).toNat + bit1 d.busy)
  else if off = 0x80018 then
    some (d.fuses.counter % 2 ^ 11 * 2 ^ 32 + min 255 d.fails * 2 ^ 16 + bit1 d.fuses.scrapDigest.isSome * 2 ^ 9 +
      bit1 d.fuses.fieldDigest.isSome * 2 ^ 8 + lifeCycle s)
  else if off = 0x80020 then some d.rights.toNat
  else if 0x80100 ≤ off && off < 0x80140 then some (packOf 8 8 (fun b => d.slotmap.getD ((off - 0x80100) + b) 0xFF))
  else none

/-- HNG (R511). -/
def viewHNG (s : State) (off : Nat) : Option Nat :=
  let h := s.hng
  let engineReset (e : Nat) : Bool := s.resets.any (fun r => r.rung == 2 && r.target == e)
  let watch (x : Watch) : Nat := x.quiet % 2 ^ 16 * 2 ^ 32 + bit1 x.wasBusy * 2 ^ 31 + bit1 x.expired * 2 ^ 30
  if off = 0x90010 then
    some (maskOf 32 engineReset * 2 ^ 32 + maskOf 16 (fun n => s.resets.any (fun r => r.rung == 3 && r.target == n)) * 2 ^ 16 +
      bit1 h.pwrReq * 2 ^ 7 + bit1 h.stuck * 2 ^ 6 + bit1 h.dumping * 2 ^ 5 + h.reqRung)
  else if off = 0x90030 then some (h.dumpSlot % 4 * 2 ^ 32 + (if h.errSeq = 0 then 0 else (h.errSeq - 1).toNat))
  else if off = 0x90050 then some (h.copyResult * 2 ^ 8 + (regNow s off).toNat + bit1 h.copyBusy)
  else if 0x90100 ≤ off && off < 0x90300 then
    let k := (off - 0x90100) / 8
    some (watch (s.watchAt k) + (match slotCtx s k with | some c => (s.ctx c).window % 2 ^ 16 * 2 ^ 48 + c | none => 0))
  else if 0x90400 ≤ off && off < 0x90500 then
    let e := (off - 0x90400) / 8
    some (watch (s.watchAt (64 + e)) + bit1 (engineReset e) * 2 ^ 29)
  else none

/-- SEQ (R229, R230). -/
def viewSEQ (s : State) (off : Nat) : Option Nat :=
  if off = 0xB0000 then some (s.seqs.filter (fun q => q.2.st != .free)).length
  else if 0xB1000 ≤ off && off < 0xB2000 then
    let n := (off - 0xB1000) / 0x100
    let r := off % 0x100
    let x := s.seqSec n
    if 0x80 ≤ r then none
    else if !(s.sector n).exists_ then some 0
    else if r = 0 then some ((s.sector n).kvLog * 2 ^ 24 + (regNow s off).toNat)
    else if r = 0x50 then
      some (x.cfgErr * 2 ^ 56 + metaExtents s n % 2 ^ 16 * 2 ^ 32 +
        (s.seqs.filter (fun q => q.2.st != .free && q.2.sector == n)).length * 2 ^ 16 +
        (match x.step with | some p => p.cls * 2 ^ 4 + (if x.enabled then 2 else 3) | none => if x.enabled then 1 else 0))
    else if r = 0x58 then some (freeFrames s n * 2 ^ 32 + (kvDescs s n - x.blk.length))
    else none
  else none

/-- LNT (R158). -/
def viewLNT (s : State) (off : Nat) : Option Nat :=
  let n := (off - 0x200000) / 0x10000
  let r := (off - 0x200000) % 0x10000
  if r = 0 then some ((tget 0 s.kpr.ucode n).toNat * 2 ^ 32 + 12 * n * 2 ^ 16 + n / 4 * 2 ^ 8 + n)
  else if 0x100 ≤ r && r < 0x160 then
    let k := 12 * n + (r - 0x100) / 8
    let c := s.core k
    let lit := (s.resAt (resCore k)).st == .lit
    some (match s.group c.group with
      | some g => if c.run == .idle then bit1 (!lit) * 6 else c.logical * 2 ^ 48 + (s.ctx g.ctx).slot * 2 ^ 32 + (if lit then c.run.code else 6)
      | none => if lit then c.run.code else 6)
  else if 0x200 ≤ r && r < 0x2C0 then
    let c := s.core (12 * n + (r - 0x200) / 16)
    some (if r % 16 = 0 then c.trapCause.toNat else c.trapPc.toNat)
  else if 0x300 ≤ r && r < 0x320 then
    let e := 4 * n + (r - 0x300) / 8
    let q := (List.range 12).foldl (fun a i => a + ((s.core (12 * n + i)).q.filter (fun o => o.isMove && engineOf (12 * n + i) o == e)).length) 0
    some (min 64 q * 2 ^ 40 + (regNow s off).toNat)
  else none

/-- A doorbell page (R273, R274). -/
def viewRing (s : State) (off : Nat) : Option Nat :=
  let r := s.ring ((off - 0x1000000) / 0x1000)
  let o := off % 0x1000
  if o = 0 then some r.tail.toNat
  else if o = 8 then some r.head.toNat
  else if o = 0x10 then some r.cqHead.toNat
  else if o = 0x18 then some r.cqTail.toNat
  else if o = 0x20 then
    some (if r.st = .free then 0
      else (if r.kind = 3 then 0 else r.ctx) * 2 ^ 34 + r.kind * 2 ^ 32 + r.sector * 2 ^ 24 + (if r.st = .enabled then 0 else r.error) * 2 ^ 8 + r.st.code)
  else none

/-- The window of a Sector (R276). -/
def viewSEC (s : State) (off : Nat) : Option Nat :=
  let n := (off - 0x2000000) / 0x100000
  let r := off % 0x100000
  let mine (c : Ctx) (st : CtxSt) : Bool := c.sector == n && c.st == st
  let here (k : Nat) : Option Nat := (slotCtx s k).filter (fun c => (s.ctx c).sector == n)
  if !(s.sector n).exists_ then some 0
  else if r = 0x10 then
    some ((regNow s off).toNat + bit1 (s.rings.any (fun q => q.2.kind == 3 && q.2.sector == n && q.2.st != .free)) * 2 ^ 62)
  else if r = 0x18 then
    some (bits (regNow s off).toNat 63 56 * 2 ^ 56 + (s.rings.filter (fun q => q.2.sector == n && q.2.st != .free)).length * 2 ^ 32 +
      min 255 (s.ctxs.filter (fun c => mine c.2 .waiting)).length * 2 ^ 8 +
      (s.ctxs.filter (fun c => mine c.2 .resident || mine c.2 .resetting)).length)
  else if r = 0x20 then some (maskOf 64 (fun k => (here k).isSome))
  else if 0x100 ≤ r && r < 0x300 then
    some (match here ((r - 0x100) / 8) with
      | some c => 2 ^ 63 + bit1 ((s.ctx c).st == .resetting) * 2 ^ 62 + c
      | none => 0)
  else none

/-- The MSI-X table and the pending-bit array (R261). -/
def viewMSIX (s : State) (off : Nat) : Option Nat :=
  if off < 0x3008000 then some (tget (if off % 16 = 8 then 2 ^ 32 else 0 : BitVec 64) s.regs off).toNat
  else if off < 0x3008100 then some (maskOf 64 (fun b => s.pci.pba.contains (8 * (off - 0x3008000) + b)))
  else some 0

/-- The value of the 64-bit register at an offset of a block: snapshot banks read their shadows (R62), registers that show state held
elsewhere read it, others read what they hold; no register there reads zero (R10). -/
def regView (s : State) (off : Nat) : Word :=
  let v : Option Nat :=
    if (snapBank off).isSome then
      some (if (match regSector off with | some n => !(s.sector n).exists_ | none => false) then 0 else (tget 0 s.shadow off).toNat)
    else if off = 8 then some s.dmk.fuses.serial.toNat
    else if off < 0x10000 then none
    else if off < 0x20000 then viewFLS s off
    else if off < 0x28000 then viewLL s off
    else if off < 0x30000 then viewRB s off
    else if off < 0x40000 then viewATF s off
    else if off < 0x50000 then viewMEM s off
    else if off < 0x60000 then viewCHN s off
    else if off < 0x70000 then viewTND s off
    else if off < 0x80000 then viewKPR s off
    else if off < 0x90000 then viewDMK s off
    else if off < 0xA0000 then viewHNG s off
    else if off = 0xA0000 then some s.flash.snapSeq.toNat
    else if off = 0xA0008 then some (stampWord s.flash.snapFlash s.flash.snapTick).toNat
    else if off < 0xB0000 then none
    else if off < 0xC0000 then viewSEQ s off
    else if off < 0x300000 then viewLNT s off
    else if off < 0x2000000 then viewRing s off
    else if off < 0x3000000 then viewSEC s off
    else viewMSIX s off
  match v with
  | some n => if off < 0x3000000 && (regFind off).isNone then 0 else BitVec.ofNat 64 n
  | none => if (regFind off).isSome then regNow s off else 0

/-- What a read of `size` bytes at an offset returns; none where it completes as an Unsupported Request (R9, R10). -/
def regRead (s : State) (off size : Nat) : Option Word :=
  let base := off / 8 * 8
  if !inBlock off then none
  else if size = 8 && off % 8 = 0 then some (regView s base)
  else if size = 4 && off % 4 = 0 && !((regFind base).map (·.whole)).getD false then
    some (BitVec.ofNat 64 (bits (regView s base).toNat (off % 8 * 8 + 31) (off % 8 * 8)))
  else none

end Sys2Proof.Machine
end

