-- ==== Sys2Proof/Safety.lean ====
section
/-!
DEFINITION. What counts as a safe run: no command is turned away, so that every command the block is given has its effect, and the
memories and tables stay in their canonical forms. With it the words that statements use: which parts of the state a command
leaves alone, a core that issues, and a command of a ring as its fields stand.
-/
namespace Sys2Proof.Machine

/-- The memories of the module, and the check states of their lines, are in canonical form. -/
def memoriesWf (s : State) : Bool :=
  Memory.wf s.sm && Memory.wf s.ls && Memory.wf s.clm && twf 0 s.smChk && twf 0 s.lsChk && twf 0 s.clmChk

/-- A step of the state is safe: it answers a next state, and that state's memories are in canonical form. -/
def SafeStep (s : State) : Prop :=
  ∃ t, step s = .next t ∧ memoriesWf t = true

/-- The parts of the state, one for each field of State. -/
inductive Part where
  | pending | regs | free | out | flash | sat | ll | sectors | res | gens | rb | rings | ctxs | events | tables | cores | groups
  | nextGroup | seqs | seqSecs | env | pci | ctr | shadow | log | logSeq | resets | sm | ls | clm | smChk | lsChk | clmChk
  | binaries | xl | mem | chn | tnd | dmk | frz | kpr | hng | pins
  deriving DecidableEq, Repr

/-- A part holds the same in two states. -/
def Part.same (s t : State) : Part → Prop
  | .pending => t.pending = s.pending
  | .regs => t.regs = s.regs
  | .free => t.free = s.free
  | .out => t.out = s.out
  | .flash => t.flash = s.flash
  | .sat => t.sat = s.sat
  | .ll => t.ll = s.ll
  | .sectors => t.sectors = s.sectors
  | .res => t.res = s.res
  | .gens => t.gens = s.gens
  | .rb => t.rb = s.rb
  | .rings => t.rings = s.rings
  | .ctxs => t.ctxs = s.ctxs
  | .events => t.events = s.events
  | .tables => t.tables = s.tables
  | .cores => t.cores = s.cores
  | .groups => t.groups = s.groups
  | .nextGroup => t.nextGroup = s.nextGroup
  | .seqs => t.seqs = s.seqs
  | .seqSecs => t.seqSecs = s.seqSecs
  | .env => t.env = s.env
  | .pci => t.pci = s.pci
  | .ctr => t.ctr = s.ctr
  | .shadow => t.shadow = s.shadow
  | .log => t.log = s.log
  | .logSeq => t.logSeq = s.logSeq
  | .resets => t.resets = s.resets
  | .sm => t.sm = s.sm
  | .ls => t.ls = s.ls
  | .clm => t.clm = s.clm
  | .smChk => t.smChk = s.smChk
  | .lsChk => t.lsChk = s.lsChk
  | .clmChk => t.clmChk = s.clmChk
  | .binaries => t.binaries = s.binaries
  | .xl => t.xl = s.xl
  | .mem => t.mem = s.mem
  | .chn => t.chn = s.chn
  | .tnd => t.tnd = s.tnd
  | .dmk => t.dmk = s.dmk
  | .frz => t.frz = s.frz
  | .kpr => t.kpr = s.kpr
  | .hng => t.hng = s.hng
  | .pins => t.pins = s.pins

/-- Every part but those named holds the same. -/
def SameBut (ps : List Part) (s t : State) : Prop := ∀ p, p ∉ ps → p.same s t

/-- Core `c` issues the instruction at its PC: it runs, in a group that is not stopped, inside the code (R121, R129). -/
def Issues (s : State) (c : Nat) (x : Core) (g : Group) : Prop :=
  s.core c = x ∧ x.run = .running ∧ s.group x.group = some g ∧ g.stopped = false ∧ x.pc < g.codeLen

/-- What one control instruction of core `c`, which held `x`, leaves: register `sd` holds `v` (s0 reads zero and ignores the write),
PC is `pc`, the rest of the core and every other core are as they were, counter 9 of its Lantern has moved (Table 5-14), and no other
part of the state has changed but those of `more`. -/
def CoreStepped (s t : State) (c : Nat) (x : Core) (sd : Nat) (v : Word) (pc : Nat) (more : List Part := []) : Prop :=
  (∀ k, (t.core c).sreg k = if k ≠ 0 ∧ k = sd then v else x.sreg k) ∧ (t.core c).pc = pc ∧
  { t.core c with s := x.s, pc := x.pc } = x ∧ (∀ d, d ≠ c → t.core d = s.core d) ∧
  SameBut ([.cores, .ctr] ++ more) s t

/-- The tile instruction that core `x` issues from word `w` (R132, R133): it captures the descriptors and scalars that its class and OP use. -/
def tileOf (x : Core) (w : BitVec 64) (residueOk : Bool := true) : TileOp :=
  let u := (tileUse (tCLASS w) (tOP w)).getD {}
  { num := x.issued, word := w, pc := x.pc,
    ta := if u.ta then x.treg (tTA w) else 0, tb := if u.tb then x.treg (tTB w) else 0, tc := if u.tc then x.treg (tTC w) else 0,
    sx := if u.sx then x.sreg (tSX w) else 0, sy := if u.sy then x.sreg (tSY w) else 0, residueOk := residueOk }

/-- Core `c` fetches tile word `w` of a class and OP, which passes the checks at issue (R129, R133): the code holds it at a multiple of 8, and
the group holds the core. -/
def TileIssues (s : State) (c : Nat) (x : Core) (g : Group) (w : BitVec 64) (cls op : Nat) (o : TileOp) : Prop :=
  Issues s c x g ∧ c ∈ g.cores ∧ x.pc % 8 = 0 ∧ tCLASS w = cls ∧ tOP w = op ∧ bits w.toNat 31 26 = 0x3F ∧
  o = tileOf x w o.residueOk ∧ issueTrap s g o = none

/-- Such a word starts at once: the core has no other tile instruction, no leave of the Tender is needed and nothing is to be translated, no
extent waits for a channel, no Chain request waits, and no line of the memories holds an error (R134 to R137, R352). -/
def TileStarts (s : State) (c : Nat) (x : Core) (g : Group) (w : BitVec 64) (cls op : Nat) (o : TileOp) : Prop :=
  TileIssues s c x g w cls op o ∧ x.q = [] ∧ leaveNeed s o = none ∧ hmRead o = [] ∧ hmWriteUnits o = [] ∧ tileReady s g o = true ∧
  s.chn.reqs = [] ∧ s.clmChk = [] ∧ s.lsChk = [] ∧ s.smChk = []

/-- The core after a tile instruction started: it stands in the queue, started, and PC has moved past its two words. -/
def Core.after (x : Core) (o : TileOp) : Core := { x with q := [{ o with started := true }], issued := x.issued + 1, pc := x.pc + 8 }

/-- The bytes of core-local memory of core `c` after writing rows at offsets. -/
def clmAfter (m : List Host.Cell) (c : Nat) (rows : List (Nat × List Byte)) : List Host.Cell :=
  rows.foldl (fun m p => cwrite m (clmKey c p.1) p.2) m

end Sys2Proof.Machine
end

