-- ==== Sys2Proof/Certificates/Slice0/Obligations.lean ====
section
/-!
DEFINITION. The statements about the model. Each says of a command, under conditions on the state and the operands alone, which next state
it answers, and what it leaves alone (`SameBut`); or what every step keeps.
-/
open Sys2Proof Sys2Proof.Machine

/-! ### The queue and the reset state -/

/-- A step takes the command at the front of the queue: it is `exec` of that command on the state with the queue's rest. On an empty queue the block idles (the
model's choice, notes/assumptions/1). -/
def Obligations.StepRunsFront : Prop :=
  (∀ (s : State) (c : Instr) (rest : List Instr), step { s with pending := c :: rest } = exec c { s with pending := rest }) ∧
  (∀ s : State, s.pending = [] → step s = .next s)

/-! ### Scalar instructions of a core (R122, R128 to R130) -/

/-- The register forms: sd takes the result of sa and sb modulo 2^64; no flag, no memory, no other register moves (R128). The immediate forms, MOVZ and MOVK: sd
takes the result of sa, or of its own old value, and imm16, which is sign-extended for ADDI and SLTI and zero-extended for the others; the shifts need imm[15:6]
zero, the moves [20:18] zero (R128). -/
def Obligations.ScalarResults : Prop :=
  (∀ (s : State) (c : Fin 192) (w : BitVec 26) (x : Core) (g : Group), Issues s c.val x g → bits w.toNat 10 0 = 0 →
     ∀ p ∈ ([
       (.add c w, fun a b => BitVec.ofNat 64 (a.toNat + b.toNat)),
       (.sub c w, fun a b => BitVec.ofInt 64 (a.toInt - b.toInt)),
       (.and_ c w, fun a b => a &&& b),
       (.or_ c w, fun a b => a ||| b),
       (.xor_ c w, fun a b => a ^^^ b),
       (.sll c w, fun a b => BitVec.ofNat 64 (a.toNat * 2 ^ (b.toNat % 64))),
       (.srl c w, fun a b => BitVec.ofNat 64 (a.toNat / 2 ^ (b.toNat % 64))),
       (.sra c w, fun a b => BitVec.ofInt 64 (a.toInt / 2 ^ (b.toNat % 64))),
       (.slt c w, fun a b => if a.toInt < b.toInt then 1 else 0),
       (.sltu c w, fun a b => if a.toNat < b.toNat then 1 else 0),
       (.mul c w, fun a b => BitVec.ofNat 64 (a.toNat * b.toNat)),
       (.mulhu c w, fun a b => BitVec.ofNat 64 (a.toNat * b.toNat / 2 ^ 64)),
       (.divu c w, fun a b => if b = 0 then BitVec.allOnes 64 else BitVec.ofNat 64 (a.toNat / b.toNat)),
       (.remu c w, fun a b => if b = 0 then a else BitVec.ofNat 64 (a.toNat % b.toNat))] : List (Instr × (Word → Word → Word))),
       ∃ t, exec p.1 s = .next t ∧ CoreStepped s t c.val x (wSd w) (p.2 (x.sreg (wSa w)) (x.sreg (wSb w))) (x.pc + 4)) ∧
  (∀ (s : State) (c : Fin 192) (w : BitVec 26) (x : Core) (g : Group), Issues s c.val x g →
     ∀ p ∈ ([
       (.addi c w, true, fun _ a => BitVec.ofInt 64 (a.toInt + (wImm w).toInt)),
       (.andi c w, true, fun _ a => a &&& BitVec.ofNat 64 (wImm w).toNat),
       (.ori c w, true, fun _ a => a ||| BitVec.ofNat 64 (wImm w).toNat),
       (.xori c w, true, fun _ a => a ^^^ BitVec.ofNat 64 (wImm w).toNat),
       (.slli c w, bits w.toNat 15 6 == 0, fun _ a => BitVec.ofNat 64 (a.toNat * 2 ^ bits w.toNat 5 0)),
       (.srli c w, bits w.toNat 15 6 == 0, fun _ a => BitVec.ofNat 64 (a.toNat / 2 ^ bits w.toNat 5 0)),
       (.srai c w, bits w.toNat 15 6 == 0, fun _ a => BitVec.ofInt 64 (a.toInt / 2 ^ bits w.toNat 5 0)),
       (.slti c w, true, fun _ a => if a.toInt < (wImm w).toInt then 1 else 0),
       (.movz c w, bits w.toNat 20 18 == 0, fun _ _ => BitVec.ofNat 64 ((wImm w).toNat * 2 ^ (16 * wHw w))),
       (.movk c w, bits w.toNat 20 18 == 0, fun old _ => BitVec.ofNat 64
         (old.toNat / 2 ^ (16 * wHw w + 16) * 2 ^ (16 * wHw w + 16) + (wImm w).toNat * 2 ^ (16 * wHw w) + old.toNat % 2 ^ (16 * wHw w)))] :
       List (Instr × Bool × (Word → Word → Word))),
       p.2.1 = true →
       ∃ t, exec p.1 s = .next t ∧
         CoreStepped s t c.val x (wSd w) (p.2.2 (x.sreg (wSd w)) (x.sreg (wSa w))) (x.pc + 4))

/-- LD, LW, LB, TLD: an aligned access below 0x8_0000 whose bytes no uncompleted tile instruction writes, and none of which fails its check, loads sd with the bytes
of CLM at sa + imm, zero-extended, or a tile register with 32 of them (R128, R130, R135). SD, SW, SB: an aligned access below 0x8_0000 that no uncompleted tile
instruction holds stores the low bytes of the register in [25:21] at sa + imm of the core's own CLM, and no other byte of any memory changes; the bytes stored
are free of errors (R124, R128, R130, R135, R352). -/
def Obligations.ScalarMemory : Prop :=
  (∀ (s : State) (c : Fin 192) (w : BitVec 26) (x : Core) (g : Group), Issues s c.val x g →
     let a := (x.sreg (wSa w) + (wImm w).signExtend 64).toNat
     (∀ p ∈ ([(.ld c w, 8), (.lw c w, 4), (.lb c w, 1)] : List (Instr × Nat)),
       a % p.2 = 0 → a + p.2 ≤ 0x80000 → clmBusy x a p.2 false = false → spaceChk s g c.val 0 a p.2 = [] →
       ∃ t, exec p.1 s = .next t ∧
         CoreStepped s t c.val x (wSd w) (BitVec.ofNat 64 (leNat (cread s.clm (clmKey c.val a) p.2))) (x.pc + 4)) ∧
     (a % 32 = 0 → a + 32 ≤ 0x80000 → clmBusy x a 32 false = false → spaceChk s g c.val 0 a 32 = [] →
       ∃ t, exec (.tld c w) s = .next t ∧
         (∀ k, (t.core c.val).treg k =
           if k = wSd w then BitVec.ofNat 256 (leNat (cread s.clm (clmKey c.val a) 32)) else x.treg k) ∧
         (t.core c.val).pc = x.pc + 4 ∧ { t.core c.val with t := x.t, pc := x.pc } = x ∧
         (∀ d, d ≠ c.val → t.core d = s.core d) ∧ SameBut [.cores, .ctr] s t)) ∧
  (∀ (s : State) (c : Fin 192) (w : BitVec 26) (x : Core) (g : Group), Issues s c.val x g →
     let a := (x.sreg (wSa w) + (wImm w).signExtend 64).toNat
     ∀ p ∈ ([(.sd c w, 8), (.sw c w, 4), (.sb c w, 1)] : List (Instr × Nat)),
       a % p.2 = 0 → a + p.2 ≤ 0x80000 → clmBusy x a p.2 true = false →
       ∃ t, exec p.1 s = .next t ∧
         (∀ i, i < p.2 → cget t.clm (clmKey c.val a + i) = BitVec.ofNat 8 ((x.sreg (wSd w)).toNat / 256 ^ i)) ∧
         (∀ k, k < clmKey c.val a ∨ clmKey c.val a + p.2 ≤ k → cget t.clm k = cget s.clm k) ∧
         spaceChk t g c.val 0 a p.2 = [] ∧
         CoreStepped s t c.val x 0 0 (x.pc + 4) [.clm, .clmChk])

/-- The branches of form B go to PC + 4 × off16 where their comparison of the registers in [25:21] and [20:16] holds, and to PC + 4 elsewhere; JAL links PC + 4 in
s31 and goes to PC + 4 × off26; JALR links PC + 4 in sd and goes to sa + imm with bits [1:0] cleared, sa read before sd is written (R128). SPR reads each
special register of Table 5-4; the count of cycles is any value. TSETB writes BASE of a tile register. TWAIT goes on once the pending count of its unit is at
most imm, and changes nothing before. EXIT ends this core's part of the command, which goes on while another core of the group has not exited (R122, R128, Table
5-3, Table 5-4). -/
def Obligations.ControlFlow : Prop :=
  (∀ (s : State) (c : Fin 192) (w : BitVec 26) (x : Core) (g : Group), Issues s c.val x g →
     (∀ p ∈ ([
       (.beq c w, fun a b => a == b), (.bne c w, fun a b => a != b),
       (.blt c w, fun a b => decide (a.toInt < b.toInt)), (.bge c w, fun a b => decide (b.toInt ≤ a.toInt)),
       (.bltu c w, fun a b => decide (a.toNat < b.toNat)), (.bgeu c w, fun a b => decide (b.toNat ≤ a.toNat))] :
       List (Instr × (Word → Word → Bool))),
       ∃ t, exec p.1 s = .next t ∧ CoreStepped s t c.val x 0 0
         (if p.2 (x.sreg (wSd w)) (x.sreg (wSa w)) then (((x.pc : Int) + 4 * (wImm w).toInt) % 2 ^ 64).toNat else x.pc + 4)) ∧
     (∃ t, exec (.jal c w) s = .next t ∧
       CoreStepped s t c.val x 31 (BitVec.ofNat 64 (x.pc + 4)) (((x.pc : Int) + 4 * w.toInt) % 2 ^ 64).toNat) ∧
     (∃ t, exec (.jalr c w) s = .next t ∧
       CoreStepped s t c.val x (wSd w) (BitVec.ofNat 64 (x.pc + 4)) ((x.sreg (wSa w) + (wImm w).signExtend 64).toNat / 4 * 4))) ∧
  (∀ (s : State) (c : Fin 192) (w : BitVec 26) (x : Core) (g : Group), Issues s c.val x g →
     (wSa w = 0 → ∀ p ∈ ([(0, x.logical), (1, g.cores.length), (4, s.now.toNat), (5, 0x7F000), (6, g.ctx), (7, g.sector),
         (8, if g.step then g.batch else 0)] : List (Nat × Nat)), (wImm w).toNat = p.1 →
       ∃ t, exec (.spr c w) s = .next t ∧ CoreStepped s t c.val x (wSd w) (BitVec.ofNat 64 p.2) (x.pc + 4)) ∧
     (wSa w = 0 → (wImm w).toNat = 2 → ∃ t v, exec (.spr c w) s = .next t ∧
       v = ((g.cores.map (· / 12)).eraseDups).findIdx (· == c.val / 12) ∧
       CoreStepped s t c.val x (wSd w) (BitVec.ofNat 64 v) (x.pc + 4)) ∧
     (wSa w = 0 → (wImm w).toNat = 3 → ∃ t v, exec (.spr c w) s = .next t ∧
       CoreStepped s t c.val x (wSd w) v (x.pc + 4) [.free]) ∧
     (wSa w = 0 → (wImm w).toNat = 9 → ∃ t v, exec (.spr c w) s = .next t ∧
       (∀ u, u < 5 → bits v (8 * u + 7) (8 * u) = (x.q.filter (fun o => tCLASS o.word == u)).length % 256) ∧
       CoreStepped s t c.val x (wSd w) (BitVec.ofNat 64 v) (x.pc + 4)) ∧
     (bits w.toNat 15 0 = 0 → (x.sreg (wSa w)).toNat < 2 ^ 57 →
       ∃ t, exec (.tsetb c w) s = .next t ∧
         (∀ k, (t.core c.val).treg k = if k = wSd w then
           BitVec.ofNat 256 ((x.treg k).toNat / 2 ^ 57 * 2 ^ 57 + (x.sreg (wSa w)).toNat) else x.treg k) ∧
         (t.core c.val).pc = x.pc + 4 ∧ { t.core c.val with t := x.t, pc := x.pc } = x ∧
         (∀ d, d ≠ c.val → t.core d = s.core d) ∧ SameBut [.cores, .ctr] s t) ∧
     (wSa w = 0 → ∀ n, pendingOf x (wSd w) = some n → n ≤ (wImm w).toNat →
       ∃ t, exec (.twait c w) s = .next t ∧ CoreStepped s t c.val x 0 0 (x.pc + 4)) ∧
     (wSa w = 0 → ∀ n, pendingOf x (wSd w) = some n → (wImm w).toNat < n → exec (.twait c w) s = .next s) ∧
     (bits w.toNat 25 8 = 0 → (∃ d ∈ g.cores, d ≠ c.val ∧ (s.core d).run ≠ .exited) →
       ∃ t, exec (.exit c w) s = .next t ∧
         t.core c.val = { x with run := .exited, code := bits w.toNat 7 0, pc := x.pc + 4 } ∧
         (∀ d, d ≠ c.val → t.core d = s.core d) ∧ SameBut [.cores, .ctr] s t))

/-! ### Traps of a core (R129, R154, R158, Table 5-11) -/

/-- The row of a fetched word: TRAP is SOFTWARE with its code; TRAP with a bit of [25:16], an unassigned opcode, a tile word that no class and OP name, and a second
word of a tile instruction are ILLEGAL; past the code the trap is FETCH_RANGE. Where no opcode is known the OP that the trap shows is a free value. What a trap
leaves, where another core of the group has a tile instruction that has started: LNT_TRAP of the core holds CODE, OP class, OP and CAUSE, and the PC;
LNT_EVENTS.TRAP of its Lantern is set; the group is stopped with INVALID_COMMAND of class 3, naming the cause and the logical core; every core of it is stopped,
keeps its registers, and keeps of its tile instructions those that have started (R154, R158). Where a control instruction is not legal it traps ILLEGAL with its
own opcode and has no other effect: form A with a bit of [10:0], the shifts with imm[15:6], the moves with [20:18], SPR of no register or with [20:16], TSETB
with [15:0], TWAIT of no unit or with [20:16], EXIT with [25:8]. TSETB of a value above 57 bits is DESC_INVALID; a misaligned or too high access to CLM is
CLM_RANGE (R128 to R130). -/
def Obligations.Traps : Prop :=
  ((∀ (s : State) (c : Fin 192) (x : Core) (g : Group), Issues s c.val x g → ∀ w : BitVec 32,
     (x.pc % 8 = 4 → exec (.trap c .second) s = .next (trapCore s.fresh.2 c.val 0x01 0 0 (s.fresh.1.toNat % 64) x.pc)) ∧
     (bits w.toNat 31 26 = 0x3F → x.pc % 8 = 4 → exec (.trap c (.word w)) s = .next (trapCore s c.val 0x01 0 0 0x3F x.pc)) ∧
     (bits w.toNat 31 26 = 0x2D → bits w.toNat 25 16 = 0 →
       exec (.trap c (.word w)) s = .next (trapCore s c.val 0x0C (bits w.toNat 15 0) 0 0x2D x.pc)) ∧
     (bits w.toNat 31 26 = 0x2D → bits w.toNat 25 16 ≠ 0 → exec (.trap c (.word w)) s = .next (trapCore s c.val 0x01 0 0 0x2D x.pc)) ∧
     (∀ op, bits w.toNat 31 26 = op → (op = 0 ∨ op = 0x0F ∨ (0x2E ≤ op ∧ op ≤ 0x3E)) →
       exec (.trap c (.word w)) s = .next (trapCore s c.val 0x01 0 0 op x.pc)) ∧
     (bits w.toNat 31 26 = 0x3F → x.pc % 8 ≠ 4 → tileUse (bits w.toNat 25 23) (bits w.toNat 22 16) = none →
       exec (.trap c (.word w)) s = .next (trapCore s c.val 0x01 0 (bits w.toNat 25 23 + 1) (bits w.toNat 22 16) x.pc))) ∧
   (∀ (s : State) (c : Fin 192) (f : Fetched) (x : Core) (g : Group), s.core c = x → x.run = .running → s.group x.group = some g → g.stopped = false →
     g.codeLen ≤ x.pc → exec (.trap c f) s = .next (trapCore s.fresh.2 c.val 0x03 0 0 (s.fresh.1.toNat % 64) x.pc))) ∧
  (∀ (s : State) (c : Nat) (x : Core) (g : Group) (cause code cls op pc : Nat), s.core c = x → s.group x.group = some g → g.stopped = false →
     g.cores.Nodup → c ∈ g.cores →
     (∀ d ∈ g.cores, ∀ o ∈ (s.core d).q, o.started = true → tCLASS o.word ≠ 2) →
     (∃ d ∈ g.cores, ∃ o ∈ (s.core d).q, o.started = true) →
     let t := trapCore s c cause code cls op pc
     (t.core c).trapCause = BitVec.ofNat 64 (code * 2 ^ 32 + cls * 2 ^ 20 + op * 2 ^ 12 + cause) ∧ (t.core c).trapPc = BitVec.ofNat 32 pc ∧
     evSet t (evLNT (c / 12)) 0 = true ∧
     t.group x.group = some { g with stopped := true, conds := g.conds ++ [⟨stINVALID, invalidDetail cause 3 0 x.logical⟩] } ∧
     (∀ d ∈ g.cores, (t.core d).run = .stopped ∧ (t.core d).q = ((s.core d).q.filter (·.started)).map (fun o => { o with dead := true }) ∧
       (t.core d).s = (s.core d).s ∧ (t.core d).t = (s.core d).t ∧ (t.core d).acc = (s.core d).acc ∧ (t.core d).pc = (s.core d).pc) ∧
     (∀ d, d ∉ g.cores → t.core d = s.core d) ∧
     SameBut [.cores, .groups, .regs, .out, .pci] s t) ∧
  (∀ (s : State) (c : Fin 192) (w : BitVec 26) (x : Core) (g : Group), Issues s c.val x g →
     (bits w.toNat 10 0 ≠ 0 → ∀ p ∈ ([(.add c w, 1), (.sub c w, 2), (.and_ c w, 3), (.or_ c w, 4), (.xor_ c w, 5), (.sll c w, 6), (.srl c w, 7),
         (.sra c w, 8), (.slt c w, 9), (.sltu c w, 0xA), (.mul c w, 0xB), (.mulhu c w, 0xC), (.divu c w, 0xD), (.remu c w, 0xE)] :
         List (Instr × Nat)), exec p.1 s = .next (trapCore s c.val 0x01 0 0 p.2 x.pc)) ∧
     (bits w.toNat 15 6 ≠ 0 → ∀ p ∈ ([(.slli c w, 0x14), (.srli c w, 0x15), (.srai c w, 0x16)] : List (Instr × Nat)),
       exec p.1 s = .next (trapCore s c.val 0x01 0 0 p.2 x.pc)) ∧
     (bits w.toNat 20 18 ≠ 0 → ∀ p ∈ ([(.movz c w, 0x18), (.movk c w, 0x19)] : List (Instr × Nat)),
       exec p.1 s = .next (trapCore s c.val 0x01 0 0 p.2 x.pc)) ∧
     (wSa w ≠ 0 ∨ 10 ≤ (wImm w).toNat → exec (.spr c w) s = .next (trapCore s c.val 0x01 0 0 0x28 x.pc)) ∧
     (bits w.toNat 15 0 ≠ 0 → exec (.tsetb c w) s = .next (trapCore s c.val 0x01 0 0 0x2A x.pc)) ∧
     (bits w.toNat 15 0 = 0 → 2 ^ 57 ≤ (x.sreg (wSa w)).toNat → exec (.tsetb c w) s = .next (trapCore s c.val 0x04 0 0 0x2A x.pc)) ∧
     (wSa w ≠ 0 ∨ (5 ≤ wSd w ∧ wSd w ≤ 15) → exec (.twait c w) s = .next (trapCore s c.val 0x01 0 0 0x2B x.pc)) ∧
     (bits w.toNat 25 8 ≠ 0 → exec (.exit c w) s = .next (trapCore s c.val 0x01 0 0 0x2C x.pc)) ∧
     (let a := (x.sreg (wSa w) + (wImm w).signExtend 64).toNat
      ∀ p ∈ ([(.ld c w, 8, 0x1A), (.lw c w, 4, 0x1B), (.lb c w, 1, 0x1C), (.sd c w, 8, 0x1D), (.sw c w, 4, 0x1E), (.sb c w, 1, 0x1F),
        (.tld c w, 32, 0x29)] : List (Instr × Nat × Nat)), (a % p.2.1 ≠ 0 ∨ 0x80000 < a + p.2.1) →
        exec p.1 s = .next (trapCore s c.val 0x02 0 0 p.2.2 x.pc)))

/-! ### Tile instructions (R131 to R153) -/

/-- Each row of class and OP. A tile word of them that passes the checks at issue takes its place at the end of the core's queue, with the descriptors and scalars
it captures, and PC moves by 8, while its unit holds fewer than 32; what can start then starts. A full unit holds the core: nothing changes. A word that fails a
check traps with its cause and its class and OP, and one that lies at 4 mod 8 is ILLEGAL (R129, R132 to R134). -/
def Obligations.TileIssue : Prop :=
  ∀ (s : State) (c : Fin 192) (w : BitVec 64) (x : Core) (g : Group), Issues s c.val x g →
    ∀ p ∈ ([(.acz c w, 0, 0), (.mma c w true, 0, 1), (.tred c w, 0, 2), (.ladfin c w, 0, 3), (.acst c w, 0, 4), (.vadd c w, 1, 0),
      (.vsub c w, 1, 1), (.vmul c w, 1, 2), (.vfma c w, 1, 3), (.vmax c w, 1, 4), (.vmin c w, 1, 5), (.vscale c w, 1, 6), (.vbias c w, 1, 7),
      (.vexp c w, 1, 8), (.vlog c w, 1, 9), (.vrcp c w, 1, 10), (.vcvt c w, 1, 11), (.vrmax c w, 1, 12), (.vrsum c w, 1, 13),
      (.vsmx c w, 1, 14), (.vtopk c w, 1, 15), (.vtopp c w, 1, 16), (.tcopy c w, 2, 0), (.tpf c w, 2, 1), (.aadd c w, 2, 2),
      (.amax c w, 2, 3), (.acas c w, 2, 4), (.axchg c w, 2, 5), (.bar c w, 3, 0), (.esig c w, 3, 1), (.ewait c w, 3, 2), (.lfence c w, 3, 3),
      (.sqinfo c w, 4, 0), (.kvgather c w, 4, 1), (.kvput c w, 4, 2), (.sample c w, 4, 3)] : List (Instr × Nat × Nat)),
      bits w.toNat 31 26 = 0x3F → tCLASS w = p.2.1 → tOP w = p.2.2 →
      let o := tileOf x w
      (x.pc % 8 ≠ 0 → exec p.1 s = .next (trapCore s c.val 0x01 0 0 0x3F x.pc)) ∧
      (x.pc % 8 = 0 → ∀ k, issueTrap s g o = some k → exec p.1 s = .next (trapCore s c.val k 0 (p.2.1 + 1) p.2.2 x.pc)) ∧
      (x.pc % 8 = 0 → issueTrap s g o = none → (x.q.filter (fun q => tCLASS q.word == p.2.1)).length < 32 →
        exec p.1 s = .next (pumpCore (s.setCore c.val { x with q := x.q ++ [o], issued := x.issued + 1, pc := x.pc + 8 }) c.val)) ∧
      (x.pc % 8 = 0 → issueTrap s g o = none → 32 ≤ (x.q.filter (fun q => tCLASS q.word == p.2.1)).length → exec p.1 s = .next s)

/-- The element instructions, reductions and conversions of the vector unit, where they start at once: TA takes, as `Desc.store` lays a matrix out, the value of
each element, computed in binary32 from the operands as they were; no other byte of any memory changes, nor another core (R143, R181 to R183, Table 5-8). `f` is
the scalar operand. VTOPK writes the COLS largest of each row to TA, largest first, and their columns to TC; NaN stands above every value and the lower column
first among equals. VTOPP writes the smallest count whose running sum reaches p, or the number of columns (R143, R182). -/
def Obligations.VectorUnit : Prop :=
  (∀ (s : State) (c : Fin 192) (w : BitVec 64) (x : Core) (g : Group) (o : TileOp),
     let rd := spaceRead s g c.val 0
     let a := o.da.f32 rd
     let b := o.db.f32 rd
     let k := o.dc.f32 rd
     let f : F32 := o.sx.setWidth 32
     let n := o.db.cols
     ∀ p ∈ ([(.vadd c w, 0, fun r q => fadd (b r q) (k r q)), (.vsub c w, 1, fun r q => fsub (b r q) (k r q)),
       (.vmul c w, 2, fun r q => fmul (b r q) (k r q)), (.vfma c w, 3, fun r q => ffma (b r q) (k r q) (a r q)),
       (.vmax c w, 4, fun r q => fmax (b r q) (k r q)), (.vmin c w, 5, fun r q => fmin (b r q) (k r q)),
       (.vscale c w, 6, fun r q => fmul (b r q) f), (.vbias c w, 7, fun r q => fadd (b r q) (k 0 q)),
       (.vexp c w, 8, fun r q => vexp (b r q)), (.vlog c w, 9, fun r q => vlog (b r q)), (.vrcp c w, 10, fun r q => vrcp (b r q)),
       (.vcvt c w, 11, fun r q => b r q),
       (.vrmax c w, 12, fun r _ => (List.range (n - 1)).foldl (fun m i => fmax m (b r (i + 1))) (b r 0)),
       (.vrsum c w, 13, fun r _ => treeSum (fun i => b r i) 20 0 n),
       (.vsmx c w, 14, fun r q => vexp (fsub (b r q) (k r 0)))] : List (Instr × Nat × (Nat → Nat → F32))),
       TileStarts s c.val x g w 1 p.2.1 o → o.residueOk = true →
       ∃ t, exec p.1 s = .next t ∧ t.core c.val = x.after o ∧ (∀ d, d ≠ c.val → t.core d = s.core d) ∧
         t.clm = clmAfter s.clm c.val (o.da.store p.2.2) ∧ SameBut [.cores, .clm, .clmChk] s t) ∧
  (∀ (s : State) (c : Fin 192) (w : BitVec 64) (x : Core) (g : Group) (o : TileOp), o.residueOk = true →
     let rd := spaceRead s g c.val 0
     let b := o.db.f32 rd
     let sorted (r : Nat) := sortBy topkLe ((List.range o.db.cols).map (fun i => (i, b r i)))
     (TileStarts s c.val x g w 1 15 o →
       ∃ t, exec (.vtopk c w) s = .next t ∧ t.core c.val = x.after o ∧ (∀ d, d ≠ c.val → t.core d = s.core d) ∧
         t.clm = clmAfter (clmAfter s.clm c.val (o.da.store (fun r q => (((sorted r)[q]?).map (·.2)).getD 0))) c.val
           ((List.range o.dc.rows).map (fun r => (o.dc.base + r * o.dc.rowStride,
             ((sorted r).take o.da.cols).flatMap (fun p => leBytes 4 p.1)))) ∧
         SameBut [.cores, .clm, .clmChk] s t) ∧
     (TileStarts s c.val x g w 1 16 o →
       ∃ t, exec (.vtopp c w) s = .next t ∧ t.core c.val = x.after o ∧ (∀ d, d ≠ c.val → t.core d = s.core d) ∧
         t.clm = clmAfter s.clm c.val ((List.range o.da.rows).map (fun r => (o.da.base + r * o.da.rowStride,
           leBytes 4 ((topp (o.sx.setWidth 32) 0 0 ((List.range o.db.cols).map (b r))).getD o.db.cols)))) ∧
         SameBut [.cores, .clm, .clmChk] s t))

/-- The matrix engine, where the instruction starts at once. ACZ binds an accumulator, with an empty ladder, and writes no memory. MMA pushes the node of its span:
each element is the canonical tree of its block values; a residue that fails starts attempt 1 instead, and nothing is pushed. TRED pushes the partial it reads
from CLM, LS or SM. LADFIN asks for a ladder of one entry. ACST stores that entry, converted (R138 to R141, R188). `pushNode` is what a push does (LadderPush).
A push writes the node into the level above the ladder's entries. While the top two entries are not siblings that is all; where the new entry is the right
sibling of the top one, and they are not the root of a pair below it, both are taken off and their sum, element by element, older on the left, stands in the
older one's level (R140). -/
def Obligations.MatrixUnit : Prop :=
  (∀ (s : State) (c : Fin 192) (w : BitVec 64) (x : Core) (g : Group) (o : TileOp) (a : Acc),
     let i := tACC w
     let rd := spaceRead s g c.val 0
     let sp := spanOf o.sx
     let clmCtr := 0x201018 + 0x10000 * (c.val / 12)
     (TileStarts s c.val x g w 0 0 o → o.residueOk = true →
       let d := o.da
       let a0 : Acc := ⟨d.base, d.rows, d.cols, d.rowStride, o.sx.toNat, tImm w % 16 + 1, []⟩
       ∃ t, exec (.acz c w) s = .next t ∧ t.core c.val = { x.after o with acc := tput none x.acc i (some a0) } ∧
         (∀ d, d ≠ c.val → t.core d = s.core d) ∧ SameBut [.cores] s t) ∧
     (TileStarts s c.val x g w 0 1 o → o.residueOk = true → tget none x.acc i = some a → mayPush a sp = true → o.da.rows = a.rows →
       o.db.rows = a.cols →
       let n := pushNode s c.val i a sp (fun r q => treeSum (fun β => blockValue (fun e => o.da.elem rd r (32 * β + e))
         (fun e => o.db.elem rd q (32 * β + e)) o.da.tnum o.db.tnum) 20 0 sp.count)
       ∃ t, exec (.mma c w true) s = .next t ∧ t.clm = n.clm ∧ t.core c.val = { x.after o with acc := (n.core c.val).acc } ∧
         (∀ d, d ≠ c.val → t.core d = s.core d) ∧
         tget 0 t.ctr clmCtr = tget 0 s.ctr clmCtr + BitVec.ofNat 64 (o.da.rows * o.db.rows * o.da.cols / 1024) ∧
         SameBut [.cores, .clm, .clmChk, .ctr] s t) ∧
     (TileStarts s c.val x g w 0 1 o → o.residueOk = false → tget none x.acc i = some a → mayPush a sp = true → o.da.rows = a.rows →
       o.db.rows = a.cols →
       ∃ t, exec (.mma c w false) s = .next t ∧
         t.core c.val = { x.after o with q := [{ o with started := true, attempt := some 1 }] } ∧
         (∀ d, d ≠ c.val → t.core d = s.core d) ∧ SameBut [.cores, .ctr] s t) ∧
     (TileStarts s c.val x g w 0 2 o → o.residueOk = true → tget none x.acc i = some a → mayPush a sp = true → o.da.rows = a.rows →
       o.da.cols = a.cols → o.da.space ≤ 2 → tileTrap s g o.da = none →
       let n := pushNode s c.val i a sp (o.da.f32 (spaceRead s g c.val o.da.space))
       ∃ t, exec (.tred c w) s = .next t ∧ t.clm = n.clm ∧ t.core c.val = { x.after o with acc := (n.core c.val).acc } ∧
         (∀ d, d ≠ c.val → t.core d = s.core d) ∧ SameBut [.cores, .clm, .clmChk] s t) ∧
     (TileStarts s c.val x g w 0 3 o → o.residueOk = true → tget none x.acc i = some a → a.ladder.length = 1 →
       ∃ t, exec (.ladfin c w) s = .next t ∧ t.core c.val = x.after o ∧ (∀ d, d ≠ c.val → t.core d = s.core d) ∧ SameBut [.cores] s t) ∧
     (TileStarts s c.val x g w 0 4 o → o.residueOk = true → tget none x.acc i = some a → a.ladder.length = 1 → o.da.rows = a.rows →
       o.da.cols = a.cols →
       ∃ t, exec (.acst c w) s = .next t ∧ t.core c.val = x.after o ∧ (∀ d, d ≠ c.val → t.core d = s.core d) ∧
         t.clm = clmAfter s.clm c.val (o.da.store (getNode s c.val a 0)) ∧ SameBut [.cores, .clm, .clmChk] s t)) ∧
  (∀ (s : State) (c i : Nat) (a : Acc) (sp : Span) (v : Nat → Nat → F32),
     let n := a.ladder.length
     let put (m : State) (l : Nat) (u : Nat → Nat → F32) : State := putNode m c a l u
     ((∀ t r, a.ladder = t :: r → siblings t sp a.nb = false) →
       let t := pushNode s c i a sp v
       t.clm = (put s n v).clm ∧ tget none (t.core c).acc i = some { a with ladder := sp :: a.ladder } ∧
       (∀ d, d ≠ c → t.core d = s.core d) ∧ SameBut [.cores, .clm, .clmChk] s t) ∧
     (∀ u r, a.ladder = u :: r → siblings u sp a.nb = true →
       (∀ z q, r = z :: q → siblings z ⟨u.first, u.count + sp.count⟩ a.nb = false) →
       let m := put s n v
       let t := pushNode s c i a sp v
       t.clm = (put m r.length (fun y z => fadd (getNode m c a r.length y z) (getNode m c a (r.length + 1) y z))).clm ∧
       tget none (t.core c).acc i = some { a with ladder := ⟨u.first, u.count + sp.count⟩ :: r } ∧
       (∀ d, d ≠ c → t.core d = s.core d) ∧ SameBut [.cores, .clm, .clmChk] s t))

/-- Moves inside the module, where they start at once. TCOPY between core-local, Lantern and Sector memory writes to TA's rows what TB's rows held. TPF of Sector
memory is a hint: no byte moves. An atomic reads eight bytes of LS or SM, puts them into CLM, and writes back the sum with SX, the larger as unsigned, SX where
the old value is SY, or SX (R144 to R148). A synchronisation instruction that starts moves nothing but the core's queue; a BAR counts the arrival of its logical
core at its barrier (R150 to R152). What ESIG, EWAIT and LFENCE do comes with their completion (TileCompletion). Moves with a side on Chain, where they start at
once: each part of at most 4,096 bytes, inside one 4 KiB-aligned range, is one request through its window: PREFETCHes of a TPF, READs of a TCOPY whose source is
REMOTE, whose bytes come with its completion, and WRITEs of one that writes core-local bytes to REMOTE. What can be sent is sent at once (R144, R148, R379,
R389). -/
def Obligations.MovesAndSync : Prop :=
  (∀ (s : State) (c : Fin 192) (w : BitVec 64) (x : Core) (g : Group) (o : TileOp), o.residueOk = true →
     (TileStarts s c.val x g w 2 0 o → o.da.space ≤ 2 → o.db.space ≤ 2 → (o.source.toList ++ o.dest.toList).filterMap (tileTrap s g) = [] →
       let m := tileWrite s g c.val o.da (o.db.ranges.map (fun r => spaceRead s g c.val o.db.space r.1 r.2))
       ∃ t, exec (.tcopy c w) s = .next t ∧ t.core c.val = { x.after o with q := [{ o with started := true, wrote := true }] } ∧
         (∀ d, d ≠ c.val → t.core d = s.core d) ∧ t.clm = m.clm ∧ t.ls = m.ls ∧ t.sm = m.sm ∧
         SameBut [.cores, .clm, .clmChk, .ls, .lsChk, .sm, .smChk, .ctr] s t) ∧
     (TileStarts s c.val x g w 2 1 o → o.db.space = 2 → tileTrap s g o.db = none →
       ∃ t, exec (.tpf c w) s = .next t ∧ t.core c.val = x.after o ∧ (∀ d, d ≠ c.val → t.core d = s.core d) ∧ SameBut [.cores] s t) ∧
     (∀ p ∈ ([(.aadd c w, 2, fun old => old + o.sx), (.amax c w, 3, fun old => if old.toNat < o.sx.toNat then o.sx else old),
         (.acas c w, 4, fun old => if old = o.sy then o.sx else old), (.axchg c w, 5, fun _ => o.sx)] :
         List (Instr × Nat × (BitVec 64 → BitVec 64))),
       TileStarts s c.val x g w 2 p.2.1 o → tileTrap s g o.da = none →
       let old := spaceRead s g c.val o.da.space o.da.base 8
       let m := spaceWrite s g c.val o.da.space o.da.base (leBytes 8 (p.2.2 (BitVec.ofNat 64 (leNat old))).toNat)
       ∃ t, exec p.1 s = .next t ∧ t.core c.val = { x.after o with q := [{ o with started := true, wrote := true }] } ∧
         (∀ d, d ≠ c.val → t.core d = s.core d) ∧ t.clm = cwrite s.clm (clmKey c.val o.db.base) old ∧ t.ls = m.ls ∧ t.sm = m.sm ∧
         SameBut [.cores, .clm, .clmChk, .ls, .lsChk, .sm, .smChk, .ctr] s t)) ∧
  (∀ (s : State) (c : Fin 192) (w : BitVec 64) (x : Core) (g : Group) (o : TileOp), o.residueOk = true →
     (TileStarts s c.val x g w 3 0 o →
       let k := arrivalKey (tImm w % 16) x.logical
       let n := tget 0 g.arrivals k + 1
       ∃ t, exec (.bar c w) s = .next t ∧ t.core c.val = { x.after o with q := [{ o with started := true, arrival := n }] } ∧
         (∀ d, d ≠ c.val → t.core d = s.core d) ∧ t.group x.group = some { g with arrivals := tput 0 g.arrivals k n } ∧
         (∀ j, j ≠ x.group → t.group j = s.group j) ∧ SameBut [.cores, .groups] s t) ∧
     (∀ p ∈ ([(.esig c w, 1), (.ewait c w, 2), (.lfence c w, 3)] : List (Instr × Nat)), TileStarts s c.val x g w 3 p.2 o →
       ∃ t, exec p.1 s = .next t ∧ t.core c.val = x.after o ∧ (∀ d, d ≠ c.val → t.core d = s.core d) ∧ SameBut [.cores] s t)) ∧
  (∀ (s : State) (c : Fin 192) (w : BitVec 64) (x : Core) (g : Group) (o : TileOp), o.residueOk = true →
     (o.source.toList ++ o.dest.toList).filterMap (tileTrap s g) = [] → (o.source.toList ++ o.dest.toList).filterMap (tileUnreachable s) = [] →
     let s1 := s.setCore c.val (x.after o)
     let asks := (chainParts o.db).map (fun p => (p, ([] : List Byte)))
     (TileStarts s c.val x g w 2 1 o → o.db.space = 4 →
       exec (.tpf c w) s = .next (chRun (chainIssue s1 g c.val o 3 asks).2)) ∧
     (TileStarts s c.val x g w 2 0 o → o.db.space = 4 →
       let q := chainIssue (dmaCount s1 c.val g false 4 o.db.bytes) g c.val o 2 asks
       exec (.tcopy c w) s = .next (chRun (setOp q.2 c.val o.num (fun o => { o with remote := q.1 })))) ∧
     (TileStarts s c.val x g w 2 0 o → o.db.space = 0 → o.da.space = 4 →
       let s2 := setOp (dmaCount (dmaCount s1 c.val g false 0 o.db.bytes) c.val g true 4 o.da.bytes) c.val o.num (fun o => { o with wrote := true })
       exec (.tcopy c w) s = .next (chRun (chainIssue s2 g c.val o 1 (cutParts o.da (o.db.ranges.map (fun r => spaceRead s g c.val 0 r.1 r.2)))).2)))

/-- The sequence unit, where the instruction starts at once. SQINFO writes the 32 bytes of Table 5-12 for its row. KVGATHER brings the entries of its positions into
TA's rows and KVPUT stores TB's rows to the entries. SAMPLE takes the row's next decision from its logits and writes the record of Table 8-4; what Table 8-4
leaves open of it is free (R153, R222, R234, R242 to R249). -/
def Obligations.SequenceUnit : Prop :=
  ∀ (s : State) (c : Fin 192) (w : BitVec 64) (x : Core) (g : Group) (o : TileOp) (r : Row), o.residueOk = true →
    batchRow s g o.sx = some r →
    let n := g.sector
    let q := s.seq r.slot
    let e := kvE s n
    let entry (i : Nat) : Nat := kvAddr s n r (kvFirst o + i) (kvLayer o) (kvHalf o)
    (TileStarts s c.val x g w 4 0 o → o.da.rows = 1 → o.da.rowLen = 32 →
      ∃ t, exec (.sqinfo c w) s = .next t ∧ t.core c.val = x.after o ∧ (∀ d, d ≠ c.val → t.core d = s.core d) ∧
        t.clm = cwrite s.clm (clmKey c.val o.da.base) (leBytes 8 q.c ++ leBytes 4 q.c ++ leBytes 4 r.len ++ leBytes 2 r.slot ++
          leBytes 1 (s.sector n).kvLog ++ leBytes 1 r.kind ++ List.replicate 12 0) ∧ SameBut [.cores, .clm, .clmChk] s t) ∧
    (TileStarts s c.val x g w 4 1 o → tileTrap s g o.da = none →
      let m := (List.range (kvCount o)).foldl (fun m i =>
        spaceWrite m g c.val o.da.space (o.da.base + i * o.da.rowStride) (cread s.sm (smKey n (entry i)) e)) s
      ∃ t, exec (.kvgather c w) s = .next t ∧ t.core c.val = x.after o ∧ (∀ d, d ≠ c.val → t.core d = s.core d) ∧
        t.clm = m.clm ∧ t.ls = m.ls ∧ t.sm = m.sm ∧ SameBut [.cores, .clm, .clmChk, .ls, .lsChk, .sm, .smChk] s t) ∧
    (TileStarts s c.val x g w 4 2 o → tileTrap s g o.db = none →
      ∃ t, exec (.kvput c w) s = .next t ∧ t.core c.val = x.after o ∧ (∀ d, d ≠ c.val → t.core d = s.core d) ∧
        t.sm = (List.range (kvCount o)).foldl (fun m i =>
          cwrite m (smKey n (entry i)) (spaceRead s g c.val o.db.space (o.db.base + i * o.db.rowStride) e)) s.sm ∧
        SameBut [.cores, .sm, .smChk] s t) ∧
    (TileStarts s c.val x g w 4 3 o → tileTrap s g o.da = none → mayTake q r = true → (r.vocab = none ∨ r.vocab = some (o.da.rows * o.da.cols)) →
      ∀ p, (s.seqSec n).step = some p →
      let rd := spaceRead s g c.val o.da.space
      let r1 := takeSample q r (q.reservedBy.map (fun k => (s.seq k).pendingTok))
        ((List.range (o.da.rows * o.da.cols)).map (fun i => o.da.f32 rd (i / o.da.cols) (i % o.da.cols)))
      ∃ t, exec (.sample c w) s = .next t ∧ t.core c.val = x.after o ∧ (∀ d, d ≠ c.val → t.core d = s.core d) ∧
        t.seqSec n = { s.seqSec n with step := some { p with rows := p.rows.set o.sx.toNat r1 } } ∧
        (∀ k, k ≠ n → t.seqSec k = s.seqSec k) ∧ t.free = s.free + 31 ∧
        t.clm = cwrite s.clm (clmKey c.val o.db.base) (decision s r1).1 ∧
        SameBut [.cores, .clm, .clmChk, .seqSecs, .free] s t)

/-- A core whose one tile instruction `o`, number `num`, runs, in a group whose other cores have none and that has not ended. -/
def oneRunning (s : State) (c : Nat) (x : Core) (g : Group) (num : Nat) (o : TileOp) : Prop :=
  s.core c = x ∧ x.q = [o] ∧ o.num = num ∧ o.started = true ∧ o.dead = false ∧ o.attempt = none ∧ s.group x.group = some g ∧
  g.stopped = false ∧ c ∈ g.cores ∧ (∀ d ∈ g.cores, (s.core d).group = x.group ∧ (d ≠ c → (s.core d).q = [])) ∧
  (∃ d ∈ g.cores, (s.core d).run ≠ .exited) ∧ s.chn.reqs = []

/-- TILE_INSTRUCTION_COMPLETE of the only tile instruction of a core. What has made its effect leaves the queue. A TCOPY from host memory brings the host's bytes.
BAR goes on once every core of the group has arrived as often, or exited; ESIG adds SX to the group's event; EWAIT goes on once the event has reached SX; LFENCE
once no write of its streams is out; each waits, changing nothing, until then (R134, R150 to R152). RECOMPUTE_ATTEMPT_DONE for the running attempt `k` of an
MMA. An attempt that passes pushes the node, as attempt 0 would have; one that does not pass is followed by the next, the third on the relief core where there
is one; after the last one the core is quarantined and the command ends with RESIDUE (R188 to R191). -/
def Obligations.TileCompletion : Prop :=
  (∀ (s : State) (c : Fin 192) (x : Core) (g : Group) (num : Nat) (o : TileOp) (host : HostView), oneRunning s c.val x g num o →
     let cmd := Instr.tileInstructionComplete c num host
     let e := bits o.word.toNat 53 48
     let done (t : State) : Prop := exec cmd s = .next t ∧ t.core c.val = { x with q := [] } ∧ (∀ d, d ≠ c.val → t.core d = s.core d)
     (tCLASS o.word ≠ 3 → (∀ d, o.source = some d → d.space ≤ 2) → ∃ t, done t ∧ SameBut [.cores, .hng] s t) ∧
     (tCLASS o.word = 2 → tOP o.word = 0 → o.wrote = false → o.remote = [] → o.da.space = 0 → o.db.space = 3 →
       ∀ bs, o.db.ranges.mapM (fun r => hostRead host r.1 r.2) = some bs →
       ∃ t, done t ∧ t.clm = clmAfter s.clm c.val ((o.da.ranges.zip bs).map (fun p => (p.1.1, p.2))) ∧
         SameBut [.cores, .hng, .clm, .clmChk, .ctr, .mem] s t) ∧
     (tCLASS o.word = 3 → tOP o.word = 0 → barReleased s g (tImm o.word % 16) o.arrival = true → ∃ t, done t ∧ SameBut [.cores, .hng] s t) ∧
     (tCLASS o.word = 3 → tOP o.word = 0 → barReleased s g (tImm o.word % 16) o.arrival = false → exec cmd s = .next s) ∧
     (tCLASS o.word = 3 → tOP o.word = 1 → bit o.word.toNat 63 = false →
       ∃ t, done t ∧ t.group x.group = some { g with events := tmod 0 g.events e (· + o.sx) } ∧
         (∀ j, j ≠ x.group → t.group j = s.group j) ∧ SameBut [.cores, .groups, .hng] s t) ∧
     (tCLASS o.word = 3 → tOP o.word = 1 → bit o.word.toNat 63 = true → maySignal s g.ctx (o.sy.toNat % 65536) = true →
       ∃ t, done t ∧ t.event (o.sy.toNat % 65536) = (let v := s.event (o.sy.toNat % 65536)
           if v.st = .live ∧ v.value.toNat < o.sx.toNat then { v with value := o.sx } else v) ∧
         (∀ j, j ≠ o.sy.toNat % 65536 → t.event j = s.event j) ∧ SameBut [.cores, .events, .rings, .out, .pci, .ctr, .hng] s t) ∧
     (tCLASS o.word = 3 → tOP o.word = 2 → bit o.word.toNat 63 = false → o.sx.toNat ≤ (tget 0 g.events e).toNat →
       ∃ t, done t ∧ SameBut [.cores, .hng] s t) ∧
     (tCLASS o.word = 3 → tOP o.word = 2 → bit o.word.toNat 63 = false → (tget 0 g.events e).toNat < o.sx.toNat → exec cmd s = .next s) ∧
     (tCLASS o.word = 3 → 3 ≤ tOP o.word → ∃ t, done t ∧ SameBut [.cores, .hng] s t)) ∧
  (∀ (s : State) (c : Fin 192) (x : Core) (g : Group) (num k : Nat) (o : TileOp) (a : Acc), s.core c.val = x → s.group x.group = some g →
     findOp s c.val num = some o → o.attempt = some k → o.dead = false → tget none x.acc (tACC o.word) = some a →
     s.clmChk = [] → s.lsChk = [] → s.smChk = [] →
     (1 ≤ k → k ≤ 2 →
       let p := pushNode s c.val (tACC o.word) a (spanOf o.sx) (mmaValue s g c.val o)
       ∃ t, exec (.recomputeAttemptDone c num true) s = .next t ∧ t.clm = p.clm ∧
         t.core c.val = { x with acc := (p.core c.val).acc, q := x.q.map (fun q => if q.num = num then { q with attempt := none } else q) } ∧
         (∀ d, d ≠ c.val → t.core d = s.core d) ∧ SameBut [.cores, .clm, .clmChk, .ctr, .hng] s t) ∧
     (k = 1 ∨ (k = 2 ∧ (reliefCore s c.val).isSome) →
       ∃ t, exec (.recomputeAttemptDone c num false) s = .next t ∧
         t.core c.val = { x with q := x.q.map (fun q => if q.num = num then { q with attempt := some (k + 1) } else q) } ∧
         (∀ d, d ≠ c.val → t.core d = s.core d) ∧ SameBut [.cores, .hng] s t) ∧
     (k = 3 ∨ (k = 2 ∧ reliefCore s c.val = none) →
       ∃ t, exec (.recomputeAttemptDone c num false) s = .next t ∧ (t.resAt (resCore c.val)).quarantined = true ∧
         (t.resAt (resCore c.val)).st ≠ .lit ∧ (∀ d, d ≠ resCore c.val → t.resAt d = s.resAt d)))

/-! ### Registers, configuration and the capability table (R9 to R16, R33 to R37, R58, R261, R300, R390) -/

/-- The word at `base` is a plain register: no table entry (MSI-X, scheduled actions, moorings) and none whose write has conditions of its own. -/
def plainReg (s : State) (base : Nat) : Prop :=
  ¬ (0x3000000 ≤ base ∧ base < 0x3008000) ∧ ¬ (0x11000 ≤ base ∧ base < 0x13000) ∧ ¬ (0x58000 ≤ base ∧ base < 0x60000) ∧ base ≠ 0x30000 ∧
  ¬ (0x2000000 ≤ base ∧ base < 0x3000000) ∧ ownFields base = 0 ∧ (∀ n, regSector base = some n → (s.sector n).exists_ = true)

/-- The access types, bit by bit (R11): a bit that a write sets takes the value written, where the write covers it; a bit that a one clears is cleared by a written
one; every other bit keeps its value. REGISTER_WRITE. An aligned 4-byte or 8-byte write inside a block reaches the register's word as its access types say, and
no other word; a write of another size or alignment, a 4-byte write of a register that is accessed whole, and one outside every block complete as an Unsupported
Request and change nothing; a write where no register is, or of a Sector that does not exist, is ignored (R9 to R11, R229, R427). The offsets and sizes that R9
and R10 accept: 8 bytes at a multiple of 8, or 4 bytes at a multiple of 4 of a register that is not accessed whole, inside a block of Table 0-4; the bytes of a
4-byte write go to its half of the word. A read elsewhere returns nothing; one inside a block where no register is returns zero. Registers whose writes have
conditions of their own: a scheduled-action entry that is ARMED keeps its fields, and the attempt to change one, or to write an entry of 224 to 255, sets
SAT_WRITE_ERR (R58); a mooring is staged, and refused with CHN_EVENTS bit 6 in no existing Sector's range (R390); ATF_FQ_BASE is refused with ATF_EVENTS bit 6
while the queue is on or holds records (R319). -/
def Obligations.RegisterWrites : Prop :=
  (∀ (r : RegRow) (old mask new i : Nat), (Nat.testBit r.rw i && Nat.testBit r.w1c i) = false →
     Nat.testBit (r.write old mask new) i =
       if Nat.testBit r.rw i && Nat.testBit mask i then Nat.testBit new i
       else if Nat.testBit r.w1c i && Nat.testBit mask i && Nat.testBit new i then false
       else Nat.testBit old i) ∧
  (∀ (s : State) (off size : Nat) (value : Word),
     (wrSpan off size value = none → exec (.registerWrite off size value) s = .next (s.emit .unsupported)) ∧
     (∀ base mask new, wrSpan off size value = some (base, mask, new) →
       (regFind base = none → ¬ (0x3000000 ≤ base ∧ base < 0x3008000) → exec (.registerWrite off size value) s = .next s) ∧
       (∀ n, regSector base = some n → (s.sector n).exists_ = false → ¬ (0x3000000 ≤ base ∧ base < 0x3008000) →
         exec (.registerWrite off size value) s = .next s) ∧
       (∀ row, regFind base = some row → plainReg s base →
         ∃ t, exec (.registerWrite off size value) s = .next t ∧
           regNow t base = BitVec.ofNat 64 (row.write (regNow s base).toNat mask new) ∧ (∀ b, b ≠ base → regNow t b = regNow s b) ∧
           SameBut [.regs, .chn, .mem, .hng] s t))) ∧
  (∀ (s : State) (off size : Nat) (value : Word),
     (wrSpan off size value = none → regRead s off size = none) ∧
     (wrSpan off size value ≠ none → regRead s off size ≠ none) ∧
     (wrSpan off size value ≠ none → regFind (off / 8 * 8) = none → off < 0x3000000 ∨ 0x3008100 ≤ off → regRead s off size = some 0) ∧
     (wrSpan off size value ≠ none ↔ inBlock off = true ∧ ((size = 8 ∧ off % 8 = 0) ∨
       (size = 4 ∧ off % 4 = 0 ∧ ∀ row, regFind (off / 8 * 8) = some row → row.whole = false))) ∧
     (inBlock off = true → size = 8 → off % 8 = 0 → wrSpan off size value = some (off, 2 ^ 64 - 1, value.toNat)) ∧
     (inBlock off = true → size = 4 → off % 4 = 0 → (∀ row, regFind (off / 8 * 8) = some row → row.whole = false) →
       wrSpan off size value =
         some (off / 8 * 8, (2 ^ 32 - 1) * 2 ^ (off % 8 * 8), value.toNat % 2 ^ 32 * 2 ^ (off % 8 * 8)))) ∧
  (∀ (s : State) (value : Word),
     (∀ e, e < 224 → (s.satEntry e).st = .armed → (s.satEntry e).when_ ≠ value → ∃ t, exec (.registerWrite (0x11000 + 0x20 * e) 8 value) s = .next t ∧
       evSet t evFLS 8 = true ∧ SameBut [.regs, .out, .pci] s t) ∧
     (∀ e, e < 224 → (s.satEntry e).st ≠ .armed → ∃ t, exec (.registerWrite (0x11000 + 0x20 * e) 8 value) s = .next t ∧
       t.satEntry e = { s.satEntry e with when_ := value } ∧ (∀ d, d ≠ e → t.satEntry d = s.satEntry d) ∧ SameBut [.sat] s t) ∧
     (∀ e, 224 ≤ e → e < 256 → ∃ t, exec (.registerWrite (0x11000 + 0x20 * e) 8 value) s = .next t ∧
       evSet t evFLS 8 = true ∧ SameBut [.regs, .out, .pci] s t) ∧
     (∀ m, m < 1024 → moorSector s m = none → ∃ t, exec (.registerWrite (0x58010 + 0x20 * m) 8 value) s = .next t ∧
       evSet t evCHN 6 = true ∧ SameBut [.regs, .out, .pci] s t) ∧
     (∀ m n, m < 1024 → moorSector s m = some n → ∃ t, exec (.registerWrite (0x58010 + 0x20 * m) 8 value) s = .next t ∧
       t.moor m = { s.moor m with stAux := value } ∧ (∀ k, k ≠ m → t.moor k = s.moor k) ∧ SameBut [.chn] s t) ∧
     ((s.xl.fqOn = true ∨ s.xl.fq ≠ []) → ∃ t, exec (.registerWrite 0x30000 8 value) s = .next t ∧ evSet t evATF 6 = true ∧
       (∀ b, b ≠ evATF → regNow t b = regNow s b) ∧ SameBut [.regs, .out, .pci] s t))

/-- CAP_VER_OFFER. With a context or a ring in use it is refused, CAP_VER_AGREED.REFUSED is set and CAP_VER_OFFER keeps its value; else each interface offered a
major version of at least 1 agrees on 1.0, one offered 0 does not, and the offer is held (R36, R37). -/
def Obligations.VersionOffer : Prop :=
  ∀ (s : State) (v : Word),
    let busy : Prop := (∃ c ∈ s.ctxs, c.2.st ≠ .inactive) ∨ (∃ r ∈ s.rings, r.2.st ≠ .free)
    (busy → ∃ t, exec (.capVerOffer v) s = .next t ∧ regNow t 0x20 = setBits (regNow s 0x20) 62 62 1 ∧
      (∀ b, b ≠ 0x20 → regNow t b = regNow s b) ∧ SameBut [.regs] s t) ∧
    (¬ busy → ∃ t, exec (.capVerOffer v) s = .next t ∧ regNow t 0x18 = BitVec.ofNat 64 (v.toNat % 2 ^ 48) ∧
      bit (regNow t 0x20).toNat 63 = true ∧ bit (regNow t 0x20).toNat 62 = bit (regNow s 0x20).toNat 62 ∧
      (∀ hi lo, (hi, lo) ∈ [(47, 40), (31, 24), (15, 8)] → bits (regNow t 0x20).toNat hi lo = if bits v.toNat hi lo = 0 then 0 else 1) ∧
      (∀ b, b ≠ 0x18 → b ≠ 0x20 → regNow t b = regNow s b) ∧ SameBut [.regs] s t)

/-! ### The Flash time base and scheduled actions (R41 to R62) -/

/-- Edges without a source. FLYWHEEL_EDGE of a locked unit makes the edge at the last grid time plus P; FLYWHEEL counts, and the eighth in a row enters HOLDOVER,
unless the nominated port takes over. HOLDOVER_EDGE makes one in HOLDOVER and FREE. PHASE_TICK goes to the next tick and stands at 4,095. LOCK_WINDOW_EXPIRY
past its window gives a pending lock up (R45 to R47, R50, R51). A tick without the Tender's move (not a multiple of 64), the HELLOs (2,048) or a due action of
the scheduled-action table: only the tick counts, and a snapshot asked for by TAKE latches: its sequence, Flash and tick, and the counters that are not held
(R51, R60, R62). -/
def Obligations.FlashTicks : Prop :=
  (∀ (s : State) (at_ : Nat),
     let p := s.flash.est
     (s.flash.st = .locked → s.flash.pend = none → exec .flywheelEdge s = .next (flashEdge s (s.flash.grid + p + p / 100) (fun u =>
       let f := u.flash
       let v := countUp { u with flash := { f with grid := f.grid + p, flywheel := f.flywheel + 1, flyEdges := min (f.flyEdges + 1) 65535 } }
       if v.flash.flywheel < 8 then v
       else match chainTakesOver v with
         | none => enterHoldover v (s.flash.grid + p + p / 100)
         | some m => { v with flash := { v.flash with src := .chain, port := m.port, flywheel := 0, gaps := m.pair.toList,
                                                      est := m.pair.getD v.flash.est, heldMk := none } }))) ∧
     (s.flash.st ≠ .locked → exec .flywheelEdge s = .next s) ∧
     (s.flash.st ≠ .locked → s.flash.pend = none → exec .holdoverEdge s =
       .next (flashEdge s (s.flash.grid + p) (fun u => countUp { u with flash := { u.flash with grid := s.flash.grid + p } }))) ∧
     (s.flash.st = .locked → exec .holdoverEdge s = .next s) ∧
     (s.flash.tick < 4095 → exec .phaseTick s = .next (tickTo s (s.flash.tick + 1))) ∧ (s.flash.tick = 4095 → exec .phaseTick s = .next s) ∧
     (∀ x, s.flash.pend = some x → 100 * x.base + 101 * x.p p < 100 * at_ →
       exec (.lockWindowExpiry at_) s = .next { s with flash := { s.flash with pend := none, held := none, heldMk := none } }) ∧
     (s.flash.pend = none → exec (.lockWindowExpiry at_) s = .next s) ∧
     (s.flash.st = .holdover → s.flash.holdAt + 10 ^ 10 ≤ at_ → ∃ t, exec (.holdoverTimeout at_) s = .next t ∧ t.flash = { s.flash with st := .free } ∧
       evSet t evFLS 2 = true ∧ SameBut [.flash, .regs, .out, .pci] s t) ∧
     (¬ (s.flash.st = .holdover ∧ s.flash.holdAt + 10 ^ 10 ≤ at_) → exec (.holdoverTimeout at_) s = .next s) ∧
     exec .take s = .next { s with flash := { s.flash with takeReq := true } }) ∧
  (∀ (s : State), s.flash.tick < 4095 → (s.flash.tick + 1) % 64 ≠ 0 → dueEntries { s with flash := { s.flash with tick := s.flash.tick + 1 } } = [] →
     (s.flash.takeReq = false → exec .phaseTick s = .next { s with flash := { s.flash with tick := s.flash.tick + 1 } }) ∧
     (s.flash.takeReq = true → ∃ t, exec .phaseTick s = .next t ∧ t.flash = { s.flash with
         tick := s.flash.tick + 1, takeReq := false, snapSeq := s.flash.snapSeq + 1, snapFlash := s.flash.count, snapTick := s.flash.tick + 1 } ∧
       SameBut [.flash, .shadow] s t))

/-- FLASH_PULSE. A selection without FLASH_IN ignores it. While no lock is pending, a unit locked to FLASH_IN accepts the pulse in the window of 1 % about the
expected time, which makes it the edge of the next Flash, and rejects it elsewhere, counting PULSE_REJECT; an unlocked unit only measures it. A pending lock is
taken at the pulse in its window, keeps waiting after a pulse before it, and is given up after a pulse past it (R44 to R46, R50). FLASH_FRAME. A frame that is
not valid counts as FRAME_ERR; in a unit locked to FLASH_IN a frame of the period in force changes nothing, and one of another period enters HOLDOVER, LOST and
PERIOD_CHANGE set; an unlocked unit holds the frame, and a second one that matches it starts a pending lock on the number after its own (R42, R44, R45, R47,
R48). FLASH_MARKER on a port that is up and that the selection may use, at its arrival less its offset and the link's delay. In a unit locked to the port it is
the next edge in its window, and is rejected outside it; in an unlocked unit without a pending lock it is held, and, after one of the number before it at an
interval of Table 2-1, starts a pending lock on the next number. On any other port it is ignored (R44, R46, R49, R50, R388). -/
def Obligations.FlashLocking : Prop :=
  (∀ (s : State) (at_ : Nat),
     let m := notePulse s at_
     let rejected (t : State) : Prop := t.flash.rejects = min (s.flash.rejects + 1) 65535 ∧ evSet t evFLS 6 = true ∧
       SameBut [.flash, .regs, .out, .pci] s t
     (usesFlashIn s = false → exec (.flashPulse at_) s = .next s) ∧
     (usesFlashIn s = true → s.flash.pend.filter (fun x => x.port.isNone) = none →
       (¬ (s.flash.st = .locked ∧ s.flash.src = .flashIn) → exec (.flashPulse at_) s = .next m ∧ m.flash.lastPulse = some at_ ∧ SameBut [.flash] s m) ∧
       (s.flash.st = .locked → s.flash.src = .flashIn →
         100 * s.flash.grid + 99 * s.flash.est ≤ 100 * at_ → 100 * at_ ≤ 100 * s.flash.grid + 101 * s.flash.est →
         exec (.flashPulse at_) s = .next (flashEdge m at_ (fun u => countUp { u with flash := acceptGap u.flash at_ }))) ∧
       (s.flash.st = .locked → s.flash.src = .flashIn →
         (100 * at_ < 100 * s.flash.grid + 99 * s.flash.est ∨ 100 * s.flash.grid + 101 * s.flash.est < 100 * at_) →
         ∃ t, exec (.flashPulse at_) s = .next t ∧ rejected t ∧ t.flash.grid = s.flash.grid ∧ t.flash.count = s.flash.count)) ∧
     (usesFlashIn s = true → ∀ x, s.flash.pend = some x → x.port = none →
       let p := x.p s.flash.est
       (100 * x.base + 99 * p ≤ 100 * at_ → 100 * at_ ≤ 100 * x.base + 101 * p →
         exec (.flashPulse at_) s = .next (takeLock m x at_ .flashIn 0 0 false)) ∧
       (100 * at_ < 100 * x.base + 99 * p → ∃ t, exec (.flashPulse at_) s = .next t ∧ rejected t ∧ t.flash.pend = some x) ∧
       (100 * x.base + 101 * p < 100 * at_ → ∃ t, exec (.flashPulse at_) s = .next t ∧ rejected t ∧ t.flash.pend = none ∧ t.flash.held = none))) ∧
  (∀ (s : State) (b : List Byte) (start : Nat), usesFlashIn s = true →
     let num := fieldAt b 2 8
     let per := fieldAt b 10 2
     let f := s.flash
     (frameValid s b start = false → ∃ t, exec (.flashFrame b start) s = .next t ∧ t.flash = { f with frameErrs := min (f.frameErrs + 1) 65535 } ∧
       evSet t evFLS 5 = true ∧ SameBut [.flash, .regs, .out, .pci] s t) ∧
     (frameValid s b start = true → f.st = .locked → f.src = .flashIn → per = f.code → exec (.flashFrame b start) s = .next s) ∧
     (frameValid s b start = true → f.st = .locked → f.src = .flashIn → per ≠ f.code → ∃ t, exec (.flashFrame b start) s = .next t ∧
       t.flash.st = .holdover ∧ t.flash.freeRun = true ∧ t.flash.src = .none ∧ t.flash.losses = min (f.losses + 1) 65535 ∧ t.flash.count = f.count ∧
       t.flash.held = some { num := num, period := per, gaps := [] } ∧ evSet t evFLS 4 = true ∧ SameBut [.flash, .regs, .out, .pci] s t) ∧
     (frameValid s b start = true → ¬ (f.st = .locked ∧ f.src = .flashIn) → f.pend = none → (f.held = none ∨ ∃ h, f.held = some h ∧ framesMatch h num per = false) →
       exec (.flashFrame b start) s = .next { s with flash := { f with held := some { num := num, period := per, gaps := [] } } }) ∧
     (frameValid s b start = true → ¬ (f.st = .locked ∧ f.src = .flashIn) → f.pend = none → ∀ h, f.held = some h → framesMatch h num per = true →
       ∃ t, exec (.flashFrame b start) s = .next t ∧ t.flash.held = none ∧ (∃ x, t.flash.pend = some x ∧ x.num = num + 1 ∧ x.period = per ∧
         x.seed = (h.gaps.reverse).take 16 ∧ x.port = none) ∧ SameBut [.flash] s t)) ∧
  (∀ (s : State) (port : Fin 16) (number : BitVec 64) (offset : Nat) (freeRun : Bool) (hops at_ : Nat),
     let cmd := Instr.flashMarker port number offset freeRun hops at_
     let t0 := at_ - offset - (s.port port.val).delay
     let f := s.flash
     ((s.port port.val).st ≠ .up ∨ markerPort s ≠ some port.val → exec cmd s = .next s) ∧
     ((s.port port.val).st = .up → markerPort s = some port.val →
       (f.st = .locked → f.src = .chain → f.port = port.val → f.pend = none →
         100 * f.grid + 99 * f.est ≤ 100 * t0 → 100 * t0 ≤ 100 * f.grid + 101 * f.est →
         exec cmd s = .next (flashEdge s t0 (fun u =>
           countUp { u with flash := acceptGap { setFreeRun u.flash (freeRun || decide (7 < hops)) with hops := min 15 hops } t0 }))) ∧
       (f.st = .locked → f.src = .chain → f.port = port.val → f.pend = none →
         (100 * t0 < 100 * f.grid + 99 * f.est ∨ 100 * f.grid + 101 * f.est < 100 * t0) →
         ∃ t, exec cmd s = .next t ∧ t.flash = { f with rejects := min (f.rejects + 1) 65535 } ∧ evSet t evFLS 6 = true ∧
           SameBut [.flash, .regs, .out, .pci] s t) ∧
       (f.st ≠ .locked → f.pend = none → f.heldMk = none → exec cmd s =
         .next { s with flash := { f with heldMk := some { port := port.val, num := number.toNat, at_ := t0, pair := none } } }) ∧
       (f.st ≠ .locked → f.pend = none → ∀ h, f.heldMk = some h → h.port = port.val → h.num + 1 = number.toNat →
         247500 ≤ t0 - h.at_ → t0 - h.at_ ≤ 16160000 → exec cmd s = .next { s with flash := { f with
           heldMk := none
           pend := some { num := number.toNat + 1, period := f.code, seed := [t0 - h.at_], base := t0, port := some port.val } } })))

/-- Arming: an entry whose action or operand is reserved becomes INVALID, one whose time has passed LATE, any other ARMED; cancelling an ARMED entry leaves it
CANCELLED; clearing a terminal one leaves it EMPTY. The Flash and tick of the change are noted; INVALID and LATE set SAT_MISSED; a host command for the X1's
entries sets SAT_WRITE_ERR. No other entry changes (R55 to R59). -/
def Obligations.ScheduledActions : Prop :=
  ∀ (s : State) (e : Fin 256),
    let x := s.satEntry e.val
    let entered (t : State) (st : SatSt) : Prop :=
      t.satEntry e.val = { x with st := st, doneFlash := s.flash.count, doneTick := s.flash.tick } ∧
      (∀ d, d ≠ e.val → t.satEntry d = s.satEntry d) ∧ SameBut [.sat, .regs, .out, .pci] s t
    (e.val < 224 → x.st ≠ .armed → (satOperandOk x.action x.op.toNat = false ∨ x.action = 1) →
      ∃ t, exec (.satArm e) s = .next t ∧ entered t .invalid ∧ evSet t evFLS 7 = true) ∧
    (e.val < 224 → x.st ≠ .armed → satOperandOk x.action x.op.toNat = true → x.action ≠ 1 → satPast s x = true →
      ∃ t, exec (.satArm e) s = .next t ∧ entered t .late ∧ evSet t evFLS 7 = true) ∧
    (e.val < 224 → x.st ≠ .armed → satOperandOk x.action x.op.toNat = true → x.action ≠ 1 → satPast s x = false →
      ∃ t, exec (.satArm e) s = .next t ∧ entered t .armed ∧ SameBut [.sat] s t) ∧
    (e.val < 224 → x.st = .armed → exec (.satArm e) s = .next s) ∧
    (e.val < 224 → x.st = .armed → ∃ t, exec (.satCancel e) s = .next t ∧ entered t .cancelled) ∧
    (e.val < 224 → x.st ≠ .armed → exec (.satCancel e) s = .next s) ∧
    (x.st ≠ .empty → x.st ≠ .armed → ∃ t, exec (.satClear e) s = .next t ∧ entered t .empty) ∧
    (x.st = .armed → e.val < 224 → exec (.satClear e) s = .next s) ∧
    (224 ≤ e.val → ∀ i ∈ [Instr.satArm e, Instr.satCancel e], ∃ t, exec i s = .next t ∧ evSet t evFLS 8 = true ∧ SameBut [.regs, .out, .pci] s t)

/-! ### Light Lists and the rebind engine (R92 to R119) -/

/-- CMP_SUBMIT_GO: slot 0, or else slot 1, that is EMPTY, LIT or FAILED takes the submission's address and length and goes FETCHING; with neither free
CMP_EVENTS.BUSY is set. LL_FETCH_DONE: the fetched list goes CHECKING with its GENERATION and TARGET_FLASH; a fetch that failed leaves the slot FAILED with
LL_FETCH; a LENGTH outside R74 has nothing fetched (R74, R92, R94). LL_CHECK_DONE: a list that passes every check goes AUTHORISING, the first failing check
leaves it FAILED with its code, record and offset; one whose base is the other slot's list stays CHECKING until that is STAGED. LL_AUTHORISE_DONE: a list that
Daymark accepts is STAGED, and its LIGHT entry, the lowest EMPTY one of 224 to 255, is ARMED for its TARGET_FLASH at tick 0 with the header's FLEET bit; without
an entry it is FAILED with LL_SAT_FULL (R55, R93, R94). CMP_SLOT_CANCEL: a list not yet STAGED, or STAGED with its LIGHT entry still ARMED, is FAILED with
LL_CANCELLED and its entry CANCELLED; a list whose base it was is FAILED with LL_DEPENDENT; in any other state nothing happens (R59, R93, R97). -/
def Obligations.Loader : Prop :=
  (∀ (s : State),
     (∀ k, (k = 0 ∨ (k = 1 ∧ (s.slotAt 0).inProgress = true)) → (s.slotAt k).inProgress = false →
       ∃ t, exec .cmpSubmitGo s = .next t ∧ (t.slotAt k).st = .fetching ∧ (t.slotAt k).len = (regNow s 0x20008).toNat % 2 ^ 17 ∧
         (t.slotAt k).addr = (regNow s 0x20000).toNat / 64 * 64 ∧ (t.slotAt k).dependent = (s.slotAt (1 - k)).inProgress ∧
         t.slotAt (1 - k) = s.slotAt (1 - k) ∧ t.ll.lastSlot = k ∧ t.ll.litGen = s.ll.litGen ∧ SameBut [.ll] s t) ∧
     ((s.slotAt 0).inProgress = true → (s.slotAt 1).inProgress = true →
       ∃ t, exec .cmpSubmitGo s = .next t ∧ evSet t evCMP 2 = true ∧ SameBut [.regs, .out, .pci] s t) ∧
     (∀ (k : Fin 2) (b : Option (List Byte)), (s.slotAt k.val).st ≠ .fetching → exec (.llFetchDone k b) s = .next s) ∧
     (∀ (k : Fin 2) (b : List Byte), (s.slotAt k.val).st = .fetching → lengthOk (s.slotAt k.val).len = true →
       let l := sub b 0 (s.slotAt k.val).len
       ∃ t, exec (.llFetchDone k (some b)) s = .next t ∧ t.slotAt k.val = { s.slotAt k.val with
         st := .checking, bytes := l, began := s.flash.count, gen := BitVec.ofNat 32 (fieldAt l 12 4), target := BitVec.ofNat 64 (fieldAt l 16 8) } ∧
         t.slotAt (1 - k.val) = s.slotAt (1 - k.val) ∧ SameBut [.ll] s t) ∧
     (∀ (k : Fin 2), (s.slotAt k.val).st = .fetching → lengthOk (s.slotAt k.val).len = true → (s.slotAt (1 - k.val)).dependent = false →
       ∃ t, exec (.llFetchDone k none) s = .next t ∧ t.slotAt k.val = { s.slotAt k.val with
         st := .failed, error := llFETCH, errRec := 0xFFFF, errOff := 0 } ∧ t.slotAt (1 - k.val) = s.slotAt (1 - k.val) ∧ evSet t evCMP 1 = true ∧
         SameBut [.ll, .regs, .out, .pci] s t) ∧
     (∀ (k : Fin 2) (b : Option (List Byte)), (s.slotAt k.val).st = .fetching → lengthOk (s.slotAt k.val).len = false →
       ∃ t, exec (.llFetchDone k b) s = .next t ∧ t.slotAt k.val = { s.slotAt k.val with st := .checking, began := s.flash.count } ∧
         t.slotAt (1 - k.val) = s.slotAt (1 - k.val) ∧ SameBut [.ll] s t)) ∧
  (∀ (s : State) (k : Fin 2),
     let x := s.slotAt k.val
     let b := slotBase s k.val
     let o := s.slotAt (1 - k.val)
     (x.st = .checking → (x.dependent = false ∨ o.st = .staged) →
       (∀ c, checkList s x.bytes x.len b.1 b.2.1 b.2.2 x.began.toNat = .ok c → ∃ t, exec (.llCheckDone k) s = .next t ∧
         t.slotAt k.val = { x with st := .authorising, checked := false } ∧ t.slotAt (1 - k.val) = o ∧ SameBut [.ll] s t) ∧
       (∀ e, checkList s x.bytes x.len b.1 b.2.1 b.2.2 x.began.toNat = .error e → o.dependent = false → ∃ t, exec (.llCheckDone k) s = .next t ∧
         t.slotAt k.val = { x with st := .failed, error := e.code, errRec := e.record, errOff := e.off } ∧ t.slotAt (1 - k.val) = o ∧
         evSet t evCMP 1 = true ∧ SameBut [.ll, .regs, .out, .pci] s t)) ∧
     (x.st = .checking → x.dependent = true → o.st ≠ .staged → ∃ t, exec (.llCheckDone k) s = .next t ∧
       t.slotAt k.val = { x with checked := true } ∧ t.slotAt (1 - k.val) = o ∧ SameBut [.ll] s t) ∧
     (x.st ≠ .checking → exec (.llCheckDone k) s = .next s) ∧
     (x.st = .authorising → authErr s x.bytes = none → ∀ e, satFree s = some e → s.flash.count.toNat < x.target.toNat → o.dependent = false →
       ∃ t, exec (.llAuthoriseDone k) s = .next t ∧ t.slotAt k.val = { x with st := .staged, sat := e } ∧ t.slotAt (1 - k.val) = o ∧
         (t.satEntry e).st = .armed ∧ (t.satEntry e).when_ = x.target ∧ (t.satEntry e).tick = 0 ∧ (t.satEntry e).action = 1 ∧
         (t.satEntry e).op = BitVec.ofNat 64 k.val ∧ (t.satEntry e).owner = 1 ∧ (t.satEntry e).fleet = bit (fieldAt x.bytes 11 1) 1 ∧
         (∀ d, d ≠ e → t.satEntry d = s.satEntry d) ∧ SameBut [.ll, .sat] s t) ∧
     (x.st = .authorising → authErr s x.bytes = none → satFree s = none → o.dependent = false → ∃ t, exec (.llAuthoriseDone k) s = .next t ∧
       t.slotAt k.val = { x with st := .failed, error := llSATFULL, errRec := 0xFFFF, errOff := 0 } ∧ evSet t evCMP 1 = true ∧
       SameBut [.ll, .regs, .out, .pci] s t) ∧
     (∀ e, x.st = .authorising → authErr s x.bytes = some e → o.dependent = false → ∃ t, exec (.llAuthoriseDone k) s = .next t ∧
       t.slotAt k.val = { x with st := .failed, error := e.code, errRec := e.record, errOff := e.off } ∧ evSet t evCMP 1 = true ∧
       SameBut [.ll, .regs, .out, .pci] s t) ∧
     (x.st ≠ .authorising → exec (.llAuthoriseDone k) s = .next s)) ∧
  (∀ (s : State) (k : Fin 2),
     let x := s.slotAt k.val
     let o := s.slotAt (1 - k.val)
     let failed (y : Slot) (code : Nat) : Slot := { y with st := .failed, error := code, errRec := 0xFFFF, errOff := 0 }
     (x.inProgress = true → x.st ≠ .staged → ∃ t, exec (.cmpSlotCancel k) s = .next t ∧ t.slotAt k.val = failed x llCANCELLED ∧
       t.slotAt (1 - k.val) = (if o.dependent = true ∧ o.inProgress = true then failed o llDEPENDENT else o) ∧ evSet t evCMP 1 = true ∧
       SameBut [.ll, .regs, .out, .pci, .sat] s t) ∧
     (x.st = .staged → (s.satEntry x.sat).st = .armed → ∃ t, exec (.cmpSlotCancel k) s = .next t ∧
       t.slotAt k.val = failed x llCANCELLED ∧
       t.slotAt (1 - k.val) = (if o.dependent = true ∧ o.inProgress = true then failed o llDEPENDENT else o) ∧ (t.satEntry x.sat).st = .cancelled ∧ evSet t evCMP 1 = true ∧
       SameBut [.ll, .regs, .out, .pci, .sat] s t) ∧
     (x.inProgress = false ∨ (x.st = .staged ∧ (s.satEntry x.sat).st ≠ .armed) → exec (.cmpSlotCancel k) s = .next s))

/-- REBIND_CHUNK_MOVE, where nothing waits for room: the first move that may go on takes 64 KiB of the leave had, and CHUNKS counts it; without that leave it is
asked for once, for the bytes left but at most 64 MiB, as the Sector's work of class rebind; with no move to make nothing changes (R107, R118). A page whose
last chunk has moved lies on its new frame from then on (R108). FILL_COMPLETE of a resource whose fill has its leave: one that no Sector has bound is UNLIT,
with CMP_RB_EVENTS.UNLIT; one that is bound is ready to light at the next edge. A core's fill leaves its core-local memory zero. Without leave it is asked for
(R103 to R105, R118). -/
def Obligations.RebindMovesAndFills : Prop :=
  (∀ (s : State) (n : Fin 16),
     let g := s.gen n.val
     let cmd := Instr.rebindChunkMove n
     (∀ m ∈ g.moves, m.noRoom = false) → s.smChk = [] → s.lsChk = [] →
     (g.moves.find? (mayMove s n.val) = none → exec cmd s = .next s) ∧
     (∀ m, g.moves.find? (mayMove s n.val) = some m →
       (65536 ≤ g.leave → m.chunk + 1 < m.chunks → ∃ t, exec cmd s = .next t ∧
         t.gen n.val = { g with leave := g.leave - 65536, moves := g.moves.map (fun q => if q = m then { m with chunk := m.chunk + 1 } else q) } ∧
         (∀ k, k ≠ n.val → t.gen k = s.gen k) ∧ t.rb = { s.rb with chunks := min (s.rb.chunks + 1) (2 ^ 32 - 1) } ∧ SameBut [.gens, .rb] s t) ∧
       (g.leave < 65536 → g.asked = true → exec cmd s = .next s) ∧
       (g.leave < 65536 → g.asked = false → ∃ t, exec cmd s = .next t ∧ t.gen n.val = { g with asked := true } ∧ (∀ k, k ≠ n.val → t.gen k = s.gen k) ∧
         SameBut [.gens, .rb, .ctr, .tnd] s t) ∧
       (∀ c p f d, 65536 ≤ g.leave → m.chunk + 1 = m.chunks → m.what = .page c p f d → ∃ t, exec cmd s = .next t ∧
         t.ctx c = { s.ctx c with pages := (s.ctx c).pages.set p (some d) } ∧ (∀ e, e ≠ c → t.ctx e = s.ctx e) ∧
         SameBut [.gens, .rb, .res, .ctxs, .ctr, .tnd] s t))) ∧
  (∀ (s : State),
     (∀ (c : Fin 192), let k := resCore c.val
       let r := s.resAt k
       r.st = .fill → r.ready = false → fillsWith s k = false →
       (r.leave = 2 → r.pend = none → ∃ t, exec (.fillComplete (.core c)) s = .next t ∧ t.resAt k = { r with st := .unlit, leave := 0 } ∧
         (∀ j, j ≠ k → t.resAt j = s.resAt j) ∧ evSet t evRB 4 = true ∧ (∀ a, a < 2 ^ 19 → cget t.clm (clmKey c.val a) = 0) ∧
         (∀ a, a < clmKey c.val 0 ∨ clmKey c.val 0 + 2 ^ 19 ≤ a → cget t.clm a = cget s.clm a) ∧
         SameBut [.res, .regs, .out, .pci, .dmk, .clm, .clmChk] s t) ∧
       (∀ n, r.leave = 2 → r.pend = some n → ∃ t, exec (.fillComplete (.core c)) s = .next t ∧ t.resAt k = { r with ready := true, leave := 0 } ∧
         (∀ j, j ≠ k → t.resAt j = s.resAt j) ∧ (∀ a, a < 2 ^ 19 → cget t.clm (clmKey c.val a) = 0) ∧ SameBut [.res, .clm, .clmChk] s t) ∧
       (r.leave = 0 → ∃ t, exec (.fillComplete (.core c)) s = .next t ∧ (t.resAt k).leave = 1 ∧ SameBut [.res, .rb, .ctr, .tnd] s t)) ∧
     (∀ (c : Fin 128), let k := resChannel c.val
       let r := s.resAt k
       r.st = .fill → r.ready = false → r.leave = 2 → r.pend = none → ∃ t, exec (.fillComplete (.channel c)) s = .next t ∧
         t.resAt k = { r with st := .unlit, leave := 0 } ∧ (∀ j, j ≠ k → t.resAt j = s.resAt j) ∧ evSet t evRB 4 = true ∧
         SameBut [.res, .regs, .out, .pci, .dmk] s t) ∧
     (∀ r, (s.resAt (resKey r)).st ≠ .fill → exec (.fillComplete r) s = .next s))

/-- The drain of an older generation. REQUEST_DRAIN_COMPLETE counts only once nothing tagged with it is outstanding; the draining resources that hold no data then
go on to their fills. GENERATION_DRAINED then ends it where no move is left: removed extents read zero from then on, and CMP_RB_EVENTS.DRAINED is set (R102,
R104, R106). DRAIN_DEADLINE acts once, when its edges have passed: with nothing outstanding under the older generation and nothing waiting for room it changes
only that; otherwise GENERATION_RETIRED ends what is outstanding, and CMP_RB_EVENTS.RETIRED is set (R113, R114). -/
def Obligations.Drains : Prop :=
  (∀ (s : State) (n : Fin 16),
     let g := s.gen n.val
     (g.oldLive = true → g.drained = false → oldCount s n.val = 0 → ∃ t, exec (.requestDrainComplete n) s = .next t ∧
       t.gen n.val = { g with drained := true } ∧ (∀ k, k ≠ n.val → t.gen k = s.gen k) ∧ SameBut [.gens, .res, .rb, .ctr, .tnd] s t) ∧
     (g.oldLive = false ∨ g.drained = true ∨ oldCount s n.val ≠ 0 → exec (.requestDrainComplete n) s = .next s) ∧
     (g.oldLive = true → g.drained = true → g.moves = [] → ∃ t, exec (.generationDrained n) s = .next t ∧
       t.gen n.val = { g with oldLive := false, removed := [], added := [], leave := 0, asked := false } ∧ (∀ k, k ≠ n.val → t.gen k = s.gen k) ∧
       evSet t evRB 0 = true ∧
       (∀ r ∈ g.removed, ∀ a, r.first * 2 ^ 26 ≤ a → a < (r.first + r.count) * 2 ^ 26 → cget t.sm (smKey n.val a) = 0) ∧
       (∀ k, (∀ r ∈ g.removed, ¬ (smKey n.val (r.first * 2 ^ 26) ≤ k ∧ k < smKey n.val (r.first * 2 ^ 26) + r.count * 2 ^ 26)) →
         cget t.sm k = cget s.sm k) ∧
       SameBut [.gens, .sm, .smChk, .regs, .out, .pci, .res, .rb, .ctr, .tnd] s t) ∧
     (g.oldLive = false ∨ g.drained = false ∨ g.moves ≠ [] → exec (.generationDrained n) s = .next s)) ∧
  (∀ (s : State) (n : Fin 16),
     let g := s.gen n.val
     (g.deadDone = true ∨ g.deadEdges ≠ 0 → exec (.drainDeadline n) s = .next s) ∧
     (g.deadDone = false → g.deadEdges = 0 → (g.oldLive = false ∨ (oldCount s n.val = 0 ∧ ∀ m ∈ g.moves, m.noRoom = false)) →
       exec (.drainDeadline n) s = .next (s.setGen n.val { g with deadDone := true })) ∧
     (g.deadDone = false → g.deadEdges = 0 → g.oldLive = true → (∀ m ∈ g.moves, m.noRoom = false) → oldCount s n.val ≠ 0 →
       let s0 := s.setGen n.val { g with deadDone := true }
       let r := retireOld s0 n.val
       let s3 := r.2.foldl (fun s c => startCtxReset s c stRETIRED 3) (dropWaiting r.1 n.val)
       exec (.drainDeadline n) s = .next (drainResources (raise (s3.setGen n.val { s3.gen n.val with
         retired := min ((s3.gen n.val).retired + oldCount s0 n.val) 65535 }) evRB 1) n.val)))

/-! ### Launches (R120, R121, R156, R157, R218) -/

/-- LAUNCH_DISPATCH of a held LAUNCH, on G different lit free cores: its kernel, where it may be loaded, starts as a group under the current generation; a kernel
that may not ends the command with its condition; while the cores are not free nothing changes. A command that is not a held LAUNCH is left alone. The next
launch of a step starts in the same way (R120, R156, R218). The start of a group: its cores, in ascending order, are numbered from 0 and run from the entry
point with every register zero, no accumulator bound and no tile instruction pending; its events and barriers start at zero; their core-local memory holds the
constants from 0, the arguments from 0x7F000, and zero elsewhere; the group belongs to its command under the generation tag; the pair of Sector and handle is
the most recently launched one (R121, R157). -/
def Obligations.Launches : Prop :=
  (∀ (s : State) (q : Fin 4096) (idx : BitVec 32) (buf : Option Nat) (cores : List (Fin 192)) (host : HostView),
     let cmd := Instr.launchDispatch (.cmd q idx buf) cores host
     let r := s.ring q.val
     let cs := cores.map (·.val)
     ((s.ring q.val).find idx buf = none → exec cmd s = .next s) ∧
     (∀ c, (s.ring q.val).find idx buf = some c →
       (c.opcode ≠ 1 ∨ c.st ≠ .held → exec cmd s = .next s) ∧
       (c.opcode = 1 → c.st = .held → workRuns s r.sector = true →
         let l : LaunchSpec := ⟨.cmd q.val idx buf, r.sector, r.ctx, c.f 16 4, objOf s c 16 0, fieldAt ((c.read 16).getD []) 16 8, c.f 30 2, c.f 28 2,
           objOf s c 20 (c.f 24 4), false, 0, (s.gen r.sector).curTag⟩
         launchReady s l = true →
         (∀ w s1, loadKernel s l host = (.error w, s1) → exec cmd s = .next (completeCmd s1 q.val c w.status w.detail)) ∧
         (∀ h bin a s1, loadKernel s l host = (.ok (h, bin, a), s1) →
           (coresOk s1 r.sector l.group cs = true → exec cmd s = .next (startGroup (begun s1 q.val c .started) l cs h bin a)) ∧
           (coresOk s1 r.sector l.group cs = false → exec cmd s = .next s)))) ∧
     (∀ n : Fin 16, (s.seqSec n.val).step = none → exec (.launchDispatch (.step n) cores host) s = .next s)) ∧
  (∀ (s : State) (l : LaunchSpec) (cores : List Nat) (h bin args : List Byte), cores.Nodup →
     let k := s.nextGroup
     let const := sub bin (fieldAt h 32 4) (fieldAt h 36 4)
     let t := startGroup s l cores h bin args
     const.length ≤ 0x7F000 → args.length ≤ 0x1000 →
     (∃ g, t.group k = some g ∧ g.owner = l.owner ∧ g.ctx = l.ctx ∧ g.sector = l.sector ∧ g.tag = l.tag ∧ g.codeLen = fieldAt h 24 4 ∧ g.step = l.step ∧
       g.stopped = false ∧ g.events = [] ∧ g.arrivals = [] ∧ g.cores.length = cores.length ∧ (∀ c, c ∈ g.cores ↔ c ∈ cores) ∧ g.cores.Pairwise (· < ·) ∧
       (∀ i c, g.cores[i]? = some c →
         t.core c = { run := .running, group := k, logical := i, pc := fieldAt h 28 4, trapCause := (s.core c).trapCause,
                      trapPc := (s.core c).trapPc, issued := (s.core c).issued })) ∧
     (∀ c ∈ cores, ∀ a, a < 2 ^ 19 → cget t.clm (clmKey c a) =
       if a < const.length then const.getD a 0 else if 0x7F000 ≤ a ∧ a < 0x7F000 + args.length then args.getD (a - 0x7F000) 0 else 0) ∧
     t.nextGroup = k + 1 ∧ t.binaries.head? = some ⟨l.sector, l.handle⟩ ∧ (∀ d, d ∉ cores → t.core d = s.core d) ∧
     SameBut [.cores, .groups, .nextGroup, .binaries, .clm, .clmChk] s t)

/-! ### Completions (R21 to R23, R272, R282) -/

/-- The end of a command of its own ring entry that met no other condition, where the ring's records are not held and the host takes them: it leaves the ring; its
record (TAG, DETAIL, submission index, STATUS) is written at CQ_TAIL, bytes 24 to 31 with the phase and the time last, as a final write; CQ_TAIL moves on; a
command with IRQ sends the ring's vector (R272, R287). A resident context counts the command (R294). Where more than one terminating condition was met, or the
record cannot be written: the condition that R23 chooses is reported; a ring whose record the host does not take stops with CQ_WRITE and holds the record (R23,
R274). -/
def Obligations.Completions : Prop :=
  (∀ (s : State) (q : Nat) (c : Cmd) (detail : BitVec 64), let r := s.ring q
     c.buf = none → c.conds = [] → c.short = false → c.signal = none → c.irq = false → r.heldRecs = [] → hostWriteOk s r.recAddr = true →
     let t := completeCmd s q c stDONE detail
     let flags := if c.opcode = 2 then 1 else 0
     t.ring q = { r with cmds := (r.drop c.idx none).cmds, cqTail := r.cqTail + 1 } ∧ (∀ k, k ≠ q → t.ring k = s.ring k) ∧
     t.out = .hostWrite r.pasid (r.recAddr + 24) (recordWhen s r.cqTail r.cqLog) true ::
       .hostWrite r.pasid r.recAddr (recordHead c.tagWord detail.toNat c.idx 0 stDONE flags) false :: s.out ∧
     ((s.ctx r.ctx).st ≠ .inactive → r.kind ≠ 3 →
       tget 0 t.ctr (tlmWord (s.ctx r.ctx).slot 12) = tget 0 s.ctr (tlmWord (s.ctx r.ctx).slot 12) + 1) ∧
     SameBut [.rings, .out, .ctr, .hng] s t) ∧
  (∀ (s : State) (q : Nat) (c : Cmd) (status : Nat) (detail : BitVec 64), let r := s.ring q
     c.buf = none → c.signal = none → c.irq = false → status ≠ stDONE →
     ∀ w, chooseCond (c.conds ++ [⟨status, detail⟩]) = some w →
     let t := completeCmd s q c status detail
     let flags := if c.opcode = 2 then 1 else 0
     (r.heldRecs = [] → hostWriteOk s r.recAddr = true →
       t.out = .hostWrite r.pasid (r.recAddr + 24) (recordWhen s r.cqTail r.cqLog) true ::
         .hostWrite r.pasid r.recAddr (recordHead c.tagWord w.detail.toNat c.idx 0 w.status flags) false :: s.out) ∧
     (hostWriteOk s r.recAddr = false → r.st = .enabled → (t.ring q).st = .stopped ∧ (t.ring q).error = 0x04 ∧
       (t.ring q).heldRecs = r.heldRecs ++ [(recordHead c.tagWord w.detail.toNat c.idx 0 w.status flags, false)] ∧ t.out = s.out) ∧
     SameBut [.rings, .out, .ctr, .hng] s t)

/-! ### Sequences (R194 to R216, R239 to R241, R255, R256) -/

/-- A queued sequence command `c` of opcode `op` names slot `k`, whose turn it is and which is idle. -/
def SeqTurn (s : State) (q : Nat) (idx : BitVec 32) (op : Nat) (c : Cmd) (k : Nat) : Prop :=
  (s.ring q).find idx none = some c ∧ (s.ring q).kind = 1 ∧ c.opcode = op ∧ workRuns s (s.ring q).sector = true ∧ c.st = .queued ∧
  nameSeq s (s.ring q).ctx (c.f 16 4) = .ok k ∧ (s.seq k).queue.head? = some (q, idx) ∧ (s.seq k).run = none ∧ (s.seq k).reservedBy = none ∧
  (s.seq k).st = .idle

/-- OPEN: a free slot becomes an IDLE sequence with no committed token, its limits, seed, sampling and stop tokens, and the command is DONE with the sequence's ID;
at the quota, with a length or a sampling value out of range it ends with that code of class 2 (R194, R195, R245). APPEND of `m` tokens from Sector memory to a
sequence whose blocks are resident: T rises by `m`, the last token is pending, the run starts, and the sequence is READY; nothing but sequences and the ring
changes. One that would pass MAX_TOKENS ends with SQ_LENGTH (R210, R211). -/
def Obligations.SequenceOpen : Prop :=
  (∀ (s : State) (ring : Fin 4096) (idx : BitVec 32) (slot : Fin 2048) (c : Cmd),
     let r := s.ring ring.val
     let n := r.sector
     let b := kvB s n
     let k := slot.val
     r.find idx none = some c → r.kind = 1 → c.opcode = 0x40 → workRuns s n = true →
     (openSeqs s n < (s.sector n).qSeq → 1 ≤ c.f 16 4 → c.f 16 4 ≤ 8192 * b → c.f 16 4 ≤ kvFrames s n * b → c.f 20 1 ≤ 1 →
       samplingOk (c.f 32 4) (c.f 36 4) = true → (s.seq k).st = .free →
       let x : Seq := {
         st := .idle, gen := (s.seq k).gen, sector := n, ctx := r.ctx, draft := c.f 20 1 == 1, maxTokens := c.f 16 4
         seed := BitVec.ofNat 64 (c.f 24 8), samp := ⟨BitVec.ofNat 32 (c.f 32 4), BitVec.ofNat 32 (c.f 36 4), c.f 22 2⟩
         stops := [c.f 40 4, c.f 44 4, c.f 48 4, c.f 52 4] }
       exec (.open_ ring idx slot) s =
         .next (completeCmd (s.setSeq k x) ring.val c stDONE (BitVec.ofNat 64 ((s.seq k).gen.toNat * 65536 + k)))) ∧
     ((s.sector n).qSeq ≤ openSeqs s n → exec (.open_ ring idx slot) s = .next (refuseCmd s ring.val c ⟨stINVALID, invalidDetail 2 2⟩)) ∧
     (openSeqs s n < (s.sector n).qSeq → (c.f 16 4 = 0 ∨ 8192 * b < c.f 16 4 ∨ kvFrames s n * b < c.f 16 4) →
       exec (.open_ ring idx slot) s = .next (refuseCmd s ring.val c ⟨stINVALID, invalidDetail 4 2⟩))) ∧
  (∀ (s : State) (ring : Fin 4096) (idx : BitVec 32) (host : HostView) (c : Cmd) (k : Nat), SeqTurn s ring.val idx 0x41 c k →
     let q := ring.val
     let x := s.seq k
     let n := x.sector
     let m := c.f 20 4
     let b := cread s.sm (smKey n (c.f 24 8)) (4 * m)
     (1 ≤ m → m ≤ 65536 → x.t + m ≤ x.maxTokens → c.f 24 8 % 4 = 0 → notEnabled s (s.ring q).sector x.draft = false →
       spaceOk s (s.ring q).sector 2 (c.f 24 8) (4 * m) = true → c.f 32 1 = 2 → (s.ring q).sector = n → s.smChk = [] →
       needsPull s k = false → (∀ p ∈ s.seqs, p.1 ≠ k → (s.seq p.1).st ≠ .pulling) → x.c + 1 ≠ x.t + m →
       let toks := (List.range m).map (fun i => (x.t + i, fieldAt b (4 * i) 4))
       ∃ t, exec (.append ring idx host) s = .next t ∧
         t.seq k = { x with
           st := .ready, t := x.t + m, pendingTok := fieldAt b (4 * (m - 1)) 4, text := x.text ++ toks.filter (fun p => p.2 != 0),
           queue := x.queue.filter (fun p => !(p == (q, idx))), xl := 0
           run := some { ring := q, idx := idx, opcode := 0x41, raw := c.raw, started := (s.seqSec n).appends } } ∧
         (∀ j, j ≠ k → t.seq j = s.seq j) ∧ t.seqSec n = { s.seqSec n with appends := (s.seqSec n).appends + 1 } ∧
         SameBut [.seqs, .seqSecs, .rings] s t) ∧
     (m = 0 ∨ 65536 < m ∨ x.maxTokens < x.t + m →
       exec (.append ring idx host) s = .next (refuseCmd (unqueue s k q idx) q c ⟨stINVALID, invalidDetail 4 2⟩)))

/-- GENERATE of a sequence whose blocks are resident makes it READY with the run started; its sampling values take the command's where SET_SAMPLING says so, and the
draft sequence it names is reserved. With PREFETCH it is DONE at once, and the sequence idle again. A command that fails a check ends with what the check says
(R212, R213, R226, R239). FORK at length L of a sequence whose blocks are resident into a free slot: the child stands at C = L − 1 and T = L with the parent's
blocks of the positions below L − 1, each referred to once more; the parent keeps its state, and the command is DONE with the child's ID (R205). ABORT ends what
its sequence has queued and running, or, where a running step holds its row, sends the ABORT to the arbiter; ABORT itself is DONE. The arbiter's end of it marks
the row while the step still holds it. CLOSE of an idle sequence with nothing queued frees the slot, whose generation rises, and is DONE; of a row of the
running step, the slot is CLOSING until the step ends (R214, R215, R255, R256). -/
def Obligations.SequenceCommands : Prop :=
  (∀ (s : State) (ring : Fin 4096) (idx : BitVec 32) (c : Cmd) (k : Nat), SeqTurn s ring.val idx 0x42 c k →
     let q := ring.val
     let x := s.seq k
     let pre := bit (c.f 33 1) 0
     (∀ w, generateErr s q c k = some w →
       exec (if pre then .generatePrefetch ring idx else .generate ring idx) s = .next (refuseCmd (unqueue s k q idx) q c w)) ∧
     (generateErr s q c k = none → needsPull s k = false → (∀ p ∈ s.seqs, p.1 ≠ k → (s.seq p.1).st ≠ .pulling) →
       let samp := if bit (c.f 33 1) 1 then (⟨BitVec.ofNat 32 (c.f 36 4), BitVec.ofNat 32 (c.f 40 4), c.f 44 2⟩ : Sampling) else x.samp
       let left := x.queue.filter (fun p => !(p == (q, idx)))
       (pre = false → c.f 34 1 ≠ 2 → ∃ t, exec (.generate ring idx) s = .next t ∧
         t.seq k = { x with st := .ready, samp := samp, queue := left, xl := 0
                            run := some { ring := q, idx := idx, opcode := 0x42, raw := c.raw } } ∧
         (∀ j, j ≠ k → t.seq j = s.seq j) ∧ SameBut [.seqs, .rings] s t) ∧
       (pre = false → c.f 34 1 = 2 → ∃ t, exec (.generate ring idx) s = .next t ∧ (t.seq k).st = .ready ∧
         t.seq (c.f 56 4 % 65536) = { s.seq (c.f 56 4 % 65536) with reservedBy := some k } ∧ SameBut [.seqs, .rings] s t) ∧
       (pre = true → c.conds = [] → ∃ t, exec (.generatePrefetch ring idx) s = .next t ∧
         t.seq k = { x with st := .idle, samp := samp, queue := left, run := none, stash := [], drafts := [], windowLen := 0, xl := 0 } ∧
         (∀ j, j ≠ k → t.seq j = s.seq j) ∧ (t.ring q).find idx none = none ∧ SameBut [.seqs, .rings, .out, .pci, .ctr, .hng] s t)) ∧
     (pre = true → exec (.generate ring idx) s = .next s) ∧ (pre = false → exec (.generatePrefetch ring idx) s = .next s)) ∧
  (∀ (s : State) (ring : Fin 4096) (idx : BitVec 32) (slot : Fin 2048) (c : Cmd) (k : Nat), SeqTurn s ring.val idx 0x43 c k →
     let q := ring.val
     let x := s.seq k
     let n := x.sector
     let b := kvB s n
     let l := c.f 20 4
     n = (s.ring q).sector → openSeqs s n < (s.sector n).qSeq → 1 ≤ l → l ≤ x.t → l ≤ c.f 28 4 → c.f 28 4 ≤ 8192 * b → c.f 28 4 ≤ kvFrames s n * b →
     samplingOk (c.f 40 4) (c.f 44 4) = true → (l = x.t → c.f 24 4 = 0) → needsPull s k = false → (s.seq slot.val).st = .free → slot.val ≠ k →
     let tok := if l = x.t then x.pendingTok else c.f 24 4
     let shared := x.table.filter (fun p => decide (p.1 < (l - 1 + b - 1) / b))
     ∃ t, exec (.fork ring idx slot) s = .next t ∧
       t.seq slot.val = {
         st := .idle, gen := (s.seq slot.val).gen, sector := n, ctx := x.ctx, draft := x.draft, c := l - 1, t := l
         maxTokens := c.f 28 4, pendingTok := tok, seed := BitVec.ofNat 64 (c.f 32 8)
         samp := ⟨BitVec.ofNat 32 (c.f 40 4), BitVec.ofNat 32 (c.f 44 4), c.f 48 2⟩, stops := x.stops, table := shared, text := tput 0 [] (l - 1) tok } ∧
       t.seq k = { x with queue := x.queue.filter (fun p => !(p == (q, idx))) } ∧ (∀ j, j ≠ k → j ≠ slot.val → t.seq j = s.seq j) ∧
       (∀ d, (t.blk n d).refs = (s.blk n d).refs + (shared.filter (fun p => p.2 == some d)).length) ∧
       (t.ring q).find idx none = none ∧ SameBut [.seqs, .seqSecs, .rings, .events, .out, .pci, .ctr, .hng] s t) ∧
  (∀ (s : State) (ring : Fin 4096) (idx : BitVec 32) (c : Cmd) (k : Nat),
     let q := ring.val
     let x := s.seq k
     (s.ring q).find idx none = some c → (s.ring q).kind = 1 → workRuns s (s.ring q).sector = true → nameSeq s (s.ring q).ctx (c.f 16 4) = .ok k →
     x.reservedBy = none → x.queue = [] →
     (c.opcode = 0x44 → x.run = none → x.st = .idle → exec (.abort ring idx) s = .next (completeCmd (s.setSeq k x) q c stDONE 0)) ∧
     (∀ u, c.opcode = 0x44 → x.run = some u → inStep s k = true → x.st = .inStep → ∃ t, exec (.abort ring idx) s = .next t ∧
       t.seq k = { x with run := some { u with abortPend := true } } ∧ (∀ j, j ≠ k → t.seq j = s.seq j) ∧
       SameBut [.seqs, .rings, .events, .out, .pci, .ctr, .hng] s t) ∧
     (c.opcode = 0x45 → x.run = none → x.st = .idle → x.table = [] → inStep s k = false → ∃ t, exec (.close ring idx) s = .next t ∧
       t.seq k = { gen := x.gen + 1 } ∧ (∀ j, j ≠ k → t.seq j = s.seq j) ∧ SameBut [.seqs, .rings, .events, .out, .pci, .ctr, .hng] s t) ∧
     (∀ u, c.opcode = 0x45 → x.run = some u → inStep s k = true → x.st = .inStep → ∃ t, exec (.close ring idx) s = .next t ∧
       t.seq k = { x with st := .closing, closer := some (q, idx), run := some { u with abortPend := true } } ∧ (∀ j, j ≠ k → t.seq j = s.seq j) ∧
       SameBut [.seqs, .rings] s t) ∧
     (∀ (j : Fin 2048) u, (s.seq j.val).run = some u → u.abortPend = true → inStep s j.val = true →
       exec (.arbiterAbort j) s = .next (s.setSeq j.val { s.seq j.val with run := some { u with aborted := true } })) ∧
     (∀ (j : Fin 2048) u, (s.seq j.val).run = some u → u.abortPend = true → inStep s j.val = false →
       exec (.arbiterAbort j) s = .next (endRun s j.val stABORTED none 4 .idle)) ∧
     (∀ (j : Fin 2048), (∀ u, (s.seq j.val).run = some u → u.abortPend = false) → exec (.arbiterAbort j) s = .next s))

/-- SPILL_COMPLETE and PULL_COMPLETE, with nothing of the block's move outstanding, where the Sector asks for no further spill and no sequence pulls: the block is
SPILLED, and RESIDENT, and counted; a pull from the host tier writes the block's rows to its frame. A block that is not on its way is left alone (R224 to R226). -/
def Obligations.BlockMoves : Prop :=
  ∀ (s : State) (n : Fin 16) (d : Nat) (host : HostView),
    let b := s.blk n.val d
    bits (spillReg s n.val) 15 0 = 0 → (s.seqSec n.val).spilling = false → (∀ p ∈ s.seqs, (s.seq p.1).st ≠ .pulling) →
    (b.st = .spilling → blkWaits s n.val d = false → b.hostTier = false → ∃ t, exec (.spillComplete n d host) s = .next t ∧
      t.blk n.val d = { b with st := .spilled, begun := false } ∧ (∀ e, e ≠ d → t.blk n.val e = s.blk n.val e) ∧
      SameBut [.seqSecs, .ctr, .hng] s t) ∧
    (b.st = .spilling → blkWaits s n.val d = false → b.hostTier = true → s.env.badPages = [] → ∃ t, exec (.spillComplete n d host) s = .next t ∧
      t.blk n.val d = { b with st := .spilled, begun := false } ∧
      t.out = ((blkRanges s n.val b).map (fun r => Out.hostWrite (s.ctx (stepCtx s n.val 0)).pasid (slotAddr s n.val b + r.1)
        (cread s.sm (smKey n.val (frameAddr s n.val b + r.1)) r.2) false)).reverse ++ s.out ∧
      SameBut [.seqSecs, .out, .ctr, .hng] s t) ∧
    (b.st ≠ .spilling ∨ blkWaits s n.val d = true → exec (.spillComplete n d host) s = .next s) ∧
    (b.st = .pulling → blkWaits s n.val d = false → b.hostTier = true → b.fallback = false → s.smChk = [] →
      (∀ p ∈ pullParts s n.val b, hostRead host p.2.1 p.2.2 ≠ none) → ∃ t, exec (.pullComplete n d host) s = .next t ∧
      t.blk n.val d = { b with st := .resident, begun := false, hostTier := false, fallback := false, fb := [] } ∧
      t.sm = (pullParts s n.val b).foldl (fun m p => cwrite m (smKey n.val (frameAddr s n.val b + p.1)) ((hostRead host p.2.1 p.2.2).getD [])) s.sm ∧
      SameBut [.seqSecs, .sm, .smChk, .ctr, .hng] s t) ∧
    (b.st ≠ .pulling ∨ blkWaits s n.val d = true → exec (.pullComplete n d host) s = .next s)

/-! ### The step scheduler (R217 to R222, R230, R251) -/

/-- SCHED_ENABLE: a configuration without an error is held with its programs, and ENABLE reads 1; one with an error sets CFG_ERR and CFG_ERROR and stays disabled.
SCHED_DISABLE: ENABLE reads 0, and a running step goes on. A write to a configuration register is taken while the scheduler is disabled and no sequence is open
(for the KV layout), and refused with CFG_REFUSED otherwise (R230). -/
def Obligations.SchedulerConfig : Prop :=
  ∀ (s : State) (n : Fin 16), (s.sector n.val).exists_ = true →
    (∀ l, (s.seqSec n.val).enabled = false → bit (stepReg s n.val 0) 63 = true → bit (stepReg s n.val 1) 63 = false →
      readProgram s n.val 0 = (some l, s) → cfgErr s n.val true = 0 → l ≠ [] → ∃ t, exec (.schedEnable n) s = .next t ∧
      t.seqSec n.val = { s.seqSec n.val with cfgErr := 0, enabled := true, program := [(0, l)] } ∧ bit (regNow t (schedOff n.val)).toNat 63 = true ∧
      (∀ k, k ≠ n.val → t.seqSec k = s.seqSec k) ∧ SameBut [.seqSecs, .regs] s t) ∧
    (∀ e, (s.seqSec n.val).enabled = false → bit (stepReg s n.val 0) 63 = false → bit (stepReg s n.val 1) 63 = false → cfgErr s n.val false = e → e ≠ 0 →
      ∃ t, exec (.schedEnable n) s = .next t ∧ t.seqSec n.val = { s.seqSec n.val with cfgErr := e } ∧ evSet t evSEQ 1 = true ∧
        SameBut [.seqSecs, .regs, .out, .pci] s t) ∧
    ((s.seqSec n.val).enabled = true → exec (.schedEnable n) s = .next s) ∧
    (∃ t, exec (.schedDisable n) s = .next t ∧ t.seqSec n.val = { s.seqSec n.val with enabled := false } ∧
      bit (regNow t (schedOff n.val)).toNat 63 = false ∧ (∀ k, k ≠ n.val → t.seqSec k = s.seqSec k) ∧ SameBut [.seqSecs, .regs] s t) ∧
    (∀ v, let base := 0xB1008 + 0x100 * n.val
      ((s.seqSec n.val).enabled = false → openSeqs s n.val = 0 → ∃ t, exec (.seqConfigWrite base 8 v) s = .next t ∧
        (regNow t base).toNat % 2 ^ 46 = v.toNat % 2 ^ 46 ∧ (∀ b, b ≠ base → regNow t b = regNow s b) ∧ SameBut [.regs] s t) ∧
      ((s.seqSec n.val).enabled = true ∨ openSeqs s n.val ≠ 0 → ∃ t, exec (.seqConfigWrite base 8 v) s = .next t ∧ evSet t evSEQ 0 = true ∧
        SameBut [.regs, .out, .pci] s t))

/-- STEP_BATCH_FORM: where the class whose turn it is has rows and none is held, they are the step's, tagged with the current generation, their token table is
written, their buffers are in use, and the last continuing row is noted. Nothing is formed while a step runs or the scheduler is disabled (R218, R220, R236). A
batch that is formed keeps to MAX_ROWS and to the token budget, each at least 1, and its token count is that of its rows (R220). The commit of a step of one
decode row whose decision is one token that stops nothing: C and T rise by one, the token is pending and posted, the sequence is READY for the next step, and no
step runs (R212, R251). -/
def Obligations.Batches : Prop :=
  (∀ (s : State) (n : Fin 16) (host : HostView),
     let x := s.seqSec n.val
     let s1 := pullReady (endFailed s n.val) n.val
     let cls := 1 - x.lastCls
     let f := formClass s1 n.val cls host
     (x.enabled = true → x.step = none → workRuns s n.val = true → s.resets = [] → f.rows ≠ [] → f.held = false →
       let u := writeTokens f.st n.val (stepCtx f.st n.val cls) f.rows
       let sec := f.st.seqSec n.val
       let last := ((f.rows.filter (fun r => r.kind != 0)).getLast?).map (·.slot + 1)
       let v := markSeqEngine (u.setSeqSec n.val { sec with
         step := some { cls := cls, rows := f.rows, tag := (f.st.gen n.val).curTag }, bufs := sec.bufs ++ f.rows.filterMap (·.buffer)
         lastRow := match last with | some k => tput 0 sec.lastRow cls k | none => sec.lastRow }) n.val
       exec (.stepBatchForm n host) s = .next (spillPump (v.setSeqSec n.val { v.seqSec n.val with held := false }) n.val false)) ∧
     (x.enabled = false ∨ x.step ≠ none ∨ workRuns s n.val = false → exec (.stepBatchForm n host) s = .next s)) ∧
  (∀ (s : State) (n cls : Nat) (host : HostView),
     let f := formClass s n cls host
     f.rows.length ≤ max 1 (bits (schedReg s n) 59 48) ∧ f.tokens ≤ max 1 (bits (schedReg s n) 47 32) ∧
     f.tokens = (f.rows.map (·.len)).foldl (· + ·) 0) ∧
  (∀ (s : State) (n : Nat) (p : Step) (r : Row) (u : SeqRun) (tok : Nat),
     let q := s.seq r.slot
     let x := s.seqSec n
     x.step = some p → p.rows = [r] → r.kind = 1 → r.a = 1 → r.toks = [tok] → r.given = [] → r.buffer = none → r.heads = [] → q.table = [] →
     q.st = .inStep → q.sector = n → q.run = some u → u.opcode = 0x42 → u.aborted = false → u.conds = [] → q.reservedBy = none →
     (∀ j ∈ s.seqs, (s.seq j.1).reservedBy ≠ some r.slot) → (∀ j ∈ s.seqs, j.2 = s.seq j.1) → tok ∉ q.stops → u.posted + 1 < fieldAt u.raw 20 4 → q.t + 1 < q.maxTokens → fieldAt u.raw 32 1 = 3 →
     let t := commitStep s n
     (t.seq r.slot).c = q.c + 1 ∧ (t.seq r.slot).t = q.t + 1 ∧ (t.seq r.slot).pendingTok = tok ∧ (t.seq r.slot).st = .ready ∧
     (t.seq r.slot).run = some { u with posted := u.posted + 1 } ∧ (∀ j, j ≠ r.slot → t.seq j = s.seq j) ∧
     (t.seqSec n).step = none ∧ (t.seqSec n).commit.step = x.commit.step + 1 ∧
     t.out = .hostWrite (s.ctx q.ctx).pasid (fieldAt u.raw 24 8) (leBytes 4 (u.posted + 1) ++ leBytes 2 0 ++ leBytes 1 0 ++ leBytes 1 0) true ::
       .hostWrite (s.ctx q.ctx).pasid (fieldAt u.raw 24 8 + 8 + 4 * u.posted) (leBytes 4 tok) false :: s.out ∧
     SameBut [.seqs, .seqSecs, .out, .ctr] s t)

/-! ### Rings, privileged commands and the aperture (R260 to R297) -/

/-- DOORBELL_TAIL and CQ_HEAD change TAIL and CQ_HEAD alone and are ignored on a FREE ring; an ENABLED ring whose TAIL then lies further from HEAD than its size
stops with ERROR 1, one whose CQ_HEAD lies past CQ_TAIL with ERROR 2 (R271, R272, R274). RING_FETCH: with nothing to fetch, or no free completion record,
nothing happens; an entry that the host does not give stops the ring with FETCH and HEAD stays; the last entry before TAIL of a command or copy ring, where it
passes its check, joins the ring's commands with what the check read (R272, R274, R291). RING_DESTROY_COMPLETE: a DESTROYING ring whose commands have all
completed and posted, outside a reset, is FREE with its words at their reset values; a ring with a command left, and one that is not DESTROYING, is left alone
(R275). PRIV_RING_ENABLE and PRIV_RING_DISABLE of a Sector that exists: the ring its registers name is created ENABLED for the whole Sector, ENABLE is 1 and
PRIV_ERR is 0; with no host interface agreed, a ring in use, the ring quota reached, or a size or vector out of range, only PRIV_ERR changes; disabling leaves
the ring DESTROYING (R262, R275, R276). -/
def Obligations.Rings : Prop :=
  (∀ (s : State) (q : Fin 4096) (v : BitVec 32), let r := s.ring q.val
     let only (t : State) (x : Ring) : Prop := t.ring q.val = x ∧ (∀ k, k ≠ q.val → t.ring k = s.ring k) ∧ SameBut [.rings] s t
     (r.st = .free → exec (.doorbellTail q v) s = .next s ∧ exec (.cqHead q v) s = .next s) ∧
     (r.st ≠ .free → r.st ≠ .enabled →
       (∃ t, exec (.doorbellTail q v) s = .next t ∧ only t { r with tail := v }) ∧ (∃ t, exec (.cqHead q v) s = .next t ∧ only t { r with cqHead := v })) ∧
     (r.st = .enabled →
       ((v - r.head).toNat ≤ 2 ^ r.sqLog → (r.cqTail - r.cqHead).toNat ≤ 2 ^ r.cqLog →
         ∃ t, exec (.doorbellTail q v) s = .next t ∧ only t { r with tail := v }) ∧
       (2 ^ r.sqLog < (v - r.head).toNat → ∃ t, exec (.doorbellTail q v) s = .next t ∧ only t { r with tail := v, st := .stopped, error := 1 }) ∧
       ((r.tail - r.head).toNat ≤ 2 ^ r.sqLog → (r.cqTail - v).toNat ≤ 2 ^ r.cqLog →
         ∃ t, exec (.cqHead q v) s = .next t ∧ only t { r with cqHead := v }) ∧
       ((r.tail - r.head).toNat ≤ 2 ^ r.sqLog → 2 ^ r.cqLog < (r.cqTail - v).toNat →
         ∃ t, exec (.cqHead q v) s = .next t ∧ only t { r with cqHead := v, st := .stopped, error := 2 }))) ∧
  (∀ (s : State) (q : Fin 4096) (host : HostView), let r := s.ring q.val
     let at_ := r.sqBase + r.head.toNat % 2 ^ r.sqLog * 64
     let only (t : State) (x : Ring) : Prop := t.ring q.val = x ∧ (∀ k, k ≠ q.val → t.ring k = s.ring k) ∧ SameBut [.rings] s t
     (mayFetch s q.val = false → exec (.ringFetch q host) s = .next s) ∧
     (r.head = r.tail ∨ r.freeRecs ≤ r.outstanding ∨ r.st = .stopped ∨ r.st = .free → mayFetch s q.val = false) ∧
     (mayFetch s q.val = true → r.st = .enabled → hostRead host at_ 64 = none →
       ∃ t, exec (.ringFetch q host) s = .next t ∧ only t { r with st := .stopped, error := 3 }) ∧
     (∀ raw, mayFetch s q.val = true → hostRead host at_ 64 = some raw → r.mark = none → (r.kind = 0 ∨ r.kind = 2) → r.head + 1 = r.tail →
       let c : Cmd := { idx := r.head, raw := raw, rd := fetchReads s { idx := r.head, raw := raw } host }
       fetchErr s q.val c = none → launchFetchErr s q.val c = none →
       ∃ t, exec (.ringFetch q host) s = .next t ∧ only t { r with head := r.tail, cmds := r.cmds ++ [c] })) ∧
  (∀ (s : State) (q : Fin 4096), let r := s.ring q.val
     (r.st ≠ .destroying → exec (.ringDestroyComplete q) s = .next s) ∧
     (r.st = .destroying → r.heldRecs = [] → r.cmds ≠ [] → ∃ t, exec (.ringDestroyComplete q) s = .next t ∧ (∀ k, t.ring k = s.ring k) ∧ SameBut [.rings] s t) ∧
     (r.st = .destroying → r.heldRecs = [] → r.cmds = [] → r.destroyers = [] → (r.kind = 3 ∨ (s.ctx r.ctx).st ≠ .resetting) →
       ∃ t, exec (.ringDestroyComplete q) s = .next t ∧ t.ring q.val = {} ∧ (∀ k, k ≠ q.val → t.ring k = s.ring k) ∧ SameBut [.rings] s t)) ∧
  (∀ (s : State) (n : Fin 16), (s.sector n.val).exists_ = true →
     let ctl := regAt s (secReg n.val 0x10)
     let q := bits ctl 27 16
     let good := hifAgreed s = true ∧ (s.ring q).st = .free ∧ sectorRings s n.val < (s.sector n.val).qRings ∧
       6 ≤ bits ctl 4 0 ∧ bits ctl 4 0 ≤ 16 ∧ 6 ≤ bits ctl 12 8 ∧ bits ctl 12 8 ≤ 16 ∧ vectorOk (bits ctl 42 32) = true
     (bit ctl 63 = true → exec (.privRingEnable n) s = .next s) ∧
     (bit ctl 63 = false → good → ∃ t, exec (.privRingEnable n) s = .next t ∧
       t.ring q = {
         st := .enabled, kind := 3, sector := n.val, sqLog := bits ctl 4 0, cqLog := bits ctl 12 8, vector := bits ctl 42 32,
         sqBase := regAt s (secReg n.val 0) / 4096 * 4096, cqBase := regAt s (secReg n.val 8) / 4096 * 4096 } ∧
       (∀ k, k ≠ q → t.ring k = s.ring k) ∧ bit (regAt t (secReg n.val 0x10)) 63 = true ∧ bits (regAt t (secReg n.val 0x18)) 63 56 = 0 ∧
       (∀ o, o ≠ secReg n.val 0x10 → o ≠ secReg n.val 0x18 → regAt t o = regAt s o) ∧ SameBut [.rings, .regs] s t) ∧
     (bit ctl 63 = false → ¬ good → ∃ t, exec (.privRingEnable n) s = .next t ∧ (hifAgreed s = false → bits (regAt t (secReg n.val 0x18)) 63 56 = 1) ∧
       1 ≤ bits (regAt t (secReg n.val 0x18)) 63 56 ∧ bits (regAt t (secReg n.val 0x18)) 63 56 ≤ 4 ∧
       (∀ o, o ≠ secReg n.val 0x18 → regAt t o = regAt s o) ∧ SameBut [.regs] s t) ∧
     (∀ p, privRing s n.val = some p → ∃ t, exec (.privRingDisable n) s = .next t ∧ t.ring p = { s.ring p with st := .destroying } ∧
       (∀ k, k ≠ p → t.ring k = s.ring k) ∧ bit (regAt t (secReg n.val 0x10)) 63 = false ∧ SameBut [.rings, .regs] s t))

/-- A command of a command or copy ring that may start. -/
def MayBegin (s : State) (q : Nat) (idx : BitVec 32) (buf : Option Nat) (op : Nat) (c : Cmd) : Prop :=
  (s.ring q).find idx buf = some c ∧ c.opcode = op ∧ mayStart (s.ring q) c = true ∧ (s.ring q).kind ≠ 1

/-- NOP completes with DONE. SIGNAL of an event of its ring's context raises VALUE and completes with DONE, and does nothing while an earlier command is left. WAIT
ends with DONE where VALUE has been reached, with EVENT_ABANDONED, its ring STOPPED with ERROR 5, where the event is abandoned below it, and otherwise stands
STARTED. LAUNCH waits for its cores, or ends with KL_GROUP where fewer are LIT (R120, R273, R274, R282, R283, R286). BUFFER of one entry that the memory holds
and that passes its checks: the entry is queued in its place and the BUFFER has started, one entry left (R289). -/
def Obligations.RingCommands : Prop :=
  (∀ (s : State) (q : Fin 4096) (idx : BitVec 32) (buf : Option Nat) (c : Cmd), let r := s.ring q.val
     (MayBegin s q.val idx buf 0 c → fetchErr s q.val c = none → exec (.nop q idx buf) s = .next (completeCmd s q.val c stDONE 0)) ∧
     (∀ op, MayBegin s q.val idx buf op c → op ≠ 0 → exec (.nop q idx buf) s = .next s) ∧
     (r.find idx buf = some c → c.opcode = 3 → c.st = .queued → r.kind ≠ 1 → r.kind ≠ 3 →
       (r.before idx buf = [] → (s.event (c.f 16 2)).owner = r.ctx → c.f 18 1 = 0 → exec (.signal q idx buf) s =
         .next (completeCmd (signalEvent s (c.f 16 2) (BitVec.ofNat 64 (c.f 24 8))) q.val c stDONE 0)) ∧
       (r.before idx buf = [] → (s.event (c.f 16 2)).owner = r.ctx → c.f 18 1 ≠ 0 → exec (.signal q idx buf) s =
         .next (completeCmd (abandonEvent (signalEvent s (c.f 16 2) (BitVec.ofNat 64 (c.f 24 8))) (c.f 16 2) (c.f 18 1)) q.val c stDONE 0)) ∧
       (buf = none → r.before idx buf ≠ [] → exec (.signal q idx buf) s = .next s)) ∧
     (MayBegin s q.val idx buf 4 c → buf = none → let e := s.event (c.f 16 2)
       (c.f 24 8 ≤ e.value.toNat ∨ e.st = .abandoned → ∃ t, exec (.wait q idx buf) s = .next t ∧ (t.ring q.val).find idx none = none) ∧
       (e.value.toNat < c.f 24 8 → e.st ≠ .abandoned → ∃ t, exec (.wait q idx buf) s = .next t ∧
         t.ring q.val = r.put { c with st := .started } ∧ (∀ k, k ≠ q.val → t.ring k = s.ring k) ∧ SameBut [.rings] s t) ∧
       (e.value.toNat < c.f 24 8 → e.st = .abandoned → r.st = .enabled → r.heldRecs = [] → hostWriteOk s r.recAddr = true →
         ∃ t, exec (.wait q idx buf) s = .next t ∧ (t.ring q.val).st = .stopped ∧ (t.ring q.val).error = 5)) ∧
     (MayBegin s q.val idx buf 1 c →
       (sectorRuns s r.sector = true → c.f 30 2 ≤ (litCores s r.sector).length → ∃ t, exec (.launch q idx buf) s = .next t ∧
         t.ring q.val = r.put { c with st := .held } ∧ (∀ k, k ≠ q.val → t.ring k = s.ring k) ∧ SameBut [.rings] s t) ∧
       (sectorRuns s r.sector = true → (litCores s r.sector).length < c.f 30 2 → exec (.launch q idx buf) s =
         .next (completeCmd s q.val c stINVALID (invalidDetail 8 1))) ∧
       (sectorRuns s r.sector = false → exec (.launch q idx buf) s = .next s))) ∧
  (∀ (s : State) (q : Fin 4096) (idx : BitVec 32) (host : HostView) (c : Cmd) (raw : List Byte), MayBegin s q.val idx none 2 c →
     let r := s.ring q.val
     let o := objOf s c 16 (c.f 24 8)
     let e : Cmd := { idx := idx, buf := some 0, raw := raw, rd := fetchReads s { idx := idx, buf := some 0, raw := raw } host }
     c.f 32 4 = 1 → o.space = 2 → s.smChk = [] → s.lsChk = [] → rangeMapped s r.sector o.base 64 = true → objReady s r.sector o 64 = true →
     raw = cread s.sm (smKey r.sector o.base) 64 → fetchErr s q.val e = none → launchFetchErr s q.val e = none → r.find idx (some 0) = none →
     ∃ t, exec (.buffer q idx host) s = .next t ∧ (t.ring q.val).find idx (some 0) = some e ∧
       (t.ring q.val).find idx none = some { c with st := .started, left := 1, bad := [] } ∧ (∀ k, k ≠ q.val → t.ring k = s.ring k) ∧ SameBut [.rings] s t)

/-- COPY and FILL within Sector memory, of at most one piece and needing no leave, start with that piece moving on the first tile-DMA engine of the Sector. When the
piece of a FILL completes, the pattern lies over the destination, nothing else of Sector memory has changed, and the command leaves its ring (R290). The host's
aperture: a read of mapped bytes of a Sector that holds no error answers them and changes nothing else; a write puts them there and leaves every other byte;
outside what is mapped both are Unsupported Requests, the write too changing nothing else (R70, R260). -/
def Obligations.CopiesAndAperture : Prop :=
  (∀ (s : State) (q : Fin 4096) (idx : BitVec 32) (buf : Option Nat) (c : Cmd),
     let r := s.ring q.val
     let n := r.sector
     let len := c.f 40 8
     let d := copyDst s c
     (∀ op e es, (op = 0x10 ∨ op = 0x11) → MayBegin s q.val idx buf op c → workRuns s n = true → c.flight = [] → c.next = 0 → 0 < len → len ≤ 2 ^ 20 →
       sectorDma s n = e :: es → d.space = 2 → (∀ o, copySrc s c = some o → o.space = 2 ∧ unmappedExtent s n o.base len (some (s.gen n).curTag) = none) →
       unmappedExtent s n d.base len (some (s.gen n).curTag) = none → needsLeave s 1 ((if op = 0x10 then len else 0) + len) = false →
       ∃ t, (if op = 0x10 then exec (.copy q idx buf) s else exec (.fill q idx buf) s) = .next t ∧
         (t.ring q.val).find idx buf = some { c with
           st := .started, tag := some (s.gen n).curTag, next := len, flight := [{ off := 0, len := len, engine := e, xl := 2 }] } ∧
         (∀ k, k ≠ q.val → t.ring k = s.ring k) ∧ SameBut [.rings] s t) ∧
     (∀ (host : HostView) (p : Piece), r.find idx none = some c → c.opcode = 0x11 → c.flight = [p] → p.off = 0 → p.moving = true → p.len = len → c.next = len →
       c.conds = [] → c.signal = none → d.space = 2 → objReady s n d len = true →
       ∃ t, exec (.copyPieceComplete q idx none 0 host) s = .next t ∧ (t.ring q.val).find idx none = none ∧
         (∀ i, i < len → cget t.sm (smKey n d.base + i) = c.raw.getD (24 + i % 8) 0) ∧
         (∀ a, a < smKey n d.base ∨ smKey n d.base + len ≤ a → cget t.sm a = cget s.sm a) ∧
         SameBut [.rings, .sm, .smChk, .ctr, .hng, .out, .log, .logSeq, .kpr, .regs, .pci, .mem, .free] s t) ∧
     (∀ (host : HostView) (off : Nat), r.find idx buf = none → exec (.copyPieceComplete q idx buf off host) s = .next s)) ∧
  (∀ (s : State) (addr len : Nat) (bytes : List Byte),
     (bar2Place s addr len = none → exec (.bar2Read addr len) s = .next (s.emit .unsupported)) ∧
     (bar2Place s addr bytes.length = none → exec (.bar2Write addr bytes) s = .next (s.emit .unsupported)) ∧
     (∀ n a, bar2Place s addr len = some (n, a) → s.smChk = [] → s.lsChk = [] →
       exec (.bar2Read addr len) s = .next (s.emit (.readData (cread s.sm (smKey n a) len)))) ∧
     (∀ n a, bar2Place s addr bytes.length = some (n, a) → n = addr / 2 ^ 39 ∧ a = addr % 2 ^ 39 ∧
       ∃ t, exec (.bar2Write addr bytes) s = .next t ∧ (∀ i, i < bytes.length → cget t.sm (smKey n a + i) = bytes.getD i 0) ∧
         (∀ k, k < smKey n a ∨ smKey n a + bytes.length ≤ k → cget t.sm k = cget s.sm k) ∧ SameBut [.sm, .smChk, .mem, .free, .ctr, .regs, .out, .pci, .log, .logSeq, .kpr] s t))

/-- A queued command of a privileged ring, whose turn it is, passes steps 1 to 9 of R291 and names no object of a Sector that is frozen or on its way. -/
def PrivStarts (s : State) (q : Nat) (idx : BitVec 32) (op : Nat) (c : Cmd) : Prop :=
  (s.ring q).find idx none = some c ∧ c.opcode = op ∧ (s.ring q).kind = 3 ∧ mayStart (s.ring q) c = true ∧ fetchErr s q c = none ∧ namesFrozen s q c = false

/-- Privileged commands on tables, rings and events: SET_TABLES while no context is resident, RING_CREATE of a FREE ring within the quota, RING_RESUME, EVENT_INIT
of a free event, and EVENT_SET each have their effect and complete with DONE; RING_DESTROY leaves its ring DESTROYING and completes when that is FREE (R264,
R271, R274, R275, R281, R282, R284). -/
def Obligations.PrivilegedCommands : Prop :=
  ∀ (s : State) (ring : Fin 4096) (idx : BitVec 32) (c : Cmd), let q := ring.val
    (PrivStarts s q idx 0x80 c → (∀ x ∈ s.ctxs, x.2.st ≠ .resident ∧ x.2.st ≠ .waiting) → exec (.setTables ring idx) s =
      .next (completeCmd { s with tables := some ⟨c.f 16 8, c.f 24 8, c.f 32 8, c.f 40 1, c.f 41 1⟩ } q c stDONE 0)) ∧
    (PrivStarts s q idx 0x80 c → (∃ x ∈ s.ctxs, x.2.st = .resident) → exec (.setTables ring idx) s =
      .next (refuseCmd s q c ⟨stINVALID, invalidDetail 8 0⟩)) ∧
    (PrivStarts s q idx 0x84 c → (s.ring (c.f 16 2)).st = .free → sectorRings s (s.ring q).sector < (s.sector (s.ring q).sector).qRings →
      bit (c.f 19 1) 0 = false → exec (.ringCreate ring idx) s = .next (completeCmd (s.setRing (c.f 16 2) {
        st := .enabled, kind := c.f 18 1, sector := (s.ring q).sector, ctx := c.f 20 2, sqBase := c.f 24 8, cqBase := c.f 32 8, sqLog := c.f 40 1,
        cqLog := c.f 41 1, vector := c.f 22 2 }) q c stDONE 0)) ∧
    (PrivStarts s q idx 0x84 c → (s.ring (c.f 16 2)).st ≠ .free → exec (.ringCreate ring idx) s = .next (refuseCmd s q c ⟨stINVALID, invalidDetail 8 0 16⟩)) ∧
    (PrivStarts s q idx 0x85 c → c.f 16 2 ≠ q → let p := s.ring (c.f 16 2)
      ∃ t, exec (.ringDestroy ring idx) s = .next t ∧ t.ring (c.f 16 2) = { p with st := .destroying, destroyers := p.destroyers ++ [(q, idx)] } ∧
        t.ring q = (s.ring q).put { c with st := .started } ∧ (∀ k, k ≠ q → k ≠ c.f 16 2 → t.ring k = s.ring k) ∧ SameBut [.rings] s t) ∧
    (PrivStarts s q idx 0x86 c → let p := s.ring (c.f 16 2)
      c.f 16 2 ≠ q → p.heldRecs = [] → (p.tail - p.head).toNat ≤ 2 ^ p.sqLog → (p.cqTail - p.cqHead).toNat ≤ 2 ^ p.cqLog →
      ∃ t, exec (.ringResume ring idx) s = .next t ∧ t.ring (c.f 16 2) = { p with st := .enabled, error := 0 } ∧
        (∀ k, k ≠ q → k ≠ c.f 16 2 → t.ring k = s.ring k) ∧ (t.ring q).find idx none = none) ∧
    (PrivStarts s q idx 0x87 c → (s.event (c.f 16 2)).st = .free → exec (.eventInit ring idx) s = .next (completeCmd (writeEvent (s.setEvent (c.f 16 2) {
      st := .live, value := BitVec.ofNat 64 (c.f 24 8), owner := c.f 20 2, group := c.f 22 2, vector := c.f 18 2 }) (c.f 16 2)) q c stDONE 0)) ∧
    (PrivStarts s q idx 0x88 c →
      (c.f 18 1 = 0 → exec (.eventSetSignal ring idx) s = .next (completeCmd (signalEvent s (c.f 16 2) (BitVec.ofNat 64 (c.f 24 8))) q c stDONE 0)) ∧
      (c.f 18 1 = 1 → exec (.eventSetAbandon ring idx) s = .next (completeCmd (abandonEvent s (c.f 16 2) (c.f 19 1)) q c stDONE 0)) ∧
      (c.f 18 1 = 2 → eventIdle s (c.f 16 2) = true → exec (.eventSetFree ring idx) s = .next (completeCmd (writeEvent (s.setEvent (c.f 16 2)
        { s.event (c.f 16 2) with st := .free }) (c.f 16 2)) q c stDONE 0)))

/-- Events: a signal raises VALUE of a LIVE event that lies below it and changes no other event, a lower or equal one changes nothing at all; abandoning keeps the
first non-zero error; a change is written to the event's record as two final writes, first VALUE and then the state (R282, R284, R285). -/
def Obligations.EventRules : Prop :=
  ∀ (s : State) (e : Nat) (v : BitVec 64) (err : Nat), let x := s.event e
    (x.st = .live → x.value.toNat < v.toNat →
      ∃ t, signalEvent s e v = t ∧ t.event e = { x with value := v } ∧ (∀ k, k ≠ e → t.event k = s.event k) ∧
      SameBut [.events, .rings, .out, .pci, .ctr, .hng] s t) ∧
    (x.st ≠ .live ∨ v.toNat ≤ x.value.toNat → signalEvent s e v = s) ∧
    (x.st = .live → ∃ t, abandonEvent s e err = t ∧
      t.event e = { x with st := .abandoned, error := if x.error = 0 then err else x.error } ∧ (∀ k, k ≠ e → t.event k = s.event k) ∧
      SameBut [.events, .rings, .out, .pci, .ctr, .hng] s t) ∧
    (x.st ≠ .live → abandonEvent s e err = s) ∧
    (∀ tb, s.tables = some tb → x.vector = 0 → hostWriteOk s (tb.event + 32 * e) = true → ∃ w, (writeEvent s e).out =
      .hostWrite none (tb.event + 32 * e + 8) w true :: .hostWrite none (tb.event + 32 * e) (leBytes 8 x.value.toNat) true :: s.out ∧ w.length = 8)

/-- CTX_ACTIVATE of an INACTIVE context whose descriptor is right: with a slot and pages to be had, and nobody waiting before it, it is RESIDENT in the lowest free
slot with its pages, which read zero, and the activation completes with the slot; without a slot it is WAITING. A context that is not INACTIVE ends it with
CV_BUSY. CTX_WAIT_ADMIT gives a freed slot to the first WAITING context (R265 to R267). CTX_DEACTIVATE of a RESIDENT context with no ring, open sequence or step
program leaves it INACTIVE without slot or pages; with any of them it ends with CV_BUSY. CTX_RESET of an INACTIVE context completes at once; of a RESIDENT one
it leaves it RESETTING, or joins the reset that runs. CTX_RESET_COMPLETE of a context with work left changes nothing (R269, R296, R297, R501). The end of a
context reset: nothing of the context being left, it is RESIDENT with its slot and pages and the reset no longer runs; one that is a reset of its own, not
absorbed in a wider one, writes its error record, numbered in order, and sets HNG_EVENTS.RESET_DONE (R297, R500, R503). -/
def Obligations.Contexts : Prop :=
  (∀ (s : State) (ring : Fin 4096) (idx : BitVec 32) (c : Cmd) (d : List Byte), let q := ring.val
     let n := (s.ring q).sector
     let k := c.f 16 2
     PrivStarts s q idx 0x81 c → c.read 16 = some d → descErr n d = none →
     ((s.ctx k).st ≠ .inactive → exec (.ctxActivate ring idx) s = .next (refuseCmd s q c ⟨stINVALID, invalidDetail 8 0 16⟩)) ∧
     ((s.ctx k).st = .inactive → fieldAt d 2 1 = 0 →
       let x : Ctx := {
         st := .waiting, sector := n, lsPages := fieldAt d 8 2, group := fieldAt d 10 2, share := fieldAt d 12 2, watch := fieldAt d 14 2,
         smFirst := fieldAt d 16 2, smCount := fieldAt d 18 2, act := some (q, idx), order := (s.ctxs.map (fun y => y.2.order)).foldl max 0 + 1 }
       ((s.sector n).qCtx ≤ residents s n → ∃ t, exec (.ctxActivate ring idx) s = .next t ∧ t.ctx k = x ∧ (∀ j, j ≠ k → t.ctx j = s.ctx j) ∧
         t.ring q = (s.ring q).put { c with st := .held } ∧ SameBut [.rings, .ctxs] s t) ∧
       (∀ slot, residents s n < (s.sector n).qCtx → firstWaiting s n = none → freeSlotNo s = some slot → x.lsPages ≤ (freeLsFrames s n).length →
         ∃ t, exec (.ctxActivate ring idx) s = .next t ∧ (t.ctx k).st = .resident ∧ (t.ctx k).slot = slot ∧
           (t.ctx k).pages = ((freeLsFrames s n).take x.lsPages).map some ∧ (t.ctx k).sector = n ∧ (∀ j, j ≠ k → t.ctx j = s.ctx j) ∧
           (∀ a, a < 2 ^ 30 → cget t.ls (lsKey k a) = 0) ∧ (t.ring q).find idx none = none)) ∧
     (∀ (m : Fin 16), (s.sector m.val).qCtx ≤ residents s m.val ∨ firstWaiting s m.val = none → exec (.ctxWaitAdmit m) s = .next s) ∧
     (∀ (m : Fin 16) (w slot : Nat), residents s m.val < (s.sector m.val).qCtx → firstWaiting s m.val = some w → freeSlotNo s = some slot →
       (s.ctx w).lsPages ≤ (freeLsFrames s (s.ctx w).sector).length →
       ∃ t, exec (.ctxWaitAdmit m) s = .next t ∧ (t.ctx w).st = .resident ∧ (t.ctx w).slot = slot ∧ (∀ j, j ≠ w → t.ctx j = s.ctx j))) ∧
  (∀ (s : State) (ring : Fin 4096) (idx : BitVec 32) (c : Cmd), let q := ring.val
     let k := c.f 16 2
     let x := s.ctx k
     (PrivStarts s q idx 0x82 c → x.st = .resident → mayDeactivate s k = true → ∃ t, exec (.ctxDeactivate ring idx) s = .next t ∧
       t.ctx k = {} ∧ (∀ j, j ≠ k → t.ctx j = s.ctx j) ∧ (t.ring q).find idx none = none) ∧
     (PrivStarts s q idx 0x82 c → x.st = .resident → mayDeactivate s k = false → exec (.ctxDeactivate ring idx) s = .next (busyCmd s q c)) ∧
     (PrivStarts s q idx 0x83 c → x.st = .resetting → (∀ r, runningReset s 1 k = some r → r.part = false) →
       ∃ t, exec (.ctxReset ring idx) s = .next t ∧ t.ring q = (s.ring q).put { c with st := .started } ∧ (∀ j, j ≠ q → t.ring j = s.ring j) ∧
         t.resets = s.resets.map (fun r => if r.rung = 1 ∧ r.target = k then { r with cmds := r.cmds ++ [(q, idx)] } else r) ∧ SameBut [.rings, .resets] s t) ∧
     (PrivStarts s q idx 0x83 c → x.st = .inactive → ∃ t, exec (.ctxReset ring idx) s = .next t ∧ (t.ring q).find idx none = none ∧ t.resets = s.resets) ∧
     (∀ (m : Fin 16384), runningReset s 1 m.val = none ∨ ctxQuiet s m.val = false → exec (.ctxResetComplete m) s = .next s)) ∧
  (∀ (s : State) (m : Fin 16384) (r : RunReset), runningReset s 1 m.val = some r → ctxQuiet s m.val = true →
     ∃ t, exec (.ctxResetComplete m) s = .next t ∧ t.ctx m.val = { s.ctx m.val with st := .resident } ∧ (∀ k, k ≠ m.val → t.ctx k = s.ctx k) ∧
       runningReset t 1 m.val = none ∧
       (r.part = false → r.escalated = false → runningReset s 3 r.sector = none → evSet t evHNG 2 = true ∧ t.hng.errSeq = s.hng.errSeq + 1 ∧
         ∃ e, t.hng.errs = (e :: s.hng.errs).take 65536 ∧ e.seq = s.hng.errSeq ∧ e.rung = 1 ∧ e.ctx = r.ctx ∧ e.cause = r.cause ∧
           e.outcome = (if r.stuck then 3 else 0) ∧ e.started = r.start ∧ e.ended = s.now))

/-! ### Translation (R299 to R319) -/

/-- The Keeper takes Logbook entries. -/
def keeperTakes (s : State) : Prop := s.kpr.runs = true ∧ s.kpr.st ≠ .restarting

/-- The Logbook holds an entry of a type with its Sector and argument, stamped at a time. -/
def Logged (t : State) (when_ : Word) (typ sec arg : Nat) : Prop :=
  ∃ e ∈ t.log, e.typ = typ ∧ e.sector = sec ∧ e.arg = BitVec.ofNat 64 arg ∧ e.when_ = when_

/-- CONFIG_REQUEST. Before the boot has written the capability registers the function answers with Request Retry Status; after it, the IDs read back, and the ATS,
PRI, PASID and MSI-X capabilities take their settings; the message of an open vector that was pending goes out (R33, R259, R261, R300). ATS_COMPLETION for the
one tile that waits, with one unit: a range that grants the access enters the TLBs of its source as the most recently used entry, and the tile goes on; a range
below 2 MiB ends it with reason 3 and sets SMALL_XLATE; without permission, where page requests can be made, the lowest free group is formed (the lowest is the
model's choice, notes/assumptions/10), its fault posted in the queue as the last of its group, and the page request sent. An answer that nobody waits for
changes nothing (R302, R303, R308, R309, R314). PRG_RESPONSE: Success has the units of the group translated again; Invalid Request ends the tiles that need the
group with reason 1; Response Failure ends the tiles of every group with reason 2, sets PRI_STOPPED and its event. A group that is not outstanding starts
nothing. ATF_PRI_RESUME clears PRI_STOPPED while page requests are enabled (R310). -/
def Obligations.TranslationAnswers : Prop :=
  (∀ (s : State),
     (released s = false → ∀ r, exec (.configRequest r) s = .next (s.emit .retryStatus)) ∧
     (released s = true → exec (.configRequest .readId) s =
       .next (s.emit (.configDone [Config.vendor.toNat, 0x2400, 0xB0, 0x120000]))) ∧
     (released s = true → ∀ en mask, s.pci.pba = [] → exec (.configRequest (.setMsix en mask)) s =
       .next { s.emit (.configDone []) with pci := { s.pci with msix := en, msixMask := mask } }) ∧
     (released s = true → ∀ v, s.pci.pba = [v] → bit (tget (2 ^ 32 : BitVec 64) s.regs (0x3000008 + 16 * v)).toNat 32 = false →
       exec (.configRequest (.setMsix true false)) s =
       .next ({ s.emit (.configDone []) with pci := { s.pci with msix := true, msixMask := false, pba := [] } }.emit (.msix v))) ∧
     (released s = true → ∀ en, exec (.configRequest (.setPasid en)) s = .next { s.emit (.configDone []) with pci := { s.pci with pasid := en } }) ∧
     (released s = true → s.xl.waits = [] → ∀ en, ∃ t, exec (.configRequest (.setAts en)) s = .next t ∧ t.pci = { s.pci with ats := en } ∧
       (en = false → t.xl.tlb = []) ∧ (en = true → t.xl = s.xl) ∧ SameBut [.out, .pci, .xl] s t)) ∧
  (∀ (s : State) (n : Fin 16) (pasid : Option (BitVec 20)) (unit : Nat) (w : XWait) (u : XUnit),
     let p := pasid.map (·.toNat)
     let after (st : UnitSt) : XWait := { w with units := [{ u with st := st, prg := none }] }
     (s.xl.waits = [] → ∀ ans, exec (.atsCompletion n pasid unit ans) s = .next s) ∧
     (s.xl.waits = [w] → w.sector = n.val → w.pasid = p → w.units = [u] → u.unit = unit → u.st = .ats →
       (∀ log r wr, 21 ≤ log → (if w.write then wr else r) = true →
         let e : XEntry := ⟨n.val, p, unit / (if log < 26 then 1 else if log < 30 then 32 else 512) * (if log < 26 then 1 else if log < 30 then 32 else 512),
           (if log < 26 then 1 else if log < 30 then 32 else 512), r, wr⟩
         ∃ s1, exec (.atsCompletion n pasid unit (.range log r wr false)) s = .next (waiterReady s1 (after .ok)) ∧ s1.xl.waits = [] ∧
           (∀ k ∈ tlbsOf w.source, (tget [] s1.xl.tlb k.1).head? = some e ∧ (tget [] s1.xl.tlb k.1).length ≤ k.2) ∧ SameBut [.xl] s s1) ∧
       (∀ log r wr, log < 21 → ∃ s1, exec (.atsCompletion n pasid unit (.range log r wr false)) s = .next (xlRun (xlateFail s1 w.who unit 3)) ∧
         s1.xl.waits = [] ∧ evSet s1 evATF 4 = true ∧ SameBut [.xl, .regs, .out, .pci] s s1) ∧
       (u.asked < 4 → u.prg = none → s.pci.pri = true → s.xl.priStopped = false → s.xl.fqOn = true → s.xl.fqErr = false → s.xl.groups = [] → s.xl.fq = [] →
         256 < fqSize s → hostWriteOk s (regAt s 0x30000 / 4096 * 4096 + s.xl.fqTail.toNat % fqSize s * 32) = true →
         ∃ t, exec (.atsCompletion n pasid unit .denied) s = .next t ∧ tget [] t.xl.groups 0 = [⟨n.val, p, unit⟩] ∧ t.xl.fqTail = s.xl.fqTail + 1 ∧
           t.xl.fq = [{ index := s.xl.fqTail, prg := 0, slot := none }] ∧
           t.xl.waits = [{ w with units := [{ u with st := .pend, prg := some 0, asked := u.asked + 1 }] }] ∧
           Out.pageRequest 0 p unit w.write true ∈ t.out ∧ evSet t evATF 0 = true ∧ SameBut [.xl, .regs, .out, .pci, .ctr] s t))) ∧
  (∀ (s : State) (prg : Fin 512) (code : PrgCode),
     (prg.val ∉ tkeys s.xl.groups → exec (.prgResponse prg code) s = .next s) ∧
     (prg.val ∈ tkeys s.xl.groups →
       (∀ w u, s.xl.waits = [w] → w.units = [u] → u.prg = some prg.val → ∃ t, exec (.prgResponse prg .success) s = .next t ∧
         tget [] t.xl.groups prg.val = [] ∧ t.xl.waits = [{ w with units := [{ u with st := .ats, prg := none }] }] ∧
         (u.st ≠ .ats → .atsRequest w.sector w.pasid u.unit w.write ∈ t.out) ∧ SameBut [.xl, .out, .ctr] s t) ∧
       (∀ w u, s.xl.waits = [w] → w.units = [u] → u.prg = some prg.val → ∃ s1, exec (.prgResponse prg .invalid) s =
         .next (xlRun (xlateFail s1 w.who u.unit 1)) ∧ s1.xl.waits = [] ∧ tget [] s1.xl.groups prg.val = [] ∧ SameBut [.xl] s s1) ∧
       (s.xl.waits = [] → ∃ t, exec (.prgResponse prg .failure) s = .next t ∧ t.xl.groups = [] ∧ t.xl.priStopped = true ∧ evSet t evATF 3 = true ∧
         SameBut [.xl, .regs, .out, .pci] s t)) ∧
     (s.pci.pri = false → exec .priResume s = .next s) ∧
     (s.pci.pri = true → s.xl.waits = [] → exec .priResume s = .next { s with xl := { s.xl with priStopped := false } }))

/-- ATS_INVALIDATE removes exactly the matching entries, from every TLB, and is served until INVALIDATE_COMPLETION; that waits for the moves that use a removed
entry, then answers the host. A request under an ITag being served changes nothing (R305). The fault queue's registers: ATF_FQ_HEAD takes a value between HEAD
and TAIL, and any other value sets HEAD_RANGE alone; ATF_FQ_CTL enables the queue where SIZE_LOG2 is 10 to 16, clearing the write error, and disables it while
no entry is in use; otherwise it sets CONFIG_BUSY alone (R314, R316, R319). -/
def Obligations.InvalidationsAndFaults : Prop :=
  (∀ (s : State) (itag : Fin 32) (pasid : Option (BitVec 20)) (base len : Nat),
     let p := pasid.map (·.toNat)
     ((∃ i ∈ s.xl.invals, i.itag = itag.val) → exec (.atsInvalidate itag pasid base len) s = .next s) ∧
     ((∀ i ∈ s.xl.invals, i.itag ≠ itag.val) → twf [] s.xl.tlb = true → ∃ t, exec (.atsInvalidate itag pasid base len) s = .next t ∧
       (∀ k e, e ∈ tget [] t.xl.tlb k ↔ e ∈ tget [] s.xl.tlb k ∧ e.hit p base len = false) ∧
       t.xl.invals = s.xl.invals ++ [{ itag := itag.val, users := xlUsers s p base len }] ∧ SameBut [.xl, .cores, .out, .ctr] s t) ∧
     (∀ i, s.xl.invals.find? (fun x => x.itag == itag.val) = some i →
       ((∃ w ∈ i.users, stillMoves s w = true) → exec (.invalidateCompletion itag) s = .next s) ∧
       ((∀ w ∈ i.users, stillMoves s w = false) → ∃ t, exec (.invalidateCompletion itag) s = .next t ∧ t.out = .invalidateDone itag :: s.out ∧
         (∀ x, x ∈ t.xl.invals ↔ x ∈ s.xl.invals ∧ x.itag ≠ itag.val) ∧ SameBut [.xl, .out, .ctr] s t))) ∧
  (∀ (s : State) (v : BitVec 32) (x : Word), let size := bits (regNow s 0x30008).toNat 4 0
     ((s.xl.fqTail - s.xl.fqHead).toNat < (v - s.xl.fqHead).toNat → exec (.atfFqHead v) s = .next (raise s evATF 7)) ∧
     ((v - s.xl.fqHead).toNat ≤ (s.xl.fqTail - s.xl.fqHead).toNat → s.xl.waits = [] → ∃ t, exec (.atfFqHead v) s = .next t ∧ t.xl.fqHead = v ∧
       t.xl.fqTail = s.xl.fqTail ∧ (∀ e, e ∈ t.xl.fq ↔ e ∈ s.xl.fq ∧ ¬ (e.answered = true ∧ 0 < (v - e.index).toNat ∧ (v - e.index).toNat ≤ 2 ^ 31)) ∧ SameBut [.xl] s t) ∧
     (bits x.toNat 4 0 = size → s.xl.fqOn = true → exec (.atfFqEnable x) s = .next s) ∧
     (bits x.toNat 4 0 = size → s.xl.fqOn = false → (size < 10 ∨ 16 < size) → exec (.atfFqEnable x) s = .next (raise s evATF 6)) ∧
     (bits x.toNat 4 0 = size → s.xl.fqOn = false → 10 ≤ size → size ≤ 16 → s.xl.waits = [] → ∃ t, exec (.atfFqEnable x) s = .next t ∧
       t.xl = { s.xl with fqOn := true, fqErr := false } ∧ regNow t 0x30008 = setBits (regNow s 0x30008) 63 63 1 ∧ SameBut [.xl, .regs] s t) ∧
     (s.xl.fqOn = true → s.xl.fq ≠ [] → exec (.atfFqDisable x) s = .next (raise s evATF 6)) ∧
     (s.xl.fqOn = true → s.xl.fq = [] → s.xl.waits = [] → bits x.toNat 4 0 = size → ∃ t, exec (.atfFqDisable x) s = .next t ∧
       t.xl = { s.xl with fqOn := false } ∧ regNow t 0x30008 = setBits (regNow s 0x30008) 63 63 0 ∧ SameBut [.xl, .regs] s t) ∧
     (s.xl.fqOn = false → bits x.toNat 4 0 ≠ size → s.xl.fq = [] → ∃ t, exec (.atfFqDisable x) s = .next t ∧
       regNow t 0x30008 = setBits (regNow s 0x30008) 4 0 (bits x.toNat 4 0) ∧ SameBut [.regs] s t))

/-! ### Coherence, scrubbing and bandwidth (R328, R343 to R350, R360 to R371) -/

/-- Final writes, directories and rehomes. FINAL_WRITE_DISCARD takes off a held final write of 16 Flashes, counts and logs it, and sets its event.
DIRECTORY_REBUILD_DONE of a die in REBUILD returns it to DIRECTORY, or to BROADCAST_TEST where FORCE names it; an uncorrectable error restarts it.
COHERENCE_ESCALATION counts and sets its event. REHOME_WALK_DONE marks the walk done. FORCE is written in the life-cycle states that allow it, and moves each
die between DIRECTORY and BROADCAST_TEST (R328, R343, R344, R346, R348, R350). -/
def Obligations.Coherence : Prop :=
  ∀ (s : State),
    (∀ (src : BitVec 20) (stream : BitVec 16) (seq : BitVec 32), let k := stream.toNat * 2 ^ 20 + src.toNat
      ((∀ h ∈ (s.seqIn k).held, h.1.seq ≠ seq.toNat ∨ h.2.2 < 16) → exec (.finalWriteDiscard src stream seq) s = .next s) ∧
      (∀ h, h ∈ (s.seqIn k).held → h.1.seq = seq.toNat → 16 ≤ h.2.2 → ∃ t, exec (.finalWriteDiscard src stream seq) s = .next t ∧
        (∀ g, g ∈ (t.seqIn k).held ↔ g ∈ (s.seqIn k).held ∧ g.1.seq ≠ seq.toNat) ∧ (t.seqIn k).done = (s.seqIn k).done ∧ evSet t evCOH 5 = true ∧
        tget 0 t.ctr 0x4E148 = tget 0 s.ctr 0x4E148 + 1 ∧ SameBut [.chn, .ctr, .regs, .out, .pci, .log, .logSeq, .kpr] s t)) ∧
    (∀ (d : Fin 4),
      (dirMode s d.val ≠ .rebuild → exec (.directoryRebuildDone d) s = .next s) ∧
      (dirMode s d.val = .rebuild → s.mem.dirChk = [] → ∃ t, exec (.directoryRebuildDone d) s = .next t ∧
        dirMode t d.val = (if bit (cohForce s) d.val then .test else .directory) ∧ (∀ e, e ≠ d.val → dirMode t e = dirMode s e) ∧ evSet t evCOH 2 = true ∧
        SameBut [.mem, .regs, .out, .pci] s t) ∧
      (∀ e, dirMode s d.val = .rebuild → s.mem.dirChk = [(e, 2)] → e / 2 ^ 40 = d.val → ∃ t, exec (.directoryRebuildDone d) s = .next t ∧ dirMode t d.val = .rebuild ∧
        t.mem.dirChk = [] ∧ evSet t evCOH 1 = true ∧ (keeperTakes s → Logged t s.now 0x46 0xFF (d.val + e % 2 ^ 32 * 2 ^ 16)) ∧
        SameBut [.mem, .regs, .out, .pci, .ctr, .log, .logSeq, .kpr] s t)) ∧
    (∀ m, ∃ t, exec (.coherenceEscalation m) s = .next t ∧ evSet t evCOH 3 = true ∧ tget 0 t.ctr 0x4E120 = tget 0 s.ctr 0x4E120 + 1 ∧
      tget 0 t.ctr 0x4E118 = tget 0 s.ctr 0x4E118 + BitVec.ofNat 64 (max 16 m) ∧ SameBut [.ctr, .regs, .out, .pci] s t) ∧
    (∀ (n : Fin 16) (lines : Nat) (r : Rehome), s.mem.rehomes = [r] → r.sector = n.val → r.walked = false → s.mem.dirChk = [] → s.mem.tagChk = [] →
      ∃ t, exec (.rehomeWalkDone n lines) s = .next t ∧ t.mem = { s.mem with rehomes := [{ r with walked := true }] } ∧
        tget 0 t.ctr 0x4E150 = tget 0 s.ctr 0x4E150 + BitVec.ofNat 64 lines ∧ SameBut [.mem, .ctr] s t) ∧
    (∀ (n : Fin 16) (lines : Nat), s.mem.rehomes = [] → exec (.rehomeWalkDone n lines) s = .next s) ∧
    (∀ v : BitVec 4, (rwlOpen s = false → exec (.memCohTestForce v) s = .next s) ∧
      (rwlOpen s = true → ∃ t, exec (.memCohTestForce v) s = .next t ∧ regNow t 0x4E008 = v.setWidth 64 ∧
        (∀ d, d < 4 → dirMode t d = (if dirMode s d = .directory ∧ v.toNat.testBit d then .test else
          if dirMode s d = .test ∧ v.toNat.testBit d = false then .directory else dirMode s d)) ∧ SameBut [.regs, .mem] s t))

/-- SCRUB_READ of a memory that is scrubbed: without leave it asks once, of the module's own account, for 64 MiB; with it a clean unit moves the lap on by one line;
after the last line the lap is over and its length kept. A memory that is not scrubbed is left alone. MEM_SCRUB_CTL stores the enables and abandons the laps of
what it disables (R360 to R363, R371). LEVEL_PUBLISH: LEVEL 0 of an empty queue, 1 below HIGH, 2 from HIGH, 3 at 256; OVER marks a class of the channel's owner
whose part of the last 16 intervals is above its share. MEM_BW_SHARE takes shares that sum to at most 256, and otherwise only sets its event (R366, R368). -/
def Obligations.ScrubbingAndBandwidth : Prop :=
  (∀ (s : State) (m : ScrubMem), let k := scrubNo m
     let x := s.scrubAt k
     (∀ line, scrubs s k = false → exec (.scrubRead m line) s = .next s) ∧
     (∀ line, scrubs s k = true → x.pos % 2 ^ 20 = 0 → x.leave = 1 → exec (.scrubRead m line) s = .next s) ∧
     (∀ line, scrubs s k = true → x.pos % 2 ^ 20 = 0 → x.leave = 0 → ∃ t, exec (.scrubRead m line) s = .next t ∧ t.scrubAt k = { x with leave := 1 } ∧
       (∀ j, j ≠ k → t.scrubAt j = s.scrubAt j) ∧ (∃ g ∈ tget [] t.tnd.queues 16, g.who = .scrub k) ∧ SameBut [.mem, .tnd] s t) ∧
     (scrubs s k = true → (x.pos % 2 ^ 20 ≠ 0 ∨ x.leave = 2) → x.pos ≠ 0 →
       (x.pos + 1 < lapUnits k → ∃ t, exec (.scrubRead m none) s = .next t ∧ (t.scrubAt k).pos = x.pos + 1 ∧ (t.scrubAt k).flashes = x.flashes ∧
         (t.scrubAt k).leave = (if (x.pos + 1) % 2 ^ 20 = 0 then 0 else x.leave) ∧ (∀ j, j ≠ k → t.scrubAt j = s.scrubAt j) ∧ SameBut [.mem, .ctr] s t) ∧
       (x.pos + 1 = lapUnits k → ∃ t, exec (.scrubRead m none) s = .next t ∧ (t.scrubAt k).pos = 0 ∧ (t.scrubAt k).last = x.flashes ∧
         (∀ j, j ≠ k → t.scrubAt j = s.scrubAt j) ∧ SameBut [.mem, .ctr, .regs, .out, .pci] s t)) ∧
     (∀ v : Word, ∃ t, exec (.memScrubCtl v) s = .next t ∧ regNow t 0x40040 = BitVec.ofNat 64 (v.toNat % 4) ∧
       (v.toNat % 4 = 3 → SameBut [.regs] s t) ∧ ((k < 128 ∧ v.toNat.testBit 0 = false) ∨ (128 ≤ k ∧ v.toNat.testBit 1 = false) → (t.scrubAt k).pos = 0) ∧
       SameBut [.regs, .mem, .tnd] s t)) ∧
  (∀ (s : State) (c : Fin 128) (peak : Nat) (served : List Nat),
     let high := max 1 ((regNow s 0x40070).toNat % 256)
     let win := (served :: tget [] s.mem.served c.val).take 16
     let tot (k : Nat) : Nat := (win.map (fun w => w.getD k 0)).sum
     let all := tot 0 + tot 1 + tot 2 + tot 3 + tot 4
     let r := s.resAt (resChannel c.val)
     (∃ t, exec (.levelPublish c peak served) s = .next t ∧ tget [] t.mem.served c.val = win ∧
       (tget (0, 0) t.mem.level c.val).1 = (if peak = 0 then 0 else if 256 ≤ peak then 3 else if high ≤ peak then 2 else 1) ∧
       (r.st = .lit → ∀ k, k < 5 → ((tget (0, 0) t.mem.level c.val).2.testBit k = true ↔ bwShare s r.sector k * all < tot k * 256)) ∧
       (∀ d, d ≠ c.val → tget (0, 0) t.mem.level d = tget (0, 0) s.mem.level d) ∧ SameBut [.mem, .ctr] s t) ∧
     (∀ (n : Fin 16) (v : Word), let sum := bits v.toNat 7 0 + bits v.toNat 15 8 + bits v.toNat 23 16 + bits v.toNat 31 24 + bits v.toNat 39 32
       ((s.sector n.val).exists_ = false → exec (.memBwShare n v) s = .next s) ∧
       ((s.sector n.val).exists_ = true → 256 < sum → exec (.memBwShare n v) s = .next (raise s evMEM 5)) ∧
       ((s.sector n.val).exists_ = true → sum ≤ 256 → ∃ t, exec (.memBwShare n v) s = .next t ∧ regNow t (0x40100 + 8 * n.val) = BitVec.ofNat 64 (v.toNat % 2 ^ 40) ∧
         (∀ o, o ≠ 0x40100 + 8 * n.val → regNow t o = regNow s o) ∧ SameBut [.regs] s t)))

/-! ### Chain (R372 to R401) -/

/-- A frame of a type for this module arrives on a lane that is up, with every field in its range (R375). -/
def FrameArrives (s : State) (l : Nat) (f : Frame) (type : Nat) : Prop :=
  (s.lane l).up = true ∧ f.type = type ∧ f.dst = s.chn.id.toNat ∧ f.flags < 16 ∧ f.mooring < 1024 ∧ f.addr < 2 ^ 47 ∧ f.payload.length ≤ 4096 ∧
  f.payload.length % 64 = 0 ∧ (type < 16 → f.status = 0) ∧ ((type = 1 ∨ type = 2 ∨ type = 4) → f.payload ≠ [])

/-- The state once an arriving frame is counted (R374). -/
def counted (s : State) (l : Nat) (f : Frame) : State := portCount (portCount s (l / 8) 5 1) (l / 8) 6 f.payload.length

/-- The answer to a request, which echoes its numbers (R376). -/
def replyTo (s : State) (f : Frame) (type status : Nat) (payload : List Byte := []) : Frame :=
  { type := type, dst := f.src, src := s.chn.id.toNat, status := status, mooring := f.mooring, stream := f.stream, seq := f.seq, lgen := f.lgen, addr := f.addr,
    payload := payload }

/-- Requests of other modules. A WRITE through a mooring leased to the sender puts its bytes in the mooring's extents, once, and is acknowledged; a final one whose
stream's FIRST or a lower SEQ is still to come is held and changes no memory; a repeated one is only acknowledged; one that is outside what is leased is
answered with its ERROR and changes no memory. A READ answers the bytes, padded to 64. RELEASE is acknowledged, WITHDRAW takes off a held final write and is
acknowledged, PREFETCH is counted and does nothing more (R377, R378, R393, R394). -/
def Obligations.ServedRequests : Prop :=
  ∀ (s : State) (lane : Fin 128) (f : Frame), let r := s.seqIn (recKey f)
    let sends (t : State) (g : Frame) : Prop := (s.lane lane.val).held = false → .frame lane.val g ∈ t.out
    let first := bit f.flags 1 = true
    let final := bit f.flags 0 = true
    (FrameArrives s lane.val f 1 →
      (∀ n a, inbound s f f.payload.length = .ok (n, a) → rangeReady s n a f.payload.length = true →
        (f.seq ∉ r.done → r.held = [] → ¬ final → ∃ t, exec (.write lane f) s = .next t ∧
          (∀ i, i < f.payload.length → cget t.sm (smKey n a + i) = f.payload.getD i 0) ∧
          (∀ k, k < smKey n a ∨ smKey n a + f.payload.length ≤ k → cget t.sm k = cget s.sm k) ∧ f.seq ∈ (t.seqIn (recKey f)).done ∧
          sends t (replyTo s f 0x11 0) ∧ SameBut [.sm, .smChk, .mem, .free, .ctr, .regs, .out, .pci, .log, .logSeq, .kpr, .chn] s t) ∧
        (f.seq ∉ r.done → ¬ first → final → r.held = [] → mayLand r f.seq = false → ∃ t, exec (.write lane f) s = .next t ∧
          t.seqIn (recKey f) = { r with held := [(f, lane.val, 0)], idle := 0 } ∧ SameBut [.chn, .ctr] s t) ∧
        (f.seq ∈ r.done → ¬ first → ∃ t, exec (.write lane f) s = .next t ∧ sends t (replyTo s f 0x11 0) ∧ SameBut [.chn, .ctr, .out] s t)) ∧
      (∀ e, inbound s f f.payload.length = .error e → f.seq ∉ r.done → r.held = [] → ¬ final → ∃ t, exec (.write lane f) s = .next t ∧
        sends t (replyTo s f 0x16 e) ∧ SameBut [.chn, .ctr, .out] s t)) ∧
    (FrameArrives s lane.val f 2 → r.held = [] → let len := min 4096 (fieldAt f.payload 0 8)
      (∀ n a, inbound s f len = .ok (n, a) → rangeReady s n a len = true → s.smChk = [] → s.lsChk = [] → ∃ t, exec (.read lane f) s = .next t ∧
        sends t (replyTo s f 0x12 0 (cread s.sm (smKey n a) len ++ List.replicate ((64 - len % 64) % 64) 0)) ∧ SameBut [.chn, .ctr, .out] s t) ∧
      (∀ e, inbound s f len = .error e → ∃ t, exec (.read lane f) s = .next t ∧ sends t (replyTo s f 0x16 e) ∧ SameBut [.chn, .ctr, .out] s t)) ∧
    (FrameArrives s lane.val f 3 → exec (.prefetch lane f) s = .next (counted s lane.val f)) ∧
    (FrameArrives s lane.val f 4 → r.held = [] → ∃ t, exec (.release lane f) s = .next t ∧ f.seq ∈ (t.seqIn (recKey f)).done ∧
      sends t (replyTo s f 0x11 0) ∧ SameBut [.chn, .ctr, .out] s t) ∧
    (FrameArrives s lane.val f 5 →
      (r.held = [] → ∃ t, exec (.withdraw lane f) s = .next t ∧ sends t (replyTo s f 0x11 0) ∧ SameBut [.chn, .ctr, .out] s t) ∧
      (∀ h, r.held = [h] → h.1.seq = f.seq → ∃ t, exec (.withdraw lane f) s = .next t ∧ (t.seqIn (recKey f)).held = [] ∧ evSet t evCOH 5 = true ∧
        sends t (replyTo s f 0x11 0) ∧ SameBut [.chn, .ctr, .out, .regs, .pci, .log, .logSeq, .kpr] s t)) ∧
    ((s.lane lane.val).up = false → exec (.write lane f) s = .next s ∧ exec (.read lane f) s = .next s ∧ exec (.prefetch lane f) s = .next s ∧
      exec (.release lane f) s = .next s ∧ exec (.withdraw lane f) s = .next s)

/-- Answers to this module's requests, found by device, stream and SEQ. ACK and DATA end the request, the data going where it is wanted; REFUSE redirects it to the
leased mooring of its group towards the device named, or, refused by that one or a second time with no device, re-asks the mooring with the highest generation;
a refused re-ask ends it with MOORING_ORPHAN, reason 1, a fourth redirect with reason 4, a device with no mooring with reason 3; SHORTFALL and FALLBACK_HERE
move a request to its fallback area, and end one without with PEER_UNREACHABLE, reason 5; ERROR 5 sends it again, ERROR 1 to 3 ends it with reason 6;
UNREACHABLE with reason 1. An answer to nothing outstanding is only counted (R377, R385, R395, R396, R398, R400). What those ends leave. An acknowledged request
is outstanding no longer and nothing else of Chain changes; the bytes of a READ lie in its tile's window or in the frame of the block that is pulled; a
redirected request is sent anew under the lease and to the device of its new mooring; a MOORING_ORPHAN is captured with its offset, sets its event and is logged
twice (R377, R396, R397). -/
def Obligations.AnswersToRequests : Prop :=
  (∀ (s : State) (lane : Fin 128) (f : Frame) (r : ChReq), let s1 := counted s lane.val f
     let goes (i : Instr) (t : State) : Prop := exec i s = .next (chGo t r.who)
     (reqFor s f = none →
       (FrameArrives s lane.val f 0x11 → exec (.ack lane f) s = .next s1) ∧ (FrameArrives s lane.val f 0x12 → exec (.data lane f) s = .next s1) ∧
       (FrameArrives s lane.val f 0x13 → exec (.refuse lane f) s = .next s1) ∧ (FrameArrives s lane.val f 0x14 → exec (.shortfall lane f) s = .next s1) ∧
       (FrameArrives s lane.val f 0x15 → exec (.fallbackHere lane f) s = .next s1) ∧ (FrameArrives s lane.val f 0x16 → exec (.error lane f) s = .next s1)) ∧
     (reqFor s f = some r →
       (FrameArrives s lane.val f 0x11 → goes (.ack lane f) (dropReq s1 r.id)) ∧
       (FrameArrives s lane.val f 0x12 → r.type = 2 → goes (.data lane f) (readData (dropReq s1 r.id) r (sub f.payload 0 r.len))) ∧
       (FrameArrives s lane.val f 0x13 → let dev := f.addr % 2 ^ 20
         let tried := r.refused ++ [r.mooring + 1024 * r.dst]
         (r.reask = true → goes (.refuse lane f) (reqFail s1 r (orphaned r.lease.gen 1 r.mooring))) ∧
         (r.reask = false → 3 ≤ r.redirects → goes (.refuse lane f) (reqFail s1 r (orphaned r.lease.gen 4 r.mooring))) ∧
         (r.reask = false → r.redirects < 3 → f.status = 1 → (∀ t ∈ tried, t / 1024 ≠ dev) →
           (poolMooring s r.sector r.lease.group dev = none → goes (.refuse lane f) (reqFail s1 r (orphaned r.lease.gen 3 r.mooring))) ∧
           (∀ m, poolMooring s r.sector r.lease.group dev = some m → goes (.refuse lane f) (reqMove s1 r m tried false))) ∧
         (r.reask = false → r.redirects < 3 → (f.status ≠ 1 ∨ ∃ t ∈ tried, t / 1024 = dev) →
           goes (.refuse lane f) (reqMove s1 r (reaskWhom s tried) tried true))) ∧
       (FrameArrives s lane.val f 0x14 → r.type = 1 →
         (∀ n d, r.who = .blk n d → goes (.shortfall lane f) (spillToHost (dropReq s1 r.id) n d)) ∧
         ((∀ n d, r.who ≠ .blk n d) → r.lease.fallback = 0 → goes (.shortfall lane f) (reqFail s1 r (unreachable r.dst 5 r.mooring))) ∧
         ((∀ n d, r.who ≠ .blk n d) → r.lease.fallback ≠ 0 → goes (.shortfall lane f) (setReq s1 { r with type := 0x14 }))) ∧
       (FrameArrives s lane.val f 0x15 → r.type = 2 →
         (r.lease.fallback = 0 → goes (.fallbackHere lane f) (reqFail s1 r (unreachable r.dst 5 r.mooring))) ∧
         (r.lease.fallback ≠ 0 → goes (.fallbackHere lane f) (readFallback (fellBack (dropReq s1 r.id) r) r))) ∧
       (FrameArrives s lane.val f 0x16 →
         (f.status = 5 → goes (.error lane f) (setReq s1 { r with sent := false, resend := true, resends := 0 })) ∧
         (1 ≤ f.status → f.status ≤ 3 → goes (.error lane f) (reqFail s1 r (unreachable r.dst 6 r.mooring))))) ∧
     (FrameArrives s lane.val f 0x17 →
       s.chn.reqs.find? (fun r => r.sent && r.type != 0x14 && r.stream == f.stream && r.addr == f.addr && r.lease.remote == f.mooring) = some r →
       goes (.unreachable lane f) (reqFail s1 r (unreachable r.dst 1 r.mooring)))) ∧
  (∀ (s : State) (r : ChReq),
     (∀ k, s.chn.reqs = [r] → r.who = .release k → ∃ t, chGo (dropReq s r.id) r.who = t ∧ t.chn = { s.chn with reqs := [] } ∧ SameBut [.chn] s t) ∧
     (∀ n d bs, r.who = .blk n d → (s.blk n d).st = .pulling → s.smChk = [] → let a := frameAddr s n (s.blk n d) + (r.addr - (s.blk n d).spillAddr)
       ∃ t, readData s r bs = t ∧ (∀ i, i < bs.length → cget t.sm (smKey n a + i) = bs.getD i 0) ∧
         (∀ k, k < smKey n a ∨ smKey n a + bs.length ≤ k → cget t.sm k = cget s.sm k) ∧ SameBut [.sm, .smChk] s t) ∧
     (∀ c num bs o, r.who = .tile c num → findOp s c num = some o → ∃ t, readData s r bs = t ∧
       findOp t c num = some { o with remote := o.remote.filter (· != r.id), got := o.got ++ [(r.firstMoor * 2 ^ 47 + r.addr, bs)] } ∧ SameBut [.cores, .hng] s t) ∧
     (∀ m tried again, s.chn.reqs = [r] → ∃ t r1, reqMove s r m tried again = t ∧ t.chn = { s.chn with reqs := [r1] } ∧ r1.mooring = m ∧ r1.lease = (s.moor m).cur ∧
       r1.dst = (s.moor m).cur.target ∧ r1.sent = false ∧ r1.numbered = false ∧ r1.payload = r.payload ∧ r1.addr = r.addr ∧ SameBut [.chn] s t) ∧
     (∀ reason, let t := orphanEvent s r reason
       t.chn.orphanAddr = BitVec.ofNat 64 r.addr ∧ evSet t evCHN 8 = true ∧
       (keeperTakes s → Logged t s.now 0x51 r.sector (r.mooring + r.firstMoor * 2 ^ 10 + reason * 2 ^ 20) ∧ Logged t s.now 1 r.sector r.addr) ∧
       SameBut [.chn, .regs, .out, .pci, .log, .logSeq, .kpr] s t))

/-- The ring. A frame for another device goes out on the same wavelength of the other port of its ring position with one more hop; where it cannot, a request is
answered with UNREACHABLE and counted as discarded. A HELLO of another module records the hops to it through the port it came by, its own plus one; one of this
module's own device ID sets DUP_ID. DELAY_REQ is answered on wavelength 0, DELAY_RESP gives half the round trip less the turnaround (R384, R385, R388). -/
def Obligations.RingFrames : Prop :=
  ∀ (s : State) (lane : Fin 128) (f : Frame), let p := lane.val / 8
    let q := if p % 2 = 0 then p + 1 else p - 1
    let o := 8 * q + lane.val % 8
    ((s.lane lane.val).up = true → f.dst ≠ s.chn.id.toNat → f.type < 0x20 →
      ((s.port q).st = .up → f.hops < 255 → ∃ t, exec (.relayForward lane f) s = .next t ∧
        ((s.lane o).up = true → (s.lane o).held = false → .frame o { f with hops := f.hops + 1 } ∈ t.out) ∧
        (t.lane o).unacked = (s.lane o).unacked ++ [((s.lane o).lseq, { f with hops := f.hops + 1 })] ∧ (t.lane o).lseq = (s.lane o).lseq + 1 ∧
        (∀ k, k ≠ o → t.lane k = s.lane k) ∧ SameBut [.chn, .ctr, .out] s t) ∧
      ((s.port q).st ≠ .up → (f.type = 1 ∨ f.type = 2 ∨ f.type = 4 ∨ f.type = 5) → (s.lane lane.val).held = false → ∃ t, exec (.relayForward lane f) s = .next t ∧
        .frame lane.val { type := 0x17, dst := f.src, src := s.chn.id.toNat, mooring := f.mooring, stream := f.stream, lgen := f.lgen, addr := f.addr } ∈ t.out ∧
        SameBut [.chn, .ctr, .out] s t)) ∧
    ((s.lane lane.val).up = true → f.type = 0x20 → f.src ≠ s.chn.id.toNat → f.src < 2 ^ 20 → (s.port q).st ≠ .up → s.chn.reqs = [] →
      ∃ t, exec (.hello lane f) s = .next t ∧ hopsTo t p f.src = some (f.hops + 1) ∧
        (∀ k d, d < 2 ^ 20 → (k ≠ p ∨ d ≠ f.src) → hopsTo t k d = hopsTo s k d) ∧ (hopsTo s p f.src ≠ some (f.hops + 1) → evSet t evCHN 1 = true) ∧
        SameBut [.chn, .regs, .out, .pci] s t) ∧
    ((s.lane lane.val).up = true → f.type = 0x20 → f.src = s.chn.id.toNat → ∃ t, exec (.hello lane f) s = .next t ∧ evSet t evCHN 3 = true ∧
      (∀ k, hopsTo t k f.src = none) ∧ SameBut [.chn, .regs, .out, .pci] s t) ∧
    (∀ port : Fin 16, (s.port port.val).st = .up →
      ((s.lane (8 * port.val)).up = true → (s.lane (8 * port.val)).held = false → ∃ t g, exec (.delayReq port) s = .next t ∧ .frame (8 * port.val) g ∈ t.out ∧ g.type = 0x22 ∧
        g.payload.length = 64 ∧ SameBut [.chn, .out, .free] s t) ∧
      (∀ trip turn, ∃ t, exec (.delayResp port trip turn) s = .next t ∧ t.port port.val = { s.port port.val with delay := (trip - turn) / 2 } ∧
        (∀ k, k ≠ port.val → t.port k = s.port k) ∧ SameBut [.chn] s t))

/-- Ports. A training that ends with wavelength 0 leaves the port KEYING with its KEY sent, one without leaves it in training; a valid KEY of major 1 brings the
port UP with the peer it names, an invalid one leaves it AUTH_FAILED, logged, with its event. On a port that is UP a KEY carries the rekey on. PORT_DISABLE and
RETRAIN take effect on a port that is there, BYPASS begins to move a position and BYPASS_MOVED ends the move, a closed position bringing its ports down (R380,
R383, R386, R387, R401). -/
def Obligations.PortControl : Prop :=
  ∀ (s : State) (port : Fin 16), let p := port.val
    let x := s.port p
    (∀ lanes : BitVec 8, (x.st ≠ .training → exec (.portTrainingDone port lanes) s = .next s) ∧
      (x.st = .training → lanes.toNat.testBit 0 = true → availLane s (8 * p) = true → ∃ t, exec (.portTrainingDone port lanes) s = .next t ∧ (t.port p).st = .keying ∧
        (∀ i, i < 8 → ((t.port p).trained.testBit i = true ↔ lanes.toNat.testBit i = true ∧ availLane s (8 * p + i) = true)) ∧ .key p s.chn.id 0 ∈ t.out ∧
        evSet t evCHN 0 = true ∧ (∀ k, k ≠ p → t.port k = s.port k) ∧ SameBut [.chn, .regs, .out, .pci] s t) ∧
      (x.st = .training → lanes.toNat.testBit 0 = false → s.kpr.chainPort ≠ some p → exec (.portTrainingDone port lanes) s = .next s)) ∧
    (∀ k : KeyFrame,
      (x.st = .keying → k.valid = false → ∃ t, exec (.key port k) s = .next t ∧ (t.port p).st = .authFailed ∧ evSet t evCHN 2 = true ∧
        (∀ i, i < 8 → (t.lane (8 * p + i)).up = false) ∧ (keeperTakes s → Logged t s.now 0x50 0xFF (p + k.device.toNat * 256)) ∧
        SameBut [.chn, .regs, .out, .pci, .log, .logSeq, .kpr] s t) ∧
      (x.st = .keying → k.valid = true → k.major = 1 → s.kpr.chainPort ≠ some p → s.chn.reqs = [] → ∃ t, exec (.key port k) s = .next t ∧ (t.port p).st = .up ∧
        (t.port p).peerDev = k.device.toNat ∧ (t.port p).peerPort = k.port.val ∧ (t.port p).serial = k.serial ∧ (t.port p).epoch = 0 ∧
        (∀ i, i < 8 → x.trained.testBit i = true → (t.lane (8 * p + i)).up = true) ∧ SameBut [.chn, .regs, .out, .pci, .ctr] s t) ∧
      (x.st = .up → k.valid = true → x.rekey = 1 → exec (.key port k) s = .next (s.setPort p { x with rekey := 2 })) ∧
      (x.st = .up → k.valid = true → x.rekey = 0 → exec (.key port k) s = .next (keySend (s.setPort p { x with rekey := 2 }) p (x.epoch + 1))) ∧
      (x.st ≠ .keying → x.st ≠ .up → exec (.key port k) s = .next s)) ∧
    (x.st ≠ .dark → s.chn.reqs = [] → (∃ t, exec (.portDisable port true) s = .next t ∧ (t.port p).st = .disabled ∧ bit (regNow t (0x50200 + 0x40 * p)).toNat 0 = true ∧
      (∀ i, i < 8 → (t.lane (8 * p + i)).up = false) ∧ SameBut [.chn, .regs, .out, .pci, .ctr] s t)) ∧
    (x.st = .disabled → availPort s p = true → rpOpen s (p / 2) = true → lifeCycle s ≠ 7 → lifeCycle s ≠ 4 → lifeCycle s ≠ 5 →
      ∃ t, exec (.portDisable port false) s = .next t ∧ (t.port p).st = .training ∧ bit (regNow t (0x50200 + 0x40 * p)).toNat 0 = false) ∧
    (x.st ≠ .dark → x.st ≠ .disabled → rpOpen s (p / 2) = true → availPort s p = true → bit (regNow s (0x50200 + 0x40 * p)).toNat 0 = false → s.chn.reqs = [] →
      lifeCycle s ≠ 7 → lifeCycle s ≠ 4 → lifeCycle s ≠ 5 →
      ∃ t, exec (.retrain port) s = .next t ∧ (t.port p).st = .training ∧ (t.port p).retrain = true ∧ (∀ i, i < 8 → (t.lane (8 * p + i)).up = false)) ∧
    (x.st = .dark ∨ x.st = .disabled → exec (.retrain port) s = .next s) ∧
    (∀ n, x.oldKey = some n → 2 ≤ n → exec (.oldKeyDiscard port) s = .next (s.setPort p { x with oldKey := none })) ∧
    ((∀ n, x.oldKey = some n → n < 2) → exec (.oldKeyDiscard port) s = .next s) ∧
    (∀ (rp : Fin 8) (close : Bool), let y : RingPos := tget {} s.chn.rps rp.val
      (y.dark = false → y.open_ = close → ∃ t, exec (.bypass rp close) s = .next t ∧ tget {} t.chn.rps rp.val = { y with moving := some (!close) } ∧
        regNow t (0x50100 + 0x10 * rp.val) = (if close then 1 else 0) ∧ SameBut [.chn, .regs] s t) ∧
      (y.moving = none → exec (.bypassMoved rp) s = .next s) ∧
      (y.moving = some false → s.chn.reqs = [] → ∃ t, exec (.bypassMoved rp) s = .next t ∧ tget {} t.chn.rps rp.val = { y with open_ := false, moving := none } ∧
        (t.port (2 * rp.val)).st ≠ .up ∧ (t.port (2 * rp.val + 1)).st ≠ .up ∧ evSet t evCHN 9 = true))

/-- Lanes. LINK_ACK takes the frames up to its LSEQ off the retry buffer; LINK_NAK sends the frames from its LSEQ again, in order, each under a new frame counter,
and the eighth in a row takes the lane down; LANE_DOWN and LANE_UP take a lane down and up again. Past 2^31 frames a REKEY is armed two Flashes on, and near the
end of the counter the lane holds its traffic (R373, R382, R383). Timers and leases. A request without an answer is sent again with RESEND up to three times and
then ends with PEER_UNREACHABLE, reason 4; idle records and numberings begin anew; a route without a HELLO for three periods goes. LEASE takes a later
generation with a later expiry, renews the same one, and releases with 0; anything else sets its event; an expired lease is EXPIRED; requests of an older
generation end with MOORING_ORPHAN once the grace is over. The device ID is written only while every mooring is FREE (R377, R385, R390 to R392, R401). -/
def Obligations.LanesAndTimers : Prop :=
  (∀ (s : State) (lane : Fin 128) (lseq : BitVec 16), let l := lane.val
     let x := s.lane l
     ((∀ u ∈ x.unacked, u.1 ≠ lseq) → exec (.linkAck lane lseq) s = .next s) ∧
     (∀ pre f post, x.unacked = pre ++ (lseq, f) :: post → (∀ u ∈ pre, u.1 ≠ lseq) →
       (exec (.linkAck lane lseq) s = .next (s.setLane l { x with unacked := post, naks := 0 })) ∧
       (x.up = true → x.naks + 1 < 8 → ∃ t, exec (.linkNak lane lseq) s = .next t ∧
         t.lane l = { x with naks := x.naks + 1, fctr := x.fctr + (post.length + 1) } ∧
         t.out = (((lseq, f) :: post).map (fun u => Out.frame l u.2)).reverse ++ s.out ∧
         tget 0 t.ctr (0x51000 + 0x80 * (l / 8) + 80) = tget 0 s.ctr (0x51000 + 0x80 * (l / 8) + 80) + BitVec.ofNat 64 (post.length + 1) ∧
         (∀ k, k ≠ l → t.lane k = s.lane k) ∧ SameBut [.chn, .ctr, .out] s t)) ∧
     (x.up = false → exec (.linkNak lane lseq) s = .next s ∧ exec (.laneDown lane) s = .next s) ∧
     (∀ j, x.up = true → s.chn.reqs = [] → j < 8 → j ≠ l % 8 → (s.lane (8 * (l / 8) + j)).up = true → ∃ t, exec (.laneDown lane) s = .next t ∧
       t.lane l = { x with up := false, naks := 0, dead := x.dead || decide (8 ≤ x.retrains) } ∧ (∀ k, k ≠ l → t.lane k = s.lane k) ∧ SameBut [.chn] s t) ∧
     ((s.port (l / 8)).st = .up → availLane s l = true → x.dead = false → x.up = false → s.chn.reqs = [] → ∃ t, exec (.laneUp lane) s = .next t ∧
       t.lane l = { x with up := true, naks := 0, fctr := x.fctr + x.unacked.length } ∧
       t.out = (x.unacked.map (fun u => Out.frame l u.2)).reverse ++ s.out ∧ SameBut [.chn, .out] s t) ∧
     (x.fctr ≤ 2 ^ 31 → exec (.frameCounterLimit lane) s = .next s) ∧
     (∀ e, 2 ^ 31 < x.fctr → x.fctr < 2 ^ 32 - 2 ^ 20 → x.armed = false → satFree s = some e → s.flash.count.toNat + 2 < 2 ^ 64 → ∃ t, exec (.frameCounterLimit lane) s = .next t ∧
       t.lane l = { x with armed := true } ∧ (t.satEntry e).st = .armed ∧ (t.satEntry e).action = 7 ∧ (t.satEntry e).when_ = s.flash.count + 2 ∧ (t.satEntry e).tick = 0 ∧
       (t.satEntry e).op = BitVec.ofNat 64 (l / 8) ∧ SameBut [.chn, .sat] s t) ∧
     (2 ^ 32 - 2 ^ 20 ≤ x.fctr → x.armed = true → x.held = false → ∃ t, exec (.frameCounterLimit lane) s = .next t ∧ t.lane l = { x with held := true } ∧
       evSet t evCHN 10 = true ∧ SameBut [.chn, .regs, .out, .pci] s t)) ∧
  (∀ (s : State),
     (∀ id r, s.chn.reqs.find? (fun r => r.id == id && r.sent && r.type != 0x14) = some r →
       (r.edges < respTimeout s → exec (.respTimeout id) s = .next s) ∧
       (respTimeout s ≤ r.edges → r.resends < 3 → exec (.respTimeout id) s =
         .next (chGo (setReq s { r with sent := false, resend := true, resends := r.resends + 1 }) r.who)) ∧
       (respTimeout s ≤ r.edges → 3 ≤ r.resends → exec (.respTimeout id) s = .next (chGo (reqFail s r (unreachable r.dst 4 r.mooring)) r.who))) ∧
     (∀ (src : BitVec 20) (stream : BitVec 16), let k := stream.toNat * 2 ^ 20 + src.toNat
       (64 ≤ (s.seqIn k).idle → (s.seqIn k).held = [] → ∃ t, exec (.seqRecordExpiry src stream) s = .next t ∧ t.seqIn k = {} ∧
         (∀ j, j ≠ k → t.seqIn j = s.seqIn j) ∧ SameBut [.chn] s t) ∧
       ((s.seqIn k).idle < 64 ∨ (s.seqIn k).held ≠ [] → exec (.seqRecordExpiry src stream) s = .next s)) ∧
     (∀ (stream : BitVec 16) (dst : BitVec 20), let k := stream.toNat * 2 ^ 20 + dst.toNat
       (32 ≤ (tget {} s.chn.nums k : SeqNum).idle → s.chn.reqs = [] → ∃ t, exec (.streamSeqRestart stream dst) s = .next t ∧ (tget {} t.chn.nums k : SeqNum) = {} ∧
         (∀ j, j ≠ k → (tget {} t.chn.nums j : SeqNum) = tget {} s.chn.nums j) ∧ SameBut [.chn] s t) ∧
       ((tget {} s.chn.nums k : SeqNum).idle < 32 → exec (.streamSeqRestart stream dst) s = .next s)) ∧
     (∀ (port : Fin 16) (dev : BitVec 20), let e : Nat × Nat := tget (0, 0) s.chn.routes (port.val * 2 ^ 20 + dev.toNat)
       (e.1 ≠ 0 → 192 ≤ e.2 → s.chn.reqs = [] → ∃ t, exec (.routeEntryExpiry port dev) s = .next t ∧ hopsTo t port.val dev.toNat = none ∧ evSet t evCHN 1 = true ∧
         SameBut [.chn, .regs, .out, .pci] s t) ∧
       (e.1 = 0 ∨ e.2 < 192 → exec (.routeEntryExpiry port dev) s = .next s)) ∧
     (∀ (mooring : Fin 1024) (v : Word), let m := mooring.val
       let x := s.moor m
       let gen : BitVec 32 := (v >>> 32).setWidth 32
       let exp : BitVec 32 := v.setWidth 32
       (moorSector s m = none → exec (.lease mooring v) s = .next (raise s evCHN 6)) ∧
       (moorSector s m ≠ none → s.chn.reqs = [] →
         (x.cur.gen.toNat < gen.toNat → laterFlash s exp = true → ∃ t, exec (.lease mooring v) s = .next t ∧
           t.moor m = { st := .leased, cur := ⟨gen, x.stCtl, x.stAux⟩, expiry := exp, stCtl := x.stCtl, stAux := x.stAux, graceEnd := x.graceEnd } ∧
           (∀ k, k ≠ m → t.moor k = s.moor k) ∧ SameBut [.chn] s t) ∧
         (gen = 0 → ∃ t, exec (.lease mooring v) s = .next t ∧ (t.moor m).st = .free ∧ (t.moor m).prev = none ∧ SameBut [.chn] s t) ∧
         (gen ≠ 0 → gen = x.cur.gen → laterFlash s exp = true → x.st ≠ .free →
           exec (.lease mooring v) s = .next (s.setMoor m { x with st := .leased, expiry := exp })) ∧
         (gen ≠ 0 → (gen.toNat < x.cur.gen.toNat ∨ laterFlash s exp = false) → exec (.lease mooring v) s = .next (raise s evCHN 6))) ∧
       (x.st = .leased → laterFlash s x.expiry = false → ∃ t, exec (.leaseExpiry mooring) s = .next t ∧ t.moor m = { x with st := .expired } ∧
         (∀ k, k ≠ m → t.moor k = s.moor k) ∧ evSet t evCHN 7 = true ∧ SameBut [.chn, .regs, .out, .pci] s t) ∧
       (x.st ≠ .leased ∨ laterFlash s x.expiry = true → exec (.leaseExpiry mooring) s = .next s) ∧
       (∀ l, x.prev = some l → laterFlash s x.graceEnd = false → x.st ≠ .expired → s.chn.reqs = [] → ∃ t, exec (.leaseGraceEnd mooring) s = .next t ∧
         t.moor m = { x with prev := none } ∧ SameBut [.chn] s t) ∧
       (∀ r k, x.prev = none → x.st = .expired → laterFlash s (x.expiry + 8) = false → s.chn.reqs = [r] → r.mooring = m → r.lease = x.cur → r.who = .release k →
         ∃ t, exec (.leaseGraceEnd mooring) s = .next t ∧ t.chn.reqs = [] ∧ evSet t evCHN 8 = true)) ∧
     (∀ id : BitVec 20,
       ((∃ q ∈ s.chn.moors, q.2.st ≠ .free) → exec (.deviceId id) s = .next { s with chn := { s.chn with refused := true } }) ∧
       ((∀ q ∈ s.chn.moors, q.2.st = .free) → ∃ t, exec (.deviceId id) s = .next t ∧ t.chn.id = id ∧ SameBut [.chn, .ctr, .out] s t)))

/-! ### The Tender (R402 to R426) -/

/-- TENDER_GRANT takes the head of an account's queue where the account covers it: a Sector's credit falls by what the request asks for, at most four Flashes of
budget, grant counter 7 rises, and what waited goes on; the reserve's account charges no Sector. Otherwise nothing happens (R407, R413). GRANT_TIMEOUT of a
request that has waited its Flashes sets TND_EVENTS.GRANT_TIMEOUT: the command of a tile instruction ends with GRANT_TIMEOUT, a rebind batch or a fill is asked
for again at the end of its queue and counted. One that has waited less is left (R414). -/
def Obligations.Grants : Prop :=
  (∀ (s : State) (a : Fin 17),
     (tndQueue s a.val = [] → exec (.tenderGrant a) s = .next s) ∧
     (∀ g r, tndQueue s a.val = g :: r →
       (mayGrant s a.val g = false → exec (.tenderGrant a) s = .next s) ∧
       (mayGrant s a.val g = true → ∃ s1, exec (.tenderGrant a) s = .next (waiterGranted s1 g.who) ∧ tndQueue s1 a.val = r ∧
         (∀ b, b ≠ a.val → tndQueue s1 b = tndQueue s b) ∧
         (a.val ≠ 16 → (s1.tndSec a.val).credit = (s.tndSec a.val).credit - (askedOf s a.val g : Int) ∧ 0 ≤ (s1.tndSec a.val).credit ∧
           tget 0 s1.ctr (0x61080 + 0x100 * a.val + 56) = tget 0 s.ctr (0x61080 + 0x100 * a.val + 56) + (if g.cls = 6 then BitVec.ofNat 64 g.est + 1 else 1)) ∧
         (∀ n, n ≠ a.val → s1.tndSec n = s.tndSec n) ∧ SameBut [.tnd, .ctr] s s1)) ∧
     (∀ r, waiterGranted s (.fill r) = s.setRes r { s.resAt r with leave := 2 })) ∧
  (∀ (s : State) (a : Fin 17) (i : Nat),
     ((tndQueue s a.val)[i]? = none → exec (.grantTimeout a i) s = .next s) ∧
     (∀ g, (tndQueue s a.val)[i]? = some g →
       (g.edges < Sys2Proof.Machine.grantTimeout s → exec (.grantTimeout a i) s = .next s) ∧
       (Sys2Proof.Machine.grantTimeout s ≤ g.edges →
         (∀ c n, g.who = .tile c n → ∃ s1, exec (.grantTimeout a i) s = .next (waiterFail s1 g.who (s.core c).group ⟨stGRANT, 0⟩) ∧
           tndQueue s1 a.val = removeAt (tndQueue s a.val) i ∧ evSet s1 evTND 7 = true ∧ SameBut [.tnd, .regs, .out, .pci, .ctr] s s1) ∧
         (∀ n, g.who = .rebind n ∨ g.who = .fill n → ∃ t, exec (.grantTimeout a i) s = .next t ∧
           tndQueue t a.val = removeAt (tndQueue s a.val) i ++ [{ g with edges := 0 }] ∧ t.rb = { s.rb with timeouts := satAdd 16 s.rb.timeouts 1 } ∧
           evSet t evTND 7 = true ∧ SameBut [.tnd, .rb, .regs, .out, .pci, .ctr] s t))))

/-- The reserve, ramps and armed power steps. RESERVE_AUTO_UPDATE sets the reserve to the 99th percentile plus 10 W within 100 to 1,000 W; RAMP_DEADLINE judges a
step once, and sets the event that says whether the average of ten Flashes tracks the target; TND_SCHED_GO arms the lowest EMPTY entry of 224 to 255 for a
POWER_STEP at TND_SCHED_FLASH, or sets TND_EVENTS.SAT_FULL; TND_SCHED_CANCEL cancels it (R406, R418, R419). Boost windows. BOOST_OPEN under R420's conditions
opens the window, and otherwise is refused with its event; it closes when the host says so, at its end, or when a die's boost time is spent, with payback begun
and every point at most 5; PAYBACK_END allows the next one; a spent die allows none again. AGEING_READ never lowers a trim, and takes only multiples of 5 mV up
to 40 (R420 to R422). -/
def Obligations.PowerSteps : Prop :=
  (∀ (s : State),
     (∀ p, bit (tndCtl s) 0 = true → 1024 ≤ s.tnd.edges1024 → ∃ t, exec (.reserveAutoUpdate p) s = .next t ∧
       regNow t 0x60008 = BitVec.ofNat 64 (min 1000 (max 100 (p + 10))) ∧ t.tnd = { s.tnd with edges1024 := 0 } ∧ SameBut [.regs, .tnd] s t) ∧
     (∀ p, bit (tndCtl s) 0 = false ∨ s.tnd.edges1024 < 1024 → exec (.reserveAutoUpdate p) s = .next s) ∧
     (s.tnd.judged = true ∨ s.flash.count.toNat < s.tnd.deadline.toNat → exec .rampDeadline s = .next s) ∧
     (s.tnd.judged = false → s.tnd.deadline.toNat ≤ s.flash.count.toNat → let avg := mean s.tnd.avg
       ∃ t, exec .rampDeadline s = .next t ∧ t.tnd = { s.tnd with judged := true } ∧
         evSet t evTND (if avg ≤ s.tnd.target + tolerance s ∧ s.tnd.target ≤ avg + tolerance s then 4 else 5) = true ∧ SameBut [.tnd, .regs, .out, .pci] s t) ∧
     (∀ (v : Word) (e : Nat), satFree s = some e → satOperandOk 2 (bits v.toNat 23 0) = true → s.flash.count.toNat < (regNow s 0x60020).toNat →
       ∃ t, exec (.tndSchedGo v) s = .next t ∧ (t.satEntry e).st = .armed ∧ (t.satEntry e).action = 2 ∧ (t.satEntry e).when_ = regNow s 0x60020 ∧ (t.satEntry e).tick = 0 ∧
         (t.satEntry e).op = BitVec.ofNat 64 (bits v.toNat 23 0) ∧ (t.satEntry e).fleet = bit v.toNat 32 ∧ t.tnd.schedEntry = e ∧ (∀ d, d ≠ e → t.satEntry d = s.satEntry d) ∧
         SameBut [.sat, .regs, .tnd] s t) ∧
     (∀ v : Word, satFree s = none → ∃ t, exec (.tndSchedGo v) s = .next t ∧ t.tnd.schedEntry = 0 ∧ evSet t evTND 8 = true ∧ SameBut [.regs, .out, .pci, .tnd] s t) ∧
     (s.tnd.schedEntry = 0 → exec .tndSchedCancel s = .next s) ∧
     (s.tnd.schedEntry ≠ 0 → (s.satEntry s.tnd.schedEntry).st = .armed → (s.satEntry s.tnd.schedEntry).irq = false → ∃ t, exec .tndSchedCancel s = .next t ∧
       (t.satEntry s.tnd.schedEntry).st = .cancelled ∧ (∀ d, d ≠ s.tnd.schedEntry → t.satEntry d = s.satEntry d) ∧ SameBut [.sat] s t)) ∧
  (∀ (s : State),
     (∀ v, boostAllowed s = true → ∃ t, exec (.boostOpen v) s = .next t ∧ t.tnd = { s.tnd with boost := 1, above := 0 } ∧ evSet t evTND 1 = true ∧
       bit (regNow t 0x60030).toNat 0 = true ∧ bits (regNow t 0x60030).toNat 15 8 = bits v.toNat 15 8 ∧ SameBut [.tnd, .regs, .out, .pci, .ctr] s t) ∧
     (∀ v, boostAllowed s = false → ∃ t, exec (.boostOpen v) s = .next t ∧ evSet t evTND 2 = true ∧ SameBut [.regs, .out, .pci] s t) ∧
     (∀ i, i = Instr.boostClose ∨ i = Instr.boostWindowEnd →
       (s.tnd.boost = 1 → ∃ t, exec i s = .next t ∧ t.tnd.boost = 2 ∧ evSet t evTND 3 = true ∧ (∀ p ∈ t.tnd.secs, ∀ o ∈ p.2.op, o ≤ 5) ∧
         bit (tget (BitVec.ofNat 64 (150 * 256)) t.regs 0x60030).toNat 0 = false ∧ SameBut [.tnd, .regs, .out, .pci] s t) ∧
       (s.tnd.boost ≠ 1 → exec i s = .next s)) ∧
     (s.tnd.boost = 2 → exec .paybackEnd s = .next { s with tnd := { s.tnd with boost := 0, above := 0 } }) ∧ (s.tnd.boost ≠ 2 → exec .paybackEnd s = .next s) ∧
     (∀ d : Fin 4, (s.tnd.wearSpent = true ∨ tget 0 s.tnd.used d.val < wearBudget → exec (.wearSpent d) s = .next s) ∧
       (s.tnd.wearSpent = false → wearBudget ≤ tget 0 s.tnd.used d.val → ∃ t, exec (.wearSpent d) s = .next t ∧ t.tnd.wearSpent = true ∧ t.tnd.boost ≠ 1 ∧ evSet t evTND 6 = true ∧
         boostAllowed t = false ∧ SameBut [.tnd, .regs, .out, .pci] s t)) ∧
     (∀ trims, ∃ t, exec (.ageingRead trims) s = .next t ∧ SameBut [.tnd] s t ∧ ∀ d, d < 4 → tget 0 t.tnd.trim d =
       (let v := trims.getD d 0; if v % 5 = 0 ∧ v ≤ 40 then max v (tget 0 s.tnd.trim d) else tget 0 s.tnd.trim d)))

/-- Limits at the peak. A droop halves a die's clock until it has recovered; an over-current applies E1 with its cause at once and closes a boost window; a level
whose cause stays rises to E3 at most, and one whose cause has been absent for 4 Flashes falls by one. Each change of level sets TND_EVENTS.EMERGENCY (R421,
R423, R424). SENSOR_SAMPLE: the readings are the monitors' last. A site out of range, or apart from every other of its die or stack, is marked invalid, its
register reads 0xFF, and it is logged with its event; a valid one shows its degrees. With no Keeper running the hub's limits still act: a valid junction at 115
°C sets THERM_TRIP_N, stops the running cores and is logged as fatal (R403, R423, R478). -/
def Obligations.PeakLimits : Prop :=
  (∀ (s : State), let e := s.tnd.emerg
     (∀ d : Fin 4,
       (d.val ∉ s.tnd.droop → ∃ t, exec (.vddDroop d) s = .next t ∧ t.tnd = { s.tnd with droop := s.tnd.droop ++ [d.val] } ∧ evSet t evTND 9 = true ∧
         tget 0 t.ctr 0x60418 = tget 0 s.ctr 0x60418 + 1 ∧ SameBut [.tnd, .ctr, .regs, .out, .pci] s t) ∧
       (d.val ∈ s.tnd.droop → exec (.vddDroop d) s = .next s) ∧
       (∃ t, exec (.droopRecovery d) s = .next t ∧ (∀ x, x ∈ t.tnd.droop ↔ x ∈ s.tnd.droop ∧ x ≠ d.val) ∧ t.tnd = { s.tnd with droop := t.tnd.droop } ∧ SameBut [.tnd] s t)) ∧
     (∀ i c, (i = .inputOvercurrent ∧ c = 2) ∨ (∃ r : Fin 8, i = .railOvercurrent r ∧ c = if r.val = 0 then 2 else 1) → ∃ t, exec i s = .next t ∧
       t.tnd.emerg.level = max 1 e.level ∧ t.tnd.emerg.cause = e.cause ||| c ∧ t.tnd.emerg.clear = 0 ∧ t.tnd.boost ≠ 1 ∧ (e.level = 0 → evSet t evTND 0 = true) ∧
       (e.level = 0 → keeperTakes s → Logged t s.now 0x34 0xFF (1 + (e.cause ||| c) * 16)) ∧ SameBut [.tnd, .regs, .out, .pci, .log, .logSeq, .kpr] s t) ∧
     (1 ≤ e.level → e.level ≤ 2 → e.clear = 0 → ∃ t, exec .emergencyEscalate s = .next t ∧ t.tnd.emerg.level = e.level + 1 ∧ t.tnd.emerg.cause = e.cause ∧ evSet t evTND 0 = true ∧
       SameBut [.tnd, .regs, .out, .pci, .log, .logSeq, .kpr] s t) ∧
     (e.level = 0 ∨ 3 ≤ e.level ∨ e.clear ≠ 0 → exec .emergencyEscalate s = .next s) ∧
     (1 ≤ e.level → 4 ≤ e.clear → ∃ t, exec .emergencyRelease s = .next t ∧ t.tnd.emerg.level = e.level - 1 ∧ (e.level = 1 → t.tnd.emerg.cause = 0) ∧ evSet t evTND 0 = true ∧
       SameBut [.tnd, .regs, .out, .pci, .log, .logSeq, .kpr] s t) ∧
     (e.level = 0 ∨ e.clear < 4 → exec .emergencyRelease s = .next s)) ∧
  (∀ (s : State) (r : Readings),
     (∃ t, exec (.sensorSample r) s = .next t ∧ t.tnd.last = some r ∧ SameBut [.tnd, .kpr, .regs, .out, .pci, .log, .logSeq, .pins, .cores] s t) ∧
     (s.kpr.runs = false → (∀ i, i < r.sites.length → r.sites.getD i 0 < 380) → exec (.sensorSample r) s = .next { s with tnd := { s.tnd with last := some r } }) ∧
     (∀ i, s.kpr.runs = false → i < r.sites.length → i ∉ s.kpr.invalid → 460 ≤ r.sites.getD i 0 → ∃ t, exec (.sensorSample r) s = .next t ∧ t.pins.thermTrip = true ∧
       t.tnd.emerg.level ≠ 0 ∧ t.tnd.boost ≠ 1 ∧ (s.pins.thermTrip = false → ∀ p ∈ t.cores, p.2.run ≠ .running ∧ p.2.run ≠ .waiting)) ∧
     (∀ i, i < 160 → i ∉ s.kpr.invalid →
       let off := 0x70100 + 8 * (i / 8)
       let lo := 8 * (i % 8)
       let t := siteSample r.sites s i
       (siteFails r.sites i = true → i ∈ t.kpr.invalid ∧ bits (regNow t off).toNat (lo + 7) lo = 0xFF ∧ evSet t evKPR 2 = true ∧ (keeperTakes s → Logged t s.now 0x31 0xFF i)) ∧
       (siteFails r.sites i = false → t.kpr.invalid = s.kpr.invalid ∧ bits (regNow t off).toNat (lo + 7) lo = degrees (r.sites.getD i 0) ∧
         (warnLevel s < r.sites.getD i 0 → evSet t evKPR 1 = true ∧ i ∈ t.kpr.warned))))

/-! ### Freezes (R459 to R471) -/

/-- The ends of a freeze and of a restore. SECTOR_FROZEN, once nothing of the Sector's work is left, makes it FROZEN with its image being written; FREEZE_DEADLINE
has a Sector that is not frozen in time run again with FZ_BUSY; IMAGE_WRITE_DONE leaves the image COMPLETE, or FAILED with FZ_AREA or FZ_SIZE, and logs it;
RESTORE_DONE of an image that passes every check leaves it RESTORED with its rings as saved, and one that does not leaves the Sector empty with the first
check's code; both run at the next edge (R461 to R469). -/
def Obligations.FreezeEnds : Prop :=
  ∀ (s : State) (sector : Fin 16), let n := sector.val
    let f := s.frzAt n
    let base := smKey n (f.first * 2 ^ 26)
    let writes : List Part := [.sm, .smChk, .mem, .free, .ctr, .regs, .out, .pci, .log, .logSeq, .kpr]
    (f.st ≠ .quiescing ∨ quiesces s n = true → exec (.sectorFrozen sector) s = .next s) ∧
    (f.st = .quiescing → quiesces s n = false → ∃ t, exec (.sectorFrozen sector) s = .next t ∧
      t.frzAt n = { f with st := .frozen, frozenAt := s.now, writing := true, image := 0, error := 0 } ∧ (∀ m, m ≠ n → t.frzAt m = s.frzAt m) ∧
      ((extentSet (s.sector n) f.first).isSome = true → ∀ i, i < 8 → cget t.sm (base + i) = (leBytes 8 0x47414D495A46584F).getD i 0) ∧
      SameBut ([.frz, .rings, .seqs] ++ writes) s t) ∧
    (f.st = .quiescing → f.edges = 0 → ∃ t, exec (.freezeDeadline sector) s = .next t ∧ t.frzAt n = { f with st := .running, image := 2, error := 1 } ∧
      (∀ m, m ≠ n → t.frzAt m = s.frzAt m) ∧ SameBut ([.frz] ++ writes) s t) ∧
    (f.st ≠ .quiescing ∨ f.edges ≠ 0 → exec (.freezeDeadline sector) s = .next s) ∧
    (f.st ≠ .frozen ∨ f.writing = false → exec (.imageWriteDone sector) s = .next s) ∧
    (f.st = .frozen → f.writing = true → ∃ t, exec (.imageWriteDone sector) s = .next t ∧
      (let err := if areaOk s n f.first f.extents = false then 3 else if f.extents * 2 ^ 26 < (imageParts (saveMeta s n) n).1 then 2 else 0
       t.frzAt n = { f with writing := false, image := if err = 0 then 1 else 2, error := err } ∧
       (s.smChk = [] → keeperTakes s → Logged t s.now 0x70 n (err + if err = 0 then 256 else 0))) ∧ SameBut ([.frz] ++ writes) s t) ∧
    (∀ host, f.st ≠ .restoring ∨ f.restored = true → exec (.restoreDone sector host) s = .next s) ∧
    (∀ host, f.st = .restoring → f.restored = false →
      let len := leNat (cread s.sm (smKey n (f.first * 2 ^ 26 + 16)) 8)
      let im := cread s.sm base len
      let fits := len ≤ 2 ^ 39 - f.first * 2 ^ 26 ∧ unmappedExtent s n (f.first * 2 ^ 26) (max 1 len) = none
      (¬ fits → ∃ t, exec (.restoreDone sector host) s = .next t ∧ t.frzAt n = { f with image := 5, error := 6, restored := true } ∧ SameBut ([.frz] ++ writes) s t) ∧
      (fits → imageOk s n f.first f.image im = true → shapeOk s n im host = false → ∃ t, exec (.restoreDone sector host) s = .next t ∧
        t.frzAt n = { f with image := 5, error := 7, restored := true } ∧ SameBut ([.frz] ++ writes) s t) ∧
      (fits → imageOk s n f.first f.image im = true → shapeOk s n im host = true → numbersOk s im = true → ∃ t, exec (.restoreDone sector host) s = .next t ∧
        t.frzAt n = { f with image := 4, error := 0, restored := true } ∧
        (∀ b, imgRecs im 3 = [b] → imgRecs im 5 = [] → (fieldAt im (4096 + 80) 8).testBit 63 = false → let q := t.ring (fieldAt b 0 2)
          q.st = (if fieldAt b 26 1 = 0 then .enabled else .stopped) ∧ q.kind = fieldAt b 2 1 ∧ q.sector = n ∧ q.ctx = fieldAt b 4 2 ∧ q.sqBase = fieldAt b 8 8 ∧
          q.cqBase = fieldAt b 16 8 ∧ q.head = BitVec.ofNat 32 (fieldAt b 28 4) ∧ q.tail = BitVec.ofNat 32 (fieldAt b 32 4) ∧ q.cmds = [])))

/-! ### Daymark (R428 to R454) -/

/-- Daymark runs a mailbox request of an opcode, with its body. -/
def DaymarkRuns (s : State) (req : Option (List Byte)) (op : Nat) (body : List Byte) : Prop :=
  s.dmk.running = true ∧ lifeCycle s ≠ 7 ∧ s.dmk.busy = false ∧
  ∃ b, req = some b ∧ fieldAt b 0 1 = op ∧ mboxBody b (bits (regNow s 0x80008).toNat 11 0) = some body

/-- The life cycle. LC_TRANSITION is locked out after eight wrong tokens; a wrong token counts and is logged with its event; a right one, with no Sector there and
power within its limits, starts programming, and otherwise ends with the code of the first check that fails, in the order that the model takes
(notes/assumptions/81). FUSE_PROGRAMMING_DONE leaves three copies of the new state, with the keys that RETURNED and SCRAPPED kill gone. LC_SET_DIGESTS sets each
digest once, in INTEGRATOR (R437, R439, R440). Debug certificates. DEBUG_CERT that passes every check spends one bit of the counter, opens its rights, logs them
with its event and answers them; SCAN resets the module and stays granted; the first check that fails gives its code and changes no fuse. DEBUG_REVOKE closes
every right but SCAN, the model's reading of R444 (R442 to R444; notes/assumptions/82). -/
def Obligations.LifeCycleAndDebug : Prop :=
  (∀ (s : State) (req : Option (List Byte)) (vin vsb : Nat) (b : List Byte), let f := s.dmk.fuses
     (DaymarkRuns s req 2 b → b.length = 36 → zeroAt b 1 3 = true → let target := fieldAt b 0 1
       let ends (res : Nat) : Prop := exec (.lcTransition req vin vsb) s = .next (dmkFinish s res [])
       (8 ≤ s.dmk.fails → ends mLOCKOUT) ∧
       (s.dmk.fails < 8 →
         (tokenDigest s target = none ∨ tokenDigest s target = some none → ends mSTATE) ∧
         (∀ d, tokenDigest s target = some (some d) →
           (sha384 (sub b 4 32) ≠ d → ∃ s1, exec (.lcTransition req vin vsb) s = .next (dmkFinish s1 mTOKEN []) ∧ s1.dmk = { s.dmk with fails := satAdd 8 s.dmk.fails 1 } ∧
             evSet s1 evDMK 3 = true ∧ (keeperTakes s → Logged s1 s.now 0x61 0xFF (target + satAdd 8 s.dmk.fails 1 * 256)) ∧
             SameBut [.dmk, .regs, .out, .pci, .log, .logSeq, .kpr] s s1) ∧
           (sha384 (sub b 4 32) = d → anySector s = true → ends mSECTORS) ∧
           (sha384 (sub b 4 32) = d → anySector s = false → (vin < 440 ∨ 600 < vin ∨ vsb < 3200) → ends mPOWER) ∧
           (sha384 (sub b 4 32) = d → anySector s = false → 440 ≤ vin → vin ≤ 600 → 3200 ≤ vsb →
             exec (.lcTransition req vin vsb) s = .next { s with dmk := { s.dmk with prog := some target, busy := true } })))) ∧
     (s.dmk.prog = none → exec .fuseProgrammingDone s = .next s) ∧
     (∀ tg, s.dmk.prog = some tg → ∃ t, exec .fuseProgrammingDone s = .next t ∧ t.dmk.fuses.copies = [some tg, some tg, some tg] ∧ t.dmk.prog = none ∧
       t.dmk.fuses.counter = f.counter ∧ (tg = 4 ∨ tg = 5 → t.dmk.compKey = none ∧ 1 ∈ t.dmk.fuses.killed ∧ 2 ∈ t.dmk.fuses.killed) ∧
       (tg = 5 → 3 ∈ t.dmk.fuses.killed) ∧ (tg ≠ 4 → tg ≠ 5 → t.dmk.fuses.killed = f.killed ∧ t.dmk.compKey = s.dmk.compKey)) ∧
     (DaymarkRuns s req 3 b → b.length = 96 → let a := sub b 0 48
       let c := sub b 48 48
       let za := a.all (· == 0) = true
       let zc := c.all (· == 0) = true
       (lifeCycle s ≠ 2 → exec (.lcSetDigests req vin vsb) s = .next (dmkFinish s mSTATE [])) ∧
       (lifeCycle s = 2 → ((¬ za ∧ f.fieldDigest ≠ none) ∨ (¬ zc ∧ f.scrapDigest ≠ none)) → exec (.lcSetDigests req vin vsb) s = .next (dmkFinish s mSET [])) ∧
       (lifeCycle s = 2 → (za ∨ f.fieldDigest = none) → (zc ∨ f.scrapDigest = none) → ∃ s1, exec (.lcSetDigests req vin vsb) s = .next (dmkFinish s1 mOK []) ∧
         (¬ za → s1.dmk.fuses.fieldDigest = some a) ∧ (za → s1.dmk.fuses.fieldDigest = f.fieldDigest) ∧ (¬ zc → s1.dmk.fuses.scrapDigest = some c) ∧
         (zc → s1.dmk.fuses.scrapDigest = f.scrapDigest) ∧ SameBut [.dmk] s s1))) ∧
  (∀ (s : State) (req : Option (List Byte)) (vin vsb : Nat) (b : List Byte), let f := s.dmk.fuses
     let rights := fieldAt b 24 8
     let signed := ecdsaOk (f.dbgKeys.getD (fieldAt b 10 2) (0, 0)) (sha384 (b.take 128)) (be48 b 128) (be48 b 176) = true
     let binds := fieldAt b 16 8 = f.serial.toNat ∧ fieldAt b 12 4 = f.counter ∧ (fieldAt b 32 1).testBit (lifeCycle s) = true
     let blocked := tenantRights rights = true ∧ anySector s = true
     let ends (res : Nat) : Prop := exec (.debugCert req vin vsb) s = .next (dmkFinish s res [])
     (DaymarkRuns s req 5 b →
       (lifeCycle s = 5 → ends mSTATE) ∧
       (lifeCycle s ≠ 5 → b.length ≠ 224 ∨ certLayout b = false → ends mBAD) ∧
       (lifeCycle s ≠ 5 → b.length = 224 → certLayout b = true →
         (¬ signed → ends mCERT) ∧ (signed → ¬ binds → ends mBINDING) ∧ (signed → binds → 1024 ≤ f.counter → ends mSPENT) ∧
         (signed → binds → f.counter < 1024 → blocked → ends mSECTORS) ∧
         (signed → binds → f.counter < 1024 → ¬ blocked → rights.testBit 3 = false → ∃ s1, exec (.debugCert req vin vsb) s =
           .next (dmkFinish s1 mOK (leBytes 8 s1.dmk.rights.toNat)) ∧
           s1.dmk = { s.dmk with fuses := { f with counter := f.counter + 1 }, rights := s.dmk.rights ||| BitVec.ofNat 64 rights } ∧ evSet s1 evDMK 1 = true ∧
           (keeperTakes s → Logged s1 s.now 0x62 0xFF s1.dmk.rights.toNat) ∧ SameBut [.dmk, .regs, .out, .pci, .log, .logSeq, .kpr] s s1) ∧
         (signed → binds → f.counter < 1024 → ¬ blocked → rights.testBit 3 = true → ∃ t, exec (.debugCert req vin vsb) s = .next t ∧
           t.dmk.fuses = { f with counter := f.counter + 1 } ∧ t.dmk.scan = true ∧ bit t.dmk.rights.toNat 3 = true))) ∧
     (DaymarkRuns s req 6 [] → ∃ s1, exec (.debugRevoke req vin vsb) s = .next (dmkFinish s1 mOK []) ∧
       s1.dmk = { s.dmk with rights := if s.dmk.scan = true then 8 else 0 } ∧
       (s1.dmk.rights ≠ s.dmk.rights → evSet s1 evDMK 1 = true) ∧ SameBut [.dmk, .regs, .out, .pci] s s1))

/-- The end of a mailbox command: its result, SEQ one higher, the status DONE, the event, and the response in the host's buffer from byte 2,048 on. A GO while a
command runs is BUSY, and nothing answers while Daymark does not run or is LOST; a malformed request is BAD_REQUEST (R437, R454). SPDM while Daymark runs: each
request is answered at once and changes nothing else. Only slot 0 holds a chain; CHALLENGE and signed measurements need the device identity key; in SCRAPPED and
LOST only block 6 is measured; an index with no block is an error; the codes of SPDM are PRESUMED (R437, R445 to R447; notes/assumptions/72). -/
def Obligations.DaymarkServices : Prop :=
  (∀ (s : State),
     (∀ res resp, ∃ t, dmkFinish s res resp = t ∧ t.dmk = { s.dmk with seq := s.dmk.seq + 1, result := res, busy := false } ∧ regNow t 0x80010 = 2 ∧ evSet t evDMK 0 = true ∧
       (resp ≠ [] → .hostWrite none ((regNow s 0x80000).toNat / 4096 * 4096 + 2048) resp false ∈ t.out) ∧ SameBut [.dmk, .regs, .out, .pci] s t) ∧
     (∀ req vin vsb, (s.dmk.running = false ∨ lifeCycle s = 7 → exec (.getState req vin vsb) s = .next s) ∧
       (s.dmk.running = true → lifeCycle s ≠ 7 → s.dmk.busy = true → exec (.getState req vin vsb) s = .next { s with dmk := { s.dmk with result := mBUSY } }) ∧
       (s.dmk.running = true → lifeCycle s ≠ 7 → s.dmk.busy = false → exec (.getState none vin vsb) s = .next (dmkFinish s mBAD []))) ∧
     (∀ req vin vsb, DaymarkRuns s req 1 [] → exec (.getState req vin vsb) s =
       .next (dmkFinish s mOK (leBytes 8 (dmkLc s) ++ leBytes 8 s.dmk.rights.toNat))) ∧
     (∀ req vin vsb body, DaymarkRuns s req 4 body →
       ((lifeCycle s = 1 ∨ lifeCycle s = 2) → body.length = 48 → exec (.compkeyEnrol req vin vsb) s =
         .next (dmkFinish (raise { s with dmk := { s.dmk with compKey := some body } } evDMK 2) mOK [])) ∧
       (lifeCycle s = 3 → body.length = 76 → s.dmk.compKey = none → exec (.compkeyEnrol req vin vsb) s = .next (dmkFinish s mKEY [])) ∧
       (∀ k, lifeCycle s = 3 → body.length = 76 → s.dmk.compKey = some k →
         (∀ n, gcmOpen (hkdf384 [] k wrapInfo 32) (sub body 0 12) (sub body 12 48) (sub body 60 16) = some n → exec (.compkeyEnrol req vin vsb) s =
           .next (dmkFinish (raise { s with dmk := { s.dmk with compKey := some n } } evDMK 2) mOK [])) ∧
         (gcmOpen (hkdf384 [] k wrapInfo 32) (sub body 0 12) (sub body 12 48) (sub body 60 16) = none → exec (.compkeyEnrol req vin vsb) s =
           .next (dmkFinish s mKEY []))) ∧
       (4 ≤ lifeCycle s → exec (.compkeyEnrol req vin vsb) s = .next (dmkFinish s mSTATE [])))) ∧
  (∀ (s : State), let ans (i : Instr) (code : Nat) (body : List Byte) (signed : Bool) : Prop := exec i s = .next (s.emit (.spdm code body signed))
     (s.dmk.running = true →
       ans .getVersion 0x84 [0x13] false ∧ ans .getCapabilities 0xE1 [] false ∧ ans .negotiateAlgorithms 0xE3 [] false ∧ ans .getDigests 0x81 (sha384 s.dmk.fuses.chain) false ∧
       (∀ off len, ans (.getCertificate 0 off len) 0x82 ((s.dmk.fuses.chain.drop off).take len) false) ∧
       (∀ slot off len, slot ≠ 0 → ans (.getCertificate slot off len) 0x7F [] false) ∧
       (∀ nonce, 3 ∉ s.dmk.fuses.killed → ans (.challenge 0 nonce) 0x83 (sha384 s.dmk.fuses.chain ++ nonce) true) ∧
       (∀ slot nonce, (slot ≠ 0 ∨ 3 ∈ s.dmk.fuses.killed) → ans (.challenge slot nonce) 0x7F [] false) ∧
       (∀ i b, i ≠ 0xFF → measurement s i = some b → (identityOnly s = false ∨ i = 6) →
         ans (.getMeasurements i none) 0xE0 (leBytes 1 i ++ leBytes 2 b.length ++ b) false ∧
         (∀ nonce, 3 ∉ s.dmk.fuses.killed → ans (.getMeasurements i (some nonce)) 0xE0 (leBytes 1 i ++ leBytes 2 b.length ++ b ++ nonce) true)) ∧
       (∀ i nonce, i ≠ 0xFF → measurement s i = none → ans (.getMeasurements i nonce) 0x7F [] false) ∧
       (∀ i nonce, identityOnly s = true → i ≠ 6 → ans (.getMeasurements i nonce) 0x7F [] false)) ∧
     (s.dmk.running = false → exec .getVersion s = .next s ∧ exec .getDigests s = .next s ∧ ∀ i nonce, exec (.getMeasurements i nonce) s = .next s))

/-! ### Boots, power and the Keeper (R472 to R492, R518 to R522) -/

/-- Nothing of the host's or the Sectors' objects is left, and no tenant byte is held (R504, R519). -/
def Emptied (t : State) : Prop :=
  t.rings = [] ∧ t.ctxs = [] ∧ t.events = [] ∧ t.tables = none ∧ t.cores = [] ∧ t.groups = [] ∧ t.sectors = [] ∧ t.res = [] ∧ t.gens = [] ∧ t.sat = [] ∧
  t.sm = [] ∧ t.ls = [] ∧ t.clm = [] ∧ t.binaries = [] ∧ t.frz = [] ∧ t.chn.reqs = []

/-- The power inputs. STANDBY_BOOT, where standby comes, begins a standby boot: Daymark runs, the straps are read, and the steps of stage 1 run. COLD_BOOT with
RESET_N asserted begins a cold boot where the Keeper runs, everything of the Sectors gone. RESET_N_ASSERT stops the module; VIN that returns begins a cold boot;
POWER_FAIL empties the module, logs a fatal entry and releases the request for a power cycle. A level that is there already changes nothing (R472, R483, R518,
R519). The steps of a boot. A level that ends well is journalled and its effect taken: a Lantern's cores are available as they pass, and a Lantern with none is
not; the last step releases the function, the boot is DONE and is logged. A level that fails or runs past its limit is journalled and logged and the next one
runs; with none left a fatal step ends the boot in BOOT_FAILED. A step that does not run changes nothing (R474, R476, R477). -/
def Obligations.PowerAndBoots : Prop :=
  (∀ (s : State),
     (∀ straps r, (s.pins.vsb = true → exec (.standbyBoot straps r) s = .next s) ∧
       (s.pins.vsb = false → ∃ t, exec (.standbyBoot straps r) s = .next t ∧ t.pins = { s.pins with vsb := true, straps := straps.toNat, resetN := r } ∧ t.dmk.running = true ∧
         t.kpr.boot = { kind := 0, number := s.kpr.boot.number + 1, result := 0, stage := 1, steps := [⟨1, 0, false⟩, ⟨2, 0, false⟩] } ∧ t.kpr.runs = false ∧
         t.dmk.fuses = s.dmk.fuses ∧ Emptied t)) ∧
     (s.pins.resetN = false ∨ s.pins.vsb = false → exec .coldBoot s = .next s) ∧
     (s.pins.resetN = true → s.pins.vsb = true → bootWaits s = false → s.kpr.runs = true → ∃ t, exec .coldBoot s = .next t ∧ t.pins.resetN = false ∧
       t.kpr.boot = { kind := 1, number := s.kpr.boot.number + 1, result := 0, stage := 1, steps := [⟨2, 0, false⟩] } ∧ t.kpr.st = .booting ∧ t.dmk.fuses = s.dmk.fuses ∧ Emptied t) ∧
     (s.pins.resetN = false → s.pins.vsb = true → 380 ≤ s.pins.vin → ∃ t, exec .resetNAssert s = .next t ∧ t.pins = { s.pins with resetN := true } ∧ t.hng.stopped = true ∧
       t.dmk.running = s.dmk.running ∧ t.kpr.runs = s.kpr.runs ∧ t.log = s.log ∧ Emptied t) ∧
     (s.pins.resetN = true ∨ s.pins.vsb = false → exec .resetNAssert s = .next s) ∧
     (∀ v, s.pins.vin < 380 → 400 ≤ v → v ≤ 600 → s.pins.resetN = false → bootWaits s = false → s.kpr.runs = true → ∃ t, exec (.vinApplied v) s = .next t ∧
       t.pins = { s.pins with vin := v } ∧ t.kpr.boot = { kind := 1, number := s.kpr.boot.number + 1, result := 0, stage := 1, steps := [⟨2, 0, false⟩] } ∧ Emptied t) ∧
     (∀ v, 380 ≤ s.pins.vin → bootWaits s = false → exec (.vinApplied v) s = .next { s with pins := { s.pins with vin := v } }) ∧
     (∀ v w st, (380 ≤ v ∨ s.pins.vin < 380) → (3100 ≤ w ∨ s.pins.vsb = false) → exec (.powerFail v w st) s = .next s) ∧
     (∀ v w st, v < 380 → 380 ≤ s.pins.vin → 3100 ≤ w → ∃ t, exec (.powerFail v w st) s = .next t ∧ t.pins = { s.pins with vin := v } ∧ t.hng.pwrReq = false ∧ t.dmk.prog = none ∧
       (keeperTakes s → Logged t s.now 0x32 0xFF (v % 2 ^ 16 + w % 2 ^ 16 * 2 ^ 16)) ∧ t.kpr.runs = s.kpr.runs ∧ Emptied t)) ∧
  (∀ (s : State) (step : Fin 128) (ms : Nat) (detail pass : BitVec 32), let id := step.val
     (runningStep s id = none → (∀ ok, exec (.bootStepEnd step ok ms detail pass) s = .next s) ∧ exec (.bootStepTimeout step ms) s = .next s) ∧
     (∀ x, runningStep s id = some x →
       (dieLevelOk id x.level pass = true → exec (.bootStepEnd step true ms detail pass) s =
         .next (stepDone (journalPut s id x.level 1 ms detail) id x.level ms detail pass)) ∧
       (exec (.bootStepEnd step false ms detail pass) s = .next (stepFailed s id x.level 2 ms detail pass)) ∧
       (id ≠ 1 → exec (.bootStepTimeout step ms) s = .next (stepFailed s id x.level 4 ms 0 0)) ∧ (id = 1 → exec (.bootStepTimeout step ms) s = .next s)) ∧
     (∀ n, n < 16 → id = 0x30 + n → s.kpr.nvmOk = false →
       ((∃ i, i < 12 ∧ pass.toNat.testBit i = true) → availLantern (stepEffect s id 0 detail pass) n = true ∧
         ∀ i, i < 12 → availCore (stepEffect s id 0 detail pass) (12 * n + i) = pass.toNat.testBit i) ∧
       ((∀ i, i < 12 → pass.toNat.testBit i = false) → availLantern (stepEffect s id 0 detail pass) n = false)) ∧
     (s.resets = [] → ∃ t, stepDone s 0x70 0 ms detail pass = t ∧ t.kpr.boot.result = 1 ∧ t.kpr.st = .running ∧ t.hng.stopped = false ∧
       (keeperTakes s → Logged t s.now 0x11 0xFF (s.kpr.boot.number.toNat + s.kpr.boot.kind * 2 ^ 32 + s.kpr.boot.alternates * 2 ^ 40))) ∧
     (∀ l out, id ≠ 1 → l < stepMax id → s.kpr.boot.steps = [⟨id, l, false⟩] → ∃ t, stepFailed s id l out ms detail pass = t ∧
       t.kpr.boot.steps = [⟨id, l + 1, false⟩] ∧ t.kpr.boot.lastFail = id ∧ (stores s = true → tget 0 t.kpr.levels id = l + 1) ∧
       (keeperTakes s → Logged t s.now 0x10 0xFF (id + l * 2 ^ 16 + out * 2 ^ 24 + detail.toNat * 2 ^ 32)) ∧ SameBut [.kpr, .log, .logSeq] s t) ∧
     (∀ out, stepFatal id = true → (stepFailed s id (stepMax id) out ms detail pass).kpr.boot.result = 2 ∧
       (stepFailed s id (stepMax id) out ms detail pass).kpr.st = .failed))

/-- The Keeper's own commands. WEAR_RECORD_WRITE copies the wear into NVM; LOG_FLUSH_DONE puts what was posted before the flush into NVM, with LOG_FLUSHED under the
SEQ it had reserved; the watchdog restarts the Keeper, and the end of a restart has it run on its active slot and report; the sideband's control and console
messages are answered as the Keeper's state and the rights allow; THERM_TRIP_N is released once VIN is gone and the inlet is cool (R479, R483, R488, R490, R491,
R522). -/
def Obligations.KeeperCommands : Prop :=
  ∀ (s : State),
    (s.kpr.runs = true → s.kpr.nvmOk = true → ∃ t, exec .wearRecordWrite s = .next t ∧ t.kpr = { s.kpr with
      wearUsed := s.tnd.used, wearTrim := s.tnd.trim, wearSpent := s.tnd.wearSpent } ∧ SameBut [.kpr] s t) ∧
    (s.kpr.runs = false ∨ s.kpr.nvmOk = false → exec .wearRecordWrite s = .next s) ∧
    (s.kpr.flushing = none → exec .logFlushDone s = .next s) ∧
    (∀ q, s.kpr.flushing = some q → s.pins.vsb = true → s.hng.pwrWait = false → s.kpr.restart = false →
      let old := s.log.filter (fun x => decide ((q - x.seq).toNat < 2 ^ 31) && decide ((x.seq - s.kpr.flushed).toNat < 2 ^ 31))
      ∃ t e, exec .logFlushDone s = .next t ∧ e.seq = q ∧ e.typ = 0x24 ∧ e.arg = BitVec.ofNat 64 s.kpr.flushed.toNat ∧ t.kpr.flushed = q + 1 ∧
        t.kpr.nvmLog = (e :: old ++ s.kpr.nvmLog).take 524288 ∧ t.kpr.wearUsed = s.tnd.used ∧ SameBut [.kpr, .log, .logSeq] s t) ∧
    (s.kpr.runs = false ∨ s.kpr.st = .restarting → exec .keeperWatchdog s = .next s) ∧
    (s.kpr.runs = true → s.kpr.st ≠ .restarting → s.kpr.boot.result ≠ 0 → ∃ t, exec .keeperWatchdog s = .next t ∧
      t.kpr = { s.kpr with st := .restarting, restart := false, cause := 2, busy := false } ∧ SameBut [.kpr] s t) ∧
    (s.kpr.st ≠ .restarting → exec .keeperRestartDone s = .next s) ∧
    (s.kpr.st = .restarting → s.kpr.cause = 2 → s.kpr.runs = true → s.kpr.boot.result = 1 → s.hng.wait = none → s.kpr.lost = 0 → ∃ t, exec .keeperRestartDone s = .next t ∧
      t.kpr.st = .running ∧ t.kpr.slot = (fwOf s 1).active ∧ t.kpr.pldm = .idle ∧ t.kpr.coll = 0 ∧ evSet t evKPR 8 = true ∧ Logged t s.now 0x22 0xFF 2 ∧
      SameBut [.kpr, .log, .logSeq, .regs, .out, .pci] s t) ∧
    (s.kpr.runs = true → s.kpr.st ≠ .restarting → exec .mctpControl s = .next (s.emit (.mctp 0)) ∧
      (s.dmk.rights.toNat.testBit 4 = true → exec .keeperConsole s = .next (s.emit (.mctp 1))) ∧
      (s.dmk.rights.toNat.testBit 4 = false → exec .keeperConsole s = .next (s.emit (.mctp 2)))) ∧
    (s.kpr.runs = true → s.kpr.st = .restarting → exec .mctpControl s = .next s ∧ exec .keeperConsole s = .next s) ∧
    (s.kpr.runs = false → daymarkEndpoint s = true → exec .mctpControl s = .next (s.emit (.mctp 0)) ∧ exec .keeperConsole s = .next (s.emit (.mctp 2))) ∧
    (∀ r, s.tnd.last = some r → s.pins.vin < 380 → r.inlet < 400 → exec .thermTripRelease s = .next { s with pins := { s.pins with thermTrip := false } }) ∧
    (380 ≤ s.pins.vin → exec .thermTripRelease s = .next s)

/-- The Keeper runs a mailbox request of an opcode, with its body. -/
def KeeperRuns (s : State) (via : MboxVia) (req : Option (List Byte)) (op : Nat) (body : List Byte) : Prop :=
  keeperTakes s ∧ ∃ b, req = some b ∧ fieldAt b 0 1 = op ∧
  mboxBody b (match via with | .host => bits (regNow s 0x70008).toNat 11 0 | .sideband => b.length) = some body ∧ (via = .sideband → b.length ≤ 1024)

/-- The Keeper's mailbox: each command answers what it reads, or takes its effect, under its checks; the Logbook is read from a SEQ on, flushed and erased, the
journal read and its levels retried, the sensors read, operating points fixed under TENDER_OVERRIDE, and the firmware versions read. Over the host buffer a
command ends like Daymark's; over the sideband with one message; a restarting Keeper answers the host BUSY (R474, R482, R483, R485, R490, R492). -/
def Obligations.KeeperMailbox : Prop :=
  ∀ (s : State) (via : MboxVia) (req : Option (List Byte)) (b : List Byte),
    let ends (i : Instr) (s1 : State) (res : Nat) (resp : List Byte) : Prop := exec i s = .next (kprFinish s1 via res resp)
    (∀ res resp, kprFinish s .sideband res resp = s.emit (.sideband res resp) ∧ ∃ t, kprFinish s .host res resp = t ∧
      t.kpr = { s.kpr with seq := s.kpr.seq + 1, result := res, busy := false } ∧ regNow t 0x70010 = 2 ∧ evSet t evKPR 0 = true ∧
      (resp ≠ [] → .hostWrite none ((regNow s 0x70000).toNat / 4096 * 4096 + 2048) resp false ∈ t.out) ∧ SameBut [.kpr, .regs, .out, .pci] s t) ∧
    (s.kpr.runs = true → s.kpr.st = .restarting → exec (.fwStatus .host req) s = .next (kprFinish s .host mBUSY []) ∧ exec (.fwStatus .sideband req) s = .next s) ∧
    (KeeperRuns s via req 1 b → b.length = 8 → fieldAt b 6 1 ≤ 1 →
      let most := min (fieldAt b 4 2) (if via = .host then 85 else 42)
      let es := ((if fieldAt b 6 1 = 1 then logFilter (fieldAt b 7 1) false (wholeLog s) else wholeLog s)).filter
        (fun e => decide ((e.seq - BitVec.ofNat 32 (fieldAt b 0 4)).toNat < 2 ^ 31))
      ∃ next, ends (.logRead via req) s mOK (leBytes 2 (es.take most).length ++ [0, 0] ++ leBytes 4 next ++ (es.take most).flatMap logBytes) ∧
        (es.length ≤ most → next = s.logSeq.toNat)) ∧
    (KeeperRuns s via req 2 [] →
      (s.kpr.flushing = none → s.kpr.nvmOk = true → ends (.logFlush via req) { s with kpr := { s.kpr with flushing := some s.logSeq }, logSeq := s.logSeq + 1 } mOK (leBytes 4 s.logSeq.toNat)) ∧
      (∀ q, s.kpr.flushing = some q → ends (.logFlush via req) s mOK (leBytes 4 q.toNat)) ∧
      (s.kpr.flushing = none → s.kpr.nvmOk = false → ends (.logFlush via req) (raise s evKPR 7) mNVM [])) ∧
    (KeeperRuns s via req 3 [] →
      (lifeCycle s ≠ 1 → lifeCycle s ≠ 4 → ends (.logErase via req) s mSTATE []) ∧
      ((lifeCycle s = 1 ∨ lifeCycle s = 4) → s.kpr.nvmOk = true → ends (.logErase via req)
        { s with kpr := { s.kpr with nvmLog := [] }, hng := { s.hng with errs := [], dumps := [] } } mOK [])) ∧
    (KeeperRuns s via req 4 b → b.length = 4 → s.kpr.nvmOk = true → ends (.journalRead via req) s mOK
      ((List.range 128).map (fun i => BitVec.ofNat 8 (tget 0 s.kpr.levels i)) ++
        (((s.kpr.journal.filter (fun r => decide (fieldAt b 0 4 ≤ r.boot.toNat))).reverse).take (if via = .host then 119 else 56)).flatMap journalBytes)) ∧
    (KeeperRuns s via req 5 b → b.length = 17 → fieldAt b 16 1 ≤ 1 → s.kpr.nvmOk = true → ∃ s1, ends (.journalRetry via req) s1 mOK [] ∧
      (∀ i, tget 0 s1.kpr.levels i = if (fieldAt b 0 16).testBit i = true then 0 else tget 0 s.kpr.levels i) ∧
      s1.kpr.quar = (if fieldAt b 16 1 = 1 then [] else s.kpr.quar) ∧ SameBut [.kpr] s s1) ∧
    (KeeperRuns s via req 6 [] → ∃ resp, ends (.sensorRead via req) s mOK resp ∧
      (∀ r i, s.tnd.last = some r → i < 160 → fieldAt resp (2 * i) 2 = ((r.sites.getD i 0) % 65536).toNat)) ∧
    (KeeperRuns s via req 7 b → b.length = 4 → (∀ o ∈ b, o.toNat ≤ 7 ∨ o = 0xFF) →
      (s.dmk.rights.toNat.testBit 7 = false → ends (.opOverride via req) s mDENIED []) ∧
      (s.dmk.rights.toNat.testBit 7 = true → ∃ s1, ends (.opOverride via req) s1 mOK [] ∧ SameBut [.tnd] s s1 ∧
        (∀ d, d < 4 → tget none s1.tnd.override d = if b.getD d 0 = 0xFF then none else some (b.getD d 0).toNat))) ∧
    (KeeperRuns s via req 8 [] → ∃ resp, ends (.fwStatus via req) s mOK resp ∧
      (∀ c, c < 4 → fieldAt resp (16 * c) 4 = (fwOf s (c + 1)).active % 2 ^ 32 ∧ fieldAt resp (16 * c + 4) 4 = imgVersion (fwOf s (c + 1)).a ∧
        fieldAt resp (16 * c + 8) 4 = imgVersion (fwOf s (c + 1)).b ∧ fieldAt resp (16 * c + 12) 4 = tget 0 s.dmk.fuses.svn (c + 1) % 2 ^ 32))

/-- Firmware update over PLDM, in the order of its states: an update is requested, its components named, one begun with its inactive slot emptied, its data appended
there and nowhere else, its transfer ended, verified by Daymark, applied, and activated; a command that the state does not allow answers a code and changes
nothing; cancelling keeps every active slot. The completion codes are PRESUMED (R487, R488; notes/assumptions/71). -/
def Obligations.FirmwareUpdate : Prop :=
  ∀ (s : State), keeperTakes s →
    let f := fwOf s s.kpr.comp
    let ans (i : Instr) (s1 : State) (cmd code : Nat) (body : List Byte) : Prop := exec i s = .next (s1.emit (.pldm cmd code body))
    (∃ body, ans .queryDeviceIdentifiers s 0x01 0 body ∧ body.length = 4 ∧ fieldAt body 2 2 = 0x2400) ∧
    (∃ body, ans .getFirmwareParameters s 0x02 0 body ∧ ∀ c, c < 4 → fieldAt body (10 * c) 2 = c + 1 ∧
      fieldAt body (10 * c + 2) 4 = imgVersion (fwImage s (c + 1))) ∧
    (∃ body, ans .getStatus s 0x1B 0 body ∧ (pldmNow s = .idle → body.getD 0 0 = 0) ∧ (pldmNow s = .download → body.getD 0 0 = 3)) ∧
    (s.kpr.boot.result ≠ 0 → lifeCycle s ≠ 5 → s.dmk.prog = none → pldmNow s = .idle → ans .requestUpdate (setPldm (pldmIdle s) .learn) 0x10 0 []) ∧
    ((s.kpr.boot.result = 0 ∨ lifeCycle s = 5 ∨ s.dmk.prog ≠ none) → ans .requestUpdate s 0x10 plRetry []) ∧
    (∀ cs, pldmNow s = .learn → ans (.passComponentTable cs) { s with kpr := { s.kpr with comps := (cs.map Fin.val).filter (· != 0), pldm := .ready } } 0x13 0 []) ∧
    (∀ cs, pldmNow s ≠ .learn → ans (.passComponentTable cs) s 0x13 (plWrong s) []) ∧
    (∀ c : Fin 5, pldmNow s = .ready → c.val ∈ s.kpr.comps → ∃ s1, ans (.updateComponent c) s1 0x14 0 [0] ∧ s1.kpr.comp = c.val ∧ s1.kpr.pldm = .download ∧
      ((fwOf s c.val).active ≤ 1 → (fwOf s1 c.val).image (1 - (fwOf s c.val).active) = []) ∧
      ((fwOf s c.val).active ≤ 1 → (fwOf s1 c.val).image (fwOf s c.val).active = fwImage s c.val) ∧ (fwOf s1 c.val).active = (fwOf s c.val).active ∧ SameBut [.kpr] s s1) ∧
    (∀ d, s.kpr.pldm = .download → d.length ≤ 4096 → (f.image (1 - f.active)).length + d.length ≤ slotSize s.kpr.comp → ∃ s1, ans (.requestFirmwareData d) s1 0x15 0 [] ∧
      (f.active ≤ 1 → (fwOf s1 s.kpr.comp).image (1 - f.active) = f.image (1 - f.active) ++ d ∧ (fwOf s1 s.kpr.comp).image f.active = f.image f.active) ∧ SameBut [.kpr] s s1) ∧
    (∀ d, s.kpr.pldm = .download → slotSize s.kpr.comp < (f.image (1 - f.active)).length + d.length → ans (.requestFirmwareData d) s 0x15 plBadLength []) ∧
    (s.kpr.pldm = .download → ans .transferComplete (setPldm s .verify) 0x16 0 []) ∧
    (s.kpr.pldm = .verify → imageCheck s s.kpr.comp (f.image (1 - f.active)) = mOK → ans .verifyComplete (setPldm s .apply) 0x17 0 [0]) ∧
    (s.kpr.pldm = .verify → imageCheck s s.kpr.comp (f.image (1 - f.active)) ≠ mOK → ∃ s1, ans .verifyComplete s1 0x17 0 [1] ∧ s1.kpr.pldm = .ready ∧ evSet s1 evKPR 5 = true ∧
      s1.kpr.accepted = s.kpr.accepted ∧ s1.kpr.fw = s.kpr.fw) ∧
    (s.kpr.pldm = .apply → ans .applyComplete { s with kpr := { s.kpr with pldm := .ready, accepted := s.kpr.accepted ++ [s.kpr.comp] } } 0x18 0 []) ∧
    (pldmNow s = .ready → s.kpr.accepted = [1] → s.kpr.flushing ≠ none → ∃ s1, ans .activateFirmware s1 0x1A 0 [] ∧ s1.kpr.pldm = .activate ∧ s1.kpr.restart = true ∧
      (fwOf s1 1).active = 1 - (fwOf s 1).active ∧ SameBut [.kpr] s s1) ∧
    (pldmNow s = .ready → s.kpr.accepted = [1] → s.kpr.flushing = none → s.dmk.prog = none → ∃ t, exec .activateFirmware s = .next t ∧ t.kpr.st = .restarting ∧ t.kpr.cause = 1 ∧
      (fwOf t 1).active = 1 - (fwOf s 1).active) ∧
    ((s.kpr.pldm = .verify ∨ s.kpr.pldm = .apply) → ans .cancelUpdateComponent (setPldm s .ready) 0x1C 0 []) ∧
    ((s.kpr.pldm = .verify ∨ s.kpr.pldm = .apply ∨ s.kpr.pldm = .ready ∨ s.kpr.pldm = .learn) → ans .cancelUpdate (pldmIdle s) 0x1D 0 []) ∧
    (s.kpr.pldm = .idle → ans .cancelUpdate s 0x1D plNotInUpdate [] ∧ ans .transferComplete s 0x16 plNotInUpdate [] ∧ ans .verifyComplete s 0x17 plNotInUpdate [] ∧
      ans .applyComplete s 0x18 plNotInUpdate [] ∧ ans .activateFirmware s 0x1A plNotInUpdate [] ∧ ans .cancelUpdateComponent s 0x1C plNotInUpdate [])

/-! ### Watches, resets, crash dumps and the test port (R493 to R511, R259, R526) -/

/-- No command, group, sequence, Chain request or translation is under way. -/
def IdleWork (s : State) : Prop :=
  s.rings = [] ∧ s.groups = [] ∧ s.seqs = [] ∧ s.seqSecs = [] ∧ s.chn.reqs = [] ∧ s.xl.waits = []

/-- The running reset `r` has begun as the only one: rung, target, cause and who started it, at the time of `s`, its RESET entry logged where the Keeper takes entries. -/
def ResetBegun (s t : State) (r : RunReset) (rung target cause by_ sec engine ctx : Nat) : Prop :=
  r.rung = rung ∧ r.target = target ∧ r.cause = cause ∧ r.by_ = by_ ∧ r.part = false ∧ r.start = s.now ∧ r.logSeq = s.logSeq ∧ r.engine = engine ∧ r.ctx = ctx ∧
  (keeperTakes s → Logged t s.now 0x80 sec (rung + engine * 2 ^ 8 + ctx * 2 ^ 16 + cause * 2 ^ 32))

/-- Watch expiries. A context's watch that has reached its window acts once: its EXPIRED bit and event are set, its started commands take PROGRESS_TIMEOUT with the
watch's DETAIL, and its reset starts, or STUCK is set where AUTO_MAX forbids it; a context that is being reset only shows the expiry. Engine watches act first,
and likewise start the engine's reset. A watch that is not due changes nothing (R495 to R498, R502, R510). -/
def Obligations.WatchExpiries : Prop :=
  ∀ (s : State) (slot : Fin 64) (e : Fin 32), let k := slot.val
    let w := s.watchAt k
    (∀ win en kind, win < 2 ^ 16 → en < 2 ^ 8 → kind < 16 → let d := (progressDetail s win en kind).toNat
      bits d 63 32 = bits s.flash.count.toNat 31 0 ∧ bits d 31 16 = win ∧ bits d 15 8 = en ∧ bits d 7 0 = kind) ∧
    (slotCtx s k = none → exec (.contextWatchExpiry slot) s = .next s) ∧
    (∀ c, slotCtx s k = some c →
      ((s.ctx c).window = 0xFFFF ∨ w.fired = true ∨ w.quiet < (s.ctx c).window ∨ (∃ i, i < 32 ∧ engineDue s i = true) →
        exec (.contextWatchExpiry slot) s = .next s) ∧
      ((s.ctx c).window ≠ 0xFFFF → w.fired = false → (s.ctx c).window ≤ w.quiet → (∀ i, i < 32 → engineDue s i = false) →
        ((s.ctx c).st = .resetting → ∃ t, exec (.contextWatchExpiry slot) s = .next t ∧ t.watchAt k = { w with fired := true, expired := true } ∧
          evSet t evHNG 0 = true ∧ SameBut [.hng, .regs, .out, .pci, .ctr] s t) ∧
        (∀ q r d, (s.ctx c).st = .resident → autoMax s = 0 → s.rings = [(q, r)] → r.kind ≠ 3 → r.ctx = c → r.cmds = [d] → d.st = .started →
          ∃ t, exec (.contextWatchExpiry slot) s = .next t ∧ t.watchAt k = { w with fired := true, expired := true } ∧ evSet t evHNG 0 = true ∧ evSet t evHNG 4 = true ∧
            t.hng.stuck = true ∧ (t.ring q).cmds = [{ d with conds := d.conds ++ [⟨stPROGRESS, progressDetail s (s.ctx c).window 0xFF 1⟩] }] ∧
            SameBut [.rings, .hng, .regs, .out, .pci, .ctr] s t) ∧
        ((s.ctx c).st = .resident → 1 ≤ autoMax s → IdleWork s → s.resets = [] → ∃ t r, exec (.contextWatchExpiry slot) s = .next t ∧ evSet t evHNG 0 = true ∧
          t.watchAt k = { w with fired := true, expired := true } ∧ t.resets = [r] ∧ ResetBegun s t r 1 c stPROGRESS 1 (s.ctx c).sector 0xFF c ∧
          t.ctx c = { s.ctx c with st := .resetting } ∧ SameBut [.ctxs, .hng, .regs, .out, .pci, .ctr, .tnd, .log, .logSeq, .kpr, .resets] s t))) ∧
    (engineDue s e.val = false → exec (.engineWatchExpiry e) s = .next s) ∧
    (engineDue s e.val = true → IdleWork s →
      (autoMax s < 2 → ∃ t, exec (.engineWatchExpiry e) s = .next t ∧ t.watchAt (64 + e.val) = { s.watchAt (64 + e.val) with fired := true, expired := true } ∧
        evSet t evHNG 1 = true ∧ evSet t evHNG 4 = true ∧ t.hng.stuck = true ∧ SameBut [.hng, .regs, .out, .pci, .ctr] s t) ∧
      (2 ≤ autoMax s → s.resets = [] → (s.frzAt (engineSector s e.val)).st = .running → ∃ t r, exec (.engineWatchExpiry e) s = .next t ∧ evSet t evHNG 1 = true ∧
        t.watchAt (64 + e.val) = { s.watchAt (64 + e.val) with fired := true, expired := true } ∧ t.resets = [r] ∧
        ResetBegun s t r 2 e.val stPROGRESS 1 (engineSector s e.val) e.val 0 ∧ (∀ c, t.core c = if e.val < 16 ∧ c / 12 = e.val then { s.core c with q := [] } else s.core c) ∧
        SameBut [.cores, .hng, .regs, .out, .pci, .ctr, .tnd, .log, .logSeq, .kpr, .resets] s t))

/-- A reset of rung 4 or 5 has begun in `t`: the module stands, emptied, its RESET entry logged, and what R504 and R505 say comes next: the dump where one is taken, else the warm boot, or the Logbook flush before the power-cycle request. -/
def ModuleBegins (s t : State) (rung cause by_ engine ctx : Nat) (dump : Bool) : Prop :=
  Emptied t ∧ t.hng.stopped = true ∧ t.dmk.fuses = s.dmk.fuses ∧ t.flash.count = s.flash.count ∧ t.ll.litGen = s.ll.litGen ∧
  (∃ r, t.resets = [r] ∧ r.rung = rung ∧ r.cause = cause ∧ r.by_ = by_ ∧ r.engine = engine ∧ r.ctx = ctx ∧ r.start = s.now) ∧
  (keeperTakes s → Logged t s.now 0x80 0xFF (rung + engine * 2 ^ 8 + ctx * 2 ^ 16 + cause * 2 ^ 32)) ∧
  (dump = true → bit (hngCtl s) 0 = true → s.kpr.runs = true → t.hng.dumping = true ∧ (tget (0, 0) t.hng.dumps t.hng.dumpSlot).1 = 1) ∧
  (dump = false ∨ bit (hngCtl s) 0 = false →
    (rung = 4 → t.kpr.boot = { kind := 2, number := s.kpr.boot.number + 1, result := 0, stage := 1, steps := [⟨2, 0, false⟩] }) ∧
    (rung = 5 → s.kpr.nvmOk = true → t.hng.pwrWait = true ∧ t.kpr.flushing ≠ none) ∧
    (rung = 5 → s.kpr.nvmOk = false → s.kpr.flushing = none → t.hng.pwrReq = true ∧ evSet t evHNG 8 = true))

/-- The host's resets of rungs 1 to 3. A GO that names an INACTIVE context, a reserved engine or no Sector, or comes while such a request runs, is refused; a module
reset that runs absorbs it; else the reset starts: the context is RESETTING, the engine's queues are empty, the Sector's sequence engine and it are being reset,
and REQ_RUNG shows the rung (R499, R501, R503, R510). ENGINE_RESET_COMPLETE ends an engine's reset once its work has gone: the reset is no longer running, its
error record is written with COMPLETE or STUCK, RESET_DONE is set; while work is left, or where no such reset runs, nothing changes (R500, R508). Escalation: a
reset of rung 1 to 3 that is younger than RESET_LIMIT, is a part of a wider one or was escalated before stays as it is. One that has passed it is escalated, its
record saying so, and the next rung starts with its context and engine fields: the Sector's for an engine, the module's for a Sector; or, above AUTO_MAX, STUCK
is set and it goes on (R502, R503). -/
def Obligations.HostResets : Prop :=
  (∀ (s : State) (target : BitVec 14), let n := target.toNat
     let held : Prop := 1 ≤ s.hng.reqRung ∧ s.hng.reqRung ≤ 3
     (held ∨ (s.ctx n).st = .inactive → exec (.hngResetContext target) s = .next (raise (hngWritten s 1 n false) evHNG 7)) ∧
     (held ∨ 32 ≤ n → exec (.hngResetEngine target) s = .next (raise (hngWritten s 2 n false) evHNG 7)) ∧
     (held ∨ 16 ≤ n ∨ (s.sector n).exists_ = false → exec (.hngResetSector target) s = .next (raise (hngWritten s 3 n false) evHNG 7)) ∧
     (¬ held → (∃ r ∈ s.resets, 4 ≤ r.rung) →
       ((s.ctx n).st ≠ .inactive → exec (.hngResetContext target) s = .next (hngCount (hngWritten s 1 n false) 7 1)) ∧
       (n < 32 → exec (.hngResetEngine target) s = .next (hngCount (hngWritten s 2 n false) 7 1)) ∧
       (n < 16 → (s.sector n).exists_ = true → exec (.hngResetSector target) s = .next (hngCount (hngWritten s 3 n false) 7 1))) ∧
     (¬ held → IdleWork s → s.resets = [] →
       ((s.ctx n).st = .resident → ∃ t r, exec (.hngResetContext target) s = .next t ∧ t.resets = [r] ∧ ResetBegun s t r 1 n stCTXRESET 0 (s.ctx n).sector 0xFF n ∧
         t.ctx n = { s.ctx n with st := .resetting } ∧ (∀ k, k ≠ n → t.ctx k = s.ctx k) ∧ t.hng.reqRung = 1 ∧ t.hng.reqTarget = n ∧
         SameBut [.regs, .ctxs, .tnd, .log, .logSeq, .kpr, .ctr, .resets, .hng] s t) ∧
       (n < 32 → (s.frzAt (engineSector s n)).st = .running → ∃ t r, exec (.hngResetEngine target) s = .next t ∧ t.resets = [r] ∧
         ResetBegun s t r 2 n stCTXRESET 0 (engineSector s n) n 0 ∧ (∀ c, t.core c = if n < 16 ∧ c / 12 = n then { s.core c with q := [] } else s.core c) ∧
         t.hng.reqRung = 2 ∧ t.hng.reqTarget = n ∧ SameBut [.regs, .cores, .tnd, .log, .logSeq, .kpr, .ctr, .resets, .hng] s t) ∧
       (n < 16 → (s.sector n).exists_ = true → s.ctxs = [] → s.res = [] → (s.frzAt n).st = .running → ∃ t r p, exec (.hngResetSector target) s = .next t ∧ t.resets = [r, p] ∧
         ResetBegun s t r 3 n stCTXRESET 0 n 0xFF 0 ∧ p.rung = 2 ∧ p.target = 16 + n ∧ p.part = true ∧ t.hng.reqRung = 3 ∧ t.hng.reqTarget = n ∧
         SameBut [.regs, .log, .logSeq, .kpr, .ctr, .resets, .hng] s t))) ∧
  (∀ (s : State) (e : Fin 32),
     (runningReset s 2 e.val = none ∨ engineQuiet s e.val = false → exec (.engineResetComplete e) s = .next s) ∧
     (∀ r, runningReset s 2 e.val = some r → engineQuiet s e.val = true → r.part = false → r.cmds = [] → runningReset s 3 r.sector = none →
       ∃ t, exec (.engineResetComplete e) s = .next t ∧ t.resets = s.resets.filter (fun x => !(x.rung == 2 && x.target == e.val)) ∧ evSet t evHNG 2 = true ∧
         (r.escalated = true → t.hng.errs = s.hng.errs) ∧
         (r.escalated = false → ∃ x, t.hng.errs = (x :: s.hng.errs).take 65536 ∧ x.seq = s.hng.errSeq ∧ t.hng.errSeq = s.hng.errSeq + 1 ∧ x.rung = 2 ∧ x.startedBy = r.by_ ∧
           x.outcome = (if r.stuck then 3 else 0) ∧ x.cause = r.cause ∧ x.sector = r.sector ∧ x.engine = r.engine ∧ x.ctx = r.ctx ∧ x.removed = r.removed ∧
           x.started = r.start ∧ x.ended = s.now ∧ x.logSeq = r.logSeq ∧ x.dump = r.dump) ∧
         SameBut [.resets, .hng, .regs, .out, .pci] s t)) ∧
  (∀ (s : State) (rung target : Nat),
     (runningReset s rung target = none → exec (.resetEscalation rung target) s = .next s) ∧
     (∀ r, runningReset s rung target = some r →
       (r.part = true ∨ r.escalated = true ∨ r.stuck = true ∨ r.edges < resetLimit s ∨ 3 < r.rung → exec (.resetEscalation rung target) s = .next s) ∧
       (r.part = false → r.escalated = false → r.stuck = false → resetLimit s ≤ r.edges → r.rung ≤ 3 →
         (autoMax s < rung + 1 → ∃ t, exec (.resetEscalation rung target) s = .next t ∧ t.hng.stuck = true ∧ evSet t evHNG 4 = true ∧
           (s.resets = [r] → t.resets = [{ r with stuck := true }]) ∧ SameBut [.resets, .hng, .regs, .out, .pci] s t) ∧
         (rung + 1 ≤ autoMax s → s.resets = [r] → IdleWork s →
           (rung = 1 → ∃ t x, exec (.resetEscalation rung target) s = .next t ∧ evSet t evHNG 3 = true ∧ t.resets = [{ r with escalated := true }] ∧
             t.hng.errs = (x :: s.hng.errs).take 65536 ∧ x.rung = 1 ∧ x.outcome = 1 ∧ x.ctx = r.ctx ∧ SameBut [.resets, .hng, .regs, .out, .pci, .ctr] s t) ∧
           (rung = 2 → s.ctxs = [] → s.res = [] → (s.frzAt r.sector).st = .running → ∃ t x y, exec (.resetEscalation rung target) s = .next t ∧ evSet t evHNG 3 = true ∧
             t.hng.errs = (x :: s.hng.errs).take 65536 ∧ x.rung = 2 ∧ x.outcome = 1 ∧ runningReset t 3 r.sector = some y ∧
             y.cause = r.cause ∧ y.by_ = 2 ∧ y.engine = r.engine ∧ y.ctx = r.ctx ∧
             (keeperTakes s → Logged t s.now 0x80 r.sector (3 + r.engine * 2 ^ 8 + r.ctx * 2 ^ 16 + r.cause * 2 ^ 32)) ∧
             SameBut [.resets, .hng, .regs, .out, .pci, .ctr, .log, .logSeq, .kpr] s t) ∧
           (rung = 3 → s.kpr.st ≠ .restarting → s.dmk.prog = none → s.hng.dumping = false → ∃ t x, exec (.resetEscalation rung target) s = .next t ∧
             ModuleBegins s t 4 r.cause 2 r.engine r.ctx true ∧ t.hng.errs = (x :: s.hng.errs).take 65536 ∧ x.rung = 3 ∧ x.outcome = 1)))))

/-- The module's resets. HNG_RESET of rung 4 or 5 is always accepted: it begins, or waits for a Keeper that restarts or fuses that are being programmed, or is
absorbed by one of its own or a wider rung. A Function Level Reset is a warm reset without a dump. A warm boot that does not end is escalated to a power cycle
where AUTO_MAX allows it; a power cycle that does not come is STUCK, with a further RESET entry. What was COMPLETE goes on after its dump (R259, R502, R504,
R505, R509, R510). Crash dumps and their copies. A dump that ends is COMPLETE, or failed, and its reset goes on; a copy is refused where the Keeper does not run
or the range lies outside its region, and otherwise ends by writing the region's bytes to the host's buffer, the error log's as its records lie there. The test
port selects the register that an instruction names where the JTAG right is held, and without it for IDCODE and BYPASS alone (R504, R508, R509, R511, R526). -/
def Obligations.ModuleResets : Prop :=
  (∀ (s : State) (dump : Bool),
     let free : Prop := s.kpr.st ≠ .restarting ∧ s.dmk.prog = none ∧ s.hng.dumping = false
     (∀ rung, (rung = 4 ∨ rung = 5) → let i := if rung = 4 then Instr.hngResetModule dump else Instr.hngResetPowerCycle dump
       ((∀ r ∈ s.resets, r.rung < rung) → free → ∃ t, (if rung = 4 then exec (.hngResetModule dump) s else exec (.hngResetPowerCycle dump) s) = .next t ∧
         ModuleBegins s t rung stCTXRESET 0 0xFF 0 dump ∧ t.hng.reqRung = rung) ∧
       ((∀ r ∈ s.resets, r.rung < rung) → (s.kpr.st = .restarting ∨ s.dmk.prog ≠ none) → s.hng.wait = none → exec i s = .next
         { hngWritten s rung 0 dump with hng := { s.hng with wait := some (moduleRung s rung stCTXRESET 0, dump) } }) ∧
       ((∃ r ∈ s.resets, rung ≤ r.rung) → ∃ t, exec i s = .next t ∧ SameBut [.regs, .ctr, .hng] s t)) ∧
     (s.kpr.boot.result ≠ 1 → exec .functionLevelReset s = .next s) ∧
     (s.kpr.boot.result = 1 → (∀ r ∈ s.resets, r.rung < 4) → free → ∃ t, exec .functionLevelReset s = .next t ∧ ModuleBegins s t 4 stCTXRESET 4 0xFF 0 false) ∧
     ((∀ r ∈ s.resets, r.rung ≠ 4) → exec .warmBootTimeout s = .next s) ∧
     (∀ r, s.resets = [r] → r.rung = 4 → r.escalated = false → r.stuck = false →
       (autoMax s = 5 → free → ∃ t, exec .warmBootTimeout s = .next t ∧ ModuleBegins s t 5 r.cause 2 r.engine r.ctx true ∧
         ∃ x, t.hng.errs = (x :: s.hng.errs).take 65536 ∧ x.rung = 4 ∧ x.outcome = 1) ∧
       (autoMax s < 5 → ∃ t, exec .warmBootTimeout s = .next t ∧ t.resets = [{ r with stuck := true }] ∧ t.hng.stuck = true ∧ evSet t evHNG 4 = true ∧
         SameBut [.resets, .hng, .regs, .out, .pci] s t)) ∧
     (s.hng.pwrReq = false ∨ s.pins.vin < 380 → exec .powerCycleTimeout s = .next s) ∧
     (∀ r, s.hng.pwrReq = true → 380 ≤ s.pins.vin → s.resets = [r] → r.rung = 5 → r.stuck = false → ∃ t, exec .powerCycleTimeout s = .next t ∧ t.hng.pwrReq = true ∧
       t.hng.stuck = true ∧ evSet t evHNG 4 = true ∧ (keeperTakes s → Logged t s.now 0x80 0xFF (5 + r.engine * 2 ^ 8 + r.ctx * 2 ^ 16 + stPROGRESS * 2 ^ 32)) ∧
       SameBut [.resets, .hng, .regs, .out, .pci, .log, .logSeq, .kpr] s t)) ∧
  (∀ (s : State),
     (∀ ok, s.hng.dumping = false → exec (.crashDumpDone ok) s = .next s) ∧
     (∀ ok, s.hng.dumping = true → (∀ r ∈ s.resets, r.rung ≠ 5) → ∃ t, exec (.crashDumpDone ok) s = .next t ∧ t.hng.dumping = false ∧
       tget (0, 0) t.hng.dumps s.hng.dumpSlot = (if ok then (2, (tget (0, 0) s.hng.dumps s.hng.dumpSlot).2) else tget (0, 0) s.hng.dumps s.hng.dumpSlot) ∧
       evSet t evHNG (if ok then 5 else 6) = true ∧
       t.kpr.boot = { kind := 2, number := s.kpr.boot.number + 1, result := 0, stage := 1, steps := [⟨2, 0, false⟩] }) ∧
     (∀ v, s.hng.copyBusy = true → exec (.dumpCopy v) s = .next s) ∧
     (∀ r, (copyEnd s r).hng.copyBusy = false ∧ (copyEnd s r).hng.copyResult = r ∧ regNow (copyEnd s r) 0x90050 = 2 ∧ SameBut [.hng, .regs] s (copyEnd s r)) ∧
     (∀ v : Word, s.hng.copyBusy = false → let s1 := setReg s 0x90048 (v &&& 0x7CFFFFFF007FFFFF)
       let off := bits v.toNat 55 32 * 4096
       let len := bits v.toNat 22 0
       (¬ keeperTakes s → exec (.dumpCopy v) s = .next (copyEnd s1 3)) ∧
       (∀ region, keeperTakes s → bits v.toNat 62 60 = region → (1 < region ∨ len % 4096 ≠ 0 ∨ 4 * 2 ^ 20 < len ∨ (region = 0 ∧ 24 * 2 ^ 20 < off + len) ∨
         (region = 1 ∧ 4 * 2 ^ 20 < off + len)) → exec (.dumpCopy v) s = .next (copyEnd s1 1)) ∧
       (∀ region, keeperTakes s → bits v.toNat 62 60 = region → region ≤ 1 → len % 4096 = 0 → len ≤ 4 * 2 ^ 20 → off + len ≤ (if region = 0 then 24 * 2 ^ 20 else 4 * 2 ^ 20) →
         exec (.dumpCopy v) s = .next { s1 with hng := { s.hng with copyBusy := true, copyResult := 0 } })) ∧
     (∀ ok, s.hng.copyBusy = false → exec (.dumpCopyDone ok) s = .next s) ∧
     (s.hng.copyBusy = true → exec (.dumpCopyDone false) s = .next (copyEnd s 2) ∧
       let v := (regNow s 0x90048).toNat
       ∃ bs : List Byte, exec (.dumpCopyDone true) s = .next (copyEnd (s.emit (.hostWrite none ((regNow s 0x90040).toNat / 4096 * 4096) bs false)) 0) ∧
         bs.length = bits v 22 0 ∧ ∀ i, i < bits v 22 0 → bits v 62 60 = 1 → ∀ e, s.hng.errs.find? (fun e => e.seq.toNat % 65536 == (bits v 55 32 * 4096 + i) / 64) = some e →
           bs.getD i 0 = (errBytes e).getD ((bits v 55 32 * 4096 + i) % 64) 0) ∧
     (∀ e : ErrRec, (errBytes e).length = 64 ∧ fieldAt (errBytes e) 0 4 = e.seq.toNat ∧ fieldAt (errBytes e) 4 1 = e.rung % 256 ∧ fieldAt (errBytes e) 5 1 = e.startedBy % 256 ∧
       fieldAt (errBytes e) 6 1 = e.outcome % 256 ∧ fieldAt (errBytes e) 7 1 = e.cause % 256 ∧ fieldAt (errBytes e) 8 1 = e.sector % 256 ∧ fieldAt (errBytes e) 9 1 = e.engine % 256 ∧
       fieldAt (errBytes e) 10 2 = e.ctx % 65536 ∧ fieldAt (errBytes e) 12 4 = min e.removed (2 ^ 32 - 1) ∧ fieldAt (errBytes e) 16 8 = e.started.toNat ∧
       fieldAt (errBytes e) 24 8 = e.ended.toNat ∧ fieldAt (errBytes e) 32 4 = e.logSeq.toNat ∧ fieldAt (errBytes e) 36 1 = e.dump % 256) ∧
     (∀ i, exec (.tapInstruction i) s = .next { s with pins := { s.pins with tap := match i with
       | .idcode => .idcode
       | .bypass => .bypass
       | .other n => if s.dmk.rights.toNat.testBit 0 = true then .other n else .bypass } }))

/-! ### Arithmetic and the canonical tree (R159, R174 to R176, R181) -/

/-- The exponent field of an F32 is not all ones: it is finite. -/
def f32Fin (x : F32) : Prop := x.toNat / 2 ^ 23 % 256 ≠ 255

/-- The value of a finite F32, as IEEE 754 binary32 gives it. -/
def f32Val (x : F32) : ℚ :=
  (if 2 ^ 31 ≤ x.toNat then -1 else 1) *
  (if x.toNat / 2 ^ 23 % 256 = 0 then (x.toNat % 2 ^ 23 : ℕ) * (2 : ℚ) ^ (-149 : ℤ)
   else (2 ^ 23 + x.toNat % 2 ^ 23 : ℕ) * (2 : ℚ) ^ ((x.toNat / 2 ^ 23 % 256 : ℕ) - 150 : ℤ))

/-- `x` is the exact number `v` rounded to nearest, ties to even; half of the last place beyond the largest finite number, and more, is an infinity of the sign of `v`. -/
def NearestEven (v : ℚ) (x : F32) : Prop :=
  (|v| < 2 ^ 128 - 2 ^ 103 → f32Fin x ∧ ∀ y, f32Fin y → |f32Val x - v| ≤ |f32Val y - v| ∧ (|f32Val x - v| = |f32Val y - v| → f32Val y ≠ f32Val x → x.toNat % 2 = 0)) ∧
  (2 ^ 128 - 2 ^ 103 ≤ |v| → x = if v < 0 then 0xFF800000 else 0x7F800000)

/-- Every F32 result is the exact result rounded once, to nearest with ties to even, subnormals kept and overflow giving an infinity: of any number m × 2^e, and of
the sums, differences, products and fused multiply-adds of finite values. x − x is +0, −0 + −0 is −0, and +∞ − ∞ is the canonical NaN, as is every result of a
NaN (R159, R181). -/
def Obligations.RoundedOnce : Prop :=
  (∀ (n : Bool) (m : Nat) (e : Int), NearestEven ((if n then -1 else 1) * (m : ℚ) * (2 : ℚ) ^ e) (toF32 (.fin n m e)) ∧ ((toF32 (.fin n m e)).toNat / 2 ^ 31 = if n then 1 else 0)) ∧
  (∀ x y z : F32, f32Fin x → f32Fin y → f32Fin z → NearestEven (f32Val x + f32Val y) (fadd x y) ∧ NearestEven (f32Val x - f32Val y) (fsub x y) ∧
    NearestEven (f32Val x * f32Val y) (fmul x y) ∧ NearestEven (f32Val x * f32Val y + f32Val z) (ffma x y z) ∧ fsub x x = 0) ∧
  fadd 0x80000000 0x80000000 = 0x80000000 ∧ fadd 0x7F800000 0xFF800000 = 0x7FC00000 ∧
  (∀ x y z : F32, isNaN x = true → fadd x y = 0x7FC00000 ∧ fadd y x = 0x7FC00000 ∧ fsub x y = 0x7FC00000 ∧ fsub y x = 0x7FC00000 ∧ fmul x y = 0x7FC00000 ∧
    fmul y x = 0x7FC00000 ∧ ffma x y z = 0x7FC00000 ∧ ffma y x z = 0x7FC00000 ∧ ffma y z x = 0x7FC00000)

/-- Each entry of an accumulator's ladder holds, element by element, the value that the canonical tree gives its span: leaves combined in the tree's order, each sum rounded. -/
def LadderSound (s : State) (c : Nat) (a : Acc) (leaf : Nat → Nat → Nat → F32) : Prop :=
  ∀ l sp, a.ladder.reverse[l]? = some sp → ∀ i j, i < a.rows → j < a.cols → getNode s c a l i j = treeSum (leaf i j) 20 sp.first sp.count

/-- A run of pushes onto accumulator `i` of core `c`, none of which traps, leads from one state to another. -/
def Pushes (c i : Nat) : State → List (Span × (Nat → Nat → F32)) → State → Prop
  | s, [], t => t = s
  | s, p :: r, t => ∃ a, tget none (s.core c).acc i = some a ∧ mayPush a p.1 = true ∧ Pushes c i (pushNode s c i a p.1 p.2) r t

/-- A push of a node that holds its own tree value keeps every entry of the ladder at the tree value of its span, whatever merges follow: the value at every node
depends on NB and on the data alone (R140, R175). Pushes in ascending K from block 0 leave at most floor_log2(NB − 1) + 1 entries after each, so that the ladder
never holds more than floor_log2(NB − 1) + 2 (one where NB is 1); and once the last block is pushed, the root is its one entry, so that LADFIN and ACST go
through (R140, R176). -/
def Obligations.LadderTree : Prop :=
  (∀ (s : State) (c i : Nat) (a : Acc) (sp : Span) (v : Nat → Nat → F32) (leaf : Nat → Nat → Nat → F32),
     4 * a.cols ≤ a.stride → a.nb ≤ 65536 → LadderSound s c a leaf → mayPush a sp = true →
     (∀ y z, y < a.rows → z < a.cols → v y z = treeSum (leaf y z) 20 sp.first sp.count) →
     ∃ b, tget none ((pushNode s c i a sp v).core c).acc i = some b ∧ b = { a with ladder := b.ladder } ∧ LadderSound (pushNode s c i a sp v) c b leaf) ∧
  (∀ (s t : State) (c i : Nat) (a b : Acc) (ps : List (Span × (Nat → Nat → F32))),
     tget none (s.core c).acc i = some a → a.ladder = [] → 1 ≤ a.nb → a.nb ≤ 65536 → (∀ p r, ps = p :: r → p.1.first = 0) → Pushes c i s ps t →
     tget none (t.core c).acc i = some b →
     b.ladder.length ≤ (if a.nb = 1 then 1 else Nat.log2 (a.nb - 1) + 1) ∧ b.nb = a.nb ∧
     (∀ top rest, b.ladder = top :: rest → top.first + top.count = a.nb → rest = [] ∧ top.first = 0))

/-! ### What every step keeps, and the state after reset -/

/-- What Daymark's fuses hold may only be programmed further: the fused identity, keys and digests are fixed, a digest once stored stays, a killed key stays killed, no anti-rollback value falls, and the debug counter never falls. -/
def FusesKept (f g : Fuses) : Prop :=
  g.serial = f.serial ∧ g.integDigest = f.integDigest ∧ g.returnDigest = f.returnDigest ∧ g.dbgKeys = f.dbgKeys ∧ g.fwKey = f.fwKey ∧ g.chain = f.chain ∧
  g.romDigest = f.romDigest ∧ (f.fieldDigest ≠ none → g.fieldDigest = f.fieldDigest) ∧ (f.scrapDigest ≠ none → g.scrapDigest = f.scrapDigest) ∧
  (∀ k ∈ f.killed, k ∈ g.killed) ∧ (∀ c, tget 0 f.svn c ≤ tget 0 g.svn c) ∧ f.counter ≤ g.counter

/-- Every step, whatever its command, leaves the fuses as they were or programmed further, and keeps the debug counter within its 1,024 bits (R431, R439, R443,
R486). -/
def Obligations.FusesOnlyProgrammed : Prop :=
  ∀ (s t : State), step s = .next t → FusesKept s.dmk.fuses t.dmk.fuses ∧ (s.dmk.fuses.counter ≤ 1024 → t.dmk.fuses.counter ≤ 1024)

/-- Every step keeps the memories of the module and the check states of their lines in canonical form, so that equal memories are equal data (the model's own form
of memory). -/
def Obligations.MemoriesStayCanonical : Prop :=
  ∀ (s t : State), memoriesWf s = true → step s = .next t → memoriesWf t = true

/-- No command acts on the queue: a step takes its front command off and leaves the rest. Every step answers a next state (the model's queue; notes/assumptions/1). -/
def Obligations.QueueKept : Prop :=
  (∀ (s : State), ∃ t, step s = .next t) ∧ (∀ (s t : State), step s = .next t → t.pending = s.pending.tail)

/-- Right after reset the memories are canonical, no command waits, no Sector, ring, context or sequence exists, and the registers read the reset values that the
spec states for them. -/
def Obligations.ResetState : Prop :=
  memoriesWf State.reset = true ∧ State.reset.dmk.fuses.counter ≤ 1024 ∧ State.reset.pending = [] ∧ Emptied State.reset ∧ State.reset.kpr.runs = false ∧
  ∀ p ∈ ([(0x10000, 0), (0x10008, 0), (0x10010, 0x1000002), (0x10018, 1000000 * 2 ^ 16 + 1000), (0x10020, 0xFF00), (0x10028, 0), (0x20020, 0), (0x30010, 0), (0x30018, 0),
      (0x40040, 3), (0x40048, 60000 * 2 ^ 32 + 600000), (0x40070, 128), (0x40080, 0), (0x50008, 0x404), (0x50010, 0), (0x60008, 400),
      (0x60010, 250 * 2 ^ 48 + 400 * 2 ^ 32 + 2200 * 2 ^ 16 + 2200), (0x60018, 0), (0x60030, 150 * 2 ^ 8), (0x60100, 75 * 2 ^ 48 + 16384 * 2 ^ 16), (0x70050, 100),
      (0x90000, 1000 * 2 ^ 48 + 64 * 2 ^ 32 + 16 * 2 ^ 24 + 4 * 2 ^ 16 + 1), (0x90008, 0), (0x90010, 0), (0x90018, 0), (0x90020, 0), (0x90028, 0x110), (0xB0000, 0), (0xB0008, 0)] :
      List (Nat × Nat)), regRead State.reset p.1 8 = some (BitVec.ofNat 64 p.2)
end

