-- ==== Sys2Proof/Laws/Tables.lean ====
section
/-!
SUPPORT. The laws of sparse tables and memories: what is read after a write, and that every operation keeps the canonical form.
-/
namespace Sys2Proof.Laws
open Sys2Proof.Machine

variable {α : Type}

theorem tget_tins (d : α) (t : Tbl α) (k : Nat) (v : α) (j : Nat) :
    tget d (tins t k v) j = if j = k then v else tget d t j := by
  induction t with
  | nil => by_cases h : j = k
           · simp [tins, tget, h]
           · simp [tins, tget, h, Ne.symm h]
  | cons p r ih =>
    obtain ⟨a, w⟩ := p
    simp only [tins]
    split
    · by_cases h : j = k
      · simp [tget, h]
      · simp [tget, h, Ne.symm h]
    · split
      · subst k
        by_cases h : j = a
        · simp [tget, h]
        · simp [tget, h, Ne.symm h]
      · by_cases h : a = j
        · subst h; simp [tget]; omega
        · simp [tget, h, ih]

theorem tget_filter_ne (d : α) (t : Tbl α) (k j : Nat) :
    tget d (t.filter (fun p => p.1 != k)) j = if j = k then d else tget d t j := by
  induction t with
  | nil => simp [tget]
  | cons p r ih =>
    obtain ⟨a, w⟩ := p
    by_cases h : a = k
    · subst h
      simp only [List.filter_cons, bne_self_eq_false, Bool.false_eq_true, if_false, ih]
      by_cases hj : j = a
      · simp [hj]
      · simp [tget, hj, Ne.symm hj]
    · have hb : ((a, w).1 != k) = true := by simpa using h
      simp only [List.filter_cons, hb, if_true, tget, ih]
      by_cases hj : a = j
      · subst hj; simp [h]
      · simp [hj]

/-- Reading after a write: the value written at its key, what stood before at any other. -/
theorem tget_tput [DecidableEq α] (d : α) (t : Tbl α) (k : Nat) (v : α) (j : Nat) :
    tget d (tput d t k v) j = if j = k then v else tget d t j := by
  unfold tput
  split
  · next h => rw [tget_filter_ne, h]
  · exact tget_tins d t k v j

@[simp] theorem tget_tput_same [DecidableEq α] (d : α) (t : Tbl α) (k : Nat) (v : α) :
    tget d (tput d t k v) k = v := by simp [tget_tput]

/-- A write leaves every other key, whatever an unlisted key is read as. -/
theorem tget_tput_other [DecidableEq α] (d e : α) (t : Tbl α) (k : Nat) (v : α) (j : Nat) (h : j ≠ k) :
    tget e (tput d t k v) j = tget e t j := by
  unfold tput
  split
  · rw [tget_filter_ne, if_neg h]
  · rw [tget_tins, if_neg h]

@[simp] theorem tget_tmod_same [DecidableEq α] (d : α) (t : Tbl α) (k : Nat) (f : α → α) :
    tget d (tmod d t k f) k = f (tget d t k) := by simp [tmod]

/-! ### The canonical form -/

theorem twfFrom_le [DecidableEq α] (d : α) (t : Tbl α) (a b : Nat) (h : a ≤ b) (w : twfFrom d b t = true) : twfFrom d a t = true := by
  cases t with
  | nil => rfl
  | cons p r =>
    obtain ⟨x, v⟩ := p
    simp only [twfFrom, Bool.and_eq_true, decide_eq_true_eq] at w ⊢
    exact ⟨⟨Nat.le_trans h w.1.1, w.1.2⟩, w.2⟩

theorem twfFrom_tins [DecidableEq α] (d : α) (t : Tbl α) (k : Nat) (v : α) (lo : Nat) (hv : v ≠ d) (hk : lo ≤ k)
    (w : twfFrom d lo t = true) : twfFrom d lo (tins t k v) = true := by
  induction t generalizing lo with
  | nil => simp [tins, twfFrom, hv, hk]
  | cons p r ih =>
    obtain ⟨a, x⟩ := p
    simp only [twfFrom, Bool.and_eq_true, decide_eq_true_eq] at w
    simp only [tins]
    split
    · next h =>
      simp only [twfFrom, Bool.and_eq_true, decide_eq_true_eq]
      exact ⟨⟨hk, hv⟩, ⟨by omega, w.1.2⟩, w.2⟩
    · split
      · next h =>
        subst h
        simp only [twfFrom, Bool.and_eq_true, decide_eq_true_eq]
        exact ⟨⟨hk, hv⟩, w.2⟩
      · simp only [twfFrom, Bool.and_eq_true, decide_eq_true_eq]
        exact ⟨w.1, ih (a + 1) (by omega) w.2⟩

theorem twfFrom_filter [DecidableEq α] (d : α) (f : Nat × α → Bool) (t : Tbl α) (lo : Nat) (w : twfFrom d lo t = true) :
    twfFrom d lo (t.filter f) = true := by
  induction t generalizing lo with
  | nil => rfl
  | cons p r ih =>
    obtain ⟨a, x⟩ := p
    simp only [twfFrom, Bool.and_eq_true, decide_eq_true_eq] at w
    simp only [List.filter_cons]
    split
    · simp only [twfFrom, Bool.and_eq_true, decide_eq_true_eq]
      exact ⟨w.1, ih (a + 1) w.2⟩
    · exact twfFrom_le d _ lo (a + 1) (by omega) (ih (a + 1) w.2)

/-- A write keeps the canonical form. -/
theorem twf_tput [DecidableEq α] (d : α) (t : Tbl α) (k : Nat) (v : α) (w : twf d t = true) : twf d (tput d t k v) = true := by
  unfold tput twf
  split
  · exact twfFrom_filter d _ t 0 w
  · next h => exact twfFrom_tins d t k v 0 h (Nat.zero_le _) w

theorem twf_tmod [DecidableEq α] (d : α) (t : Tbl α) (k : Nat) (f : α → α) (w : twf d t = true) : twf d (tmod d t k f) = true :=
  twf_tput d t k _ w

theorem twf_filter [DecidableEq α] (d : α) (t : Tbl α) (f : Nat × α → Bool) (w : twf d t = true) : twf d (t.filter f) = true :=
  twfFrom_filter d f t 0 w

/-! ### Memories -/

theorem cget_cput (m : List Host.Cell) (a : Nat) (b : Byte) (x : Nat) :
    cget (cput m a b) x = if x = a then b else cget m x := tget_tput 0 m a b x

theorem wf_cput (m : List Host.Cell) (a : Nat) (b : Byte) (w : Memory.wf m = true) : Memory.wf (cput m a b) = true :=
  twf_tput 0 m a b w

theorem wf_cwrite (m : List Host.Cell) (a : Nat) (bs : List Byte) (w : Memory.wf m = true) : Memory.wf (cwrite m a bs) = true := by
  induction bs generalizing m a with
  | nil => exact w
  | cons b r ih => exact ih (cput m a b) (a + 1) (wf_cput m a b w)

theorem wf_czero (m : List Host.Cell) (a len : Nat) (w : Memory.wf m = true) : Memory.wf (czero m a len) = true :=
  twf_filter 0 m _ w

/-- A write leaves every byte outside its range. -/
theorem cget_cwrite_outside (bs : List Byte) (m : List Host.Cell) (a x : Nat) (h : x < a ∨ a + bs.length ≤ x) :
    cget (cwrite m a bs) x = cget m x := by
  induction bs generalizing m a with
  | nil => rfl
  | cons b r ih =>
    simp only [List.length_cons] at h
    rw [cwrite, ih (cput m a b) (a + 1) (by omega), cget_cput, if_neg (by omega)]

/-- A write leaves the byte it wrote at each address of its range. -/
theorem cget_cwrite_inside (bs : List Byte) (m : List Host.Cell) (a i : Nat) (h : i < bs.length) :
    cget (cwrite m a bs) (a + i) = bs.getD i 0 := by
  induction bs generalizing m a i with
  | nil => simp at h
  | cons b r ih =>
    cases i with
    | zero => rw [cwrite, cget_cwrite_outside _ _ _ _ (by omega), cget_cput, if_pos (Nat.add_zero a)]; rfl
    | succ n =>
      have e : a + (n + 1) = (a + 1) + n := by omega
      rw [cwrite, e, ih (cput m a b) (a + 1) n (by simpa using h)]
      rfl

end Sys2Proof.Laws
end

