-- ==== Sys2Proof/Laws/State.lean ====
section
/-!
SUPPORT. One lemma per field and update of State: an update changes its own field and leaves every other.
-/
namespace Sys2Proof.Laws
open Sys2Proof.Machine

/-! ### State.setRing -/

@[simp] theorem setRing_same (s : State) (q : Nat) (r : Ring) : (s.setRing q r).ring q = r := tget_tput_same _ _ _ _
theorem setRing_other (s : State) (q : Nat) (r : Ring) (j : Nat) (h : j ≠ q) : (s.setRing q r).ring j = s.ring j :=
  tget_tput_other _ _ _ _ _ _ h
@[simp] theorem setRing_pending (s : State) (q : Nat) (r : Ring) : (s.setRing q r).pending = s.pending := rfl
@[simp] theorem setRing_regs (s : State) (q : Nat) (r : Ring) : (s.setRing q r).regs = s.regs := rfl
@[simp] theorem setRing_free (s : State) (q : Nat) (r : Ring) : (s.setRing q r).free = s.free := rfl
@[simp] theorem setRing_out (s : State) (q : Nat) (r : Ring) : (s.setRing q r).out = s.out := rfl
@[simp] theorem setRing_flash (s : State) (q : Nat) (r : Ring) : (s.setRing q r).flash = s.flash := rfl
@[simp] theorem setRing_sat (s : State) (q : Nat) (r : Ring) : (s.setRing q r).sat = s.sat := rfl
@[simp] theorem setRing_ll (s : State) (q : Nat) (r : Ring) : (s.setRing q r).ll = s.ll := rfl
@[simp] theorem setRing_sectors (s : State) (q : Nat) (r : Ring) : (s.setRing q r).sectors = s.sectors := rfl
@[simp] theorem setRing_res (s : State) (q : Nat) (r : Ring) : (s.setRing q r).res = s.res := rfl
@[simp] theorem setRing_gens (s : State) (q : Nat) (r : Ring) : (s.setRing q r).gens = s.gens := rfl
@[simp] theorem setRing_rb (s : State) (q : Nat) (r : Ring) : (s.setRing q r).rb = s.rb := rfl
@[simp] theorem setRing_ctxs (s : State) (q : Nat) (r : Ring) : (s.setRing q r).ctxs = s.ctxs := rfl
@[simp] theorem setRing_events (s : State) (q : Nat) (r : Ring) : (s.setRing q r).events = s.events := rfl
@[simp] theorem setRing_tables (s : State) (q : Nat) (r : Ring) : (s.setRing q r).tables = s.tables := rfl
@[simp] theorem setRing_cores (s : State) (q : Nat) (r : Ring) : (s.setRing q r).cores = s.cores := rfl
@[simp] theorem setRing_groups (s : State) (q : Nat) (r : Ring) : (s.setRing q r).groups = s.groups := rfl
@[simp] theorem setRing_nextGroup (s : State) (q : Nat) (r : Ring) : (s.setRing q r).nextGroup = s.nextGroup := rfl
@[simp] theorem setRing_seqs (s : State) (q : Nat) (r : Ring) : (s.setRing q r).seqs = s.seqs := rfl
@[simp] theorem setRing_seqSecs (s : State) (q : Nat) (r : Ring) : (s.setRing q r).seqSecs = s.seqSecs := rfl
@[simp] theorem setRing_env (s : State) (q : Nat) (r : Ring) : (s.setRing q r).env = s.env := rfl
@[simp] theorem setRing_pci (s : State) (q : Nat) (r : Ring) : (s.setRing q r).pci = s.pci := rfl
@[simp] theorem setRing_ctr (s : State) (q : Nat) (r : Ring) : (s.setRing q r).ctr = s.ctr := rfl
@[simp] theorem setRing_shadow (s : State) (q : Nat) (r : Ring) : (s.setRing q r).shadow = s.shadow := rfl
@[simp] theorem setRing_log (s : State) (q : Nat) (r : Ring) : (s.setRing q r).log = s.log := rfl
@[simp] theorem setRing_logSeq (s : State) (q : Nat) (r : Ring) : (s.setRing q r).logSeq = s.logSeq := rfl
@[simp] theorem setRing_resets (s : State) (q : Nat) (r : Ring) : (s.setRing q r).resets = s.resets := rfl
@[simp] theorem setRing_sm (s : State) (q : Nat) (r : Ring) : (s.setRing q r).sm = s.sm := rfl
@[simp] theorem setRing_ls (s : State) (q : Nat) (r : Ring) : (s.setRing q r).ls = s.ls := rfl
@[simp] theorem setRing_clm (s : State) (q : Nat) (r : Ring) : (s.setRing q r).clm = s.clm := rfl
@[simp] theorem setRing_smChk (s : State) (q : Nat) (r : Ring) : (s.setRing q r).smChk = s.smChk := rfl
@[simp] theorem setRing_lsChk (s : State) (q : Nat) (r : Ring) : (s.setRing q r).lsChk = s.lsChk := rfl
@[simp] theorem setRing_clmChk (s : State) (q : Nat) (r : Ring) : (s.setRing q r).clmChk = s.clmChk := rfl
@[simp] theorem setRing_binaries (s : State) (q : Nat) (r : Ring) : (s.setRing q r).binaries = s.binaries := rfl
@[simp] theorem setRing_xl (s : State) (q : Nat) (r : Ring) : (s.setRing q r).xl = s.xl := rfl
@[simp] theorem setRing_mem (s : State) (q : Nat) (r : Ring) : (s.setRing q r).mem = s.mem := rfl
@[simp] theorem setRing_chn (s : State) (q : Nat) (r : Ring) : (s.setRing q r).chn = s.chn := rfl
@[simp] theorem setRing_tnd (s : State) (q : Nat) (r : Ring) : (s.setRing q r).tnd = s.tnd := rfl
@[simp] theorem setRing_dmk (s : State) (q : Nat) (r : Ring) : (s.setRing q r).dmk = s.dmk := rfl
@[simp] theorem setRing_frz (s : State) (q : Nat) (r : Ring) : (s.setRing q r).frz = s.frz := rfl
@[simp] theorem setRing_kpr (s : State) (q : Nat) (r : Ring) : (s.setRing q r).kpr = s.kpr := rfl
@[simp] theorem setRing_hng (s : State) (q : Nat) (r : Ring) : (s.setRing q r).hng = s.hng := rfl
@[simp] theorem setRing_pins (s : State) (q : Nat) (r : Ring) : (s.setRing q r).pins = s.pins := rfl

/-! ### State.setCtx -/

@[simp] theorem setCtx_same (s : State) (c : Nat) (x : Ctx) : (s.setCtx c x).ctx c = x := tget_tput_same _ _ _ _
theorem setCtx_other (s : State) (c : Nat) (x : Ctx) (j : Nat) (h : j ≠ c) : (s.setCtx c x).ctx j = s.ctx j :=
  tget_tput_other _ _ _ _ _ _ h
@[simp] theorem setCtx_pending (s : State) (c : Nat) (x : Ctx) : (s.setCtx c x).pending = s.pending := rfl
@[simp] theorem setCtx_regs (s : State) (c : Nat) (x : Ctx) : (s.setCtx c x).regs = s.regs := rfl
@[simp] theorem setCtx_free (s : State) (c : Nat) (x : Ctx) : (s.setCtx c x).free = s.free := rfl
@[simp] theorem setCtx_out (s : State) (c : Nat) (x : Ctx) : (s.setCtx c x).out = s.out := rfl
@[simp] theorem setCtx_flash (s : State) (c : Nat) (x : Ctx) : (s.setCtx c x).flash = s.flash := rfl
@[simp] theorem setCtx_sat (s : State) (c : Nat) (x : Ctx) : (s.setCtx c x).sat = s.sat := rfl
@[simp] theorem setCtx_ll (s : State) (c : Nat) (x : Ctx) : (s.setCtx c x).ll = s.ll := rfl
@[simp] theorem setCtx_sectors (s : State) (c : Nat) (x : Ctx) : (s.setCtx c x).sectors = s.sectors := rfl
@[simp] theorem setCtx_res (s : State) (c : Nat) (x : Ctx) : (s.setCtx c x).res = s.res := rfl
@[simp] theorem setCtx_gens (s : State) (c : Nat) (x : Ctx) : (s.setCtx c x).gens = s.gens := rfl
@[simp] theorem setCtx_rb (s : State) (c : Nat) (x : Ctx) : (s.setCtx c x).rb = s.rb := rfl
@[simp] theorem setCtx_rings (s : State) (c : Nat) (x : Ctx) : (s.setCtx c x).rings = s.rings := rfl
@[simp] theorem setCtx_events (s : State) (c : Nat) (x : Ctx) : (s.setCtx c x).events = s.events := rfl
@[simp] theorem setCtx_tables (s : State) (c : Nat) (x : Ctx) : (s.setCtx c x).tables = s.tables := rfl
@[simp] theorem setCtx_cores (s : State) (c : Nat) (x : Ctx) : (s.setCtx c x).cores = s.cores := rfl
@[simp] theorem setCtx_groups (s : State) (c : Nat) (x : Ctx) : (s.setCtx c x).groups = s.groups := rfl
@[simp] theorem setCtx_nextGroup (s : State) (c : Nat) (x : Ctx) : (s.setCtx c x).nextGroup = s.nextGroup := rfl
@[simp] theorem setCtx_seqs (s : State) (c : Nat) (x : Ctx) : (s.setCtx c x).seqs = s.seqs := rfl
@[simp] theorem setCtx_seqSecs (s : State) (c : Nat) (x : Ctx) : (s.setCtx c x).seqSecs = s.seqSecs := rfl
@[simp] theorem setCtx_env (s : State) (c : Nat) (x : Ctx) : (s.setCtx c x).env = s.env := rfl
@[simp] theorem setCtx_pci (s : State) (c : Nat) (x : Ctx) : (s.setCtx c x).pci = s.pci := rfl
@[simp] theorem setCtx_ctr (s : State) (c : Nat) (x : Ctx) : (s.setCtx c x).ctr = s.ctr := rfl
@[simp] theorem setCtx_shadow (s : State) (c : Nat) (x : Ctx) : (s.setCtx c x).shadow = s.shadow := rfl
@[simp] theorem setCtx_log (s : State) (c : Nat) (x : Ctx) : (s.setCtx c x).log = s.log := rfl
@[simp] theorem setCtx_logSeq (s : State) (c : Nat) (x : Ctx) : (s.setCtx c x).logSeq = s.logSeq := rfl
@[simp] theorem setCtx_resets (s : State) (c : Nat) (x : Ctx) : (s.setCtx c x).resets = s.resets := rfl
@[simp] theorem setCtx_sm (s : State) (c : Nat) (x : Ctx) : (s.setCtx c x).sm = s.sm := rfl
@[simp] theorem setCtx_ls (s : State) (c : Nat) (x : Ctx) : (s.setCtx c x).ls = s.ls := rfl
@[simp] theorem setCtx_clm (s : State) (c : Nat) (x : Ctx) : (s.setCtx c x).clm = s.clm := rfl
@[simp] theorem setCtx_smChk (s : State) (c : Nat) (x : Ctx) : (s.setCtx c x).smChk = s.smChk := rfl
@[simp] theorem setCtx_lsChk (s : State) (c : Nat) (x : Ctx) : (s.setCtx c x).lsChk = s.lsChk := rfl
@[simp] theorem setCtx_clmChk (s : State) (c : Nat) (x : Ctx) : (s.setCtx c x).clmChk = s.clmChk := rfl
@[simp] theorem setCtx_binaries (s : State) (c : Nat) (x : Ctx) : (s.setCtx c x).binaries = s.binaries := rfl
@[simp] theorem setCtx_xl (s : State) (c : Nat) (x : Ctx) : (s.setCtx c x).xl = s.xl := rfl
@[simp] theorem setCtx_mem (s : State) (c : Nat) (x : Ctx) : (s.setCtx c x).mem = s.mem := rfl
@[simp] theorem setCtx_chn (s : State) (c : Nat) (x : Ctx) : (s.setCtx c x).chn = s.chn := rfl
@[simp] theorem setCtx_tnd (s : State) (c : Nat) (x : Ctx) : (s.setCtx c x).tnd = s.tnd := rfl
@[simp] theorem setCtx_dmk (s : State) (c : Nat) (x : Ctx) : (s.setCtx c x).dmk = s.dmk := rfl
@[simp] theorem setCtx_frz (s : State) (c : Nat) (x : Ctx) : (s.setCtx c x).frz = s.frz := rfl
@[simp] theorem setCtx_kpr (s : State) (c : Nat) (x : Ctx) : (s.setCtx c x).kpr = s.kpr := rfl
@[simp] theorem setCtx_hng (s : State) (c : Nat) (x : Ctx) : (s.setCtx c x).hng = s.hng := rfl
@[simp] theorem setCtx_pins (s : State) (c : Nat) (x : Ctx) : (s.setCtx c x).pins = s.pins := rfl

/-! ### State.setEvent -/

@[simp] theorem setEvent_same (s : State) (e : Nat) (x : Event) : (s.setEvent e x).event e = x := tget_tput_same _ _ _ _
theorem setEvent_other (s : State) (e : Nat) (x : Event) (j : Nat) (h : j ≠ e) : (s.setEvent e x).event j = s.event j :=
  tget_tput_other _ _ _ _ _ _ h
@[simp] theorem setEvent_pending (s : State) (e : Nat) (x : Event) : (s.setEvent e x).pending = s.pending := rfl
@[simp] theorem setEvent_regs (s : State) (e : Nat) (x : Event) : (s.setEvent e x).regs = s.regs := rfl
@[simp] theorem setEvent_free (s : State) (e : Nat) (x : Event) : (s.setEvent e x).free = s.free := rfl
@[simp] theorem setEvent_out (s : State) (e : Nat) (x : Event) : (s.setEvent e x).out = s.out := rfl
@[simp] theorem setEvent_flash (s : State) (e : Nat) (x : Event) : (s.setEvent e x).flash = s.flash := rfl
@[simp] theorem setEvent_sat (s : State) (e : Nat) (x : Event) : (s.setEvent e x).sat = s.sat := rfl
@[simp] theorem setEvent_ll (s : State) (e : Nat) (x : Event) : (s.setEvent e x).ll = s.ll := rfl
@[simp] theorem setEvent_sectors (s : State) (e : Nat) (x : Event) : (s.setEvent e x).sectors = s.sectors := rfl
@[simp] theorem setEvent_res (s : State) (e : Nat) (x : Event) : (s.setEvent e x).res = s.res := rfl
@[simp] theorem setEvent_gens (s : State) (e : Nat) (x : Event) : (s.setEvent e x).gens = s.gens := rfl
@[simp] theorem setEvent_rb (s : State) (e : Nat) (x : Event) : (s.setEvent e x).rb = s.rb := rfl
@[simp] theorem setEvent_rings (s : State) (e : Nat) (x : Event) : (s.setEvent e x).rings = s.rings := rfl
@[simp] theorem setEvent_ctxs (s : State) (e : Nat) (x : Event) : (s.setEvent e x).ctxs = s.ctxs := rfl
@[simp] theorem setEvent_tables (s : State) (e : Nat) (x : Event) : (s.setEvent e x).tables = s.tables := rfl
@[simp] theorem setEvent_cores (s : State) (e : Nat) (x : Event) : (s.setEvent e x).cores = s.cores := rfl
@[simp] theorem setEvent_groups (s : State) (e : Nat) (x : Event) : (s.setEvent e x).groups = s.groups := rfl
@[simp] theorem setEvent_nextGroup (s : State) (e : Nat) (x : Event) : (s.setEvent e x).nextGroup = s.nextGroup := rfl
@[simp] theorem setEvent_seqs (s : State) (e : Nat) (x : Event) : (s.setEvent e x).seqs = s.seqs := rfl
@[simp] theorem setEvent_seqSecs (s : State) (e : Nat) (x : Event) : (s.setEvent e x).seqSecs = s.seqSecs := rfl
@[simp] theorem setEvent_env (s : State) (e : Nat) (x : Event) : (s.setEvent e x).env = s.env := rfl
@[simp] theorem setEvent_pci (s : State) (e : Nat) (x : Event) : (s.setEvent e x).pci = s.pci := rfl
@[simp] theorem setEvent_ctr (s : State) (e : Nat) (x : Event) : (s.setEvent e x).ctr = s.ctr := rfl
@[simp] theorem setEvent_shadow (s : State) (e : Nat) (x : Event) : (s.setEvent e x).shadow = s.shadow := rfl
@[simp] theorem setEvent_log (s : State) (e : Nat) (x : Event) : (s.setEvent e x).log = s.log := rfl
@[simp] theorem setEvent_logSeq (s : State) (e : Nat) (x : Event) : (s.setEvent e x).logSeq = s.logSeq := rfl
@[simp] theorem setEvent_resets (s : State) (e : Nat) (x : Event) : (s.setEvent e x).resets = s.resets := rfl
@[simp] theorem setEvent_sm (s : State) (e : Nat) (x : Event) : (s.setEvent e x).sm = s.sm := rfl
@[simp] theorem setEvent_ls (s : State) (e : Nat) (x : Event) : (s.setEvent e x).ls = s.ls := rfl
@[simp] theorem setEvent_clm (s : State) (e : Nat) (x : Event) : (s.setEvent e x).clm = s.clm := rfl
@[simp] theorem setEvent_smChk (s : State) (e : Nat) (x : Event) : (s.setEvent e x).smChk = s.smChk := rfl
@[simp] theorem setEvent_lsChk (s : State) (e : Nat) (x : Event) : (s.setEvent e x).lsChk = s.lsChk := rfl
@[simp] theorem setEvent_clmChk (s : State) (e : Nat) (x : Event) : (s.setEvent e x).clmChk = s.clmChk := rfl
@[simp] theorem setEvent_binaries (s : State) (e : Nat) (x : Event) : (s.setEvent e x).binaries = s.binaries := rfl
@[simp] theorem setEvent_xl (s : State) (e : Nat) (x : Event) : (s.setEvent e x).xl = s.xl := rfl
@[simp] theorem setEvent_mem (s : State) (e : Nat) (x : Event) : (s.setEvent e x).mem = s.mem := rfl
@[simp] theorem setEvent_chn (s : State) (e : Nat) (x : Event) : (s.setEvent e x).chn = s.chn := rfl
@[simp] theorem setEvent_tnd (s : State) (e : Nat) (x : Event) : (s.setEvent e x).tnd = s.tnd := rfl
@[simp] theorem setEvent_dmk (s : State) (e : Nat) (x : Event) : (s.setEvent e x).dmk = s.dmk := rfl
@[simp] theorem setEvent_frz (s : State) (e : Nat) (x : Event) : (s.setEvent e x).frz = s.frz := rfl
@[simp] theorem setEvent_kpr (s : State) (e : Nat) (x : Event) : (s.setEvent e x).kpr = s.kpr := rfl
@[simp] theorem setEvent_hng (s : State) (e : Nat) (x : Event) : (s.setEvent e x).hng = s.hng := rfl
@[simp] theorem setEvent_pins (s : State) (e : Nat) (x : Event) : (s.setEvent e x).pins = s.pins := rfl

/-! ### State.setSector -/

@[simp] theorem setSector_same (s : State) (n : Nat) (x : Sector) : (s.setSector n x).sector n = x := tget_tput_same _ _ _ _
theorem setSector_other (s : State) (n : Nat) (x : Sector) (j : Nat) (h : j ≠ n) : (s.setSector n x).sector j = s.sector j :=
  tget_tput_other _ _ _ _ _ _ h
@[simp] theorem setSector_pending (s : State) (n : Nat) (x : Sector) : (s.setSector n x).pending = s.pending := rfl
@[simp] theorem setSector_regs (s : State) (n : Nat) (x : Sector) : (s.setSector n x).regs = s.regs := rfl
@[simp] theorem setSector_free (s : State) (n : Nat) (x : Sector) : (s.setSector n x).free = s.free := rfl
@[simp] theorem setSector_out (s : State) (n : Nat) (x : Sector) : (s.setSector n x).out = s.out := rfl
@[simp] theorem setSector_flash (s : State) (n : Nat) (x : Sector) : (s.setSector n x).flash = s.flash := rfl
@[simp] theorem setSector_sat (s : State) (n : Nat) (x : Sector) : (s.setSector n x).sat = s.sat := rfl
@[simp] theorem setSector_ll (s : State) (n : Nat) (x : Sector) : (s.setSector n x).ll = s.ll := rfl
@[simp] theorem setSector_res (s : State) (n : Nat) (x : Sector) : (s.setSector n x).res = s.res := rfl
@[simp] theorem setSector_gens (s : State) (n : Nat) (x : Sector) : (s.setSector n x).gens = s.gens := rfl
@[simp] theorem setSector_rb (s : State) (n : Nat) (x : Sector) : (s.setSector n x).rb = s.rb := rfl
@[simp] theorem setSector_rings (s : State) (n : Nat) (x : Sector) : (s.setSector n x).rings = s.rings := rfl
@[simp] theorem setSector_ctxs (s : State) (n : Nat) (x : Sector) : (s.setSector n x).ctxs = s.ctxs := rfl
@[simp] theorem setSector_events (s : State) (n : Nat) (x : Sector) : (s.setSector n x).events = s.events := rfl
@[simp] theorem setSector_tables (s : State) (n : Nat) (x : Sector) : (s.setSector n x).tables = s.tables := rfl
@[simp] theorem setSector_cores (s : State) (n : Nat) (x : Sector) : (s.setSector n x).cores = s.cores := rfl
@[simp] theorem setSector_groups (s : State) (n : Nat) (x : Sector) : (s.setSector n x).groups = s.groups := rfl
@[simp] theorem setSector_nextGroup (s : State) (n : Nat) (x : Sector) : (s.setSector n x).nextGroup = s.nextGroup := rfl
@[simp] theorem setSector_seqs (s : State) (n : Nat) (x : Sector) : (s.setSector n x).seqs = s.seqs := rfl
@[simp] theorem setSector_seqSecs (s : State) (n : Nat) (x : Sector) : (s.setSector n x).seqSecs = s.seqSecs := rfl
@[simp] theorem setSector_env (s : State) (n : Nat) (x : Sector) : (s.setSector n x).env = s.env := rfl
@[simp] theorem setSector_pci (s : State) (n : Nat) (x : Sector) : (s.setSector n x).pci = s.pci := rfl
@[simp] theorem setSector_ctr (s : State) (n : Nat) (x : Sector) : (s.setSector n x).ctr = s.ctr := rfl
@[simp] theorem setSector_shadow (s : State) (n : Nat) (x : Sector) : (s.setSector n x).shadow = s.shadow := rfl
@[simp] theorem setSector_log (s : State) (n : Nat) (x : Sector) : (s.setSector n x).log = s.log := rfl
@[simp] theorem setSector_logSeq (s : State) (n : Nat) (x : Sector) : (s.setSector n x).logSeq = s.logSeq := rfl
@[simp] theorem setSector_resets (s : State) (n : Nat) (x : Sector) : (s.setSector n x).resets = s.resets := rfl
@[simp] theorem setSector_sm (s : State) (n : Nat) (x : Sector) : (s.setSector n x).sm = s.sm := rfl
@[simp] theorem setSector_ls (s : State) (n : Nat) (x : Sector) : (s.setSector n x).ls = s.ls := rfl
@[simp] theorem setSector_clm (s : State) (n : Nat) (x : Sector) : (s.setSector n x).clm = s.clm := rfl
@[simp] theorem setSector_smChk (s : State) (n : Nat) (x : Sector) : (s.setSector n x).smChk = s.smChk := rfl
@[simp] theorem setSector_lsChk (s : State) (n : Nat) (x : Sector) : (s.setSector n x).lsChk = s.lsChk := rfl
@[simp] theorem setSector_clmChk (s : State) (n : Nat) (x : Sector) : (s.setSector n x).clmChk = s.clmChk := rfl
@[simp] theorem setSector_binaries (s : State) (n : Nat) (x : Sector) : (s.setSector n x).binaries = s.binaries := rfl
@[simp] theorem setSector_xl (s : State) (n : Nat) (x : Sector) : (s.setSector n x).xl = s.xl := rfl
@[simp] theorem setSector_mem (s : State) (n : Nat) (x : Sector) : (s.setSector n x).mem = s.mem := rfl
@[simp] theorem setSector_chn (s : State) (n : Nat) (x : Sector) : (s.setSector n x).chn = s.chn := rfl
@[simp] theorem setSector_tnd (s : State) (n : Nat) (x : Sector) : (s.setSector n x).tnd = s.tnd := rfl
@[simp] theorem setSector_dmk (s : State) (n : Nat) (x : Sector) : (s.setSector n x).dmk = s.dmk := rfl
@[simp] theorem setSector_frz (s : State) (n : Nat) (x : Sector) : (s.setSector n x).frz = s.frz := rfl
@[simp] theorem setSector_kpr (s : State) (n : Nat) (x : Sector) : (s.setSector n x).kpr = s.kpr := rfl
@[simp] theorem setSector_hng (s : State) (n : Nat) (x : Sector) : (s.setSector n x).hng = s.hng := rfl
@[simp] theorem setSector_pins (s : State) (n : Nat) (x : Sector) : (s.setSector n x).pins = s.pins := rfl

/-! ### State.setCore -/

@[simp] theorem setCore_same (s : State) (c : Nat) (x : Core) : (s.setCore c x).core c = x := tget_tput_same _ _ _ _
theorem setCore_other (s : State) (c : Nat) (x : Core) (j : Nat) (h : j ≠ c) : (s.setCore c x).core j = s.core j :=
  tget_tput_other _ _ _ _ _ _ h
@[simp] theorem setCore_pending (s : State) (c : Nat) (x : Core) : (s.setCore c x).pending = s.pending := rfl
@[simp] theorem setCore_regs (s : State) (c : Nat) (x : Core) : (s.setCore c x).regs = s.regs := rfl
@[simp] theorem setCore_free (s : State) (c : Nat) (x : Core) : (s.setCore c x).free = s.free := rfl
@[simp] theorem setCore_out (s : State) (c : Nat) (x : Core) : (s.setCore c x).out = s.out := rfl
@[simp] theorem setCore_flash (s : State) (c : Nat) (x : Core) : (s.setCore c x).flash = s.flash := rfl
@[simp] theorem setCore_sat (s : State) (c : Nat) (x : Core) : (s.setCore c x).sat = s.sat := rfl
@[simp] theorem setCore_ll (s : State) (c : Nat) (x : Core) : (s.setCore c x).ll = s.ll := rfl
@[simp] theorem setCore_sectors (s : State) (c : Nat) (x : Core) : (s.setCore c x).sectors = s.sectors := rfl
@[simp] theorem setCore_res (s : State) (c : Nat) (x : Core) : (s.setCore c x).res = s.res := rfl
@[simp] theorem setCore_gens (s : State) (c : Nat) (x : Core) : (s.setCore c x).gens = s.gens := rfl
@[simp] theorem setCore_rb (s : State) (c : Nat) (x : Core) : (s.setCore c x).rb = s.rb := rfl
@[simp] theorem setCore_rings (s : State) (c : Nat) (x : Core) : (s.setCore c x).rings = s.rings := rfl
@[simp] theorem setCore_ctxs (s : State) (c : Nat) (x : Core) : (s.setCore c x).ctxs = s.ctxs := rfl
@[simp] theorem setCore_events (s : State) (c : Nat) (x : Core) : (s.setCore c x).events = s.events := rfl
@[simp] theorem setCore_tables (s : State) (c : Nat) (x : Core) : (s.setCore c x).tables = s.tables := rfl
@[simp] theorem setCore_groups (s : State) (c : Nat) (x : Core) : (s.setCore c x).groups = s.groups := rfl
@[simp] theorem setCore_nextGroup (s : State) (c : Nat) (x : Core) : (s.setCore c x).nextGroup = s.nextGroup := rfl
@[simp] theorem setCore_seqs (s : State) (c : Nat) (x : Core) : (s.setCore c x).seqs = s.seqs := rfl
@[simp] theorem setCore_seqSecs (s : State) (c : Nat) (x : Core) : (s.setCore c x).seqSecs = s.seqSecs := rfl
@[simp] theorem setCore_env (s : State) (c : Nat) (x : Core) : (s.setCore c x).env = s.env := rfl
@[simp] theorem setCore_pci (s : State) (c : Nat) (x : Core) : (s.setCore c x).pci = s.pci := rfl
@[simp] theorem setCore_ctr (s : State) (c : Nat) (x : Core) : (s.setCore c x).ctr = s.ctr := rfl
@[simp] theorem setCore_shadow (s : State) (c : Nat) (x : Core) : (s.setCore c x).shadow = s.shadow := rfl
@[simp] theorem setCore_log (s : State) (c : Nat) (x : Core) : (s.setCore c x).log = s.log := rfl
@[simp] theorem setCore_logSeq (s : State) (c : Nat) (x : Core) : (s.setCore c x).logSeq = s.logSeq := rfl
@[simp] theorem setCore_resets (s : State) (c : Nat) (x : Core) : (s.setCore c x).resets = s.resets := rfl
@[simp] theorem setCore_sm (s : State) (c : Nat) (x : Core) : (s.setCore c x).sm = s.sm := rfl
@[simp] theorem setCore_ls (s : State) (c : Nat) (x : Core) : (s.setCore c x).ls = s.ls := rfl
@[simp] theorem setCore_clm (s : State) (c : Nat) (x : Core) : (s.setCore c x).clm = s.clm := rfl
@[simp] theorem setCore_smChk (s : State) (c : Nat) (x : Core) : (s.setCore c x).smChk = s.smChk := rfl
@[simp] theorem setCore_lsChk (s : State) (c : Nat) (x : Core) : (s.setCore c x).lsChk = s.lsChk := rfl
@[simp] theorem setCore_clmChk (s : State) (c : Nat) (x : Core) : (s.setCore c x).clmChk = s.clmChk := rfl
@[simp] theorem setCore_binaries (s : State) (c : Nat) (x : Core) : (s.setCore c x).binaries = s.binaries := rfl
@[simp] theorem setCore_xl (s : State) (c : Nat) (x : Core) : (s.setCore c x).xl = s.xl := rfl
@[simp] theorem setCore_mem (s : State) (c : Nat) (x : Core) : (s.setCore c x).mem = s.mem := rfl
@[simp] theorem setCore_chn (s : State) (c : Nat) (x : Core) : (s.setCore c x).chn = s.chn := rfl
@[simp] theorem setCore_tnd (s : State) (c : Nat) (x : Core) : (s.setCore c x).tnd = s.tnd := rfl
@[simp] theorem setCore_dmk (s : State) (c : Nat) (x : Core) : (s.setCore c x).dmk = s.dmk := rfl
@[simp] theorem setCore_frz (s : State) (c : Nat) (x : Core) : (s.setCore c x).frz = s.frz := rfl
@[simp] theorem setCore_kpr (s : State) (c : Nat) (x : Core) : (s.setCore c x).kpr = s.kpr := rfl
@[simp] theorem setCore_hng (s : State) (c : Nat) (x : Core) : (s.setCore c x).hng = s.hng := rfl
@[simp] theorem setCore_pins (s : State) (c : Nat) (x : Core) : (s.setCore c x).pins = s.pins := rfl

/-! ### State.setGroup -/

@[simp] theorem setGroup_same (s : State) (g : Nat) (x : Option Group) : (s.setGroup g x).group g = x := tget_tput_same _ _ _ _
theorem setGroup_other (s : State) (g : Nat) (x : Option Group) (j : Nat) (h : j ≠ g) : (s.setGroup g x).group j = s.group j :=
  tget_tput_other _ _ _ _ _ _ h
@[simp] theorem setGroup_pending (s : State) (g : Nat) (x : Option Group) : (s.setGroup g x).pending = s.pending := rfl
@[simp] theorem setGroup_regs (s : State) (g : Nat) (x : Option Group) : (s.setGroup g x).regs = s.regs := rfl
@[simp] theorem setGroup_free (s : State) (g : Nat) (x : Option Group) : (s.setGroup g x).free = s.free := rfl
@[simp] theorem setGroup_out (s : State) (g : Nat) (x : Option Group) : (s.setGroup g x).out = s.out := rfl
@[simp] theorem setGroup_flash (s : State) (g : Nat) (x : Option Group) : (s.setGroup g x).flash = s.flash := rfl
@[simp] theorem setGroup_sat (s : State) (g : Nat) (x : Option Group) : (s.setGroup g x).sat = s.sat := rfl
@[simp] theorem setGroup_ll (s : State) (g : Nat) (x : Option Group) : (s.setGroup g x).ll = s.ll := rfl
@[simp] theorem setGroup_sectors (s : State) (g : Nat) (x : Option Group) : (s.setGroup g x).sectors = s.sectors := rfl
@[simp] theorem setGroup_res (s : State) (g : Nat) (x : Option Group) : (s.setGroup g x).res = s.res := rfl
@[simp] theorem setGroup_gens (s : State) (g : Nat) (x : Option Group) : (s.setGroup g x).gens = s.gens := rfl
@[simp] theorem setGroup_rb (s : State) (g : Nat) (x : Option Group) : (s.setGroup g x).rb = s.rb := rfl
@[simp] theorem setGroup_rings (s : State) (g : Nat) (x : Option Group) : (s.setGroup g x).rings = s.rings := rfl
@[simp] theorem setGroup_ctxs (s : State) (g : Nat) (x : Option Group) : (s.setGroup g x).ctxs = s.ctxs := rfl
@[simp] theorem setGroup_events (s : State) (g : Nat) (x : Option Group) : (s.setGroup g x).events = s.events := rfl
@[simp] theorem setGroup_tables (s : State) (g : Nat) (x : Option Group) : (s.setGroup g x).tables = s.tables := rfl
@[simp] theorem setGroup_cores (s : State) (g : Nat) (x : Option Group) : (s.setGroup g x).cores = s.cores := rfl
@[simp] theorem setGroup_nextGroup (s : State) (g : Nat) (x : Option Group) : (s.setGroup g x).nextGroup = s.nextGroup := rfl
@[simp] theorem setGroup_seqs (s : State) (g : Nat) (x : Option Group) : (s.setGroup g x).seqs = s.seqs := rfl
@[simp] theorem setGroup_seqSecs (s : State) (g : Nat) (x : Option Group) : (s.setGroup g x).seqSecs = s.seqSecs := rfl
@[simp] theorem setGroup_env (s : State) (g : Nat) (x : Option Group) : (s.setGroup g x).env = s.env := rfl
@[simp] theorem setGroup_pci (s : State) (g : Nat) (x : Option Group) : (s.setGroup g x).pci = s.pci := rfl
@[simp] theorem setGroup_ctr (s : State) (g : Nat) (x : Option Group) : (s.setGroup g x).ctr = s.ctr := rfl
@[simp] theorem setGroup_shadow (s : State) (g : Nat) (x : Option Group) : (s.setGroup g x).shadow = s.shadow := rfl
@[simp] theorem setGroup_log (s : State) (g : Nat) (x : Option Group) : (s.setGroup g x).log = s.log := rfl
@[simp] theorem setGroup_logSeq (s : State) (g : Nat) (x : Option Group) : (s.setGroup g x).logSeq = s.logSeq := rfl
@[simp] theorem setGroup_resets (s : State) (g : Nat) (x : Option Group) : (s.setGroup g x).resets = s.resets := rfl
@[simp] theorem setGroup_sm (s : State) (g : Nat) (x : Option Group) : (s.setGroup g x).sm = s.sm := rfl
@[simp] theorem setGroup_ls (s : State) (g : Nat) (x : Option Group) : (s.setGroup g x).ls = s.ls := rfl
@[simp] theorem setGroup_clm (s : State) (g : Nat) (x : Option Group) : (s.setGroup g x).clm = s.clm := rfl
@[simp] theorem setGroup_smChk (s : State) (g : Nat) (x : Option Group) : (s.setGroup g x).smChk = s.smChk := rfl
@[simp] theorem setGroup_lsChk (s : State) (g : Nat) (x : Option Group) : (s.setGroup g x).lsChk = s.lsChk := rfl
@[simp] theorem setGroup_clmChk (s : State) (g : Nat) (x : Option Group) : (s.setGroup g x).clmChk = s.clmChk := rfl
@[simp] theorem setGroup_binaries (s : State) (g : Nat) (x : Option Group) : (s.setGroup g x).binaries = s.binaries := rfl
@[simp] theorem setGroup_xl (s : State) (g : Nat) (x : Option Group) : (s.setGroup g x).xl = s.xl := rfl
@[simp] theorem setGroup_mem (s : State) (g : Nat) (x : Option Group) : (s.setGroup g x).mem = s.mem := rfl
@[simp] theorem setGroup_chn (s : State) (g : Nat) (x : Option Group) : (s.setGroup g x).chn = s.chn := rfl
@[simp] theorem setGroup_tnd (s : State) (g : Nat) (x : Option Group) : (s.setGroup g x).tnd = s.tnd := rfl
@[simp] theorem setGroup_dmk (s : State) (g : Nat) (x : Option Group) : (s.setGroup g x).dmk = s.dmk := rfl
@[simp] theorem setGroup_frz (s : State) (g : Nat) (x : Option Group) : (s.setGroup g x).frz = s.frz := rfl
@[simp] theorem setGroup_kpr (s : State) (g : Nat) (x : Option Group) : (s.setGroup g x).kpr = s.kpr := rfl
@[simp] theorem setGroup_hng (s : State) (g : Nat) (x : Option Group) : (s.setGroup g x).hng = s.hng := rfl
@[simp] theorem setGroup_pins (s : State) (g : Nat) (x : Option Group) : (s.setGroup g x).pins = s.pins := rfl

/-! ### State.setSeq -/

@[simp] theorem setSeq_same (s : State) (n : Nat) (x : Seq) : (s.setSeq n x).seq n = x := tget_tput_same _ _ _ _
theorem setSeq_other (s : State) (n : Nat) (x : Seq) (j : Nat) (h : j ≠ n) : (s.setSeq n x).seq j = s.seq j :=
  tget_tput_other _ _ _ _ _ _ h
@[simp] theorem setSeq_pending (s : State) (n : Nat) (x : Seq) : (s.setSeq n x).pending = s.pending := rfl
@[simp] theorem setSeq_regs (s : State) (n : Nat) (x : Seq) : (s.setSeq n x).regs = s.regs := rfl
@[simp] theorem setSeq_free (s : State) (n : Nat) (x : Seq) : (s.setSeq n x).free = s.free := rfl
@[simp] theorem setSeq_out (s : State) (n : Nat) (x : Seq) : (s.setSeq n x).out = s.out := rfl
@[simp] theorem setSeq_flash (s : State) (n : Nat) (x : Seq) : (s.setSeq n x).flash = s.flash := rfl
@[simp] theorem setSeq_sat (s : State) (n : Nat) (x : Seq) : (s.setSeq n x).sat = s.sat := rfl
@[simp] theorem setSeq_ll (s : State) (n : Nat) (x : Seq) : (s.setSeq n x).ll = s.ll := rfl
@[simp] theorem setSeq_sectors (s : State) (n : Nat) (x : Seq) : (s.setSeq n x).sectors = s.sectors := rfl
@[simp] theorem setSeq_res (s : State) (n : Nat) (x : Seq) : (s.setSeq n x).res = s.res := rfl
@[simp] theorem setSeq_gens (s : State) (n : Nat) (x : Seq) : (s.setSeq n x).gens = s.gens := rfl
@[simp] theorem setSeq_rb (s : State) (n : Nat) (x : Seq) : (s.setSeq n x).rb = s.rb := rfl
@[simp] theorem setSeq_rings (s : State) (n : Nat) (x : Seq) : (s.setSeq n x).rings = s.rings := rfl
@[simp] theorem setSeq_ctxs (s : State) (n : Nat) (x : Seq) : (s.setSeq n x).ctxs = s.ctxs := rfl
@[simp] theorem setSeq_events (s : State) (n : Nat) (x : Seq) : (s.setSeq n x).events = s.events := rfl
@[simp] theorem setSeq_tables (s : State) (n : Nat) (x : Seq) : (s.setSeq n x).tables = s.tables := rfl
@[simp] theorem setSeq_cores (s : State) (n : Nat) (x : Seq) : (s.setSeq n x).cores = s.cores := rfl
@[simp] theorem setSeq_groups (s : State) (n : Nat) (x : Seq) : (s.setSeq n x).groups = s.groups := rfl
@[simp] theorem setSeq_nextGroup (s : State) (n : Nat) (x : Seq) : (s.setSeq n x).nextGroup = s.nextGroup := rfl
@[simp] theorem setSeq_seqSecs (s : State) (n : Nat) (x : Seq) : (s.setSeq n x).seqSecs = s.seqSecs := rfl
@[simp] theorem setSeq_env (s : State) (n : Nat) (x : Seq) : (s.setSeq n x).env = s.env := rfl
@[simp] theorem setSeq_pci (s : State) (n : Nat) (x : Seq) : (s.setSeq n x).pci = s.pci := rfl
@[simp] theorem setSeq_ctr (s : State) (n : Nat) (x : Seq) : (s.setSeq n x).ctr = s.ctr := rfl
@[simp] theorem setSeq_shadow (s : State) (n : Nat) (x : Seq) : (s.setSeq n x).shadow = s.shadow := rfl
@[simp] theorem setSeq_log (s : State) (n : Nat) (x : Seq) : (s.setSeq n x).log = s.log := rfl
@[simp] theorem setSeq_logSeq (s : State) (n : Nat) (x : Seq) : (s.setSeq n x).logSeq = s.logSeq := rfl
@[simp] theorem setSeq_resets (s : State) (n : Nat) (x : Seq) : (s.setSeq n x).resets = s.resets := rfl
@[simp] theorem setSeq_sm (s : State) (n : Nat) (x : Seq) : (s.setSeq n x).sm = s.sm := rfl
@[simp] theorem setSeq_ls (s : State) (n : Nat) (x : Seq) : (s.setSeq n x).ls = s.ls := rfl
@[simp] theorem setSeq_clm (s : State) (n : Nat) (x : Seq) : (s.setSeq n x).clm = s.clm := rfl
@[simp] theorem setSeq_smChk (s : State) (n : Nat) (x : Seq) : (s.setSeq n x).smChk = s.smChk := rfl
@[simp] theorem setSeq_lsChk (s : State) (n : Nat) (x : Seq) : (s.setSeq n x).lsChk = s.lsChk := rfl
@[simp] theorem setSeq_clmChk (s : State) (n : Nat) (x : Seq) : (s.setSeq n x).clmChk = s.clmChk := rfl
@[simp] theorem setSeq_binaries (s : State) (n : Nat) (x : Seq) : (s.setSeq n x).binaries = s.binaries := rfl
@[simp] theorem setSeq_xl (s : State) (n : Nat) (x : Seq) : (s.setSeq n x).xl = s.xl := rfl
@[simp] theorem setSeq_mem (s : State) (n : Nat) (x : Seq) : (s.setSeq n x).mem = s.mem := rfl
@[simp] theorem setSeq_chn (s : State) (n : Nat) (x : Seq) : (s.setSeq n x).chn = s.chn := rfl
@[simp] theorem setSeq_tnd (s : State) (n : Nat) (x : Seq) : (s.setSeq n x).tnd = s.tnd := rfl
@[simp] theorem setSeq_dmk (s : State) (n : Nat) (x : Seq) : (s.setSeq n x).dmk = s.dmk := rfl
@[simp] theorem setSeq_frz (s : State) (n : Nat) (x : Seq) : (s.setSeq n x).frz = s.frz := rfl
@[simp] theorem setSeq_kpr (s : State) (n : Nat) (x : Seq) : (s.setSeq n x).kpr = s.kpr := rfl
@[simp] theorem setSeq_hng (s : State) (n : Nat) (x : Seq) : (s.setSeq n x).hng = s.hng := rfl
@[simp] theorem setSeq_pins (s : State) (n : Nat) (x : Seq) : (s.setSeq n x).pins = s.pins := rfl

/-! ### State.setSeqSec -/

@[simp] theorem setSeqSec_same (s : State) (n : Nat) (x : SeqSec) : (s.setSeqSec n x).seqSec n = x := tget_tput_same _ _ _ _
theorem setSeqSec_other (s : State) (n : Nat) (x : SeqSec) (j : Nat) (h : j ≠ n) : (s.setSeqSec n x).seqSec j = s.seqSec j :=
  tget_tput_other _ _ _ _ _ _ h
@[simp] theorem setSeqSec_pending (s : State) (n : Nat) (x : SeqSec) : (s.setSeqSec n x).pending = s.pending := rfl
@[simp] theorem setSeqSec_regs (s : State) (n : Nat) (x : SeqSec) : (s.setSeqSec n x).regs = s.regs := rfl
@[simp] theorem setSeqSec_free (s : State) (n : Nat) (x : SeqSec) : (s.setSeqSec n x).free = s.free := rfl
@[simp] theorem setSeqSec_out (s : State) (n : Nat) (x : SeqSec) : (s.setSeqSec n x).out = s.out := rfl
@[simp] theorem setSeqSec_flash (s : State) (n : Nat) (x : SeqSec) : (s.setSeqSec n x).flash = s.flash := rfl
@[simp] theorem setSeqSec_sat (s : State) (n : Nat) (x : SeqSec) : (s.setSeqSec n x).sat = s.sat := rfl
@[simp] theorem setSeqSec_ll (s : State) (n : Nat) (x : SeqSec) : (s.setSeqSec n x).ll = s.ll := rfl
@[simp] theorem setSeqSec_sectors (s : State) (n : Nat) (x : SeqSec) : (s.setSeqSec n x).sectors = s.sectors := rfl
@[simp] theorem setSeqSec_res (s : State) (n : Nat) (x : SeqSec) : (s.setSeqSec n x).res = s.res := rfl
@[simp] theorem setSeqSec_gens (s : State) (n : Nat) (x : SeqSec) : (s.setSeqSec n x).gens = s.gens := rfl
@[simp] theorem setSeqSec_rb (s : State) (n : Nat) (x : SeqSec) : (s.setSeqSec n x).rb = s.rb := rfl
@[simp] theorem setSeqSec_rings (s : State) (n : Nat) (x : SeqSec) : (s.setSeqSec n x).rings = s.rings := rfl
@[simp] theorem setSeqSec_ctxs (s : State) (n : Nat) (x : SeqSec) : (s.setSeqSec n x).ctxs = s.ctxs := rfl
@[simp] theorem setSeqSec_events (s : State) (n : Nat) (x : SeqSec) : (s.setSeqSec n x).events = s.events := rfl
@[simp] theorem setSeqSec_tables (s : State) (n : Nat) (x : SeqSec) : (s.setSeqSec n x).tables = s.tables := rfl
@[simp] theorem setSeqSec_cores (s : State) (n : Nat) (x : SeqSec) : (s.setSeqSec n x).cores = s.cores := rfl
@[simp] theorem setSeqSec_groups (s : State) (n : Nat) (x : SeqSec) : (s.setSeqSec n x).groups = s.groups := rfl
@[simp] theorem setSeqSec_nextGroup (s : State) (n : Nat) (x : SeqSec) : (s.setSeqSec n x).nextGroup = s.nextGroup := rfl
@[simp] theorem setSeqSec_seqs (s : State) (n : Nat) (x : SeqSec) : (s.setSeqSec n x).seqs = s.seqs := rfl
@[simp] theorem setSeqSec_env (s : State) (n : Nat) (x : SeqSec) : (s.setSeqSec n x).env = s.env := rfl
@[simp] theorem setSeqSec_pci (s : State) (n : Nat) (x : SeqSec) : (s.setSeqSec n x).pci = s.pci := rfl
@[simp] theorem setSeqSec_ctr (s : State) (n : Nat) (x : SeqSec) : (s.setSeqSec n x).ctr = s.ctr := rfl
@[simp] theorem setSeqSec_shadow (s : State) (n : Nat) (x : SeqSec) : (s.setSeqSec n x).shadow = s.shadow := rfl
@[simp] theorem setSeqSec_log (s : State) (n : Nat) (x : SeqSec) : (s.setSeqSec n x).log = s.log := rfl
@[simp] theorem setSeqSec_logSeq (s : State) (n : Nat) (x : SeqSec) : (s.setSeqSec n x).logSeq = s.logSeq := rfl
@[simp] theorem setSeqSec_resets (s : State) (n : Nat) (x : SeqSec) : (s.setSeqSec n x).resets = s.resets := rfl
@[simp] theorem setSeqSec_sm (s : State) (n : Nat) (x : SeqSec) : (s.setSeqSec n x).sm = s.sm := rfl
@[simp] theorem setSeqSec_ls (s : State) (n : Nat) (x : SeqSec) : (s.setSeqSec n x).ls = s.ls := rfl
@[simp] theorem setSeqSec_clm (s : State) (n : Nat) (x : SeqSec) : (s.setSeqSec n x).clm = s.clm := rfl
@[simp] theorem setSeqSec_smChk (s : State) (n : Nat) (x : SeqSec) : (s.setSeqSec n x).smChk = s.smChk := rfl
@[simp] theorem setSeqSec_lsChk (s : State) (n : Nat) (x : SeqSec) : (s.setSeqSec n x).lsChk = s.lsChk := rfl
@[simp] theorem setSeqSec_clmChk (s : State) (n : Nat) (x : SeqSec) : (s.setSeqSec n x).clmChk = s.clmChk := rfl
@[simp] theorem setSeqSec_binaries (s : State) (n : Nat) (x : SeqSec) : (s.setSeqSec n x).binaries = s.binaries := rfl
@[simp] theorem setSeqSec_xl (s : State) (n : Nat) (x : SeqSec) : (s.setSeqSec n x).xl = s.xl := rfl
@[simp] theorem setSeqSec_mem (s : State) (n : Nat) (x : SeqSec) : (s.setSeqSec n x).mem = s.mem := rfl
@[simp] theorem setSeqSec_chn (s : State) (n : Nat) (x : SeqSec) : (s.setSeqSec n x).chn = s.chn := rfl
@[simp] theorem setSeqSec_tnd (s : State) (n : Nat) (x : SeqSec) : (s.setSeqSec n x).tnd = s.tnd := rfl
@[simp] theorem setSeqSec_dmk (s : State) (n : Nat) (x : SeqSec) : (s.setSeqSec n x).dmk = s.dmk := rfl
@[simp] theorem setSeqSec_frz (s : State) (n : Nat) (x : SeqSec) : (s.setSeqSec n x).frz = s.frz := rfl
@[simp] theorem setSeqSec_kpr (s : State) (n : Nat) (x : SeqSec) : (s.setSeqSec n x).kpr = s.kpr := rfl
@[simp] theorem setSeqSec_hng (s : State) (n : Nat) (x : SeqSec) : (s.setSeqSec n x).hng = s.hng := rfl
@[simp] theorem setSeqSec_pins (s : State) (n : Nat) (x : SeqSec) : (s.setSeqSec n x).pins = s.pins := rfl

/-! ### State.setSat -/

@[simp] theorem setSat_same (s : State) (e : Nat) (x : Sat) : (s.setSat e x).satEntry e = x := tget_tput_same _ _ _ _
theorem setSat_other (s : State) (e : Nat) (x : Sat) (j : Nat) (h : j ≠ e) : (s.setSat e x).satEntry j = s.satEntry j :=
  tget_tput_other _ _ _ _ _ _ h
@[simp] theorem setSat_pending (s : State) (e : Nat) (x : Sat) : (s.setSat e x).pending = s.pending := rfl
@[simp] theorem setSat_regs (s : State) (e : Nat) (x : Sat) : (s.setSat e x).regs = s.regs := rfl
@[simp] theorem setSat_free (s : State) (e : Nat) (x : Sat) : (s.setSat e x).free = s.free := rfl
@[simp] theorem setSat_out (s : State) (e : Nat) (x : Sat) : (s.setSat e x).out = s.out := rfl
@[simp] theorem setSat_flash (s : State) (e : Nat) (x : Sat) : (s.setSat e x).flash = s.flash := rfl
@[simp] theorem setSat_ll (s : State) (e : Nat) (x : Sat) : (s.setSat e x).ll = s.ll := rfl
@[simp] theorem setSat_sectors (s : State) (e : Nat) (x : Sat) : (s.setSat e x).sectors = s.sectors := rfl
@[simp] theorem setSat_res (s : State) (e : Nat) (x : Sat) : (s.setSat e x).res = s.res := rfl
@[simp] theorem setSat_gens (s : State) (e : Nat) (x : Sat) : (s.setSat e x).gens = s.gens := rfl
@[simp] theorem setSat_rb (s : State) (e : Nat) (x : Sat) : (s.setSat e x).rb = s.rb := rfl
@[simp] theorem setSat_rings (s : State) (e : Nat) (x : Sat) : (s.setSat e x).rings = s.rings := rfl
@[simp] theorem setSat_ctxs (s : State) (e : Nat) (x : Sat) : (s.setSat e x).ctxs = s.ctxs := rfl
@[simp] theorem setSat_events (s : State) (e : Nat) (x : Sat) : (s.setSat e x).events = s.events := rfl
@[simp] theorem setSat_tables (s : State) (e : Nat) (x : Sat) : (s.setSat e x).tables = s.tables := rfl
@[simp] theorem setSat_cores (s : State) (e : Nat) (x : Sat) : (s.setSat e x).cores = s.cores := rfl
@[simp] theorem setSat_groups (s : State) (e : Nat) (x : Sat) : (s.setSat e x).groups = s.groups := rfl
@[simp] theorem setSat_nextGroup (s : State) (e : Nat) (x : Sat) : (s.setSat e x).nextGroup = s.nextGroup := rfl
@[simp] theorem setSat_seqs (s : State) (e : Nat) (x : Sat) : (s.setSat e x).seqs = s.seqs := rfl
@[simp] theorem setSat_seqSecs (s : State) (e : Nat) (x : Sat) : (s.setSat e x).seqSecs = s.seqSecs := rfl
@[simp] theorem setSat_env (s : State) (e : Nat) (x : Sat) : (s.setSat e x).env = s.env := rfl
@[simp] theorem setSat_pci (s : State) (e : Nat) (x : Sat) : (s.setSat e x).pci = s.pci := rfl
@[simp] theorem setSat_ctr (s : State) (e : Nat) (x : Sat) : (s.setSat e x).ctr = s.ctr := rfl
@[simp] theorem setSat_shadow (s : State) (e : Nat) (x : Sat) : (s.setSat e x).shadow = s.shadow := rfl
@[simp] theorem setSat_log (s : State) (e : Nat) (x : Sat) : (s.setSat e x).log = s.log := rfl
@[simp] theorem setSat_logSeq (s : State) (e : Nat) (x : Sat) : (s.setSat e x).logSeq = s.logSeq := rfl
@[simp] theorem setSat_resets (s : State) (e : Nat) (x : Sat) : (s.setSat e x).resets = s.resets := rfl
@[simp] theorem setSat_sm (s : State) (e : Nat) (x : Sat) : (s.setSat e x).sm = s.sm := rfl
@[simp] theorem setSat_ls (s : State) (e : Nat) (x : Sat) : (s.setSat e x).ls = s.ls := rfl
@[simp] theorem setSat_clm (s : State) (e : Nat) (x : Sat) : (s.setSat e x).clm = s.clm := rfl
@[simp] theorem setSat_smChk (s : State) (e : Nat) (x : Sat) : (s.setSat e x).smChk = s.smChk := rfl
@[simp] theorem setSat_lsChk (s : State) (e : Nat) (x : Sat) : (s.setSat e x).lsChk = s.lsChk := rfl
@[simp] theorem setSat_clmChk (s : State) (e : Nat) (x : Sat) : (s.setSat e x).clmChk = s.clmChk := rfl
@[simp] theorem setSat_binaries (s : State) (e : Nat) (x : Sat) : (s.setSat e x).binaries = s.binaries := rfl
@[simp] theorem setSat_xl (s : State) (e : Nat) (x : Sat) : (s.setSat e x).xl = s.xl := rfl
@[simp] theorem setSat_mem (s : State) (e : Nat) (x : Sat) : (s.setSat e x).mem = s.mem := rfl
@[simp] theorem setSat_chn (s : State) (e : Nat) (x : Sat) : (s.setSat e x).chn = s.chn := rfl
@[simp] theorem setSat_tnd (s : State) (e : Nat) (x : Sat) : (s.setSat e x).tnd = s.tnd := rfl
@[simp] theorem setSat_dmk (s : State) (e : Nat) (x : Sat) : (s.setSat e x).dmk = s.dmk := rfl
@[simp] theorem setSat_frz (s : State) (e : Nat) (x : Sat) : (s.setSat e x).frz = s.frz := rfl
@[simp] theorem setSat_kpr (s : State) (e : Nat) (x : Sat) : (s.setSat e x).kpr = s.kpr := rfl
@[simp] theorem setSat_hng (s : State) (e : Nat) (x : Sat) : (s.setSat e x).hng = s.hng := rfl
@[simp] theorem setSat_pins (s : State) (e : Nat) (x : Sat) : (s.setSat e x).pins = s.pins := rfl

/-! ### State.setRes -/

@[simp] theorem setRes_same (s : State) (r : Nat) (x : Res) : (s.setRes r x).resAt r = x := tget_tput_same _ _ _ _
theorem setRes_other (s : State) (r : Nat) (x : Res) (j : Nat) (h : j ≠ r) : (s.setRes r x).resAt j = s.resAt j :=
  tget_tput_other _ _ _ _ _ _ h
@[simp] theorem setRes_pending (s : State) (r : Nat) (x : Res) : (s.setRes r x).pending = s.pending := rfl
@[simp] theorem setRes_regs (s : State) (r : Nat) (x : Res) : (s.setRes r x).regs = s.regs := rfl
@[simp] theorem setRes_free (s : State) (r : Nat) (x : Res) : (s.setRes r x).free = s.free := rfl
@[simp] theorem setRes_out (s : State) (r : Nat) (x : Res) : (s.setRes r x).out = s.out := rfl
@[simp] theorem setRes_flash (s : State) (r : Nat) (x : Res) : (s.setRes r x).flash = s.flash := rfl
@[simp] theorem setRes_sat (s : State) (r : Nat) (x : Res) : (s.setRes r x).sat = s.sat := rfl
@[simp] theorem setRes_ll (s : State) (r : Nat) (x : Res) : (s.setRes r x).ll = s.ll := rfl
@[simp] theorem setRes_sectors (s : State) (r : Nat) (x : Res) : (s.setRes r x).sectors = s.sectors := rfl
@[simp] theorem setRes_gens (s : State) (r : Nat) (x : Res) : (s.setRes r x).gens = s.gens := rfl
@[simp] theorem setRes_rb (s : State) (r : Nat) (x : Res) : (s.setRes r x).rb = s.rb := rfl
@[simp] theorem setRes_rings (s : State) (r : Nat) (x : Res) : (s.setRes r x).rings = s.rings := rfl
@[simp] theorem setRes_ctxs (s : State) (r : Nat) (x : Res) : (s.setRes r x).ctxs = s.ctxs := rfl
@[simp] theorem setRes_events (s : State) (r : Nat) (x : Res) : (s.setRes r x).events = s.events := rfl
@[simp] theorem setRes_tables (s : State) (r : Nat) (x : Res) : (s.setRes r x).tables = s.tables := rfl
@[simp] theorem setRes_cores (s : State) (r : Nat) (x : Res) : (s.setRes r x).cores = s.cores := rfl
@[simp] theorem setRes_groups (s : State) (r : Nat) (x : Res) : (s.setRes r x).groups = s.groups := rfl
@[simp] theorem setRes_nextGroup (s : State) (r : Nat) (x : Res) : (s.setRes r x).nextGroup = s.nextGroup := rfl
@[simp] theorem setRes_seqs (s : State) (r : Nat) (x : Res) : (s.setRes r x).seqs = s.seqs := rfl
@[simp] theorem setRes_seqSecs (s : State) (r : Nat) (x : Res) : (s.setRes r x).seqSecs = s.seqSecs := rfl
@[simp] theorem setRes_env (s : State) (r : Nat) (x : Res) : (s.setRes r x).env = s.env := rfl
@[simp] theorem setRes_pci (s : State) (r : Nat) (x : Res) : (s.setRes r x).pci = s.pci := rfl
@[simp] theorem setRes_ctr (s : State) (r : Nat) (x : Res) : (s.setRes r x).ctr = s.ctr := rfl
@[simp] theorem setRes_shadow (s : State) (r : Nat) (x : Res) : (s.setRes r x).shadow = s.shadow := rfl
@[simp] theorem setRes_log (s : State) (r : Nat) (x : Res) : (s.setRes r x).log = s.log := rfl
@[simp] theorem setRes_logSeq (s : State) (r : Nat) (x : Res) : (s.setRes r x).logSeq = s.logSeq := rfl
@[simp] theorem setRes_resets (s : State) (r : Nat) (x : Res) : (s.setRes r x).resets = s.resets := rfl
@[simp] theorem setRes_sm (s : State) (r : Nat) (x : Res) : (s.setRes r x).sm = s.sm := rfl
@[simp] theorem setRes_ls (s : State) (r : Nat) (x : Res) : (s.setRes r x).ls = s.ls := rfl
@[simp] theorem setRes_clm (s : State) (r : Nat) (x : Res) : (s.setRes r x).clm = s.clm := rfl
@[simp] theorem setRes_smChk (s : State) (r : Nat) (x : Res) : (s.setRes r x).smChk = s.smChk := rfl
@[simp] theorem setRes_lsChk (s : State) (r : Nat) (x : Res) : (s.setRes r x).lsChk = s.lsChk := rfl
@[simp] theorem setRes_clmChk (s : State) (r : Nat) (x : Res) : (s.setRes r x).clmChk = s.clmChk := rfl
@[simp] theorem setRes_binaries (s : State) (r : Nat) (x : Res) : (s.setRes r x).binaries = s.binaries := rfl
@[simp] theorem setRes_xl (s : State) (r : Nat) (x : Res) : (s.setRes r x).xl = s.xl := rfl
@[simp] theorem setRes_mem (s : State) (r : Nat) (x : Res) : (s.setRes r x).mem = s.mem := rfl
@[simp] theorem setRes_chn (s : State) (r : Nat) (x : Res) : (s.setRes r x).chn = s.chn := rfl
@[simp] theorem setRes_tnd (s : State) (r : Nat) (x : Res) : (s.setRes r x).tnd = s.tnd := rfl
@[simp] theorem setRes_dmk (s : State) (r : Nat) (x : Res) : (s.setRes r x).dmk = s.dmk := rfl
@[simp] theorem setRes_frz (s : State) (r : Nat) (x : Res) : (s.setRes r x).frz = s.frz := rfl
@[simp] theorem setRes_kpr (s : State) (r : Nat) (x : Res) : (s.setRes r x).kpr = s.kpr := rfl
@[simp] theorem setRes_hng (s : State) (r : Nat) (x : Res) : (s.setRes r x).hng = s.hng := rfl
@[simp] theorem setRes_pins (s : State) (r : Nat) (x : Res) : (s.setRes r x).pins = s.pins := rfl

/-! ### State.setGen -/

@[simp] theorem setGen_same (s : State) (n : Nat) (x : Gens) : (s.setGen n x).gen n = x := tget_tput_same _ _ _ _
theorem setGen_other (s : State) (n : Nat) (x : Gens) (j : Nat) (h : j ≠ n) : (s.setGen n x).gen j = s.gen j :=
  tget_tput_other _ _ _ _ _ _ h
@[simp] theorem setGen_pending (s : State) (n : Nat) (x : Gens) : (s.setGen n x).pending = s.pending := rfl
@[simp] theorem setGen_regs (s : State) (n : Nat) (x : Gens) : (s.setGen n x).regs = s.regs := rfl
@[simp] theorem setGen_free (s : State) (n : Nat) (x : Gens) : (s.setGen n x).free = s.free := rfl
@[simp] theorem setGen_out (s : State) (n : Nat) (x : Gens) : (s.setGen n x).out = s.out := rfl
@[simp] theorem setGen_flash (s : State) (n : Nat) (x : Gens) : (s.setGen n x).flash = s.flash := rfl
@[simp] theorem setGen_sat (s : State) (n : Nat) (x : Gens) : (s.setGen n x).sat = s.sat := rfl
@[simp] theorem setGen_ll (s : State) (n : Nat) (x : Gens) : (s.setGen n x).ll = s.ll := rfl
@[simp] theorem setGen_sectors (s : State) (n : Nat) (x : Gens) : (s.setGen n x).sectors = s.sectors := rfl
@[simp] theorem setGen_res (s : State) (n : Nat) (x : Gens) : (s.setGen n x).res = s.res := rfl
@[simp] theorem setGen_rb (s : State) (n : Nat) (x : Gens) : (s.setGen n x).rb = s.rb := rfl
@[simp] theorem setGen_rings (s : State) (n : Nat) (x : Gens) : (s.setGen n x).rings = s.rings := rfl
@[simp] theorem setGen_ctxs (s : State) (n : Nat) (x : Gens) : (s.setGen n x).ctxs = s.ctxs := rfl
@[simp] theorem setGen_events (s : State) (n : Nat) (x : Gens) : (s.setGen n x).events = s.events := rfl
@[simp] theorem setGen_tables (s : State) (n : Nat) (x : Gens) : (s.setGen n x).tables = s.tables := rfl
@[simp] theorem setGen_cores (s : State) (n : Nat) (x : Gens) : (s.setGen n x).cores = s.cores := rfl
@[simp] theorem setGen_groups (s : State) (n : Nat) (x : Gens) : (s.setGen n x).groups = s.groups := rfl
@[simp] theorem setGen_nextGroup (s : State) (n : Nat) (x : Gens) : (s.setGen n x).nextGroup = s.nextGroup := rfl
@[simp] theorem setGen_seqs (s : State) (n : Nat) (x : Gens) : (s.setGen n x).seqs = s.seqs := rfl
@[simp] theorem setGen_seqSecs (s : State) (n : Nat) (x : Gens) : (s.setGen n x).seqSecs = s.seqSecs := rfl
@[simp] theorem setGen_env (s : State) (n : Nat) (x : Gens) : (s.setGen n x).env = s.env := rfl
@[simp] theorem setGen_pci (s : State) (n : Nat) (x : Gens) : (s.setGen n x).pci = s.pci := rfl
@[simp] theorem setGen_ctr (s : State) (n : Nat) (x : Gens) : (s.setGen n x).ctr = s.ctr := rfl
@[simp] theorem setGen_shadow (s : State) (n : Nat) (x : Gens) : (s.setGen n x).shadow = s.shadow := rfl
@[simp] theorem setGen_log (s : State) (n : Nat) (x : Gens) : (s.setGen n x).log = s.log := rfl
@[simp] theorem setGen_logSeq (s : State) (n : Nat) (x : Gens) : (s.setGen n x).logSeq = s.logSeq := rfl
@[simp] theorem setGen_resets (s : State) (n : Nat) (x : Gens) : (s.setGen n x).resets = s.resets := rfl
@[simp] theorem setGen_sm (s : State) (n : Nat) (x : Gens) : (s.setGen n x).sm = s.sm := rfl
@[simp] theorem setGen_ls (s : State) (n : Nat) (x : Gens) : (s.setGen n x).ls = s.ls := rfl
@[simp] theorem setGen_clm (s : State) (n : Nat) (x : Gens) : (s.setGen n x).clm = s.clm := rfl
@[simp] theorem setGen_smChk (s : State) (n : Nat) (x : Gens) : (s.setGen n x).smChk = s.smChk := rfl
@[simp] theorem setGen_lsChk (s : State) (n : Nat) (x : Gens) : (s.setGen n x).lsChk = s.lsChk := rfl
@[simp] theorem setGen_clmChk (s : State) (n : Nat) (x : Gens) : (s.setGen n x).clmChk = s.clmChk := rfl
@[simp] theorem setGen_binaries (s : State) (n : Nat) (x : Gens) : (s.setGen n x).binaries = s.binaries := rfl
@[simp] theorem setGen_xl (s : State) (n : Nat) (x : Gens) : (s.setGen n x).xl = s.xl := rfl
@[simp] theorem setGen_mem (s : State) (n : Nat) (x : Gens) : (s.setGen n x).mem = s.mem := rfl
@[simp] theorem setGen_chn (s : State) (n : Nat) (x : Gens) : (s.setGen n x).chn = s.chn := rfl
@[simp] theorem setGen_tnd (s : State) (n : Nat) (x : Gens) : (s.setGen n x).tnd = s.tnd := rfl
@[simp] theorem setGen_dmk (s : State) (n : Nat) (x : Gens) : (s.setGen n x).dmk = s.dmk := rfl
@[simp] theorem setGen_frz (s : State) (n : Nat) (x : Gens) : (s.setGen n x).frz = s.frz := rfl
@[simp] theorem setGen_kpr (s : State) (n : Nat) (x : Gens) : (s.setGen n x).kpr = s.kpr := rfl
@[simp] theorem setGen_hng (s : State) (n : Nat) (x : Gens) : (s.setGen n x).hng = s.hng := rfl
@[simp] theorem setGen_pins (s : State) (n : Nat) (x : Gens) : (s.setGen n x).pins = s.pins := rfl

/-! ### State.setSlot -/

@[simp] theorem setSlot_same (s : State) (k : Nat) (x : Slot) : (s.setSlot k x).slotAt k = x := tget_tput_same _ _ _ _
theorem setSlot_other (s : State) (k : Nat) (x : Slot) (j : Nat) (h : j ≠ k) : (s.setSlot k x).slotAt j = s.slotAt j :=
  tget_tput_other _ _ _ _ _ _ h
@[simp] theorem setSlot_pending (s : State) (k : Nat) (x : Slot) : (s.setSlot k x).pending = s.pending := rfl
@[simp] theorem setSlot_regs (s : State) (k : Nat) (x : Slot) : (s.setSlot k x).regs = s.regs := rfl
@[simp] theorem setSlot_free (s : State) (k : Nat) (x : Slot) : (s.setSlot k x).free = s.free := rfl
@[simp] theorem setSlot_out (s : State) (k : Nat) (x : Slot) : (s.setSlot k x).out = s.out := rfl
@[simp] theorem setSlot_flash (s : State) (k : Nat) (x : Slot) : (s.setSlot k x).flash = s.flash := rfl
@[simp] theorem setSlot_sat (s : State) (k : Nat) (x : Slot) : (s.setSlot k x).sat = s.sat := rfl
@[simp] theorem setSlot_sectors (s : State) (k : Nat) (x : Slot) : (s.setSlot k x).sectors = s.sectors := rfl
@[simp] theorem setSlot_res (s : State) (k : Nat) (x : Slot) : (s.setSlot k x).res = s.res := rfl
@[simp] theorem setSlot_gens (s : State) (k : Nat) (x : Slot) : (s.setSlot k x).gens = s.gens := rfl
@[simp] theorem setSlot_rb (s : State) (k : Nat) (x : Slot) : (s.setSlot k x).rb = s.rb := rfl
@[simp] theorem setSlot_rings (s : State) (k : Nat) (x : Slot) : (s.setSlot k x).rings = s.rings := rfl
@[simp] theorem setSlot_ctxs (s : State) (k : Nat) (x : Slot) : (s.setSlot k x).ctxs = s.ctxs := rfl
@[simp] theorem setSlot_events (s : State) (k : Nat) (x : Slot) : (s.setSlot k x).events = s.events := rfl
@[simp] theorem setSlot_tables (s : State) (k : Nat) (x : Slot) : (s.setSlot k x).tables = s.tables := rfl
@[simp] theorem setSlot_cores (s : State) (k : Nat) (x : Slot) : (s.setSlot k x).cores = s.cores := rfl
@[simp] theorem setSlot_groups (s : State) (k : Nat) (x : Slot) : (s.setSlot k x).groups = s.groups := rfl
@[simp] theorem setSlot_nextGroup (s : State) (k : Nat) (x : Slot) : (s.setSlot k x).nextGroup = s.nextGroup := rfl
@[simp] theorem setSlot_seqs (s : State) (k : Nat) (x : Slot) : (s.setSlot k x).seqs = s.seqs := rfl
@[simp] theorem setSlot_seqSecs (s : State) (k : Nat) (x : Slot) : (s.setSlot k x).seqSecs = s.seqSecs := rfl
@[simp] theorem setSlot_env (s : State) (k : Nat) (x : Slot) : (s.setSlot k x).env = s.env := rfl
@[simp] theorem setSlot_pci (s : State) (k : Nat) (x : Slot) : (s.setSlot k x).pci = s.pci := rfl
@[simp] theorem setSlot_ctr (s : State) (k : Nat) (x : Slot) : (s.setSlot k x).ctr = s.ctr := rfl
@[simp] theorem setSlot_shadow (s : State) (k : Nat) (x : Slot) : (s.setSlot k x).shadow = s.shadow := rfl
@[simp] theorem setSlot_log (s : State) (k : Nat) (x : Slot) : (s.setSlot k x).log = s.log := rfl
@[simp] theorem setSlot_logSeq (s : State) (k : Nat) (x : Slot) : (s.setSlot k x).logSeq = s.logSeq := rfl
@[simp] theorem setSlot_resets (s : State) (k : Nat) (x : Slot) : (s.setSlot k x).resets = s.resets := rfl
@[simp] theorem setSlot_sm (s : State) (k : Nat) (x : Slot) : (s.setSlot k x).sm = s.sm := rfl
@[simp] theorem setSlot_ls (s : State) (k : Nat) (x : Slot) : (s.setSlot k x).ls = s.ls := rfl
@[simp] theorem setSlot_clm (s : State) (k : Nat) (x : Slot) : (s.setSlot k x).clm = s.clm := rfl
@[simp] theorem setSlot_smChk (s : State) (k : Nat) (x : Slot) : (s.setSlot k x).smChk = s.smChk := rfl
@[simp] theorem setSlot_lsChk (s : State) (k : Nat) (x : Slot) : (s.setSlot k x).lsChk = s.lsChk := rfl
@[simp] theorem setSlot_clmChk (s : State) (k : Nat) (x : Slot) : (s.setSlot k x).clmChk = s.clmChk := rfl
@[simp] theorem setSlot_binaries (s : State) (k : Nat) (x : Slot) : (s.setSlot k x).binaries = s.binaries := rfl
@[simp] theorem setSlot_xl (s : State) (k : Nat) (x : Slot) : (s.setSlot k x).xl = s.xl := rfl
@[simp] theorem setSlot_mem (s : State) (k : Nat) (x : Slot) : (s.setSlot k x).mem = s.mem := rfl
@[simp] theorem setSlot_chn (s : State) (k : Nat) (x : Slot) : (s.setSlot k x).chn = s.chn := rfl
@[simp] theorem setSlot_tnd (s : State) (k : Nat) (x : Slot) : (s.setSlot k x).tnd = s.tnd := rfl
@[simp] theorem setSlot_dmk (s : State) (k : Nat) (x : Slot) : (s.setSlot k x).dmk = s.dmk := rfl
@[simp] theorem setSlot_frz (s : State) (k : Nat) (x : Slot) : (s.setSlot k x).frz = s.frz := rfl
@[simp] theorem setSlot_kpr (s : State) (k : Nat) (x : Slot) : (s.setSlot k x).kpr = s.kpr := rfl
@[simp] theorem setSlot_hng (s : State) (k : Nat) (x : Slot) : (s.setSlot k x).hng = s.hng := rfl
@[simp] theorem setSlot_pins (s : State) (k : Nat) (x : Slot) : (s.setSlot k x).pins = s.pins := rfl

/-! ### State.setWatch -/

@[simp] theorem setWatch_same (s : State) (k : Nat) (w : Watch) : (s.setWatch k w).watchAt k = w := tget_tput_same _ _ _ _
theorem setWatch_other (s : State) (k : Nat) (w : Watch) (j : Nat) (h : j ≠ k) : (s.setWatch k w).watchAt j = s.watchAt j :=
  tget_tput_other _ _ _ _ _ _ h
@[simp] theorem setWatch_pending (s : State) (k : Nat) (w : Watch) : (s.setWatch k w).pending = s.pending := rfl
@[simp] theorem setWatch_regs (s : State) (k : Nat) (w : Watch) : (s.setWatch k w).regs = s.regs := rfl
@[simp] theorem setWatch_free (s : State) (k : Nat) (w : Watch) : (s.setWatch k w).free = s.free := rfl
@[simp] theorem setWatch_out (s : State) (k : Nat) (w : Watch) : (s.setWatch k w).out = s.out := rfl
@[simp] theorem setWatch_flash (s : State) (k : Nat) (w : Watch) : (s.setWatch k w).flash = s.flash := rfl
@[simp] theorem setWatch_sat (s : State) (k : Nat) (w : Watch) : (s.setWatch k w).sat = s.sat := rfl
@[simp] theorem setWatch_ll (s : State) (k : Nat) (w : Watch) : (s.setWatch k w).ll = s.ll := rfl
@[simp] theorem setWatch_sectors (s : State) (k : Nat) (w : Watch) : (s.setWatch k w).sectors = s.sectors := rfl
@[simp] theorem setWatch_res (s : State) (k : Nat) (w : Watch) : (s.setWatch k w).res = s.res := rfl
@[simp] theorem setWatch_gens (s : State) (k : Nat) (w : Watch) : (s.setWatch k w).gens = s.gens := rfl
@[simp] theorem setWatch_rb (s : State) (k : Nat) (w : Watch) : (s.setWatch k w).rb = s.rb := rfl
@[simp] theorem setWatch_rings (s : State) (k : Nat) (w : Watch) : (s.setWatch k w).rings = s.rings := rfl
@[simp] theorem setWatch_ctxs (s : State) (k : Nat) (w : Watch) : (s.setWatch k w).ctxs = s.ctxs := rfl
@[simp] theorem setWatch_events (s : State) (k : Nat) (w : Watch) : (s.setWatch k w).events = s.events := rfl
@[simp] theorem setWatch_tables (s : State) (k : Nat) (w : Watch) : (s.setWatch k w).tables = s.tables := rfl
@[simp] theorem setWatch_cores (s : State) (k : Nat) (w : Watch) : (s.setWatch k w).cores = s.cores := rfl
@[simp] theorem setWatch_groups (s : State) (k : Nat) (w : Watch) : (s.setWatch k w).groups = s.groups := rfl
@[simp] theorem setWatch_nextGroup (s : State) (k : Nat) (w : Watch) : (s.setWatch k w).nextGroup = s.nextGroup := rfl
@[simp] theorem setWatch_seqs (s : State) (k : Nat) (w : Watch) : (s.setWatch k w).seqs = s.seqs := rfl
@[simp] theorem setWatch_seqSecs (s : State) (k : Nat) (w : Watch) : (s.setWatch k w).seqSecs = s.seqSecs := rfl
@[simp] theorem setWatch_env (s : State) (k : Nat) (w : Watch) : (s.setWatch k w).env = s.env := rfl
@[simp] theorem setWatch_pci (s : State) (k : Nat) (w : Watch) : (s.setWatch k w).pci = s.pci := rfl
@[simp] theorem setWatch_ctr (s : State) (k : Nat) (w : Watch) : (s.setWatch k w).ctr = s.ctr := rfl
@[simp] theorem setWatch_shadow (s : State) (k : Nat) (w : Watch) : (s.setWatch k w).shadow = s.shadow := rfl
@[simp] theorem setWatch_log (s : State) (k : Nat) (w : Watch) : (s.setWatch k w).log = s.log := rfl
@[simp] theorem setWatch_logSeq (s : State) (k : Nat) (w : Watch) : (s.setWatch k w).logSeq = s.logSeq := rfl
@[simp] theorem setWatch_resets (s : State) (k : Nat) (w : Watch) : (s.setWatch k w).resets = s.resets := rfl
@[simp] theorem setWatch_sm (s : State) (k : Nat) (w : Watch) : (s.setWatch k w).sm = s.sm := rfl
@[simp] theorem setWatch_ls (s : State) (k : Nat) (w : Watch) : (s.setWatch k w).ls = s.ls := rfl
@[simp] theorem setWatch_clm (s : State) (k : Nat) (w : Watch) : (s.setWatch k w).clm = s.clm := rfl
@[simp] theorem setWatch_smChk (s : State) (k : Nat) (w : Watch) : (s.setWatch k w).smChk = s.smChk := rfl
@[simp] theorem setWatch_lsChk (s : State) (k : Nat) (w : Watch) : (s.setWatch k w).lsChk = s.lsChk := rfl
@[simp] theorem setWatch_clmChk (s : State) (k : Nat) (w : Watch) : (s.setWatch k w).clmChk = s.clmChk := rfl
@[simp] theorem setWatch_binaries (s : State) (k : Nat) (w : Watch) : (s.setWatch k w).binaries = s.binaries := rfl
@[simp] theorem setWatch_xl (s : State) (k : Nat) (w : Watch) : (s.setWatch k w).xl = s.xl := rfl
@[simp] theorem setWatch_mem (s : State) (k : Nat) (w : Watch) : (s.setWatch k w).mem = s.mem := rfl
@[simp] theorem setWatch_chn (s : State) (k : Nat) (w : Watch) : (s.setWatch k w).chn = s.chn := rfl
@[simp] theorem setWatch_tnd (s : State) (k : Nat) (w : Watch) : (s.setWatch k w).tnd = s.tnd := rfl
@[simp] theorem setWatch_dmk (s : State) (k : Nat) (w : Watch) : (s.setWatch k w).dmk = s.dmk := rfl
@[simp] theorem setWatch_frz (s : State) (k : Nat) (w : Watch) : (s.setWatch k w).frz = s.frz := rfl
@[simp] theorem setWatch_kpr (s : State) (k : Nat) (w : Watch) : (s.setWatch k w).kpr = s.kpr := rfl
@[simp] theorem setWatch_pins (s : State) (k : Nat) (w : Watch) : (s.setWatch k w).pins = s.pins := rfl

/-! ### State.setFrz -/

@[simp] theorem setFrz_same (s : State) (n : Nat) (x : Frz) : (s.setFrz n x).frzAt n = x := tget_tput_same _ _ _ _
theorem setFrz_other (s : State) (n : Nat) (x : Frz) (j : Nat) (h : j ≠ n) : (s.setFrz n x).frzAt j = s.frzAt j :=
  tget_tput_other _ _ _ _ _ _ h
@[simp] theorem setFrz_pending (s : State) (n : Nat) (x : Frz) : (s.setFrz n x).pending = s.pending := rfl
@[simp] theorem setFrz_regs (s : State) (n : Nat) (x : Frz) : (s.setFrz n x).regs = s.regs := rfl
@[simp] theorem setFrz_free (s : State) (n : Nat) (x : Frz) : (s.setFrz n x).free = s.free := rfl
@[simp] theorem setFrz_out (s : State) (n : Nat) (x : Frz) : (s.setFrz n x).out = s.out := rfl
@[simp] theorem setFrz_flash (s : State) (n : Nat) (x : Frz) : (s.setFrz n x).flash = s.flash := rfl
@[simp] theorem setFrz_sat (s : State) (n : Nat) (x : Frz) : (s.setFrz n x).sat = s.sat := rfl
@[simp] theorem setFrz_ll (s : State) (n : Nat) (x : Frz) : (s.setFrz n x).ll = s.ll := rfl
@[simp] theorem setFrz_sectors (s : State) (n : Nat) (x : Frz) : (s.setFrz n x).sectors = s.sectors := rfl
@[simp] theorem setFrz_res (s : State) (n : Nat) (x : Frz) : (s.setFrz n x).res = s.res := rfl
@[simp] theorem setFrz_gens (s : State) (n : Nat) (x : Frz) : (s.setFrz n x).gens = s.gens := rfl
@[simp] theorem setFrz_rb (s : State) (n : Nat) (x : Frz) : (s.setFrz n x).rb = s.rb := rfl
@[simp] theorem setFrz_rings (s : State) (n : Nat) (x : Frz) : (s.setFrz n x).rings = s.rings := rfl
@[simp] theorem setFrz_ctxs (s : State) (n : Nat) (x : Frz) : (s.setFrz n x).ctxs = s.ctxs := rfl
@[simp] theorem setFrz_events (s : State) (n : Nat) (x : Frz) : (s.setFrz n x).events = s.events := rfl
@[simp] theorem setFrz_tables (s : State) (n : Nat) (x : Frz) : (s.setFrz n x).tables = s.tables := rfl
@[simp] theorem setFrz_cores (s : State) (n : Nat) (x : Frz) : (s.setFrz n x).cores = s.cores := rfl
@[simp] theorem setFrz_groups (s : State) (n : Nat) (x : Frz) : (s.setFrz n x).groups = s.groups := rfl
@[simp] theorem setFrz_nextGroup (s : State) (n : Nat) (x : Frz) : (s.setFrz n x).nextGroup = s.nextGroup := rfl
@[simp] theorem setFrz_seqs (s : State) (n : Nat) (x : Frz) : (s.setFrz n x).seqs = s.seqs := rfl
@[simp] theorem setFrz_seqSecs (s : State) (n : Nat) (x : Frz) : (s.setFrz n x).seqSecs = s.seqSecs := rfl
@[simp] theorem setFrz_env (s : State) (n : Nat) (x : Frz) : (s.setFrz n x).env = s.env := rfl
@[simp] theorem setFrz_pci (s : State) (n : Nat) (x : Frz) : (s.setFrz n x).pci = s.pci := rfl
@[simp] theorem setFrz_ctr (s : State) (n : Nat) (x : Frz) : (s.setFrz n x).ctr = s.ctr := rfl
@[simp] theorem setFrz_shadow (s : State) (n : Nat) (x : Frz) : (s.setFrz n x).shadow = s.shadow := rfl
@[simp] theorem setFrz_log (s : State) (n : Nat) (x : Frz) : (s.setFrz n x).log = s.log := rfl
@[simp] theorem setFrz_logSeq (s : State) (n : Nat) (x : Frz) : (s.setFrz n x).logSeq = s.logSeq := rfl
@[simp] theorem setFrz_resets (s : State) (n : Nat) (x : Frz) : (s.setFrz n x).resets = s.resets := rfl
@[simp] theorem setFrz_sm (s : State) (n : Nat) (x : Frz) : (s.setFrz n x).sm = s.sm := rfl
@[simp] theorem setFrz_ls (s : State) (n : Nat) (x : Frz) : (s.setFrz n x).ls = s.ls := rfl
@[simp] theorem setFrz_clm (s : State) (n : Nat) (x : Frz) : (s.setFrz n x).clm = s.clm := rfl
@[simp] theorem setFrz_smChk (s : State) (n : Nat) (x : Frz) : (s.setFrz n x).smChk = s.smChk := rfl
@[simp] theorem setFrz_lsChk (s : State) (n : Nat) (x : Frz) : (s.setFrz n x).lsChk = s.lsChk := rfl
@[simp] theorem setFrz_clmChk (s : State) (n : Nat) (x : Frz) : (s.setFrz n x).clmChk = s.clmChk := rfl
@[simp] theorem setFrz_binaries (s : State) (n : Nat) (x : Frz) : (s.setFrz n x).binaries = s.binaries := rfl
@[simp] theorem setFrz_xl (s : State) (n : Nat) (x : Frz) : (s.setFrz n x).xl = s.xl := rfl
@[simp] theorem setFrz_mem (s : State) (n : Nat) (x : Frz) : (s.setFrz n x).mem = s.mem := rfl
@[simp] theorem setFrz_chn (s : State) (n : Nat) (x : Frz) : (s.setFrz n x).chn = s.chn := rfl
@[simp] theorem setFrz_tnd (s : State) (n : Nat) (x : Frz) : (s.setFrz n x).tnd = s.tnd := rfl
@[simp] theorem setFrz_dmk (s : State) (n : Nat) (x : Frz) : (s.setFrz n x).dmk = s.dmk := rfl
@[simp] theorem setFrz_kpr (s : State) (n : Nat) (x : Frz) : (s.setFrz n x).kpr = s.kpr := rfl
@[simp] theorem setFrz_hng (s : State) (n : Nat) (x : Frz) : (s.setFrz n x).hng = s.hng := rfl
@[simp] theorem setFrz_pins (s : State) (n : Nat) (x : Frz) : (s.setFrz n x).pins = s.pins := rfl

/-! ### State.setTnd -/

@[simp] theorem setTnd_same (s : State) (n : Nat) (x : Tnd) : (s.setTnd n x).tndSec n = x := tget_tput_same _ _ _ _
theorem setTnd_other (s : State) (n : Nat) (x : Tnd) (j : Nat) (h : j ≠ n) : (s.setTnd n x).tndSec j = s.tndSec j :=
  tget_tput_other _ _ _ _ _ _ h
@[simp] theorem setTnd_pending (s : State) (n : Nat) (x : Tnd) : (s.setTnd n x).pending = s.pending := rfl
@[simp] theorem setTnd_regs (s : State) (n : Nat) (x : Tnd) : (s.setTnd n x).regs = s.regs := rfl
@[simp] theorem setTnd_free (s : State) (n : Nat) (x : Tnd) : (s.setTnd n x).free = s.free := rfl
@[simp] theorem setTnd_out (s : State) (n : Nat) (x : Tnd) : (s.setTnd n x).out = s.out := rfl
@[simp] theorem setTnd_flash (s : State) (n : Nat) (x : Tnd) : (s.setTnd n x).flash = s.flash := rfl
@[simp] theorem setTnd_sat (s : State) (n : Nat) (x : Tnd) : (s.setTnd n x).sat = s.sat := rfl
@[simp] theorem setTnd_ll (s : State) (n : Nat) (x : Tnd) : (s.setTnd n x).ll = s.ll := rfl
@[simp] theorem setTnd_sectors (s : State) (n : Nat) (x : Tnd) : (s.setTnd n x).sectors = s.sectors := rfl
@[simp] theorem setTnd_res (s : State) (n : Nat) (x : Tnd) : (s.setTnd n x).res = s.res := rfl
@[simp] theorem setTnd_gens (s : State) (n : Nat) (x : Tnd) : (s.setTnd n x).gens = s.gens := rfl
@[simp] theorem setTnd_rb (s : State) (n : Nat) (x : Tnd) : (s.setTnd n x).rb = s.rb := rfl
@[simp] theorem setTnd_rings (s : State) (n : Nat) (x : Tnd) : (s.setTnd n x).rings = s.rings := rfl
@[simp] theorem setTnd_ctxs (s : State) (n : Nat) (x : Tnd) : (s.setTnd n x).ctxs = s.ctxs := rfl
@[simp] theorem setTnd_events (s : State) (n : Nat) (x : Tnd) : (s.setTnd n x).events = s.events := rfl
@[simp] theorem setTnd_tables (s : State) (n : Nat) (x : Tnd) : (s.setTnd n x).tables = s.tables := rfl
@[simp] theorem setTnd_cores (s : State) (n : Nat) (x : Tnd) : (s.setTnd n x).cores = s.cores := rfl
@[simp] theorem setTnd_groups (s : State) (n : Nat) (x : Tnd) : (s.setTnd n x).groups = s.groups := rfl
@[simp] theorem setTnd_nextGroup (s : State) (n : Nat) (x : Tnd) : (s.setTnd n x).nextGroup = s.nextGroup := rfl
@[simp] theorem setTnd_seqs (s : State) (n : Nat) (x : Tnd) : (s.setTnd n x).seqs = s.seqs := rfl
@[simp] theorem setTnd_seqSecs (s : State) (n : Nat) (x : Tnd) : (s.setTnd n x).seqSecs = s.seqSecs := rfl
@[simp] theorem setTnd_env (s : State) (n : Nat) (x : Tnd) : (s.setTnd n x).env = s.env := rfl
@[simp] theorem setTnd_pci (s : State) (n : Nat) (x : Tnd) : (s.setTnd n x).pci = s.pci := rfl
@[simp] theorem setTnd_ctr (s : State) (n : Nat) (x : Tnd) : (s.setTnd n x).ctr = s.ctr := rfl
@[simp] theorem setTnd_shadow (s : State) (n : Nat) (x : Tnd) : (s.setTnd n x).shadow = s.shadow := rfl
@[simp] theorem setTnd_log (s : State) (n : Nat) (x : Tnd) : (s.setTnd n x).log = s.log := rfl
@[simp] theorem setTnd_logSeq (s : State) (n : Nat) (x : Tnd) : (s.setTnd n x).logSeq = s.logSeq := rfl
@[simp] theorem setTnd_resets (s : State) (n : Nat) (x : Tnd) : (s.setTnd n x).resets = s.resets := rfl
@[simp] theorem setTnd_sm (s : State) (n : Nat) (x : Tnd) : (s.setTnd n x).sm = s.sm := rfl
@[simp] theorem setTnd_ls (s : State) (n : Nat) (x : Tnd) : (s.setTnd n x).ls = s.ls := rfl
@[simp] theorem setTnd_clm (s : State) (n : Nat) (x : Tnd) : (s.setTnd n x).clm = s.clm := rfl
@[simp] theorem setTnd_smChk (s : State) (n : Nat) (x : Tnd) : (s.setTnd n x).smChk = s.smChk := rfl
@[simp] theorem setTnd_lsChk (s : State) (n : Nat) (x : Tnd) : (s.setTnd n x).lsChk = s.lsChk := rfl
@[simp] theorem setTnd_clmChk (s : State) (n : Nat) (x : Tnd) : (s.setTnd n x).clmChk = s.clmChk := rfl
@[simp] theorem setTnd_binaries (s : State) (n : Nat) (x : Tnd) : (s.setTnd n x).binaries = s.binaries := rfl
@[simp] theorem setTnd_xl (s : State) (n : Nat) (x : Tnd) : (s.setTnd n x).xl = s.xl := rfl
@[simp] theorem setTnd_mem (s : State) (n : Nat) (x : Tnd) : (s.setTnd n x).mem = s.mem := rfl
@[simp] theorem setTnd_chn (s : State) (n : Nat) (x : Tnd) : (s.setTnd n x).chn = s.chn := rfl
@[simp] theorem setTnd_dmk (s : State) (n : Nat) (x : Tnd) : (s.setTnd n x).dmk = s.dmk := rfl
@[simp] theorem setTnd_frz (s : State) (n : Nat) (x : Tnd) : (s.setTnd n x).frz = s.frz := rfl
@[simp] theorem setTnd_kpr (s : State) (n : Nat) (x : Tnd) : (s.setTnd n x).kpr = s.kpr := rfl
@[simp] theorem setTnd_hng (s : State) (n : Nat) (x : Tnd) : (s.setTnd n x).hng = s.hng := rfl
@[simp] theorem setTnd_pins (s : State) (n : Nat) (x : Tnd) : (s.setTnd n x).pins = s.pins := rfl

/-! ### State.setPort -/

@[simp] theorem setPort_same (s : State) (p : Nat) (x : Port) : (s.setPort p x).port p = x := tget_tput_same _ _ _ _
theorem setPort_other (s : State) (p : Nat) (x : Port) (j : Nat) (h : j ≠ p) : (s.setPort p x).port j = s.port j :=
  tget_tput_other _ _ _ _ _ _ h
@[simp] theorem setPort_pending (s : State) (p : Nat) (x : Port) : (s.setPort p x).pending = s.pending := rfl
@[simp] theorem setPort_regs (s : State) (p : Nat) (x : Port) : (s.setPort p x).regs = s.regs := rfl
@[simp] theorem setPort_free (s : State) (p : Nat) (x : Port) : (s.setPort p x).free = s.free := rfl
@[simp] theorem setPort_out (s : State) (p : Nat) (x : Port) : (s.setPort p x).out = s.out := rfl
@[simp] theorem setPort_flash (s : State) (p : Nat) (x : Port) : (s.setPort p x).flash = s.flash := rfl
@[simp] theorem setPort_sat (s : State) (p : Nat) (x : Port) : (s.setPort p x).sat = s.sat := rfl
@[simp] theorem setPort_ll (s : State) (p : Nat) (x : Port) : (s.setPort p x).ll = s.ll := rfl
@[simp] theorem setPort_sectors (s : State) (p : Nat) (x : Port) : (s.setPort p x).sectors = s.sectors := rfl
@[simp] theorem setPort_res (s : State) (p : Nat) (x : Port) : (s.setPort p x).res = s.res := rfl
@[simp] theorem setPort_gens (s : State) (p : Nat) (x : Port) : (s.setPort p x).gens = s.gens := rfl
@[simp] theorem setPort_rb (s : State) (p : Nat) (x : Port) : (s.setPort p x).rb = s.rb := rfl
@[simp] theorem setPort_rings (s : State) (p : Nat) (x : Port) : (s.setPort p x).rings = s.rings := rfl
@[simp] theorem setPort_ctxs (s : State) (p : Nat) (x : Port) : (s.setPort p x).ctxs = s.ctxs := rfl
@[simp] theorem setPort_events (s : State) (p : Nat) (x : Port) : (s.setPort p x).events = s.events := rfl
@[simp] theorem setPort_tables (s : State) (p : Nat) (x : Port) : (s.setPort p x).tables = s.tables := rfl
@[simp] theorem setPort_cores (s : State) (p : Nat) (x : Port) : (s.setPort p x).cores = s.cores := rfl
@[simp] theorem setPort_groups (s : State) (p : Nat) (x : Port) : (s.setPort p x).groups = s.groups := rfl
@[simp] theorem setPort_nextGroup (s : State) (p : Nat) (x : Port) : (s.setPort p x).nextGroup = s.nextGroup := rfl
@[simp] theorem setPort_seqs (s : State) (p : Nat) (x : Port) : (s.setPort p x).seqs = s.seqs := rfl
@[simp] theorem setPort_seqSecs (s : State) (p : Nat) (x : Port) : (s.setPort p x).seqSecs = s.seqSecs := rfl
@[simp] theorem setPort_env (s : State) (p : Nat) (x : Port) : (s.setPort p x).env = s.env := rfl
@[simp] theorem setPort_pci (s : State) (p : Nat) (x : Port) : (s.setPort p x).pci = s.pci := rfl
@[simp] theorem setPort_ctr (s : State) (p : Nat) (x : Port) : (s.setPort p x).ctr = s.ctr := rfl
@[simp] theorem setPort_shadow (s : State) (p : Nat) (x : Port) : (s.setPort p x).shadow = s.shadow := rfl
@[simp] theorem setPort_log (s : State) (p : Nat) (x : Port) : (s.setPort p x).log = s.log := rfl
@[simp] theorem setPort_logSeq (s : State) (p : Nat) (x : Port) : (s.setPort p x).logSeq = s.logSeq := rfl
@[simp] theorem setPort_resets (s : State) (p : Nat) (x : Port) : (s.setPort p x).resets = s.resets := rfl
@[simp] theorem setPort_sm (s : State) (p : Nat) (x : Port) : (s.setPort p x).sm = s.sm := rfl
@[simp] theorem setPort_ls (s : State) (p : Nat) (x : Port) : (s.setPort p x).ls = s.ls := rfl
@[simp] theorem setPort_clm (s : State) (p : Nat) (x : Port) : (s.setPort p x).clm = s.clm := rfl
@[simp] theorem setPort_smChk (s : State) (p : Nat) (x : Port) : (s.setPort p x).smChk = s.smChk := rfl
@[simp] theorem setPort_lsChk (s : State) (p : Nat) (x : Port) : (s.setPort p x).lsChk = s.lsChk := rfl
@[simp] theorem setPort_clmChk (s : State) (p : Nat) (x : Port) : (s.setPort p x).clmChk = s.clmChk := rfl
@[simp] theorem setPort_binaries (s : State) (p : Nat) (x : Port) : (s.setPort p x).binaries = s.binaries := rfl
@[simp] theorem setPort_xl (s : State) (p : Nat) (x : Port) : (s.setPort p x).xl = s.xl := rfl
@[simp] theorem setPort_mem (s : State) (p : Nat) (x : Port) : (s.setPort p x).mem = s.mem := rfl
@[simp] theorem setPort_tnd (s : State) (p : Nat) (x : Port) : (s.setPort p x).tnd = s.tnd := rfl
@[simp] theorem setPort_dmk (s : State) (p : Nat) (x : Port) : (s.setPort p x).dmk = s.dmk := rfl
@[simp] theorem setPort_frz (s : State) (p : Nat) (x : Port) : (s.setPort p x).frz = s.frz := rfl
@[simp] theorem setPort_kpr (s : State) (p : Nat) (x : Port) : (s.setPort p x).kpr = s.kpr := rfl
@[simp] theorem setPort_hng (s : State) (p : Nat) (x : Port) : (s.setPort p x).hng = s.hng := rfl
@[simp] theorem setPort_pins (s : State) (p : Nat) (x : Port) : (s.setPort p x).pins = s.pins := rfl

/-! ### State.setLane -/

@[simp] theorem setLane_same (s : State) (l : Nat) (x : Lane) : (s.setLane l x).lane l = x := tget_tput_same _ _ _ _
theorem setLane_other (s : State) (l : Nat) (x : Lane) (j : Nat) (h : j ≠ l) : (s.setLane l x).lane j = s.lane j :=
  tget_tput_other _ _ _ _ _ _ h
@[simp] theorem setLane_pending (s : State) (l : Nat) (x : Lane) : (s.setLane l x).pending = s.pending := rfl
@[simp] theorem setLane_regs (s : State) (l : Nat) (x : Lane) : (s.setLane l x).regs = s.regs := rfl
@[simp] theorem setLane_free (s : State) (l : Nat) (x : Lane) : (s.setLane l x).free = s.free := rfl
@[simp] theorem setLane_out (s : State) (l : Nat) (x : Lane) : (s.setLane l x).out = s.out := rfl
@[simp] theorem setLane_flash (s : State) (l : Nat) (x : Lane) : (s.setLane l x).flash = s.flash := rfl
@[simp] theorem setLane_sat (s : State) (l : Nat) (x : Lane) : (s.setLane l x).sat = s.sat := rfl
@[simp] theorem setLane_ll (s : State) (l : Nat) (x : Lane) : (s.setLane l x).ll = s.ll := rfl
@[simp] theorem setLane_sectors (s : State) (l : Nat) (x : Lane) : (s.setLane l x).sectors = s.sectors := rfl
@[simp] theorem setLane_res (s : State) (l : Nat) (x : Lane) : (s.setLane l x).res = s.res := rfl
@[simp] theorem setLane_gens (s : State) (l : Nat) (x : Lane) : (s.setLane l x).gens = s.gens := rfl
@[simp] theorem setLane_rb (s : State) (l : Nat) (x : Lane) : (s.setLane l x).rb = s.rb := rfl
@[simp] theorem setLane_rings (s : State) (l : Nat) (x : Lane) : (s.setLane l x).rings = s.rings := rfl
@[simp] theorem setLane_ctxs (s : State) (l : Nat) (x : Lane) : (s.setLane l x).ctxs = s.ctxs := rfl
@[simp] theorem setLane_events (s : State) (l : Nat) (x : Lane) : (s.setLane l x).events = s.events := rfl
@[simp] theorem setLane_tables (s : State) (l : Nat) (x : Lane) : (s.setLane l x).tables = s.tables := rfl
@[simp] theorem setLane_cores (s : State) (l : Nat) (x : Lane) : (s.setLane l x).cores = s.cores := rfl
@[simp] theorem setLane_groups (s : State) (l : Nat) (x : Lane) : (s.setLane l x).groups = s.groups := rfl
@[simp] theorem setLane_nextGroup (s : State) (l : Nat) (x : Lane) : (s.setLane l x).nextGroup = s.nextGroup := rfl
@[simp] theorem setLane_seqs (s : State) (l : Nat) (x : Lane) : (s.setLane l x).seqs = s.seqs := rfl
@[simp] theorem setLane_seqSecs (s : State) (l : Nat) (x : Lane) : (s.setLane l x).seqSecs = s.seqSecs := rfl
@[simp] theorem setLane_env (s : State) (l : Nat) (x : Lane) : (s.setLane l x).env = s.env := rfl
@[simp] theorem setLane_pci (s : State) (l : Nat) (x : Lane) : (s.setLane l x).pci = s.pci := rfl
@[simp] theorem setLane_ctr (s : State) (l : Nat) (x : Lane) : (s.setLane l x).ctr = s.ctr := rfl
@[simp] theorem setLane_shadow (s : State) (l : Nat) (x : Lane) : (s.setLane l x).shadow = s.shadow := rfl
@[simp] theorem setLane_log (s : State) (l : Nat) (x : Lane) : (s.setLane l x).log = s.log := rfl
@[simp] theorem setLane_logSeq (s : State) (l : Nat) (x : Lane) : (s.setLane l x).logSeq = s.logSeq := rfl
@[simp] theorem setLane_resets (s : State) (l : Nat) (x : Lane) : (s.setLane l x).resets = s.resets := rfl
@[simp] theorem setLane_sm (s : State) (l : Nat) (x : Lane) : (s.setLane l x).sm = s.sm := rfl
@[simp] theorem setLane_ls (s : State) (l : Nat) (x : Lane) : (s.setLane l x).ls = s.ls := rfl
@[simp] theorem setLane_clm (s : State) (l : Nat) (x : Lane) : (s.setLane l x).clm = s.clm := rfl
@[simp] theorem setLane_smChk (s : State) (l : Nat) (x : Lane) : (s.setLane l x).smChk = s.smChk := rfl
@[simp] theorem setLane_lsChk (s : State) (l : Nat) (x : Lane) : (s.setLane l x).lsChk = s.lsChk := rfl
@[simp] theorem setLane_clmChk (s : State) (l : Nat) (x : Lane) : (s.setLane l x).clmChk = s.clmChk := rfl
@[simp] theorem setLane_binaries (s : State) (l : Nat) (x : Lane) : (s.setLane l x).binaries = s.binaries := rfl
@[simp] theorem setLane_xl (s : State) (l : Nat) (x : Lane) : (s.setLane l x).xl = s.xl := rfl
@[simp] theorem setLane_mem (s : State) (l : Nat) (x : Lane) : (s.setLane l x).mem = s.mem := rfl
@[simp] theorem setLane_tnd (s : State) (l : Nat) (x : Lane) : (s.setLane l x).tnd = s.tnd := rfl
@[simp] theorem setLane_dmk (s : State) (l : Nat) (x : Lane) : (s.setLane l x).dmk = s.dmk := rfl
@[simp] theorem setLane_frz (s : State) (l : Nat) (x : Lane) : (s.setLane l x).frz = s.frz := rfl
@[simp] theorem setLane_kpr (s : State) (l : Nat) (x : Lane) : (s.setLane l x).kpr = s.kpr := rfl
@[simp] theorem setLane_hng (s : State) (l : Nat) (x : Lane) : (s.setLane l x).hng = s.hng := rfl
@[simp] theorem setLane_pins (s : State) (l : Nat) (x : Lane) : (s.setLane l x).pins = s.pins := rfl

/-! ### State.setMoor -/

@[simp] theorem setMoor_same (s : State) (m : Nat) (x : Moor) : (s.setMoor m x).moor m = x := tget_tput_same _ _ _ _
theorem setMoor_other (s : State) (m : Nat) (x : Moor) (j : Nat) (h : j ≠ m) : (s.setMoor m x).moor j = s.moor j :=
  tget_tput_other _ _ _ _ _ _ h
@[simp] theorem setMoor_pending (s : State) (m : Nat) (x : Moor) : (s.setMoor m x).pending = s.pending := rfl
@[simp] theorem setMoor_regs (s : State) (m : Nat) (x : Moor) : (s.setMoor m x).regs = s.regs := rfl
@[simp] theorem setMoor_free (s : State) (m : Nat) (x : Moor) : (s.setMoor m x).free = s.free := rfl
@[simp] theorem setMoor_out (s : State) (m : Nat) (x : Moor) : (s.setMoor m x).out = s.out := rfl
@[simp] theorem setMoor_flash (s : State) (m : Nat) (x : Moor) : (s.setMoor m x).flash = s.flash := rfl
@[simp] theorem setMoor_sat (s : State) (m : Nat) (x : Moor) : (s.setMoor m x).sat = s.sat := rfl
@[simp] theorem setMoor_ll (s : State) (m : Nat) (x : Moor) : (s.setMoor m x).ll = s.ll := rfl
@[simp] theorem setMoor_sectors (s : State) (m : Nat) (x : Moor) : (s.setMoor m x).sectors = s.sectors := rfl
@[simp] theorem setMoor_res (s : State) (m : Nat) (x : Moor) : (s.setMoor m x).res = s.res := rfl
@[simp] theorem setMoor_gens (s : State) (m : Nat) (x : Moor) : (s.setMoor m x).gens = s.gens := rfl
@[simp] theorem setMoor_rb (s : State) (m : Nat) (x : Moor) : (s.setMoor m x).rb = s.rb := rfl
@[simp] theorem setMoor_rings (s : State) (m : Nat) (x : Moor) : (s.setMoor m x).rings = s.rings := rfl
@[simp] theorem setMoor_ctxs (s : State) (m : Nat) (x : Moor) : (s.setMoor m x).ctxs = s.ctxs := rfl
@[simp] theorem setMoor_events (s : State) (m : Nat) (x : Moor) : (s.setMoor m x).events = s.events := rfl
@[simp] theorem setMoor_tables (s : State) (m : Nat) (x : Moor) : (s.setMoor m x).tables = s.tables := rfl
@[simp] theorem setMoor_cores (s : State) (m : Nat) (x : Moor) : (s.setMoor m x).cores = s.cores := rfl
@[simp] theorem setMoor_groups (s : State) (m : Nat) (x : Moor) : (s.setMoor m x).groups = s.groups := rfl
@[simp] theorem setMoor_nextGroup (s : State) (m : Nat) (x : Moor) : (s.setMoor m x).nextGroup = s.nextGroup := rfl
@[simp] theorem setMoor_seqs (s : State) (m : Nat) (x : Moor) : (s.setMoor m x).seqs = s.seqs := rfl
@[simp] theorem setMoor_seqSecs (s : State) (m : Nat) (x : Moor) : (s.setMoor m x).seqSecs = s.seqSecs := rfl
@[simp] theorem setMoor_env (s : State) (m : Nat) (x : Moor) : (s.setMoor m x).env = s.env := rfl
@[simp] theorem setMoor_pci (s : State) (m : Nat) (x : Moor) : (s.setMoor m x).pci = s.pci := rfl
@[simp] theorem setMoor_ctr (s : State) (m : Nat) (x : Moor) : (s.setMoor m x).ctr = s.ctr := rfl
@[simp] theorem setMoor_shadow (s : State) (m : Nat) (x : Moor) : (s.setMoor m x).shadow = s.shadow := rfl
@[simp] theorem setMoor_log (s : State) (m : Nat) (x : Moor) : (s.setMoor m x).log = s.log := rfl
@[simp] theorem setMoor_logSeq (s : State) (m : Nat) (x : Moor) : (s.setMoor m x).logSeq = s.logSeq := rfl
@[simp] theorem setMoor_resets (s : State) (m : Nat) (x : Moor) : (s.setMoor m x).resets = s.resets := rfl
@[simp] theorem setMoor_sm (s : State) (m : Nat) (x : Moor) : (s.setMoor m x).sm = s.sm := rfl
@[simp] theorem setMoor_ls (s : State) (m : Nat) (x : Moor) : (s.setMoor m x).ls = s.ls := rfl
@[simp] theorem setMoor_clm (s : State) (m : Nat) (x : Moor) : (s.setMoor m x).clm = s.clm := rfl
@[simp] theorem setMoor_smChk (s : State) (m : Nat) (x : Moor) : (s.setMoor m x).smChk = s.smChk := rfl
@[simp] theorem setMoor_lsChk (s : State) (m : Nat) (x : Moor) : (s.setMoor m x).lsChk = s.lsChk := rfl
@[simp] theorem setMoor_clmChk (s : State) (m : Nat) (x : Moor) : (s.setMoor m x).clmChk = s.clmChk := rfl
@[simp] theorem setMoor_binaries (s : State) (m : Nat) (x : Moor) : (s.setMoor m x).binaries = s.binaries := rfl
@[simp] theorem setMoor_xl (s : State) (m : Nat) (x : Moor) : (s.setMoor m x).xl = s.xl := rfl
@[simp] theorem setMoor_mem (s : State) (m : Nat) (x : Moor) : (s.setMoor m x).mem = s.mem := rfl
@[simp] theorem setMoor_tnd (s : State) (m : Nat) (x : Moor) : (s.setMoor m x).tnd = s.tnd := rfl
@[simp] theorem setMoor_dmk (s : State) (m : Nat) (x : Moor) : (s.setMoor m x).dmk = s.dmk := rfl
@[simp] theorem setMoor_frz (s : State) (m : Nat) (x : Moor) : (s.setMoor m x).frz = s.frz := rfl
@[simp] theorem setMoor_kpr (s : State) (m : Nat) (x : Moor) : (s.setMoor m x).kpr = s.kpr := rfl
@[simp] theorem setMoor_hng (s : State) (m : Nat) (x : Moor) : (s.setMoor m x).hng = s.hng := rfl
@[simp] theorem setMoor_pins (s : State) (m : Nat) (x : Moor) : (s.setMoor m x).pins = s.pins := rfl

/-! ### State.setScrub -/

@[simp] theorem setScrub_same (s : State) (k : Nat) (x : Scrub) : (s.setScrub k x).scrubAt k = x := tget_tput_same _ _ _ _
theorem setScrub_other (s : State) (k : Nat) (x : Scrub) (j : Nat) (h : j ≠ k) : (s.setScrub k x).scrubAt j = s.scrubAt j :=
  tget_tput_other _ _ _ _ _ _ h
@[simp] theorem setScrub_pending (s : State) (k : Nat) (x : Scrub) : (s.setScrub k x).pending = s.pending := rfl
@[simp] theorem setScrub_regs (s : State) (k : Nat) (x : Scrub) : (s.setScrub k x).regs = s.regs := rfl
@[simp] theorem setScrub_free (s : State) (k : Nat) (x : Scrub) : (s.setScrub k x).free = s.free := rfl
@[simp] theorem setScrub_out (s : State) (k : Nat) (x : Scrub) : (s.setScrub k x).out = s.out := rfl
@[simp] theorem setScrub_flash (s : State) (k : Nat) (x : Scrub) : (s.setScrub k x).flash = s.flash := rfl
@[simp] theorem setScrub_sat (s : State) (k : Nat) (x : Scrub) : (s.setScrub k x).sat = s.sat := rfl
@[simp] theorem setScrub_ll (s : State) (k : Nat) (x : Scrub) : (s.setScrub k x).ll = s.ll := rfl
@[simp] theorem setScrub_sectors (s : State) (k : Nat) (x : Scrub) : (s.setScrub k x).sectors = s.sectors := rfl
@[simp] theorem setScrub_res (s : State) (k : Nat) (x : Scrub) : (s.setScrub k x).res = s.res := rfl
@[simp] theorem setScrub_gens (s : State) (k : Nat) (x : Scrub) : (s.setScrub k x).gens = s.gens := rfl
@[simp] theorem setScrub_rb (s : State) (k : Nat) (x : Scrub) : (s.setScrub k x).rb = s.rb := rfl
@[simp] theorem setScrub_rings (s : State) (k : Nat) (x : Scrub) : (s.setScrub k x).rings = s.rings := rfl
@[simp] theorem setScrub_ctxs (s : State) (k : Nat) (x : Scrub) : (s.setScrub k x).ctxs = s.ctxs := rfl
@[simp] theorem setScrub_events (s : State) (k : Nat) (x : Scrub) : (s.setScrub k x).events = s.events := rfl
@[simp] theorem setScrub_tables (s : State) (k : Nat) (x : Scrub) : (s.setScrub k x).tables = s.tables := rfl
@[simp] theorem setScrub_cores (s : State) (k : Nat) (x : Scrub) : (s.setScrub k x).cores = s.cores := rfl
@[simp] theorem setScrub_groups (s : State) (k : Nat) (x : Scrub) : (s.setScrub k x).groups = s.groups := rfl
@[simp] theorem setScrub_nextGroup (s : State) (k : Nat) (x : Scrub) : (s.setScrub k x).nextGroup = s.nextGroup := rfl
@[simp] theorem setScrub_seqs (s : State) (k : Nat) (x : Scrub) : (s.setScrub k x).seqs = s.seqs := rfl
@[simp] theorem setScrub_seqSecs (s : State) (k : Nat) (x : Scrub) : (s.setScrub k x).seqSecs = s.seqSecs := rfl
@[simp] theorem setScrub_env (s : State) (k : Nat) (x : Scrub) : (s.setScrub k x).env = s.env := rfl
@[simp] theorem setScrub_pci (s : State) (k : Nat) (x : Scrub) : (s.setScrub k x).pci = s.pci := rfl
@[simp] theorem setScrub_ctr (s : State) (k : Nat) (x : Scrub) : (s.setScrub k x).ctr = s.ctr := rfl
@[simp] theorem setScrub_shadow (s : State) (k : Nat) (x : Scrub) : (s.setScrub k x).shadow = s.shadow := rfl
@[simp] theorem setScrub_log (s : State) (k : Nat) (x : Scrub) : (s.setScrub k x).log = s.log := rfl
@[simp] theorem setScrub_logSeq (s : State) (k : Nat) (x : Scrub) : (s.setScrub k x).logSeq = s.logSeq := rfl
@[simp] theorem setScrub_resets (s : State) (k : Nat) (x : Scrub) : (s.setScrub k x).resets = s.resets := rfl
@[simp] theorem setScrub_sm (s : State) (k : Nat) (x : Scrub) : (s.setScrub k x).sm = s.sm := rfl
@[simp] theorem setScrub_ls (s : State) (k : Nat) (x : Scrub) : (s.setScrub k x).ls = s.ls := rfl
@[simp] theorem setScrub_clm (s : State) (k : Nat) (x : Scrub) : (s.setScrub k x).clm = s.clm := rfl
@[simp] theorem setScrub_smChk (s : State) (k : Nat) (x : Scrub) : (s.setScrub k x).smChk = s.smChk := rfl
@[simp] theorem setScrub_lsChk (s : State) (k : Nat) (x : Scrub) : (s.setScrub k x).lsChk = s.lsChk := rfl
@[simp] theorem setScrub_clmChk (s : State) (k : Nat) (x : Scrub) : (s.setScrub k x).clmChk = s.clmChk := rfl
@[simp] theorem setScrub_binaries (s : State) (k : Nat) (x : Scrub) : (s.setScrub k x).binaries = s.binaries := rfl
@[simp] theorem setScrub_xl (s : State) (k : Nat) (x : Scrub) : (s.setScrub k x).xl = s.xl := rfl
@[simp] theorem setScrub_chn (s : State) (k : Nat) (x : Scrub) : (s.setScrub k x).chn = s.chn := rfl
@[simp] theorem setScrub_tnd (s : State) (k : Nat) (x : Scrub) : (s.setScrub k x).tnd = s.tnd := rfl
@[simp] theorem setScrub_dmk (s : State) (k : Nat) (x : Scrub) : (s.setScrub k x).dmk = s.dmk := rfl
@[simp] theorem setScrub_frz (s : State) (k : Nat) (x : Scrub) : (s.setScrub k x).frz = s.frz := rfl
@[simp] theorem setScrub_kpr (s : State) (k : Nat) (x : Scrub) : (s.setScrub k x).kpr = s.kpr := rfl
@[simp] theorem setScrub_hng (s : State) (k : Nat) (x : Scrub) : (s.setScrub k x).hng = s.hng := rfl
@[simp] theorem setScrub_pins (s : State) (k : Nat) (x : Scrub) : (s.setScrub k x).pins = s.pins := rfl

/-! ### emit -/

@[simp] theorem emit_pending (s : State) (o : Out) : (s.emit o).pending = s.pending := rfl
@[simp] theorem emit_regs (s : State) (o : Out) : (s.emit o).regs = s.regs := rfl
@[simp] theorem emit_free (s : State) (o : Out) : (s.emit o).free = s.free := rfl
@[simp] theorem emit_flash (s : State) (o : Out) : (s.emit o).flash = s.flash := rfl
@[simp] theorem emit_sat (s : State) (o : Out) : (s.emit o).sat = s.sat := rfl
@[simp] theorem emit_ll (s : State) (o : Out) : (s.emit o).ll = s.ll := rfl
@[simp] theorem emit_sectors (s : State) (o : Out) : (s.emit o).sectors = s.sectors := rfl
@[simp] theorem emit_res (s : State) (o : Out) : (s.emit o).res = s.res := rfl
@[simp] theorem emit_gens (s : State) (o : Out) : (s.emit o).gens = s.gens := rfl
@[simp] theorem emit_rb (s : State) (o : Out) : (s.emit o).rb = s.rb := rfl
@[simp] theorem emit_rings (s : State) (o : Out) : (s.emit o).rings = s.rings := rfl
@[simp] theorem emit_ctxs (s : State) (o : Out) : (s.emit o).ctxs = s.ctxs := rfl
@[simp] theorem emit_events (s : State) (o : Out) : (s.emit o).events = s.events := rfl
@[simp] theorem emit_tables (s : State) (o : Out) : (s.emit o).tables = s.tables := rfl
@[simp] theorem emit_cores (s : State) (o : Out) : (s.emit o).cores = s.cores := rfl
@[simp] theorem emit_groups (s : State) (o : Out) : (s.emit o).groups = s.groups := rfl
@[simp] theorem emit_nextGroup (s : State) (o : Out) : (s.emit o).nextGroup = s.nextGroup := rfl
@[simp] theorem emit_seqs (s : State) (o : Out) : (s.emit o).seqs = s.seqs := rfl
@[simp] theorem emit_seqSecs (s : State) (o : Out) : (s.emit o).seqSecs = s.seqSecs := rfl
@[simp] theorem emit_env (s : State) (o : Out) : (s.emit o).env = s.env := rfl
@[simp] theorem emit_pci (s : State) (o : Out) : (s.emit o).pci = s.pci := rfl
@[simp] theorem emit_ctr (s : State) (o : Out) : (s.emit o).ctr = s.ctr := rfl
@[simp] theorem emit_shadow (s : State) (o : Out) : (s.emit o).shadow = s.shadow := rfl
@[simp] theorem emit_log (s : State) (o : Out) : (s.emit o).log = s.log := rfl
@[simp] theorem emit_logSeq (s : State) (o : Out) : (s.emit o).logSeq = s.logSeq := rfl
@[simp] theorem emit_resets (s : State) (o : Out) : (s.emit o).resets = s.resets := rfl
@[simp] theorem emit_sm (s : State) (o : Out) : (s.emit o).sm = s.sm := rfl
@[simp] theorem emit_ls (s : State) (o : Out) : (s.emit o).ls = s.ls := rfl
@[simp] theorem emit_clm (s : State) (o : Out) : (s.emit o).clm = s.clm := rfl
@[simp] theorem emit_smChk (s : State) (o : Out) : (s.emit o).smChk = s.smChk := rfl
@[simp] theorem emit_lsChk (s : State) (o : Out) : (s.emit o).lsChk = s.lsChk := rfl
@[simp] theorem emit_clmChk (s : State) (o : Out) : (s.emit o).clmChk = s.clmChk := rfl
@[simp] theorem emit_binaries (s : State) (o : Out) : (s.emit o).binaries = s.binaries := rfl
@[simp] theorem emit_xl (s : State) (o : Out) : (s.emit o).xl = s.xl := rfl
@[simp] theorem emit_mem (s : State) (o : Out) : (s.emit o).mem = s.mem := rfl
@[simp] theorem emit_chn (s : State) (o : Out) : (s.emit o).chn = s.chn := rfl
@[simp] theorem emit_tnd (s : State) (o : Out) : (s.emit o).tnd = s.tnd := rfl
@[simp] theorem emit_dmk (s : State) (o : Out) : (s.emit o).dmk = s.dmk := rfl
@[simp] theorem emit_frz (s : State) (o : Out) : (s.emit o).frz = s.frz := rfl
@[simp] theorem emit_kpr (s : State) (o : Out) : (s.emit o).kpr = s.kpr := rfl
@[simp] theorem emit_hng (s : State) (o : Out) : (s.emit o).hng = s.hng := rfl
@[simp] theorem emit_pins (s : State) (o : Out) : (s.emit o).pins = s.pins := rfl

/-! ### bump -/

@[simp] theorem bump_pending (s : State) (off n : Nat) : (bump s off n).pending = s.pending := rfl
@[simp] theorem bump_regs (s : State) (off n : Nat) : (bump s off n).regs = s.regs := rfl
@[simp] theorem bump_free (s : State) (off n : Nat) : (bump s off n).free = s.free := rfl
@[simp] theorem bump_out (s : State) (off n : Nat) : (bump s off n).out = s.out := rfl
@[simp] theorem bump_flash (s : State) (off n : Nat) : (bump s off n).flash = s.flash := rfl
@[simp] theorem bump_sat (s : State) (off n : Nat) : (bump s off n).sat = s.sat := rfl
@[simp] theorem bump_ll (s : State) (off n : Nat) : (bump s off n).ll = s.ll := rfl
@[simp] theorem bump_sectors (s : State) (off n : Nat) : (bump s off n).sectors = s.sectors := rfl
@[simp] theorem bump_res (s : State) (off n : Nat) : (bump s off n).res = s.res := rfl
@[simp] theorem bump_gens (s : State) (off n : Nat) : (bump s off n).gens = s.gens := rfl
@[simp] theorem bump_rb (s : State) (off n : Nat) : (bump s off n).rb = s.rb := rfl
@[simp] theorem bump_rings (s : State) (off n : Nat) : (bump s off n).rings = s.rings := rfl
@[simp] theorem bump_ctxs (s : State) (off n : Nat) : (bump s off n).ctxs = s.ctxs := rfl
@[simp] theorem bump_events (s : State) (off n : Nat) : (bump s off n).events = s.events := rfl
@[simp] theorem bump_tables (s : State) (off n : Nat) : (bump s off n).tables = s.tables := rfl
@[simp] theorem bump_cores (s : State) (off n : Nat) : (bump s off n).cores = s.cores := rfl
@[simp] theorem bump_groups (s : State) (off n : Nat) : (bump s off n).groups = s.groups := rfl
@[simp] theorem bump_nextGroup (s : State) (off n : Nat) : (bump s off n).nextGroup = s.nextGroup := rfl
@[simp] theorem bump_seqs (s : State) (off n : Nat) : (bump s off n).seqs = s.seqs := rfl
@[simp] theorem bump_seqSecs (s : State) (off n : Nat) : (bump s off n).seqSecs = s.seqSecs := rfl
@[simp] theorem bump_env (s : State) (off n : Nat) : (bump s off n).env = s.env := rfl
@[simp] theorem bump_pci (s : State) (off n : Nat) : (bump s off n).pci = s.pci := rfl
@[simp] theorem bump_shadow (s : State) (off n : Nat) : (bump s off n).shadow = s.shadow := rfl
@[simp] theorem bump_log (s : State) (off n : Nat) : (bump s off n).log = s.log := rfl
@[simp] theorem bump_logSeq (s : State) (off n : Nat) : (bump s off n).logSeq = s.logSeq := rfl
@[simp] theorem bump_resets (s : State) (off n : Nat) : (bump s off n).resets = s.resets := rfl
@[simp] theorem bump_sm (s : State) (off n : Nat) : (bump s off n).sm = s.sm := rfl
@[simp] theorem bump_ls (s : State) (off n : Nat) : (bump s off n).ls = s.ls := rfl
@[simp] theorem bump_clm (s : State) (off n : Nat) : (bump s off n).clm = s.clm := rfl
@[simp] theorem bump_smChk (s : State) (off n : Nat) : (bump s off n).smChk = s.smChk := rfl
@[simp] theorem bump_lsChk (s : State) (off n : Nat) : (bump s off n).lsChk = s.lsChk := rfl
@[simp] theorem bump_clmChk (s : State) (off n : Nat) : (bump s off n).clmChk = s.clmChk := rfl
@[simp] theorem bump_binaries (s : State) (off n : Nat) : (bump s off n).binaries = s.binaries := rfl
@[simp] theorem bump_xl (s : State) (off n : Nat) : (bump s off n).xl = s.xl := rfl
@[simp] theorem bump_mem (s : State) (off n : Nat) : (bump s off n).mem = s.mem := rfl
@[simp] theorem bump_chn (s : State) (off n : Nat) : (bump s off n).chn = s.chn := rfl
@[simp] theorem bump_tnd (s : State) (off n : Nat) : (bump s off n).tnd = s.tnd := rfl
@[simp] theorem bump_dmk (s : State) (off n : Nat) : (bump s off n).dmk = s.dmk := rfl
@[simp] theorem bump_frz (s : State) (off n : Nat) : (bump s off n).frz = s.frz := rfl
@[simp] theorem bump_kpr (s : State) (off n : Nat) : (bump s off n).kpr = s.kpr := rfl
@[simp] theorem bump_hng (s : State) (off n : Nat) : (bump s off n).hng = s.hng := rfl
@[simp] theorem bump_pins (s : State) (off n : Nat) : (bump s off n).pins = s.pins := rfl

/-! ### setReg -/

@[simp] theorem setReg_pending (s : State) (off : Nat) (v : BitVec 64) : (setReg s off v).pending = s.pending := rfl
@[simp] theorem setReg_free (s : State) (off : Nat) (v : BitVec 64) : (setReg s off v).free = s.free := rfl
@[simp] theorem setReg_out (s : State) (off : Nat) (v : BitVec 64) : (setReg s off v).out = s.out := rfl
@[simp] theorem setReg_flash (s : State) (off : Nat) (v : BitVec 64) : (setReg s off v).flash = s.flash := rfl
@[simp] theorem setReg_sat (s : State) (off : Nat) (v : BitVec 64) : (setReg s off v).sat = s.sat := rfl
@[simp] theorem setReg_ll (s : State) (off : Nat) (v : BitVec 64) : (setReg s off v).ll = s.ll := rfl
@[simp] theorem setReg_sectors (s : State) (off : Nat) (v : BitVec 64) : (setReg s off v).sectors = s.sectors := rfl
@[simp] theorem setReg_res (s : State) (off : Nat) (v : BitVec 64) : (setReg s off v).res = s.res := rfl
@[simp] theorem setReg_gens (s : State) (off : Nat) (v : BitVec 64) : (setReg s off v).gens = s.gens := rfl
@[simp] theorem setReg_rb (s : State) (off : Nat) (v : BitVec 64) : (setReg s off v).rb = s.rb := rfl
@[simp] theorem setReg_rings (s : State) (off : Nat) (v : BitVec 64) : (setReg s off v).rings = s.rings := rfl
@[simp] theorem setReg_ctxs (s : State) (off : Nat) (v : BitVec 64) : (setReg s off v).ctxs = s.ctxs := rfl
@[simp] theorem setReg_events (s : State) (off : Nat) (v : BitVec 64) : (setReg s off v).events = s.events := rfl
@[simp] theorem setReg_tables (s : State) (off : Nat) (v : BitVec 64) : (setReg s off v).tables = s.tables := rfl
@[simp] theorem setReg_cores (s : State) (off : Nat) (v : BitVec 64) : (setReg s off v).cores = s.cores := rfl
@[simp] theorem setReg_groups (s : State) (off : Nat) (v : BitVec 64) : (setReg s off v).groups = s.groups := rfl
@[simp] theorem setReg_nextGroup (s : State) (off : Nat) (v : BitVec 64) : (setReg s off v).nextGroup = s.nextGroup := rfl
@[simp] theorem setReg_seqs (s : State) (off : Nat) (v : BitVec 64) : (setReg s off v).seqs = s.seqs := rfl
@[simp] theorem setReg_seqSecs (s : State) (off : Nat) (v : BitVec 64) : (setReg s off v).seqSecs = s.seqSecs := rfl
@[simp] theorem setReg_env (s : State) (off : Nat) (v : BitVec 64) : (setReg s off v).env = s.env := rfl
@[simp] theorem setReg_pci (s : State) (off : Nat) (v : BitVec 64) : (setReg s off v).pci = s.pci := rfl
@[simp] theorem setReg_ctr (s : State) (off : Nat) (v : BitVec 64) : (setReg s off v).ctr = s.ctr := rfl
@[simp] theorem setReg_shadow (s : State) (off : Nat) (v : BitVec 64) : (setReg s off v).shadow = s.shadow := rfl
@[simp] theorem setReg_log (s : State) (off : Nat) (v : BitVec 64) : (setReg s off v).log = s.log := rfl
@[simp] theorem setReg_logSeq (s : State) (off : Nat) (v : BitVec 64) : (setReg s off v).logSeq = s.logSeq := rfl
@[simp] theorem setReg_resets (s : State) (off : Nat) (v : BitVec 64) : (setReg s off v).resets = s.resets := rfl
@[simp] theorem setReg_sm (s : State) (off : Nat) (v : BitVec 64) : (setReg s off v).sm = s.sm := rfl
@[simp] theorem setReg_ls (s : State) (off : Nat) (v : BitVec 64) : (setReg s off v).ls = s.ls := rfl
@[simp] theorem setReg_clm (s : State) (off : Nat) (v : BitVec 64) : (setReg s off v).clm = s.clm := rfl
@[simp] theorem setReg_smChk (s : State) (off : Nat) (v : BitVec 64) : (setReg s off v).smChk = s.smChk := rfl
@[simp] theorem setReg_lsChk (s : State) (off : Nat) (v : BitVec 64) : (setReg s off v).lsChk = s.lsChk := rfl
@[simp] theorem setReg_clmChk (s : State) (off : Nat) (v : BitVec 64) : (setReg s off v).clmChk = s.clmChk := rfl
@[simp] theorem setReg_binaries (s : State) (off : Nat) (v : BitVec 64) : (setReg s off v).binaries = s.binaries := rfl
@[simp] theorem setReg_xl (s : State) (off : Nat) (v : BitVec 64) : (setReg s off v).xl = s.xl := rfl
@[simp] theorem setReg_mem (s : State) (off : Nat) (v : BitVec 64) : (setReg s off v).mem = s.mem := rfl
@[simp] theorem setReg_chn (s : State) (off : Nat) (v : BitVec 64) : (setReg s off v).chn = s.chn := rfl
@[simp] theorem setReg_tnd (s : State) (off : Nat) (v : BitVec 64) : (setReg s off v).tnd = s.tnd := rfl
@[simp] theorem setReg_dmk (s : State) (off : Nat) (v : BitVec 64) : (setReg s off v).dmk = s.dmk := rfl
@[simp] theorem setReg_frz (s : State) (off : Nat) (v : BitVec 64) : (setReg s off v).frz = s.frz := rfl
@[simp] theorem setReg_kpr (s : State) (off : Nat) (v : BitVec 64) : (setReg s off v).kpr = s.kpr := rfl
@[simp] theorem setReg_hng (s : State) (off : Nat) (v : BitVec 64) : (setReg s off v).hng = s.hng := rfl
@[simp] theorem setReg_pins (s : State) (off : Nat) (v : BitVec 64) : (setReg s off v).pins = s.pins := rfl

@[simp] theorem emit_out (s : State) (o : Out) : (s.emit o).out = o :: s.out := rfl
@[simp] theorem regNow_setReg_same (s : State) (off : Nat) (v : BitVec 64) : regNow (setReg s off v) off = v := tget_tput_same _ _ _ _
theorem regNow_setReg_other (s : State) (off : Nat) (v : BitVec 64) (j : Nat) (h : j ≠ off) : regNow (setReg s off v) j = regNow s j :=
  tget_tput_other _ _ _ _ _ _ h

end Sys2Proof.Laws
end

