-- ==== Sys2Proof/Laws/Ops.lean ====
section
/-!
SUPPORT. What the shared operations can do: the parts of the state that each leaves alone, and what it leaves of the parts it changes.
-/
namespace Sys2Proof.Laws
open Sys2Proof.Machine

/-! ### Parts -/

theorem same_refl (s : State) (ps : List Part) : SameBut ps s s := by
  intro p _
  cases p <;> rfl

theorem same_trans {s t u : State} {ps qs : List Part} (h : SameBut ps s t) (k : SameBut qs t u) : SameBut (ps ++ qs) s u := by
  intro p hp
  have h1 := h p (fun x => hp (List.mem_append_left _ x))
  have k1 := k p (fun x => hp (List.mem_append_right _ x))
  cases p <;> exact Eq.trans k1 h1

theorem same_mono {s t : State} {ps qs : List Part} (h : SameBut ps s t) (k : ∀ p, p ∈ ps → p ∈ qs) : SameBut qs s t :=
  fun p hp => h p (fun x => hp (k p x))

/-- A fold of operations that leave the same parts leaves them. -/
theorem same_foldl {α : Type} {ps : List Part} (f : State → α → State) (h : ∀ s a, SameBut ps s (f s a)) (l : List α) (s : State) :
    SameBut ps s (l.foldl f s) := by
  induction l generalizing s with
  | nil => exact same_refl s ps
  | cons a r ih => exact same_mono (same_trans (h s a) (ih (f s a))) (fun p hp => by simpa using hp)

/-! ### sendMsix -/

theorem sendMsix_same (s : State) (v : Nat) : SameBut [.out, .pci] s (sendMsix s v) := by
  intro p hp
  cases p <;> first | (simp at hp; done) | (simp only [Part.same]; unfold sendMsix; split <;> rfl)
@[simp] theorem sendMsix_pending (s : State) (v : Nat) : (sendMsix s v).pending = s.pending := sendMsix_same s v .pending (by decide)
@[simp] theorem sendMsix_regs (s : State) (v : Nat) : (sendMsix s v).regs = s.regs := sendMsix_same s v .regs (by decide)
@[simp] theorem sendMsix_free (s : State) (v : Nat) : (sendMsix s v).free = s.free := sendMsix_same s v .free (by decide)
@[simp] theorem sendMsix_flash (s : State) (v : Nat) : (sendMsix s v).flash = s.flash := sendMsix_same s v .flash (by decide)
@[simp] theorem sendMsix_sat (s : State) (v : Nat) : (sendMsix s v).sat = s.sat := sendMsix_same s v .sat (by decide)
@[simp] theorem sendMsix_ll (s : State) (v : Nat) : (sendMsix s v).ll = s.ll := sendMsix_same s v .ll (by decide)
@[simp] theorem sendMsix_sectors (s : State) (v : Nat) : (sendMsix s v).sectors = s.sectors := sendMsix_same s v .sectors (by decide)
@[simp] theorem sendMsix_res (s : State) (v : Nat) : (sendMsix s v).res = s.res := sendMsix_same s v .res (by decide)
@[simp] theorem sendMsix_gens (s : State) (v : Nat) : (sendMsix s v).gens = s.gens := sendMsix_same s v .gens (by decide)
@[simp] theorem sendMsix_rb (s : State) (v : Nat) : (sendMsix s v).rb = s.rb := sendMsix_same s v .rb (by decide)
@[simp] theorem sendMsix_rings (s : State) (v : Nat) : (sendMsix s v).rings = s.rings := sendMsix_same s v .rings (by decide)
@[simp] theorem sendMsix_ctxs (s : State) (v : Nat) : (sendMsix s v).ctxs = s.ctxs := sendMsix_same s v .ctxs (by decide)
@[simp] theorem sendMsix_events (s : State) (v : Nat) : (sendMsix s v).events = s.events := sendMsix_same s v .events (by decide)
@[simp] theorem sendMsix_tables (s : State) (v : Nat) : (sendMsix s v).tables = s.tables := sendMsix_same s v .tables (by decide)
@[simp] theorem sendMsix_cores (s : State) (v : Nat) : (sendMsix s v).cores = s.cores := sendMsix_same s v .cores (by decide)
@[simp] theorem sendMsix_groups (s : State) (v : Nat) : (sendMsix s v).groups = s.groups := sendMsix_same s v .groups (by decide)
@[simp] theorem sendMsix_nextGroup (s : State) (v : Nat) : (sendMsix s v).nextGroup = s.nextGroup := sendMsix_same s v .nextGroup (by decide)
@[simp] theorem sendMsix_seqs (s : State) (v : Nat) : (sendMsix s v).seqs = s.seqs := sendMsix_same s v .seqs (by decide)
@[simp] theorem sendMsix_seqSecs (s : State) (v : Nat) : (sendMsix s v).seqSecs = s.seqSecs := sendMsix_same s v .seqSecs (by decide)
@[simp] theorem sendMsix_env (s : State) (v : Nat) : (sendMsix s v).env = s.env := sendMsix_same s v .env (by decide)
@[simp] theorem sendMsix_ctr (s : State) (v : Nat) : (sendMsix s v).ctr = s.ctr := sendMsix_same s v .ctr (by decide)
@[simp] theorem sendMsix_shadow (s : State) (v : Nat) : (sendMsix s v).shadow = s.shadow := sendMsix_same s v .shadow (by decide)
@[simp] theorem sendMsix_log (s : State) (v : Nat) : (sendMsix s v).log = s.log := sendMsix_same s v .log (by decide)
@[simp] theorem sendMsix_logSeq (s : State) (v : Nat) : (sendMsix s v).logSeq = s.logSeq := sendMsix_same s v .logSeq (by decide)
@[simp] theorem sendMsix_resets (s : State) (v : Nat) : (sendMsix s v).resets = s.resets := sendMsix_same s v .resets (by decide)
@[simp] theorem sendMsix_sm (s : State) (v : Nat) : (sendMsix s v).sm = s.sm := sendMsix_same s v .sm (by decide)
@[simp] theorem sendMsix_ls (s : State) (v : Nat) : (sendMsix s v).ls = s.ls := sendMsix_same s v .ls (by decide)
@[simp] theorem sendMsix_clm (s : State) (v : Nat) : (sendMsix s v).clm = s.clm := sendMsix_same s v .clm (by decide)
@[simp] theorem sendMsix_smChk (s : State) (v : Nat) : (sendMsix s v).smChk = s.smChk := sendMsix_same s v .smChk (by decide)
@[simp] theorem sendMsix_lsChk (s : State) (v : Nat) : (sendMsix s v).lsChk = s.lsChk := sendMsix_same s v .lsChk (by decide)
@[simp] theorem sendMsix_clmChk (s : State) (v : Nat) : (sendMsix s v).clmChk = s.clmChk := sendMsix_same s v .clmChk (by decide)
@[simp] theorem sendMsix_binaries (s : State) (v : Nat) : (sendMsix s v).binaries = s.binaries := sendMsix_same s v .binaries (by decide)
@[simp] theorem sendMsix_xl (s : State) (v : Nat) : (sendMsix s v).xl = s.xl := sendMsix_same s v .xl (by decide)
@[simp] theorem sendMsix_mem (s : State) (v : Nat) : (sendMsix s v).mem = s.mem := sendMsix_same s v .mem (by decide)
@[simp] theorem sendMsix_chn (s : State) (v : Nat) : (sendMsix s v).chn = s.chn := sendMsix_same s v .chn (by decide)
@[simp] theorem sendMsix_tnd (s : State) (v : Nat) : (sendMsix s v).tnd = s.tnd := sendMsix_same s v .tnd (by decide)
@[simp] theorem sendMsix_dmk (s : State) (v : Nat) : (sendMsix s v).dmk = s.dmk := sendMsix_same s v .dmk (by decide)
@[simp] theorem sendMsix_frz (s : State) (v : Nat) : (sendMsix s v).frz = s.frz := sendMsix_same s v .frz (by decide)
@[simp] theorem sendMsix_kpr (s : State) (v : Nat) : (sendMsix s v).kpr = s.kpr := sendMsix_same s v .kpr (by decide)
@[simp] theorem sendMsix_hng (s : State) (v : Nat) : (sendMsix s v).hng = s.hng := sendMsix_same s v .hng (by decide)
@[simp] theorem sendMsix_pins (s : State) (v : Nat) : (sendMsix s v).pins = s.pins := sendMsix_same s v .pins (by decide)

/-! ### sendVector -/

theorem sendVector_same (s : State) (v : Nat) : SameBut [.out, .pci] s (sendVector s v) := by
  intro p hp
  cases p <;> first | (simp at hp; done) | (simp only [Part.same, sendVector]; split <;> simp)
@[simp] theorem sendVector_pending (s : State) (v : Nat) : (sendVector s v).pending = s.pending := sendVector_same s v .pending (by decide)
@[simp] theorem sendVector_regs (s : State) (v : Nat) : (sendVector s v).regs = s.regs := sendVector_same s v .regs (by decide)
@[simp] theorem sendVector_free (s : State) (v : Nat) : (sendVector s v).free = s.free := sendVector_same s v .free (by decide)
@[simp] theorem sendVector_flash (s : State) (v : Nat) : (sendVector s v).flash = s.flash := sendVector_same s v .flash (by decide)
@[simp] theorem sendVector_sat (s : State) (v : Nat) : (sendVector s v).sat = s.sat := sendVector_same s v .sat (by decide)
@[simp] theorem sendVector_ll (s : State) (v : Nat) : (sendVector s v).ll = s.ll := sendVector_same s v .ll (by decide)
@[simp] theorem sendVector_sectors (s : State) (v : Nat) : (sendVector s v).sectors = s.sectors := sendVector_same s v .sectors (by decide)
@[simp] theorem sendVector_res (s : State) (v : Nat) : (sendVector s v).res = s.res := sendVector_same s v .res (by decide)
@[simp] theorem sendVector_gens (s : State) (v : Nat) : (sendVector s v).gens = s.gens := sendVector_same s v .gens (by decide)
@[simp] theorem sendVector_rb (s : State) (v : Nat) : (sendVector s v).rb = s.rb := sendVector_same s v .rb (by decide)
@[simp] theorem sendVector_rings (s : State) (v : Nat) : (sendVector s v).rings = s.rings := sendVector_same s v .rings (by decide)
@[simp] theorem sendVector_ctxs (s : State) (v : Nat) : (sendVector s v).ctxs = s.ctxs := sendVector_same s v .ctxs (by decide)
@[simp] theorem sendVector_events (s : State) (v : Nat) : (sendVector s v).events = s.events := sendVector_same s v .events (by decide)
@[simp] theorem sendVector_tables (s : State) (v : Nat) : (sendVector s v).tables = s.tables := sendVector_same s v .tables (by decide)
@[simp] theorem sendVector_cores (s : State) (v : Nat) : (sendVector s v).cores = s.cores := sendVector_same s v .cores (by decide)
@[simp] theorem sendVector_groups (s : State) (v : Nat) : (sendVector s v).groups = s.groups := sendVector_same s v .groups (by decide)
@[simp] theorem sendVector_nextGroup (s : State) (v : Nat) : (sendVector s v).nextGroup = s.nextGroup := sendVector_same s v .nextGroup (by decide)
@[simp] theorem sendVector_seqs (s : State) (v : Nat) : (sendVector s v).seqs = s.seqs := sendVector_same s v .seqs (by decide)
@[simp] theorem sendVector_seqSecs (s : State) (v : Nat) : (sendVector s v).seqSecs = s.seqSecs := sendVector_same s v .seqSecs (by decide)
@[simp] theorem sendVector_env (s : State) (v : Nat) : (sendVector s v).env = s.env := sendVector_same s v .env (by decide)
@[simp] theorem sendVector_ctr (s : State) (v : Nat) : (sendVector s v).ctr = s.ctr := sendVector_same s v .ctr (by decide)
@[simp] theorem sendVector_shadow (s : State) (v : Nat) : (sendVector s v).shadow = s.shadow := sendVector_same s v .shadow (by decide)
@[simp] theorem sendVector_log (s : State) (v : Nat) : (sendVector s v).log = s.log := sendVector_same s v .log (by decide)
@[simp] theorem sendVector_logSeq (s : State) (v : Nat) : (sendVector s v).logSeq = s.logSeq := sendVector_same s v .logSeq (by decide)
@[simp] theorem sendVector_resets (s : State) (v : Nat) : (sendVector s v).resets = s.resets := sendVector_same s v .resets (by decide)
@[simp] theorem sendVector_sm (s : State) (v : Nat) : (sendVector s v).sm = s.sm := sendVector_same s v .sm (by decide)
@[simp] theorem sendVector_ls (s : State) (v : Nat) : (sendVector s v).ls = s.ls := sendVector_same s v .ls (by decide)
@[simp] theorem sendVector_clm (s : State) (v : Nat) : (sendVector s v).clm = s.clm := sendVector_same s v .clm (by decide)
@[simp] theorem sendVector_smChk (s : State) (v : Nat) : (sendVector s v).smChk = s.smChk := sendVector_same s v .smChk (by decide)
@[simp] theorem sendVector_lsChk (s : State) (v : Nat) : (sendVector s v).lsChk = s.lsChk := sendVector_same s v .lsChk (by decide)
@[simp] theorem sendVector_clmChk (s : State) (v : Nat) : (sendVector s v).clmChk = s.clmChk := sendVector_same s v .clmChk (by decide)
@[simp] theorem sendVector_binaries (s : State) (v : Nat) : (sendVector s v).binaries = s.binaries := sendVector_same s v .binaries (by decide)
@[simp] theorem sendVector_xl (s : State) (v : Nat) : (sendVector s v).xl = s.xl := sendVector_same s v .xl (by decide)
@[simp] theorem sendVector_mem (s : State) (v : Nat) : (sendVector s v).mem = s.mem := sendVector_same s v .mem (by decide)
@[simp] theorem sendVector_chn (s : State) (v : Nat) : (sendVector s v).chn = s.chn := sendVector_same s v .chn (by decide)
@[simp] theorem sendVector_tnd (s : State) (v : Nat) : (sendVector s v).tnd = s.tnd := sendVector_same s v .tnd (by decide)
@[simp] theorem sendVector_dmk (s : State) (v : Nat) : (sendVector s v).dmk = s.dmk := sendVector_same s v .dmk (by decide)
@[simp] theorem sendVector_frz (s : State) (v : Nat) : (sendVector s v).frz = s.frz := sendVector_same s v .frz (by decide)
@[simp] theorem sendVector_kpr (s : State) (v : Nat) : (sendVector s v).kpr = s.kpr := sendVector_same s v .kpr (by decide)
@[simp] theorem sendVector_hng (s : State) (v : Nat) : (sendVector s v).hng = s.hng := sendVector_same s v .hng (by decide)
@[simp] theorem sendVector_pins (s : State) (v : Nat) : (sendVector s v).pins = s.pins := sendVector_same s v .pins (by decide)

/-! ### raise -/

theorem raise_same (s : State) (off i : Nat) : SameBut [.regs, .out, .pci] s (raise s off i) := by
  intro p hp
  cases p <;> first | (simp at hp; done) | (simp only [Part.same, raise]; split <;> simp)
@[simp] theorem raise_pending (s : State) (off i : Nat) : (raise s off i).pending = s.pending := raise_same s off i .pending (by decide)
@[simp] theorem raise_free (s : State) (off i : Nat) : (raise s off i).free = s.free := raise_same s off i .free (by decide)
@[simp] theorem raise_flash (s : State) (off i : Nat) : (raise s off i).flash = s.flash := raise_same s off i .flash (by decide)
@[simp] theorem raise_sat (s : State) (off i : Nat) : (raise s off i).sat = s.sat := raise_same s off i .sat (by decide)
@[simp] theorem raise_ll (s : State) (off i : Nat) : (raise s off i).ll = s.ll := raise_same s off i .ll (by decide)
@[simp] theorem raise_sectors (s : State) (off i : Nat) : (raise s off i).sectors = s.sectors := raise_same s off i .sectors (by decide)
@[simp] theorem raise_res (s : State) (off i : Nat) : (raise s off i).res = s.res := raise_same s off i .res (by decide)
@[simp] theorem raise_gens (s : State) (off i : Nat) : (raise s off i).gens = s.gens := raise_same s off i .gens (by decide)
@[simp] theorem raise_rb (s : State) (off i : Nat) : (raise s off i).rb = s.rb := raise_same s off i .rb (by decide)
@[simp] theorem raise_rings (s : State) (off i : Nat) : (raise s off i).rings = s.rings := raise_same s off i .rings (by decide)
@[simp] theorem raise_ctxs (s : State) (off i : Nat) : (raise s off i).ctxs = s.ctxs := raise_same s off i .ctxs (by decide)
@[simp] theorem raise_events (s : State) (off i : Nat) : (raise s off i).events = s.events := raise_same s off i .events (by decide)
@[simp] theorem raise_tables (s : State) (off i : Nat) : (raise s off i).tables = s.tables := raise_same s off i .tables (by decide)
@[simp] theorem raise_cores (s : State) (off i : Nat) : (raise s off i).cores = s.cores := raise_same s off i .cores (by decide)
@[simp] theorem raise_groups (s : State) (off i : Nat) : (raise s off i).groups = s.groups := raise_same s off i .groups (by decide)
@[simp] theorem raise_nextGroup (s : State) (off i : Nat) : (raise s off i).nextGroup = s.nextGroup := raise_same s off i .nextGroup (by decide)
@[simp] theorem raise_seqs (s : State) (off i : Nat) : (raise s off i).seqs = s.seqs := raise_same s off i .seqs (by decide)
@[simp] theorem raise_seqSecs (s : State) (off i : Nat) : (raise s off i).seqSecs = s.seqSecs := raise_same s off i .seqSecs (by decide)
@[simp] theorem raise_env (s : State) (off i : Nat) : (raise s off i).env = s.env := raise_same s off i .env (by decide)
@[simp] theorem raise_ctr (s : State) (off i : Nat) : (raise s off i).ctr = s.ctr := raise_same s off i .ctr (by decide)
@[simp] theorem raise_shadow (s : State) (off i : Nat) : (raise s off i).shadow = s.shadow := raise_same s off i .shadow (by decide)
@[simp] theorem raise_log (s : State) (off i : Nat) : (raise s off i).log = s.log := raise_same s off i .log (by decide)
@[simp] theorem raise_logSeq (s : State) (off i : Nat) : (raise s off i).logSeq = s.logSeq := raise_same s off i .logSeq (by decide)
@[simp] theorem raise_resets (s : State) (off i : Nat) : (raise s off i).resets = s.resets := raise_same s off i .resets (by decide)
@[simp] theorem raise_sm (s : State) (off i : Nat) : (raise s off i).sm = s.sm := raise_same s off i .sm (by decide)
@[simp] theorem raise_ls (s : State) (off i : Nat) : (raise s off i).ls = s.ls := raise_same s off i .ls (by decide)
@[simp] theorem raise_clm (s : State) (off i : Nat) : (raise s off i).clm = s.clm := raise_same s off i .clm (by decide)
@[simp] theorem raise_smChk (s : State) (off i : Nat) : (raise s off i).smChk = s.smChk := raise_same s off i .smChk (by decide)
@[simp] theorem raise_lsChk (s : State) (off i : Nat) : (raise s off i).lsChk = s.lsChk := raise_same s off i .lsChk (by decide)
@[simp] theorem raise_clmChk (s : State) (off i : Nat) : (raise s off i).clmChk = s.clmChk := raise_same s off i .clmChk (by decide)
@[simp] theorem raise_binaries (s : State) (off i : Nat) : (raise s off i).binaries = s.binaries := raise_same s off i .binaries (by decide)
@[simp] theorem raise_xl (s : State) (off i : Nat) : (raise s off i).xl = s.xl := raise_same s off i .xl (by decide)
@[simp] theorem raise_mem (s : State) (off i : Nat) : (raise s off i).mem = s.mem := raise_same s off i .mem (by decide)
@[simp] theorem raise_chn (s : State) (off i : Nat) : (raise s off i).chn = s.chn := raise_same s off i .chn (by decide)
@[simp] theorem raise_tnd (s : State) (off i : Nat) : (raise s off i).tnd = s.tnd := raise_same s off i .tnd (by decide)
@[simp] theorem raise_dmk (s : State) (off i : Nat) : (raise s off i).dmk = s.dmk := raise_same s off i .dmk (by decide)
@[simp] theorem raise_frz (s : State) (off i : Nat) : (raise s off i).frz = s.frz := raise_same s off i .frz (by decide)
@[simp] theorem raise_kpr (s : State) (off i : Nat) : (raise s off i).kpr = s.kpr := raise_same s off i .kpr (by decide)
@[simp] theorem raise_hng (s : State) (off i : Nat) : (raise s off i).hng = s.hng := raise_same s off i .hng (by decide)
@[simp] theorem raise_pins (s : State) (off i : Nat) : (raise s off i).pins = s.pins := raise_same s off i .pins (by decide)

/-! ### raiseSeq -/

theorem raiseSeq_same (s : State) (n i : Nat) : SameBut [.regs, .out, .pci] s (raiseSeq s n i) := by
  intro p hp
  cases p <;> first | (simp at hp; done) | (simp [Part.same, raiseSeq])
@[simp] theorem raiseSeq_pending (s : State) (n i : Nat) : (raiseSeq s n i).pending = s.pending := raiseSeq_same s n i .pending (by decide)
@[simp] theorem raiseSeq_free (s : State) (n i : Nat) : (raiseSeq s n i).free = s.free := raiseSeq_same s n i .free (by decide)
@[simp] theorem raiseSeq_flash (s : State) (n i : Nat) : (raiseSeq s n i).flash = s.flash := raiseSeq_same s n i .flash (by decide)
@[simp] theorem raiseSeq_sat (s : State) (n i : Nat) : (raiseSeq s n i).sat = s.sat := raiseSeq_same s n i .sat (by decide)
@[simp] theorem raiseSeq_ll (s : State) (n i : Nat) : (raiseSeq s n i).ll = s.ll := raiseSeq_same s n i .ll (by decide)
@[simp] theorem raiseSeq_sectors (s : State) (n i : Nat) : (raiseSeq s n i).sectors = s.sectors := raiseSeq_same s n i .sectors (by decide)
@[simp] theorem raiseSeq_res (s : State) (n i : Nat) : (raiseSeq s n i).res = s.res := raiseSeq_same s n i .res (by decide)
@[simp] theorem raiseSeq_gens (s : State) (n i : Nat) : (raiseSeq s n i).gens = s.gens := raiseSeq_same s n i .gens (by decide)
@[simp] theorem raiseSeq_rb (s : State) (n i : Nat) : (raiseSeq s n i).rb = s.rb := raiseSeq_same s n i .rb (by decide)
@[simp] theorem raiseSeq_rings (s : State) (n i : Nat) : (raiseSeq s n i).rings = s.rings := raiseSeq_same s n i .rings (by decide)
@[simp] theorem raiseSeq_ctxs (s : State) (n i : Nat) : (raiseSeq s n i).ctxs = s.ctxs := raiseSeq_same s n i .ctxs (by decide)
@[simp] theorem raiseSeq_events (s : State) (n i : Nat) : (raiseSeq s n i).events = s.events := raiseSeq_same s n i .events (by decide)
@[simp] theorem raiseSeq_tables (s : State) (n i : Nat) : (raiseSeq s n i).tables = s.tables := raiseSeq_same s n i .tables (by decide)
@[simp] theorem raiseSeq_cores (s : State) (n i : Nat) : (raiseSeq s n i).cores = s.cores := raiseSeq_same s n i .cores (by decide)
@[simp] theorem raiseSeq_groups (s : State) (n i : Nat) : (raiseSeq s n i).groups = s.groups := raiseSeq_same s n i .groups (by decide)
@[simp] theorem raiseSeq_nextGroup (s : State) (n i : Nat) : (raiseSeq s n i).nextGroup = s.nextGroup := raiseSeq_same s n i .nextGroup (by decide)
@[simp] theorem raiseSeq_seqs (s : State) (n i : Nat) : (raiseSeq s n i).seqs = s.seqs := raiseSeq_same s n i .seqs (by decide)
@[simp] theorem raiseSeq_seqSecs (s : State) (n i : Nat) : (raiseSeq s n i).seqSecs = s.seqSecs := raiseSeq_same s n i .seqSecs (by decide)
@[simp] theorem raiseSeq_env (s : State) (n i : Nat) : (raiseSeq s n i).env = s.env := raiseSeq_same s n i .env (by decide)
@[simp] theorem raiseSeq_ctr (s : State) (n i : Nat) : (raiseSeq s n i).ctr = s.ctr := raiseSeq_same s n i .ctr (by decide)
@[simp] theorem raiseSeq_shadow (s : State) (n i : Nat) : (raiseSeq s n i).shadow = s.shadow := raiseSeq_same s n i .shadow (by decide)
@[simp] theorem raiseSeq_log (s : State) (n i : Nat) : (raiseSeq s n i).log = s.log := raiseSeq_same s n i .log (by decide)
@[simp] theorem raiseSeq_logSeq (s : State) (n i : Nat) : (raiseSeq s n i).logSeq = s.logSeq := raiseSeq_same s n i .logSeq (by decide)
@[simp] theorem raiseSeq_resets (s : State) (n i : Nat) : (raiseSeq s n i).resets = s.resets := raiseSeq_same s n i .resets (by decide)
@[simp] theorem raiseSeq_sm (s : State) (n i : Nat) : (raiseSeq s n i).sm = s.sm := raiseSeq_same s n i .sm (by decide)
@[simp] theorem raiseSeq_ls (s : State) (n i : Nat) : (raiseSeq s n i).ls = s.ls := raiseSeq_same s n i .ls (by decide)
@[simp] theorem raiseSeq_clm (s : State) (n i : Nat) : (raiseSeq s n i).clm = s.clm := raiseSeq_same s n i .clm (by decide)
@[simp] theorem raiseSeq_smChk (s : State) (n i : Nat) : (raiseSeq s n i).smChk = s.smChk := raiseSeq_same s n i .smChk (by decide)
@[simp] theorem raiseSeq_lsChk (s : State) (n i : Nat) : (raiseSeq s n i).lsChk = s.lsChk := raiseSeq_same s n i .lsChk (by decide)
@[simp] theorem raiseSeq_clmChk (s : State) (n i : Nat) : (raiseSeq s n i).clmChk = s.clmChk := raiseSeq_same s n i .clmChk (by decide)
@[simp] theorem raiseSeq_binaries (s : State) (n i : Nat) : (raiseSeq s n i).binaries = s.binaries := raiseSeq_same s n i .binaries (by decide)
@[simp] theorem raiseSeq_xl (s : State) (n i : Nat) : (raiseSeq s n i).xl = s.xl := raiseSeq_same s n i .xl (by decide)
@[simp] theorem raiseSeq_mem (s : State) (n i : Nat) : (raiseSeq s n i).mem = s.mem := raiseSeq_same s n i .mem (by decide)
@[simp] theorem raiseSeq_chn (s : State) (n i : Nat) : (raiseSeq s n i).chn = s.chn := raiseSeq_same s n i .chn (by decide)
@[simp] theorem raiseSeq_tnd (s : State) (n i : Nat) : (raiseSeq s n i).tnd = s.tnd := raiseSeq_same s n i .tnd (by decide)
@[simp] theorem raiseSeq_dmk (s : State) (n i : Nat) : (raiseSeq s n i).dmk = s.dmk := raiseSeq_same s n i .dmk (by decide)
@[simp] theorem raiseSeq_frz (s : State) (n i : Nat) : (raiseSeq s n i).frz = s.frz := raiseSeq_same s n i .frz (by decide)
@[simp] theorem raiseSeq_kpr (s : State) (n i : Nat) : (raiseSeq s n i).kpr = s.kpr := raiseSeq_same s n i .kpr (by decide)
@[simp] theorem raiseSeq_hng (s : State) (n i : Nat) : (raiseSeq s n i).hng = s.hng := raiseSeq_same s n i .hng (by decide)
@[simp] theorem raiseSeq_pins (s : State) (n i : Nat) : (raiseSeq s n i).pins = s.pins := raiseSeq_same s n i .pins (by decide)

/-! ### startFlush -/

theorem startFlush_same (s : State)  : SameBut [.kpr, .logSeq] s (startFlush s) := by
  intro p hp
  cases p <;> first | (simp at hp; done) | (simp only [Part.same]; unfold startFlush; split <;> rfl)
@[simp] theorem startFlush_pending (s : State)  : (startFlush s).pending = s.pending := startFlush_same s  .pending (by decide)
@[simp] theorem startFlush_regs (s : State)  : (startFlush s).regs = s.regs := startFlush_same s  .regs (by decide)
@[simp] theorem startFlush_free (s : State)  : (startFlush s).free = s.free := startFlush_same s  .free (by decide)
@[simp] theorem startFlush_out (s : State)  : (startFlush s).out = s.out := startFlush_same s  .out (by decide)
@[simp] theorem startFlush_flash (s : State)  : (startFlush s).flash = s.flash := startFlush_same s  .flash (by decide)
@[simp] theorem startFlush_sat (s : State)  : (startFlush s).sat = s.sat := startFlush_same s  .sat (by decide)
@[simp] theorem startFlush_ll (s : State)  : (startFlush s).ll = s.ll := startFlush_same s  .ll (by decide)
@[simp] theorem startFlush_sectors (s : State)  : (startFlush s).sectors = s.sectors := startFlush_same s  .sectors (by decide)
@[simp] theorem startFlush_res (s : State)  : (startFlush s).res = s.res := startFlush_same s  .res (by decide)
@[simp] theorem startFlush_gens (s : State)  : (startFlush s).gens = s.gens := startFlush_same s  .gens (by decide)
@[simp] theorem startFlush_rb (s : State)  : (startFlush s).rb = s.rb := startFlush_same s  .rb (by decide)
@[simp] theorem startFlush_rings (s : State)  : (startFlush s).rings = s.rings := startFlush_same s  .rings (by decide)
@[simp] theorem startFlush_ctxs (s : State)  : (startFlush s).ctxs = s.ctxs := startFlush_same s  .ctxs (by decide)
@[simp] theorem startFlush_events (s : State)  : (startFlush s).events = s.events := startFlush_same s  .events (by decide)
@[simp] theorem startFlush_tables (s : State)  : (startFlush s).tables = s.tables := startFlush_same s  .tables (by decide)
@[simp] theorem startFlush_cores (s : State)  : (startFlush s).cores = s.cores := startFlush_same s  .cores (by decide)
@[simp] theorem startFlush_groups (s : State)  : (startFlush s).groups = s.groups := startFlush_same s  .groups (by decide)
@[simp] theorem startFlush_nextGroup (s : State)  : (startFlush s).nextGroup = s.nextGroup := startFlush_same s  .nextGroup (by decide)
@[simp] theorem startFlush_seqs (s : State)  : (startFlush s).seqs = s.seqs := startFlush_same s  .seqs (by decide)
@[simp] theorem startFlush_seqSecs (s : State)  : (startFlush s).seqSecs = s.seqSecs := startFlush_same s  .seqSecs (by decide)
@[simp] theorem startFlush_env (s : State)  : (startFlush s).env = s.env := startFlush_same s  .env (by decide)
@[simp] theorem startFlush_pci (s : State)  : (startFlush s).pci = s.pci := startFlush_same s  .pci (by decide)
@[simp] theorem startFlush_ctr (s : State)  : (startFlush s).ctr = s.ctr := startFlush_same s  .ctr (by decide)
@[simp] theorem startFlush_shadow (s : State)  : (startFlush s).shadow = s.shadow := startFlush_same s  .shadow (by decide)
@[simp] theorem startFlush_log (s : State)  : (startFlush s).log = s.log := startFlush_same s  .log (by decide)
@[simp] theorem startFlush_resets (s : State)  : (startFlush s).resets = s.resets := startFlush_same s  .resets (by decide)
@[simp] theorem startFlush_sm (s : State)  : (startFlush s).sm = s.sm := startFlush_same s  .sm (by decide)
@[simp] theorem startFlush_ls (s : State)  : (startFlush s).ls = s.ls := startFlush_same s  .ls (by decide)
@[simp] theorem startFlush_clm (s : State)  : (startFlush s).clm = s.clm := startFlush_same s  .clm (by decide)
@[simp] theorem startFlush_smChk (s : State)  : (startFlush s).smChk = s.smChk := startFlush_same s  .smChk (by decide)
@[simp] theorem startFlush_lsChk (s : State)  : (startFlush s).lsChk = s.lsChk := startFlush_same s  .lsChk (by decide)
@[simp] theorem startFlush_clmChk (s : State)  : (startFlush s).clmChk = s.clmChk := startFlush_same s  .clmChk (by decide)
@[simp] theorem startFlush_binaries (s : State)  : (startFlush s).binaries = s.binaries := startFlush_same s  .binaries (by decide)
@[simp] theorem startFlush_xl (s : State)  : (startFlush s).xl = s.xl := startFlush_same s  .xl (by decide)
@[simp] theorem startFlush_mem (s : State)  : (startFlush s).mem = s.mem := startFlush_same s  .mem (by decide)
@[simp] theorem startFlush_chn (s : State)  : (startFlush s).chn = s.chn := startFlush_same s  .chn (by decide)
@[simp] theorem startFlush_tnd (s : State)  : (startFlush s).tnd = s.tnd := startFlush_same s  .tnd (by decide)
@[simp] theorem startFlush_dmk (s : State)  : (startFlush s).dmk = s.dmk := startFlush_same s  .dmk (by decide)
@[simp] theorem startFlush_frz (s : State)  : (startFlush s).frz = s.frz := startFlush_same s  .frz (by decide)
@[simp] theorem startFlush_hng (s : State)  : (startFlush s).hng = s.hng := startFlush_same s  .hng (by decide)
@[simp] theorem startFlush_pins (s : State)  : (startFlush s).pins = s.pins := startFlush_same s  .pins (by decide)

/-! ### postLog -/

theorem postLog_same (s : State) (typ sector : Nat) (fatal : Bool) (arg : Nat) (more : Bool) : SameBut [.log, .logSeq, .kpr] s (postLog s typ sector fatal arg more) := by
  intro p hp
  cases p <;> first | (simp at hp; done) | (simp only [Part.same, postLog]; (repeat' split) <;> simp)
@[simp] theorem postLog_pending (s : State) (typ sector : Nat) (fatal : Bool) (arg : Nat) (more : Bool) : (postLog s typ sector fatal arg more).pending = s.pending := postLog_same s typ sector fatal arg more .pending (by decide)
@[simp] theorem postLog_regs (s : State) (typ sector : Nat) (fatal : Bool) (arg : Nat) (more : Bool) : (postLog s typ sector fatal arg more).regs = s.regs := postLog_same s typ sector fatal arg more .regs (by decide)
@[simp] theorem postLog_free (s : State) (typ sector : Nat) (fatal : Bool) (arg : Nat) (more : Bool) : (postLog s typ sector fatal arg more).free = s.free := postLog_same s typ sector fatal arg more .free (by decide)
@[simp] theorem postLog_out (s : State) (typ sector : Nat) (fatal : Bool) (arg : Nat) (more : Bool) : (postLog s typ sector fatal arg more).out = s.out := postLog_same s typ sector fatal arg more .out (by decide)
@[simp] theorem postLog_flash (s : State) (typ sector : Nat) (fatal : Bool) (arg : Nat) (more : Bool) : (postLog s typ sector fatal arg more).flash = s.flash := postLog_same s typ sector fatal arg more .flash (by decide)
@[simp] theorem postLog_sat (s : State) (typ sector : Nat) (fatal : Bool) (arg : Nat) (more : Bool) : (postLog s typ sector fatal arg more).sat = s.sat := postLog_same s typ sector fatal arg more .sat (by decide)
@[simp] theorem postLog_ll (s : State) (typ sector : Nat) (fatal : Bool) (arg : Nat) (more : Bool) : (postLog s typ sector fatal arg more).ll = s.ll := postLog_same s typ sector fatal arg more .ll (by decide)
@[simp] theorem postLog_sectors (s : State) (typ sector : Nat) (fatal : Bool) (arg : Nat) (more : Bool) : (postLog s typ sector fatal arg more).sectors = s.sectors := postLog_same s typ sector fatal arg more .sectors (by decide)
@[simp] theorem postLog_res (s : State) (typ sector : Nat) (fatal : Bool) (arg : Nat) (more : Bool) : (postLog s typ sector fatal arg more).res = s.res := postLog_same s typ sector fatal arg more .res (by decide)
@[simp] theorem postLog_gens (s : State) (typ sector : Nat) (fatal : Bool) (arg : Nat) (more : Bool) : (postLog s typ sector fatal arg more).gens = s.gens := postLog_same s typ sector fatal arg more .gens (by decide)
@[simp] theorem postLog_rb (s : State) (typ sector : Nat) (fatal : Bool) (arg : Nat) (more : Bool) : (postLog s typ sector fatal arg more).rb = s.rb := postLog_same s typ sector fatal arg more .rb (by decide)
@[simp] theorem postLog_rings (s : State) (typ sector : Nat) (fatal : Bool) (arg : Nat) (more : Bool) : (postLog s typ sector fatal arg more).rings = s.rings := postLog_same s typ sector fatal arg more .rings (by decide)
@[simp] theorem postLog_ctxs (s : State) (typ sector : Nat) (fatal : Bool) (arg : Nat) (more : Bool) : (postLog s typ sector fatal arg more).ctxs = s.ctxs := postLog_same s typ sector fatal arg more .ctxs (by decide)
@[simp] theorem postLog_events (s : State) (typ sector : Nat) (fatal : Bool) (arg : Nat) (more : Bool) : (postLog s typ sector fatal arg more).events = s.events := postLog_same s typ sector fatal arg more .events (by decide)
@[simp] theorem postLog_tables (s : State) (typ sector : Nat) (fatal : Bool) (arg : Nat) (more : Bool) : (postLog s typ sector fatal arg more).tables = s.tables := postLog_same s typ sector fatal arg more .tables (by decide)
@[simp] theorem postLog_cores (s : State) (typ sector : Nat) (fatal : Bool) (arg : Nat) (more : Bool) : (postLog s typ sector fatal arg more).cores = s.cores := postLog_same s typ sector fatal arg more .cores (by decide)
@[simp] theorem postLog_groups (s : State) (typ sector : Nat) (fatal : Bool) (arg : Nat) (more : Bool) : (postLog s typ sector fatal arg more).groups = s.groups := postLog_same s typ sector fatal arg more .groups (by decide)
@[simp] theorem postLog_nextGroup (s : State) (typ sector : Nat) (fatal : Bool) (arg : Nat) (more : Bool) : (postLog s typ sector fatal arg more).nextGroup = s.nextGroup := postLog_same s typ sector fatal arg more .nextGroup (by decide)
@[simp] theorem postLog_seqs (s : State) (typ sector : Nat) (fatal : Bool) (arg : Nat) (more : Bool) : (postLog s typ sector fatal arg more).seqs = s.seqs := postLog_same s typ sector fatal arg more .seqs (by decide)
@[simp] theorem postLog_seqSecs (s : State) (typ sector : Nat) (fatal : Bool) (arg : Nat) (more : Bool) : (postLog s typ sector fatal arg more).seqSecs = s.seqSecs := postLog_same s typ sector fatal arg more .seqSecs (by decide)
@[simp] theorem postLog_env (s : State) (typ sector : Nat) (fatal : Bool) (arg : Nat) (more : Bool) : (postLog s typ sector fatal arg more).env = s.env := postLog_same s typ sector fatal arg more .env (by decide)
@[simp] theorem postLog_pci (s : State) (typ sector : Nat) (fatal : Bool) (arg : Nat) (more : Bool) : (postLog s typ sector fatal arg more).pci = s.pci := postLog_same s typ sector fatal arg more .pci (by decide)
@[simp] theorem postLog_ctr (s : State) (typ sector : Nat) (fatal : Bool) (arg : Nat) (more : Bool) : (postLog s typ sector fatal arg more).ctr = s.ctr := postLog_same s typ sector fatal arg more .ctr (by decide)
@[simp] theorem postLog_shadow (s : State) (typ sector : Nat) (fatal : Bool) (arg : Nat) (more : Bool) : (postLog s typ sector fatal arg more).shadow = s.shadow := postLog_same s typ sector fatal arg more .shadow (by decide)
@[simp] theorem postLog_resets (s : State) (typ sector : Nat) (fatal : Bool) (arg : Nat) (more : Bool) : (postLog s typ sector fatal arg more).resets = s.resets := postLog_same s typ sector fatal arg more .resets (by decide)
@[simp] theorem postLog_sm (s : State) (typ sector : Nat) (fatal : Bool) (arg : Nat) (more : Bool) : (postLog s typ sector fatal arg more).sm = s.sm := postLog_same s typ sector fatal arg more .sm (by decide)
@[simp] theorem postLog_ls (s : State) (typ sector : Nat) (fatal : Bool) (arg : Nat) (more : Bool) : (postLog s typ sector fatal arg more).ls = s.ls := postLog_same s typ sector fatal arg more .ls (by decide)
@[simp] theorem postLog_clm (s : State) (typ sector : Nat) (fatal : Bool) (arg : Nat) (more : Bool) : (postLog s typ sector fatal arg more).clm = s.clm := postLog_same s typ sector fatal arg more .clm (by decide)
@[simp] theorem postLog_smChk (s : State) (typ sector : Nat) (fatal : Bool) (arg : Nat) (more : Bool) : (postLog s typ sector fatal arg more).smChk = s.smChk := postLog_same s typ sector fatal arg more .smChk (by decide)
@[simp] theorem postLog_lsChk (s : State) (typ sector : Nat) (fatal : Bool) (arg : Nat) (more : Bool) : (postLog s typ sector fatal arg more).lsChk = s.lsChk := postLog_same s typ sector fatal arg more .lsChk (by decide)
@[simp] theorem postLog_clmChk (s : State) (typ sector : Nat) (fatal : Bool) (arg : Nat) (more : Bool) : (postLog s typ sector fatal arg more).clmChk = s.clmChk := postLog_same s typ sector fatal arg more .clmChk (by decide)
@[simp] theorem postLog_binaries (s : State) (typ sector : Nat) (fatal : Bool) (arg : Nat) (more : Bool) : (postLog s typ sector fatal arg more).binaries = s.binaries := postLog_same s typ sector fatal arg more .binaries (by decide)
@[simp] theorem postLog_xl (s : State) (typ sector : Nat) (fatal : Bool) (arg : Nat) (more : Bool) : (postLog s typ sector fatal arg more).xl = s.xl := postLog_same s typ sector fatal arg more .xl (by decide)
@[simp] theorem postLog_mem (s : State) (typ sector : Nat) (fatal : Bool) (arg : Nat) (more : Bool) : (postLog s typ sector fatal arg more).mem = s.mem := postLog_same s typ sector fatal arg more .mem (by decide)
@[simp] theorem postLog_chn (s : State) (typ sector : Nat) (fatal : Bool) (arg : Nat) (more : Bool) : (postLog s typ sector fatal arg more).chn = s.chn := postLog_same s typ sector fatal arg more .chn (by decide)
@[simp] theorem postLog_tnd (s : State) (typ sector : Nat) (fatal : Bool) (arg : Nat) (more : Bool) : (postLog s typ sector fatal arg more).tnd = s.tnd := postLog_same s typ sector fatal arg more .tnd (by decide)
@[simp] theorem postLog_dmk (s : State) (typ sector : Nat) (fatal : Bool) (arg : Nat) (more : Bool) : (postLog s typ sector fatal arg more).dmk = s.dmk := postLog_same s typ sector fatal arg more .dmk (by decide)
@[simp] theorem postLog_frz (s : State) (typ sector : Nat) (fatal : Bool) (arg : Nat) (more : Bool) : (postLog s typ sector fatal arg more).frz = s.frz := postLog_same s typ sector fatal arg more .frz (by decide)
@[simp] theorem postLog_hng (s : State) (typ sector : Nat) (fatal : Bool) (arg : Nat) (more : Bool) : (postLog s typ sector fatal arg more).hng = s.hng := postLog_same s typ sector fatal arg more .hng (by decide)
@[simp] theorem postLog_pins (s : State) (typ sector : Nat) (fatal : Bool) (arg : Nat) (more : Bool) : (postLog s typ sector fatal arg more).pins = s.pins := postLog_same s typ sector fatal arg more .pins (by decide)

/-! ### epochUp -/

theorem epochUp_same (s : State) (k : Nat) : SameBut [.mem, .ctr] s (epochUp s k) := by
  intro p hp
  cases p <;> first | (simp at hp; done) | (rfl)
@[simp] theorem epochUp_pending (s : State) (k : Nat) : (epochUp s k).pending = s.pending := epochUp_same s k .pending (by decide)
@[simp] theorem epochUp_regs (s : State) (k : Nat) : (epochUp s k).regs = s.regs := epochUp_same s k .regs (by decide)
@[simp] theorem epochUp_free (s : State) (k : Nat) : (epochUp s k).free = s.free := epochUp_same s k .free (by decide)
@[simp] theorem epochUp_out (s : State) (k : Nat) : (epochUp s k).out = s.out := epochUp_same s k .out (by decide)
@[simp] theorem epochUp_flash (s : State) (k : Nat) : (epochUp s k).flash = s.flash := epochUp_same s k .flash (by decide)
@[simp] theorem epochUp_sat (s : State) (k : Nat) : (epochUp s k).sat = s.sat := epochUp_same s k .sat (by decide)
@[simp] theorem epochUp_ll (s : State) (k : Nat) : (epochUp s k).ll = s.ll := epochUp_same s k .ll (by decide)
@[simp] theorem epochUp_sectors (s : State) (k : Nat) : (epochUp s k).sectors = s.sectors := epochUp_same s k .sectors (by decide)
@[simp] theorem epochUp_res (s : State) (k : Nat) : (epochUp s k).res = s.res := epochUp_same s k .res (by decide)
@[simp] theorem epochUp_gens (s : State) (k : Nat) : (epochUp s k).gens = s.gens := epochUp_same s k .gens (by decide)
@[simp] theorem epochUp_rb (s : State) (k : Nat) : (epochUp s k).rb = s.rb := epochUp_same s k .rb (by decide)
@[simp] theorem epochUp_rings (s : State) (k : Nat) : (epochUp s k).rings = s.rings := epochUp_same s k .rings (by decide)
@[simp] theorem epochUp_ctxs (s : State) (k : Nat) : (epochUp s k).ctxs = s.ctxs := epochUp_same s k .ctxs (by decide)
@[simp] theorem epochUp_events (s : State) (k : Nat) : (epochUp s k).events = s.events := epochUp_same s k .events (by decide)
@[simp] theorem epochUp_tables (s : State) (k : Nat) : (epochUp s k).tables = s.tables := epochUp_same s k .tables (by decide)
@[simp] theorem epochUp_cores (s : State) (k : Nat) : (epochUp s k).cores = s.cores := epochUp_same s k .cores (by decide)
@[simp] theorem epochUp_groups (s : State) (k : Nat) : (epochUp s k).groups = s.groups := epochUp_same s k .groups (by decide)
@[simp] theorem epochUp_nextGroup (s : State) (k : Nat) : (epochUp s k).nextGroup = s.nextGroup := epochUp_same s k .nextGroup (by decide)
@[simp] theorem epochUp_seqs (s : State) (k : Nat) : (epochUp s k).seqs = s.seqs := epochUp_same s k .seqs (by decide)
@[simp] theorem epochUp_seqSecs (s : State) (k : Nat) : (epochUp s k).seqSecs = s.seqSecs := epochUp_same s k .seqSecs (by decide)
@[simp] theorem epochUp_env (s : State) (k : Nat) : (epochUp s k).env = s.env := epochUp_same s k .env (by decide)
@[simp] theorem epochUp_pci (s : State) (k : Nat) : (epochUp s k).pci = s.pci := epochUp_same s k .pci (by decide)
@[simp] theorem epochUp_shadow (s : State) (k : Nat) : (epochUp s k).shadow = s.shadow := epochUp_same s k .shadow (by decide)
@[simp] theorem epochUp_log (s : State) (k : Nat) : (epochUp s k).log = s.log := epochUp_same s k .log (by decide)
@[simp] theorem epochUp_logSeq (s : State) (k : Nat) : (epochUp s k).logSeq = s.logSeq := epochUp_same s k .logSeq (by decide)
@[simp] theorem epochUp_resets (s : State) (k : Nat) : (epochUp s k).resets = s.resets := epochUp_same s k .resets (by decide)
@[simp] theorem epochUp_sm (s : State) (k : Nat) : (epochUp s k).sm = s.sm := epochUp_same s k .sm (by decide)
@[simp] theorem epochUp_ls (s : State) (k : Nat) : (epochUp s k).ls = s.ls := epochUp_same s k .ls (by decide)
@[simp] theorem epochUp_clm (s : State) (k : Nat) : (epochUp s k).clm = s.clm := epochUp_same s k .clm (by decide)
@[simp] theorem epochUp_smChk (s : State) (k : Nat) : (epochUp s k).smChk = s.smChk := epochUp_same s k .smChk (by decide)
@[simp] theorem epochUp_lsChk (s : State) (k : Nat) : (epochUp s k).lsChk = s.lsChk := epochUp_same s k .lsChk (by decide)
@[simp] theorem epochUp_clmChk (s : State) (k : Nat) : (epochUp s k).clmChk = s.clmChk := epochUp_same s k .clmChk (by decide)
@[simp] theorem epochUp_binaries (s : State) (k : Nat) : (epochUp s k).binaries = s.binaries := epochUp_same s k .binaries (by decide)
@[simp] theorem epochUp_xl (s : State) (k : Nat) : (epochUp s k).xl = s.xl := epochUp_same s k .xl (by decide)
@[simp] theorem epochUp_chn (s : State) (k : Nat) : (epochUp s k).chn = s.chn := epochUp_same s k .chn (by decide)
@[simp] theorem epochUp_tnd (s : State) (k : Nat) : (epochUp s k).tnd = s.tnd := epochUp_same s k .tnd (by decide)
@[simp] theorem epochUp_dmk (s : State) (k : Nat) : (epochUp s k).dmk = s.dmk := epochUp_same s k .dmk (by decide)
@[simp] theorem epochUp_frz (s : State) (k : Nat) : (epochUp s k).frz = s.frz := epochUp_same s k .frz (by decide)
@[simp] theorem epochUp_kpr (s : State) (k : Nat) : (epochUp s k).kpr = s.kpr := epochUp_same s k .kpr (by decide)
@[simp] theorem epochUp_hng (s : State) (k : Nat) : (epochUp s k).hng = s.hng := epochUp_same s k .hng (by decide)
@[simp] theorem epochUp_pins (s : State) (k : Nat) : (epochUp s k).pins = s.pins := epochUp_same s k .pins (by decide)

/-! ### Event registers -/

theorem evBits_raise_self (s : State) (off i : Nat) : evBits (raise s off i) off = evBits s off ||| BitVec.ofNat 64 (2 ^ i) := by
  unfold raise
  split <;> simp [evBits]

theorem regs_raise_other (s : State) (off i : Nat) (d : BitVec 64) (j : Nat) (h : j ≠ off) :
    tget d (raise s off i).regs j = tget d s.regs j := by
  unfold raise
  split <;> simp [tget_tput_other _ _ _ _ _ _ h]

theorem evBits_raise_other (s : State) (off i j : Nat) (h : j ≠ off) : evBits (raise s off i) j = evBits s j :=
  regs_raise_other s off i 0 j h

theorem bit_ofNat_eq (x : BitVec 64) (i : Nat) : bit x.toNat i = x.getLsbD i := by
  simp [bit, bits, BitVec.getLsbD, Nat.testBit, Nat.shiftRight_eq_div_pow, Nat.and_comm 1, Nat.and_one_is_mod]

/-- The bit that is raised reads 1 afterwards. -/
theorem evSet_raise_self (s : State) (off i : Nat) (h : i < 64) : evSet (raise s off i) off i = true := by
  unfold evSet
  rw [evBits_raise_self, bit_ofNat_eq, BitVec.getLsbD_or, BitVec.getLsbD_ofNat, Nat.testBit_two_pow_self, decide_eq_true h, Bool.true_and,
    Bool.or_true]

/-- A bit that was set stays set. -/
theorem evSet_raise_mono (s : State) (off i a j : Nat) (h : evSet s a j = true) : evSet (raise s off i) a j = true := by
  unfold evSet at *
  by_cases k : a = off
  · subst k
    rw [evBits_raise_self, bit_ofNat_eq, BitVec.getLsbD_or, ← bit_ofNat_eq, h, Bool.true_or]
  · rwa [evBits_raise_other s off i a k]

/-! ### The Logbook -/

/-- An entry is posted while the Keeper takes entries: it is the newest, and the Logbook keeps the last 65,536 (R480). -/
theorem postLog_log (s : State) (typ sector : Nat) (fatal : Bool) (arg : Nat) (more : Bool)
    (h : s.kpr.runs = true) (k : s.kpr.st ≠ .restarting) :
    (postLog s typ sector fatal arg more).log =
      ({ seq := s.logSeq, when_ := s.now, typ := typ, sector := sector, fatal := fatal, freeRun := s.flash.freeRun, more := more,
         arg := BitVec.ofNat 64 arg } :: s.log).take 65536 := by
  have i : (!s.kpr.runs || s.kpr.st == .restarting) = false := by simp [h, k]
  unfold postLog startFlush
  simp only [i, Bool.false_and, Bool.false_eq_true, if_false]
  (repeat' split) <;> rfl

end Sys2Proof.Laws
end

