-- ==== Sys2Proof/Machine/Codes.lean ====
section
/-!
DEFINITION. The check codes of memory: the (13,8) byte code of R352 and the RS(72,64) line code of R353, with poison. The
state keeps what a code says of each byte or line that is not clean (`smChk`, `lsChk`, `clmChk`); these functions say what a
stored word says.
-/
namespace Sys2Proof.Machine

/-- What a code says of a stored value (R352, R353). -/
inductive Verdict where
  | clean (data : List Nat)
  | corrected (position : Nat) (data : List Nat)
  | uncorrectable
  | poisoned
  deriving DecidableEq, Repr

/-! ### The byte code (R352) -/

/-- Positions of the data bits d0 to d7. -/
def dataPos : List Nat := [3, 5, 6, 7, 9, 10, 11, 12]

/-- XOR of the indices of the positions 1–12 that hold 1. -/
def byteSyndrome (x : Nat) : Nat := (List.range 13).foldl (fun a i => if bit x i then a ^^^ i else a) 0

/-- XOR of all 13 bits. -/
def byteParity (x : Nat) : Nat := (List.range 13).foldl (fun a i => if bit x i then 1 - a else a) 0

/-- A byte as 13 stored bits. -/
def byteEncode (b : Nat) : Nat :=
  let d := dataPos.zipIdx.foldl (fun a p => if bit b p.2 then a + 2 ^ p.1 else a) 0
  let c := byteSyndrome d
  let x := d + (c % 2) * 2 + (c / 2 % 2) * 4 + (c / 4 % 2) * 16 + (c / 8 % 2) * 256
  x + byteParity x

/-- The data bits of 13 stored bits. -/
def byteData (x : Nat) : Nat := dataPos.zipIdx.foldl (fun a p => if bit x p.1 then a + 2 ^ p.2 else a) 0

/-- Read 13 stored bits. -/
def byteDecode (x : Nat) : Verdict :=
  let s := byteSyndrome x
  let p := byteParity x
  if p = 0 then (if s = 0 then .clean [byteData x] else .uncorrectable)
  else if s ≤ 12 then .corrected s [byteData (x ^^^ 2 ^ s)]
  else if s = 15 then .poisoned else .uncorrectable

/-- A poisoned byte: a codeword with c0–c3 and P inverted. -/
def bytePoison (b : Nat) : Nat := byteEncode b ^^^ (1 + 2 + 4 + 16 + 256)

/-! ### The line code (R353) -/

/-- Multiplication in GF(2^8) with x^8 + x^4 + x^3 + x^2 + 1. -/
def gfMul (a b : Nat) : Nat :=
  ((List.range 8).foldl (fun (acc : Nat × Nat) i =>
    (if bit b i then acc.1 ^^^ acc.2 else acc.1,
     if 128 ≤ acc.2 then (acc.2 * 2) % 256 ^^^ 0x1D else acc.2 * 2)) (0, a)).1

/-- α^i with α = 2. -/
def gfPow : Nat → Nat
  | 0 => 1
  | i + 1 => gfMul 2 (gfPow i)

/-- Coefficients of the generator polynomial after its leading 1, from x^7 down. -/
def rsGen : List Nat :=
  (List.range 8).foldl (fun (g : List Nat) i =>
    let h := 1 :: g
    ((List.range (g.length + 1)).map (fun k => (h.getD (k + 1) 0) ^^^ gfMul (gfPow i) (h.getD k 0)))) []

/-- The check bytes K0–K7 of 64 data bytes: the remainder of division by the generator. -/
def rsCheck (d : List Nat) : List Nat :=
  d.foldl (fun (r : List Nat) x =>
    let q := x ^^^ r.headD 0
    (List.range 8).map (fun k => (r.getD (k + 1) 0) ^^^ gfMul q (rsGen.getD k 0))) (List.replicate 8 0)

/-- A line as 72 stored bytes. -/
def lineEncode (d : List Nat) : List Nat := d ++ rsCheck d

/-- The mask of a poisoned line. -/
def poisonMask : List Nat := [0x3C, 0xC3, 0x96, 0x69, 0x5A, 0xA5, 0x0F, 0xF0]

/-- A poisoned line. -/
def linePoison (d : List Nat) : List Nat := d ++ (List.range 8).map (fun k => (rsCheck d).getD k 0 ^^^ poisonMask.getD k 0)

/-- The eight syndromes of 72 stored bytes: the codeword polynomial at α^0 to α^7. -/
def rsSyndromes (x : List Nat) : List Nat :=
  (List.range 8).map (fun i => x.foldl (fun a b => gfMul a (gfPow i) ^^^ b) 0)

/-- The one-symbol error with these syndromes, if there is one: position and value. -/
def rsSingle (y : List Nat) : Option (Nat × Nat) :=
  let v := y.headD 0
  if v = 0 then none
  else
    match (List.range 72).find? (fun p => (List.range 8).all (fun i => y.getD i 0 == gfMul v (gfPow (i * (71 - p) % 255)))) with
    | some p => some (p, v)
    | none => none

/-- Read 72 stored bytes. A line whose errors lie beyond what the code guarantees may be taken for any of the outcomes, as
R353 says. -/
def lineDecode (x : List Nat) : Verdict :=
  let y := rsSyndromes x
  if y.all (· == 0) then .clean (x.take 64)
  else
    match rsSingle y with
    | some (p, v) => .corrected p ((x.set p (x.getD p 0 ^^^ v)).take 64)
    | none =>
      if y == rsSyndromes (List.replicate 64 0 ++ poisonMask) then .poisoned else .uncorrectable

end Sys2Proof.Machine
end

