-- ==== Sys2Proof/WellFormed.lean ====
section
/-!
DEFINITION. Well-formed commands: operands that the rule of a command's row can be given. A command outside these is none that the
interfaces of the block can carry.
-/
namespace Sys2Proof

/-- A BAR0 access (R9): four or eight bytes inside the 64 MiB of BAR0. -/
def accessOk (off size : Nat) : Bool := (size == 4 || size == 8) && decide (off + size ≤ 2 ^ 26)

/-- A group's cores are distinct, and there is at least one (R120). -/
def coresOk (cores : List (Fin 192)) : Bool := !cores.isEmpty && decide cores.Nodup

/-- The range of a translation is 2 MiB at least and 2^64 bytes at most (R302). -/
def ansOk : AtsAnswer → Bool
  | .denied => true
  | .range log _ _ _ => decide (12 ≤ log) && decide (log ≤ 64)

/-- A sample holds 160 junction sites, 8 rails, 64 ageing counts, and each Sector at most once (Table 17-5). -/
def readingsOk (r : Readings) : Bool :=
  r.sites.length == 160 && r.rails.length == 8 && r.ageing.length == 64 && decide (r.sectors.map (·.sector)).Nodup

/-- A nonce of SPDM is 32 bytes. -/
def nonceOk : Option (List Byte) → Bool
  | none => true
  | some n => n.length == 32

/-- Components 1 to 4, each once (R487). -/
def componentsOk (cs : List (Fin 5)) : Bool := !cs.contains 0 && decide cs.Nodup

/-- A step of Table 17-2. -/
def stepListed (id : Fin 128) : Bool :=
  let n := id.val
  decide (1 ≤ n && n ≤ 4) || decide (0x10 ≤ n && n ≤ 0x14) || decide (0x20 ≤ n && n < 0x44) || decide (0x50 ≤ n && n < 0x68) || n == 0x70

/-- A rung that is escalated by edges, and a target of its scope (R502). -/
def rungOk (rung target : Nat) : Bool :=
  (rung == 1 && decide (target < 16384)) || (rung == 2 && decide (target < 32)) || (rung == 3 && decide (target < 16))

/-- A mailbox request holds no more than its interface carries: the 4 KiB buffer of the host, or 1,024 bytes over the sideband (R454, R490). A request that its
mailbox finds malformed is well formed here: the mailbox answers it. -/
def requestOk (most : Nat) : Option (List Byte) → Bool
  | none => true
  | some b => decide (b.length ≤ most)

/-- A frame's fields have the widths of Table 13-2, and its payload is whole units of 64 bytes. -/
def frameOk (f : Frame) : Bool :=
  decide (f.type < 256) && decide (f.flags < 256) && decide (f.dst < 2 ^ 24) && decide (f.src < 2 ^ 24) && decide (f.status < 256) &&
  decide (f.mooring < 2 ^ 16) && decide (f.stream < 2 ^ 16) && decide (f.seq < 2 ^ 32) && decide (f.addr < 2 ^ 64) && f.payload.length % 64 == 0 && decide (f.payload.length ≤ 4096) &&
  decide (f.hops < 256)

/-- The command is well formed. -/
def wellFormed : Instr → Bool
  | .registerWrite off size _ => accessOk off size
  | .configRequest _ => true
  | .capVerOffer _ => true
  | .flashPulse _ => true
  | .flashFrame payload _ => payload.length == 14
  | .lockWindowExpiry _ => true
  | .flywheelEdge => true
  | .holdoverEdge => true
  | .holdoverTimeout _ => true
  | .phaseTick => true
  | .satArm _ => true
  | .satCancel _ => true
  | .satClear _ => true
  | .take => true
  | .flashMarker _ _ _ _ hops _ => decide (hops < 256)
  | .cmpSubmitGo => true
  | .llFetchDone _ _ => true
  | .llCheckDone _ => true
  | .llAuthoriseDone _ => true
  | .cmpSlotCancel _ => true
  | .rebindChunkMove _ => true
  | .requestDrainComplete _ => true
  | .generationDrained _ => true
  | .fillComplete _ => true
  | .drainDeadline _ => true
  | .launchDispatch _ cores _ => coresOk cores
  | .add _ _ => true
  | .sub _ _ => true
  | .and_ _ _ => true
  | .or_ _ _ => true
  | .xor_ _ _ => true
  | .sll _ _ => true
  | .srl _ _ => true
  | .sra _ _ => true
  | .slt _ _ => true
  | .sltu _ _ => true
  | .mul _ _ => true
  | .mulhu _ _ => true
  | .divu _ _ => true
  | .remu _ _ => true
  | .addi _ _ => true
  | .andi _ _ => true
  | .ori _ _ => true
  | .xori _ _ => true
  | .slli _ _ => true
  | .srli _ _ => true
  | .srai _ _ => true
  | .slti _ _ => true
  | .movz _ _ => true
  | .movk _ _ => true
  | .ld _ _ => true
  | .lw _ _ => true
  | .lb _ _ => true
  | .sd _ _ => true
  | .sw _ _ => true
  | .sb _ _ => true
  | .beq _ _ => true
  | .bne _ _ => true
  | .blt _ _ => true
  | .bge _ _ => true
  | .bltu _ _ => true
  | .bgeu _ _ => true
  | .jal _ _ => true
  | .jalr _ _ => true
  | .spr _ _ => true
  | .tld _ _ => true
  | .tsetb _ _ => true
  | .twait _ _ => true
  | .exit _ _ => true
  | .trap _ _ => true
  | .acz _ _ => true
  | .mma _ _ _ => true
  | .tred _ _ => true
  | .ladfin _ _ => true
  | .acst _ _ => true
  | .vadd _ _ => true
  | .vsub _ _ => true
  | .vmul _ _ => true
  | .vfma _ _ => true
  | .vmax _ _ => true
  | .vmin _ _ => true
  | .vscale _ _ => true
  | .vbias _ _ => true
  | .vexp _ _ => true
  | .vlog _ _ => true
  | .vrcp _ _ => true
  | .vcvt _ _ => true
  | .vrmax _ _ => true
  | .vrsum _ _ => true
  | .vsmx _ _ => true
  | .vtopk _ _ => true
  | .vtopp _ _ => true
  | .tcopy _ _ => true
  | .tpf _ _ => true
  | .aadd _ _ => true
  | .amax _ _ => true
  | .acas _ _ => true
  | .axchg _ _ => true
  | .bar _ _ => true
  | .esig _ _ => true
  | .ewait _ _ => true
  | .lfence _ _ => true
  | .sqinfo _ _ => true
  | .kvgather _ _ => true
  | .kvput _ _ => true
  | .sample _ _ => true
  | .tileInstructionComplete _ _ _ => true
  | .recomputeAttemptDone _ _ _ => true
  | .open_ _ _ _ => true
  | .append _ _ _ => true
  | .generate _ _ => true
  | .generatePrefetch _ _ => true
  | .fork _ _ _ => true
  | .abort _ _ => true
  | .close _ _ => true
  | .stepBatchForm _ _ => true
  | .arbiterAbort _ => true
  | .spillComplete _ _ _ => true
  | .pullComplete _ _ _ => true
  | .schedEnable _ => true
  | .schedDisable _ => true
  | .seqConfigWrite off size _ => accessOk off size
  | .functionLevelReset => true
  | .bar2Read addr len => decide (addr + len ≤ 2 ^ 43) && decide (len ≤ 4096)
  | .bar2Write addr bytes => decide (addr + bytes.length ≤ 2 ^ 43) && decide (bytes.length ≤ 4096)
  | .doorbellTail _ _ => true
  | .cqHead _ _ => true
  | .ringFetch _ _ => true
  | .privRingEnable _ => true
  | .privRingDisable _ => true
  | .nop _ _ _ => true
  | .launch _ _ _ => true
  | .buffer _ _ _ => true
  | .signal _ _ _ => true
  | .wait _ _ _ => true
  | .copy _ _ _ => true
  | .fill _ _ _ => true
  | .copyPieceComplete _ _ _ _ _ => true
  | .setTables _ _ => true
  | .ctxActivate _ _ => true
  | .ctxWaitAdmit _ => true
  | .ctxDeactivate _ _ => true
  | .ctxReset _ _ => true
  | .ctxResetComplete _ => true
  | .ringCreate _ _ => true
  | .ringDestroy _ _ => true
  | .ringDestroyComplete _ => true
  | .ringResume _ _ => true
  | .eventInit _ _ => true
  | .eventSetSignal _ _ => true
  | .eventSetAbandon _ _ => true
  | .eventSetFree _ _ => true
  | .atsCompletion _ _ _ ans => ansOk ans
  | .atsInvalidate _ _ _ _ => true
  | .invalidateCompletion _ => true
  | .prgResponse _ _ => true
  | .atfFqHead _ => true
  | .atfFqEnable _ => true
  | .atfFqDisable _ => true
  | .priResume => true
  | .finalWriteDiscard _ _ _ => true
  | .directoryRebuildDone _ => true
  | .coherenceEscalation _ => true
  | .rehomeWalkDone _ _ => true
  | .memCohTestForce _ => true
  | .scrubRead _ _ => true
  | .levelPublish _ _ served => served.length == 5
  | .memBwShare _ _ => true
  | .memScrubCtl _ => true
  | .write _ f => frameOk f
  | .read _ f => frameOk f
  | .prefetch _ f => frameOk f
  | .release _ f => frameOk f
  | .withdraw _ f => frameOk f
  | .ack _ f => frameOk f
  | .data _ f => frameOk f
  | .refuse _ f => frameOk f
  | .shortfall _ f => frameOk f
  | .fallbackHere _ f => frameOk f
  | .error _ f => frameOk f
  | .unreachable _ f => frameOk f
  | .hello _ f => frameOk f
  | .delayReq _ => true
  | .delayResp _ _ _ => true
  | .key _ _ => true
  | .relayForward _ f => frameOk f
  | .linkNak _ _ => true
  | .linkAck _ _ => true
  | .respTimeout _ => true
  | .seqRecordExpiry _ _ => true
  | .streamSeqRestart _ _ => true
  | .routeEntryExpiry _ _ => true
  | .portTrainingDone _ _ => true
  | .laneDown _ => true
  | .frameCounterLimit _ => true
  | .oldKeyDiscard _ => true
  | .bypass _ _ => true
  | .bypassMoved _ => true
  | .lease _ _ => true
  | .leaseExpiry _ => true
  | .leaseGraceEnd _ => true
  | .deviceId _ => true
  | .portDisable _ _ => true
  | .retrain _ => true
  | .tenderGrant _ => true
  | .grantTimeout _ _ => true
  | .reserveAutoUpdate _ => true
  | .rampDeadline => true
  | .tndSchedGo _ => true
  | .tndSchedCancel => true
  | .boostOpen _ => true
  | .boostClose => true
  | .boostWindowEnd => true
  | .paybackEnd => true
  | .wearSpent _ => true
  | .ageingRead trims => trims.length == 4
  | .vddDroop _ => true
  | .railOvercurrent _ => true
  | .inputOvercurrent => true
  | .emergencyEscalate => true
  | .emergencyRelease => true
  | .sensorSample r => readingsOk r
  | .getState req _ _ => requestOk 4096 req
  | .lcTransition req _ _ => requestOk 4096 req
  | .fuseProgrammingDone => true
  | .lcSetDigests req _ _ => requestOk 4096 req
  | .compkeyEnrol req _ _ => requestOk 4096 req
  | .debugCert req _ _ => requestOk 4096 req
  | .debugRevoke req _ _ => requestOk 4096 req
  | .getVersion => true
  | .getCapabilities => true
  | .negotiateAlgorithms => true
  | .getDigests => true
  | .getCertificate slot _ _ => decide (slot < 8)
  | .challenge slot nonce => decide (slot < 8) && nonce.length == 32
  | .getMeasurements index nonce => decide (index < 256) && nonceOk nonce
  | .sectorFrozen _ => true
  | .freezeDeadline _ => true
  | .imageWriteDone _ => true
  | .restoreDone _ _ => true
  | .standbyBoot _ _ => true
  | .coldBoot => true
  | .resetNAssert => true
  | .vinApplied _ => true
  | .bootStepEnd step _ _ _ _ => stepListed step
  | .bootStepTimeout step _ => stepListed step
  | .wearRecordWrite => true
  | .powerFail _ _ _ => true
  | .logFlushDone => true
  | .logRead via req => requestOk (if via == .host then 4096 else 1024) req
  | .logFlush via req => requestOk (if via == .host then 4096 else 1024) req
  | .logErase via req => requestOk (if via == .host then 4096 else 1024) req
  | .journalRead via req => requestOk (if via == .host then 4096 else 1024) req
  | .journalRetry via req => requestOk (if via == .host then 4096 else 1024) req
  | .sensorRead via req => requestOk (if via == .host then 4096 else 1024) req
  | .opOverride via req => requestOk (if via == .host then 4096 else 1024) req
  | .fwStatus via req => requestOk (if via == .host then 4096 else 1024) req
  | .queryDeviceIdentifiers => true
  | .getFirmwareParameters => true
  | .getStatus => true
  | .requestUpdate => true
  | .passComponentTable cs => componentsOk cs
  | .updateComponent c => c != 0
  | .requestFirmwareData data => decide (data.length ≤ 4096)
  | .transferComplete => true
  | .verifyComplete => true
  | .applyComplete => true
  | .activateFirmware => true
  | .cancelUpdateComponent => true
  | .cancelUpdate => true
  | .keeperRestartDone => true
  | .keeperWatchdog => true
  | .mctpControl => true
  | .keeperConsole => true
  | .contextWatchExpiry _ => true
  | .engineWatchExpiry _ => true
  | .hngResetContext _ => true
  | .hngResetEngine _ => true
  | .hngResetSector _ => true
  | .hngResetModule _ => true
  | .hngResetPowerCycle _ => true
  | .engineResetComplete _ => true
  | .resetEscalation rung target => rungOk rung target
  | .warmBootTimeout => true
  | .powerCycleTimeout => true
  | .crashDumpDone _ => true
  | .dumpCopy _ => true
  | .dumpCopyDone _ => true
  | .thermTripRelease => true
  | .tapInstruction _ => true
  | .laneUp _ => true
  | .droopRecovery _ => true

end Sys2Proof
end

