-- ==== Sys2Proof/Tests/Slice0.lean ====
section
/-!
SUPPORT. Witnesses: for each statement with hypotheses, a concrete state and operands that meet them, clause by clause; the well-formedness
checks with a term that each refuses; and small tests of one step, with results worked out from the spec.
-/
open Sys2Proof Sys2Proof.Machine

set_option maxRecDepth 20000
set_option synthInstance.maxSize 4000

/-- A 256-bit tile descriptor (Table 5-5) and a tile word (Table 5-2) from their fields. -/
def tDesc (space base fmt cols rows stride : Nat) : BitVec 256 :=
  BitVec.ofNat 256 (space * 2 ^ 60 + base + (fmt * 2 ^ 32 + cols * 2 ^ 16 + rows) * 2 ^ 64 + stride * 2 ^ 128)
def tWord (cls op imm sx sy acc ta tb tc : Nat) : BitVec 64 :=
  BitVec.ofNat 64 (imm * 2 ^ 48 + sx * 2 ^ 43 + sy * 2 ^ 38 + acc * 2 ^ 35 + 0x3F * 2 ^ 26 + cls * 2 ^ 23 + op * 2 ^ 16 + ta * 2 ^ 11 + tb * 2 ^ 6 + tc * 2)

/-- The next state that a command answers. -/
def goT (i : Instr) (s : State) : State := match exec i s with | .next t => t | _ => s

/-! ### Cores (05, 06) -/

def tG : Group := { owner := .cmd 0 0 none, ctx := 3, sector := 2, tag := 0, cores := [0, 5], codeLen := 0x100, step := false }
def tC : Core :=
  { run := .running
    group := 1
    pc := 8
    s := [(1, 0x12345), (2, 5), (3, 2 ^ 33), (4, 64), (6, 2 ^ 60)]
    t := [(1, tDesc 0 0x1000 7 2 2 64), (2, tDesc 0 0x2000 7 2 2 64), (3, tDesc 0 0x3000 7 2 2 64), (4, tDesc 1 0x100000 8 8 1 0),
          (5, tDesc 0 0x4000 8 8 1 0), (6, tDesc 2 0x4000 7 2 2 64), (7, tDesc 0 0x5000 15 2 2 64), (8, tDesc 0 0x5000 15 1 2 64)] }
def tS : State :=
  { State.reset with
    cores := [(0, tC), (5, { run := .running, group := 1, logical := 1 })]
    groups := [(1, some tG)]
    ctxs := [(3, { st := .resident, slot := 1, sector := 2, pages := [some 1, some 2] })]
    sectors := [(2, { exists_ := true })]
    clm := cwrite [] 0x2000 (leBytes 4 0x3F800000 ++ leBytes 4 0x40000000) }

theorem tS_issues : Issues tS 0 tC tG := ⟨rfl, rfl, rfl, rfl, by decide⟩

theorem witness_ScalarResults : Issues tS 0 tC tG ∧ bits (0 : BitVec 26).toNat 10 0 = 0 ∧ (bits (0 : BitVec 26).toNat 15 6 == 0) = true ∧
    (bits (0 : BitVec 26).toNat 20 18 == 0) = true := ⟨tS_issues, by decide, by decide, by decide⟩

theorem witness_ScalarMemory : Issues tS 0 tC tG ∧ clmBusy tC 0 8 false = false ∧ spaceChk tS tG 0 0 0 8 = [] ∧ clmBusy tC 0x7FFF8 8 true = false ∧
    0x7FFF8 + 8 ≤ 0x80000 ∧ clmBusy tC 64 32 false = false ∧ spaceChk tS tG 0 0 64 32 = [] :=
  ⟨tS_issues, by decide, by decide, by decide, by decide, by decide, by decide⟩

theorem witness_ControlFlow : Issues tS 0 tC tG ∧
    (wSa (9 : BitVec 26) = 0 ∧ (wImm (9 : BitVec 26)).toNat = 9) ∧
    (bits (0x1 * 2 ^ 16 : BitVec 26).toNat 15 0 = 0 ∧ (tC.sreg (wSa (0x1 * 2 ^ 16 : BitVec 26))).toNat < 2 ^ 57) ∧
    pendingOf tC 2 = some 0 ∧ pendingOf { tC with q := [tileOf tC (tWord 2 0 0 0 0 0 1 2 0)] } 2 = some 1 ∧
    (bits (7 : BitVec 26).toNat 25 8 = 0 ∧ 5 ∈ tG.cores ∧ (tS.core 5).run ≠ .exited) :=
  ⟨tS_issues, by decide, by decide, by decide, by decide, by decide⟩

/-- The same cores, with a started tile instruction on the second. -/
def tSRun : State :=
  { tS with cores := [(0, tC), (5, { run := .running, group := 1, logical := 1, q := [{ tileOf tC (tWord 1 0 0 0 0 0 1 2 3) with started := true }] })] }

theorem witness_Traps :
    (Issues tS 0 tC tG ∧ bits (0xB4000007 : BitVec 32).toNat 31 26 = 0x2D ∧ bits (0xB4000007 : BitVec 32).toNat 25 16 = 0) ∧
    (bits (0xB4010007 : BitVec 32).toNat 31 26 = 0x2D ∧ bits (0xB4010007 : BitVec 32).toNat 25 16 ≠ 0) ∧
    bits (0xB8000000 : BitVec 32).toNat 31 26 = 0x2E ∧
    (bits (0xFFFF0000 : BitVec 32).toNat 31 26 = 0x3F ∧ tC.pc % 8 ≠ 4 ∧ tileUse (bits (0xFFFF0000 : BitVec 32).toNat 25 23) (bits (0xFFFF0000 : BitVec 32).toNat 22 16) = none) ∧
    (tSRun.core 0 = tC ∧ tSRun.group tC.group = some tG ∧ tG.stopped = false ∧ tG.cores.Nodup ∧ 0 ∈ tG.cores ∧
      (∀ d ∈ tG.cores, ∀ o ∈ (tSRun.core d).q, o.started = true → tCLASS o.word ≠ 2) ∧ ∃ d ∈ tG.cores, ∃ o ∈ (tSRun.core d).q, o.started = true) ∧
    (bits (1 : BitVec 26).toNat 10 0 ≠ 0 ∧ bits (64 : BitVec 26).toNat 15 6 ≠ 0 ∧ bits (2 ^ 18 : BitVec 26).toNat 20 18 ≠ 0 ∧ 10 ≤ (wImm (10 : BitVec 26)).toNat ∧
      2 ^ 57 ≤ (tC.sreg (wSa (6 * 2 ^ 16 : BitVec 26))).toNat ∧ wSd (5 * 2 ^ 21 : BitVec 26) = 5 ∧ bits (256 : BitVec 26).toNat 25 8 ≠ 0) ∧
    0x80000 < 0x80000 + 1 ∧
    (Issues { tS with cores := [(0, { tC with pc := 12 })] } 0 { tC with pc := 12 } tG ∧ (12 : Nat) % 8 = 4 ∧ tG.codeLen ≤ 0x100) :=
  ⟨⟨tS_issues, by decide, by decide⟩, by decide, by decide, by decide, ⟨rfl, rfl, rfl, by decide, by decide, by decide, by decide⟩, by decide, by decide,
    ⟨rfl, rfl, rfl, rfl, by decide⟩, rfl, by decide⟩

theorem tS_starts (w : BitVec 64) (cls op : Nat) (h1 : tCLASS w = cls) (h2 : tOP w = op) (h3 : bits w.toNat 31 26 = 0x3F)
    (h4 : issueTrap tS tG (tileOf tC w) = none) (h5 : leaveNeed tS (tileOf tC w) = none) (h6 : hmRead (tileOf tC w) = [])
    (h7 : hmWriteUnits (tileOf tC w) = []) (h8 : tileReady tS tG (tileOf tC w) = true) : TileStarts tS 0 tC tG w cls op (tileOf tC w) :=
  ⟨⟨tS_issues, by decide, by decide, h1, h2, h3, rfl, h4⟩, rfl, h5, h6, h7, h8, rfl, rfl, rfl, rfl⟩

theorem witness_TileIssue : Issues tS 0 tC tG ∧ tC.pc % 8 = 0 ∧ issueTrap tS tG (tileOf tC (tWord 1 0 0 0 0 0 1 2 3)) = none ∧
    issueTrap tS tG (tileOf tC (tWord 1 0 0 0 0 0 4 2 3)) = some 0x04 ∧
    32 ≤ (({ tC with q := List.replicate 32 (tileOf tC (tWord 1 0 0 0 0 0 1 2 3)) } : Core).q.filter (fun q => tCLASS q.word == 1)).length :=
  ⟨tS_issues, by decide, by decide, by decide, by decide⟩

theorem witness_VectorUnit :
    TileStarts tS 0 tC tG (tWord 1 0 0 0 0 0 1 2 3) 1 0 (tileOf tC (tWord 1 0 0 0 0 0 1 2 3)) ∧
    TileStarts tS 0 tC tG (tWord 1 15 0 0 0 0 1 2 7) 1 15 (tileOf tC (tWord 1 15 0 0 0 0 1 2 7)) ∧
    TileStarts tS 0 tC tG (tWord 1 16 0 2 0 0 8 2 0) 1 16 (tileOf tC (tWord 1 16 0 2 0 0 8 2 0)) :=
  ⟨tS_starts _ _ _ (by decide) (by decide) (by decide) (by decide) (by decide) (by decide) (by decide) (by decide),
    tS_starts _ _ _ (by decide) (by decide) (by decide) (by decide) (by decide) (by decide) (by decide) (by decide),
    tS_starts _ _ _ (by decide) (by decide) (by decide) (by decide) (by decide) (by decide) (by decide) (by decide)⟩

/-- The first core with an accumulator of two blocks bound, its ladder as given, and narrow operands. -/
def tCA (ladder : List Span) : Core :=
  { tC with
    acc := [(1, some { base := 0x6000, rows := 2, cols := 2, stride := 64, nb := 2, depth := 4, ladder := ladder })]
    s := [(1, 0x12345), (2, 5), (3, 2 ^ 33), (4, 64), (6, 2 ^ 60), (8, 2 ^ 32)]
    t := [(1, tDesc 0 0x1000 7 2 2 64), (2, tDesc 0 0x2000 7 2 2 64), (9, tDesc 0 0x3000 8 32 2 64), (10, tDesc 0 0x4000 8 32 2 64)] }
def tSA (ladder : List Span) : State :=
  { tS with cores := [(0, tCA ladder), (5, { run := .running, group := 1, logical := 1 })] }

theorem tSA_starts (l : List Span) (w : BitVec 64) (cls op : Nat) (r : Bool) (h1 : tCLASS w = cls) (h2 : tOP w = op) (h3 : bits w.toNat 31 26 = 0x3F)
    (h4 : issueTrap (tSA l) tG (tileOf (tCA l) w r) = none) (h5 : leaveNeed (tSA l) (tileOf (tCA l) w r) = none) (h6 : hmRead (tileOf (tCA l) w r) = [])
    (h7 : hmWriteUnits (tileOf (tCA l) w r) = []) (h8 : tileReady (tSA l) tG (tileOf (tCA l) w r) = true) :
    TileStarts (tSA l) 0 (tCA l) tG w cls op (tileOf (tCA l) w r) :=
  ⟨⟨⟨rfl, rfl, rfl, rfl, (by decide : 8 < 0x100)⟩, (by decide : 0 ∈ [0, 5]), (by decide : 8 % 8 = 0), h1, h2, h3, rfl, h4⟩, rfl, h5, h6, h7, h8, rfl, rfl, rfl, rfl⟩

theorem witness_MatrixUnit :
    TileStarts tS 0 tC tG (tWord 0 0 3 2 0 1 1 0 0) 0 0 (tileOf tC (tWord 0 0 3 2 0 1 1 0 0)) ∧
    (TileStarts (tSA []) 0 (tCA []) tG (tWord 0 1 0 8 0 1 9 10 0) 0 1 (tileOf (tCA []) (tWord 0 1 0 8 0 1 9 10 0)) ∧
      TileStarts (tSA []) 0 (tCA []) tG (tWord 0 1 0 8 0 1 9 10 0) 0 1 (tileOf (tCA []) (tWord 0 1 0 8 0 1 9 10 0) false) ∧
      TileStarts (tSA []) 0 (tCA []) tG (tWord 0 2 0 8 0 1 1 0 0) 0 2 (tileOf (tCA []) (tWord 0 2 0 8 0 1 1 0 0)) ∧
      mayPush ⟨0x6000, 2, 2, 64, 2, 4, []⟩ ⟨0, 1⟩ = true) ∧
    (TileStarts (tSA [⟨0, 2⟩]) 0 (tCA [⟨0, 2⟩]) tG (tWord 0 3 0 0 0 1 0 0 0) 0 3 (tileOf (tCA [⟨0, 2⟩]) (tWord 0 3 0 0 0 1 0 0 0)) ∧
      TileStarts (tSA [⟨0, 2⟩]) 0 (tCA [⟨0, 2⟩]) tG (tWord 0 4 0 0 0 1 1 0 0) 0 4 (tileOf (tCA [⟨0, 2⟩]) (tWord 0 4 0 0 0 1 1 0 0))) ∧
    siblings ⟨0, 1⟩ ⟨1, 1⟩ 2 = true ∧ siblings ⟨0, 2⟩ ⟨2, 1⟩ 4 = false :=
  ⟨tS_starts _ _ _ (by decide) (by decide) (by decide) (by decide) (by decide) (by decide) (by decide) (by decide),
    ⟨tSA_starts _ _ _ _ _ (by decide) (by decide) (by decide) (by decide) (by decide) (by decide) (by decide) (by decide),
      tSA_starts _ _ _ _ _ (by decide) (by decide) (by decide) (by decide) (by decide) (by decide) (by decide) (by decide),
      tSA_starts _ _ _ _ _ (by decide) (by decide) (by decide) (by decide) (by decide) (by decide) (by decide) (by decide), by decide⟩,
    ⟨tSA_starts _ _ _ _ _ (by decide) (by decide) (by decide) (by decide) (by decide) (by decide) (by decide) (by decide),
      tSA_starts _ _ _ _ _ (by decide) (by decide) (by decide) (by decide) (by decide) (by decide) (by decide) (by decide)⟩, by decide, by decide⟩

/-- The first core's Sector has mapped memory and a mooring, and its descriptors name every space. -/
def tCM : Core :=
  { tC with t := [(1, tDesc 0 0x1000 7 2 2 64), (2, tDesc 0 0x2000 7 2 2 64), (4, tDesc 1 0x100000 8 8 1 0), (5, tDesc 0 0x4000 8 8 1 0), (6, tDesc 2 0x4000 7 2 2 64),
    (9, tDesc 4 (3 * 2 ^ 47) 8 64 2 64), (11, tDesc 0 0x4000 8 64 2 64)] }
def tSM : State :=
  { tS with
    cores := [(0, tCM), (5, { run := .running, group := 1, logical := 1 })]
    sectors := [(2, { exists_ := true, stripes := [⟨0, 4, [0]⟩], channels := [0], moorFirst := 0, moorCount := 8 })]
    chn := { moors := [(3, { st := .leased })] } }

theorem tSM_starts (w : BitVec 64) (cls op : Nat) (h1 : tCLASS w = cls) (h2 : tOP w = op) (h3 : bits w.toNat 31 26 = 0x3F)
    (h4 : issueTrap tSM tG (tileOf tCM w) = none) (h5 : leaveNeed tSM (tileOf tCM w) = none) (h6 : hmRead (tileOf tCM w) = [])
    (h7 : hmWriteUnits (tileOf tCM w) = []) (h8 : tileReady tSM tG (tileOf tCM w) = true) : TileStarts tSM 0 tCM tG w cls op (tileOf tCM w) :=
  ⟨⟨⟨rfl, rfl, rfl, rfl, by decide⟩, by decide, by decide, h1, h2, h3, rfl, h4⟩, rfl, h5, h6, h7, h8, rfl, rfl, rfl, rfl⟩

def tMoveOk (w : BitVec 64) : Prop :=
  let o := tileOf tCM w
  (o.source.toList ++ o.dest.toList).filterMap (tileTrap tSM tG) = [] ∧ (o.source.toList ++ o.dest.toList).filterMap (tileUnreachable tSM) = []

theorem witness_MovesAndSync :
    (TileStarts tSM 0 tCM tG (tWord 2 0 0 0 0 0 4 5 0) 2 0 (tileOf tCM (tWord 2 0 0 0 0 0 4 5 0)) ∧ tMoveOk (tWord 2 0 0 0 0 0 4 5 0)) ∧
    (TileStarts tSM 0 tCM tG (tWord 2 1 0 0 0 0 0 6 0) 2 1 (tileOf tCM (tWord 2 1 0 0 0 0 0 6 0)) ∧ tMoveOk (tWord 2 1 0 0 0 0 0 6 0)) ∧
    (TileStarts tSM 0 tCM tG (tWord 2 2 0 2 0 0 4 5 0) 2 2 (tileOf tCM (tWord 2 2 0 2 0 0 4 5 0)) ∧
      tileTrap tSM tG (tileOf tCM (tWord 2 2 0 2 0 0 4 5 0)).da = none) ∧
    (TileStarts tSM 0 tCM tG (tWord 3 0 4 0 0 0 0 0 0) 3 0 (tileOf tCM (tWord 3 0 4 0 0 0 0 0 0)) ∧
      TileStarts tSM 0 tCM tG (tWord 3 1 4 2 0 0 0 0 0) 3 1 (tileOf tCM (tWord 3 1 4 2 0 0 0 0 0))) ∧
    (TileStarts tSM 0 tCM tG (tWord 2 1 0 0 0 0 0 9 0) 2 1 (tileOf tCM (tWord 2 1 0 0 0 0 0 9 0)) ∧ tMoveOk (tWord 2 1 0 0 0 0 0 9 0)) ∧
    (TileStarts tSM 0 tCM tG (tWord 2 0 0 0 0 0 11 9 0) 2 0 (tileOf tCM (tWord 2 0 0 0 0 0 11 9 0)) ∧ tMoveOk (tWord 2 0 0 0 0 0 11 9 0)) ∧
    (TileStarts tSM 0 tCM tG (tWord 2 0 0 0 0 0 9 11 0) 2 0 (tileOf tCM (tWord 2 0 0 0 0 0 9 11 0)) ∧ tMoveOk (tWord 2 0 0 0 0 0 9 11 0)) :=
  ⟨⟨tSM_starts _ _ _ (by decide) (by decide) (by decide) (by decide) (by decide) (by decide) (by decide) (by decide), ⟨by decide, by decide⟩⟩,
    ⟨tSM_starts _ _ _ (by decide) (by decide) (by decide) (by decide) (by decide) (by decide) (by decide) (by decide), ⟨by decide, by decide⟩⟩,
    ⟨tSM_starts _ _ _ (by decide) (by decide) (by decide) (by decide) (by decide) (by decide) (by decide) (by decide), by decide⟩,
    ⟨tSM_starts _ _ _ (by decide) (by decide) (by decide) (by decide) (by decide) (by decide) (by decide) (by decide),
      tSM_starts _ _ _ (by decide) (by decide) (by decide) (by decide) (by decide) (by decide) (by decide) (by decide)⟩,
    ⟨tSM_starts _ _ _ (by decide) (by decide) (by decide) (by decide) (by decide) (by decide) (by decide) (by decide), ⟨by decide, by decide⟩⟩,
    ⟨tSM_starts _ _ _ (by decide) (by decide) (by decide) (by decide) (by decide) (by decide) (by decide) (by decide), ⟨by decide, by decide⟩⟩,
    ⟨tSM_starts _ _ _ (by decide) (by decide) (by decide) (by decide) (by decide) (by decide) (by decide) (by decide), ⟨by decide, by decide⟩⟩⟩

/-- A running step of Sector 2 with one decode row of slot 2,048 × 0 + 7, its pool one extent, its block in frame 0. -/
def tQG : Group := { tG with owner := .step 2, step := true, batch := 1 }
def tQR : Row := { slot := 7, gen := 0, kind := 1, first := 4, len := 1 }
def tQC : Core :=
  { tC with
    s := [(1, 0), (2, 2 ^ 32 + 4), (3, 2 ^ 32)]
    t := [(1, tDesc 0 0x1000 8 32 1 64), (2, tDesc 0 0x2000 8 64 1 64), (3, tDesc 0 0x3000 7 4 1 64), (4, tDesc 0 0x5000 15 48 1 256)] }
def tQ : State :=
  { tS with
    cores := [(0, tQC), (5, { run := .running, group := 1, logical := 1 })]
    groups := [(1, some tQG)]
    sectors := [(2, { exists_ := true, stripes := [⟨0, 4, [0]⟩], channels := [0], kvLog := 4, qSeq := 8, slots := 8 })]
    regs := [(0xB1200, BitVec.ofNat 64 (2 ^ 16 + 1)), (0xB1208, BitVec.ofNat 64 (1 * 2 ^ 32 + 16)), (0xB1210, BitVec.ofNat 64 (2 * 2 ^ 32 + 16))]
    seqs := [(7, { st := .inStep, sector := 2, ctx := 3, c := 4, t := 5, maxTokens := 64, table := [(0, some 0)] })]
    seqSecs := [(2, { enabled := true, step := some { cls := 1, rows := [tQR], tag := 0, running := true }, blk := [(0, { st := .resident, refs := 1, ctx := 3 })] })] }

theorem tQ_starts (w : BitVec 64) (cls op : Nat) (h1 : tCLASS w = cls) (h2 : tOP w = op) (h3 : bits w.toNat 31 26 = 0x3F)
    (h4 : issueTrap tQ tQG (tileOf tQC w) = none) (h5 : leaveNeed tQ (tileOf tQC w) = none) (h6 : hmRead (tileOf tQC w) = [])
    (h7 : hmWriteUnits (tileOf tQC w) = []) (h8 : tileReady tQ tQG (tileOf tQC w) = true) : TileStarts tQ 0 tQC tQG w cls op (tileOf tQC w) :=
  ⟨⟨⟨rfl, rfl, rfl, rfl, by decide⟩, by decide, by decide, h1, h2, h3, rfl, h4⟩, rfl, h5, h6, h7, h8, rfl, rfl, rfl, rfl⟩

theorem witness_SequenceUnit :
    (TileStarts tQ 0 tQC tQG (tWord 4 0 0 1 0 0 1 0 0) 4 0 (tileOf tQC (tWord 4 0 0 1 0 0 1 0 0)) ∧ batchRow tQ tQG 0 = some tQR ∧
      (tileOf tQC (tWord 4 0 0 1 0 0 1 0 0)).da.rows = 1 ∧ (tileOf tQC (tWord 4 0 0 1 0 0 1 0 0)).da.rowLen = 32) ∧
    (TileStarts tQ 0 tQC tQG (tWord 4 1 0 1 3 0 2 0 0) 4 1 (tileOf tQC (tWord 4 1 0 1 3 0 2 0 0)) ∧ tileTrap tQ tQG (tileOf tQC (tWord 4 1 0 1 3 0 2 0 0)).da = none) ∧
    (TileStarts tQ 0 tQC tQG (tWord 4 2 0 1 2 0 0 2 0) 4 2 (tileOf tQC (tWord 4 2 0 1 2 0 0 2 0)) ∧ tileTrap tQ tQG (tileOf tQC (tWord 4 2 0 1 2 0 0 2 0)).db = none) ∧
    (TileStarts tQ 0 tQC tQG (tWord 4 3 0 1 0 0 3 4 0) 4 3 (tileOf tQC (tWord 4 3 0 1 0 0 3 4 0)) ∧ tileTrap tQ tQG (tileOf tQC (tWord 4 3 0 1 0 0 3 4 0)).da = none ∧
      mayTake (tQ.seq 7) tQR = true) :=
  ⟨⟨tQ_starts _ _ _ (by decide) (by decide) (by decide) (by decide) (by decide) (by decide) (by decide) (by decide), by decide, by decide, by decide⟩,
    ⟨tQ_starts _ _ _ (by decide) (by decide) (by decide) (by decide) (by decide) (by decide) (by decide) (by decide), by decide⟩,
    ⟨tQ_starts _ _ _ (by decide) (by decide) (by decide) (by decide) (by decide) (by decide) (by decide) (by decide), by decide⟩,
    ⟨tQ_starts _ _ _ (by decide) (by decide) (by decide) (by decide) (by decide) (by decide) (by decide) (by decide), by decide, by decide⟩⟩

/-- A core whose one tile instruction runs. -/
def tO (w : BitVec 64) : TileOp := { tileOf tCM w with started := true }
def tCR (w : BitVec 64) : Core := { tCM with q := [tO w] }
def tSR (w : BitVec 64) : State :=
  { tSM with
    cores := [(0, tCR w), (5, { run := .running, group := 1, logical := 1 })], tables := some ⟨0x1000, 0x2000, 0x3000, 4, 4⟩,
    events := [(2, { st := .live, owner := 3 })] }

theorem tSR_running (w : BitVec 64) : oneRunning (tSR w) 0 (tCR w) tG 0 (tO w) :=
  ⟨rfl, rfl, rfl, rfl, rfl, rfl, rfl, rfl, List.Mem.head _, (by
    intro d hd; rcases List.mem_cons.mp hd with rfl | hd
    · exact ⟨rfl, fun h => absurd rfl h⟩
    · rcases List.mem_cons.mp hd with rfl | hd
      · exact ⟨rfl, fun _ => rfl⟩
      · cases hd), ⟨0, List.Mem.head _, (by decide : RunSt.running ≠ RunSt.exited)⟩, rfl⟩

/-- The same with a recompute attempt running. -/
def tSK (k : Nat) : State :=
  { tSA [] with
    cores := [(0, { tCA [] with q := [{ tileOf (tCA []) (tWord 0 1 0 8 0 1 9 10 0) with started := true, attempt := some k }] }), (5, { run := .running, group := 1, logical := 1 })]
    res := [(0, { st := .lit, sector := 2 }), (1024, { st := .lit, sector := 2 }), (1029, { st := .lit, sector := 2 })] }

theorem witness_TileCompletion :
    (oneRunning (tSR (tWord 1 0 0 0 0 0 1 2 1)) 0 (tCR (tWord 1 0 0 0 0 0 1 2 1)) tG 0 (tO (tWord 1 0 0 0 0 0 1 2 1)) ∧ tCLASS (tO (tWord 1 0 0 0 0 0 1 2 1)).word ≠ 3 ∧
      ∀ d, (tO (tWord 1 0 0 0 0 0 1 2 1)).source = some d → d.space ≤ 2) ∧
    (oneRunning (tSR (tWord 3 0 4 0 0 0 0 0 0)) 0 (tCR (tWord 3 0 4 0 0 0 0 0 0)) tG 0 (tO (tWord 3 0 4 0 0 0 0 0 0)) ∧
      barReleased (tSR (tWord 3 0 4 0 0 0 0 0 0)) tG (tImm (tWord 3 0 4 0 0 0 0 0 0) % 16) 1 = false ∧
      barReleased (tSR (tWord 3 0 4 0 0 0 0 0 0)) { tG with arrivals := [(arrivalKey 4 0, 1), (arrivalKey 4 1, 1)] } 4 1 = true) ∧
    (tCLASS (tWord 3 1 4 2 0 0 0 0 0) = 3 ∧ tOP (tWord 3 1 4 2 0 0 0 0 0) = 1 ∧ bit (tWord 3 1 4 2 0 0 0 0 0).toNat 63 = false ∧
      bit (tWord 3 1 0x8000 2 1 0 0 0 0).toNat 63 = true ∧ maySignal (tSR 0) 3 2 = true) ∧
    (tCLASS (tWord 3 2 4 2 0 0 0 0 0) = 3 ∧ tOP (tWord 3 2 4 2 0 0 0 0 0) = 2 ∧ (tget 0 tG.events 4).toNat < 5) ∧
    (findOp (tSK 2) 0 0 = some { tileOf (tCA []) (tWord 0 1 0 8 0 1 9 10 0) with started := true, attempt := some 2 } ∧ (reliefCore (tSK 2) 0).isSome = true ∧
      reliefCore { tSK 2 with res := [] } 0 = none ∧ tget none (tCA []).acc (tACC (tWord 0 1 0 8 0 1 9 10 0)) ≠ none) :=
  ⟨⟨tSR_running _, by decide, fun d h => by cases h⟩, ⟨tSR_running _, by decide, by decide⟩, by decide, by decide, by decide⟩

/-! ### Registers, Flash, scheduled actions -/

theorem witness_RegisterWrites :
    wrSpan 3 8 5 = none ∧ wrSpan 0x90000 8 5 = some (0x90000, 2 ^ 64 - 1, 5) ∧ (regFind 0x90000).isSome = true ∧ plainReg State.reset 0x90000 ∧
    (regFind 0x90038 = none ∧ inBlock 0x90038 = true) ∧ (regSector 0x2000000 = some 0 ∧ (State.reset.sector 0).exists_ = false) ∧
    wrSpan 0x9000C 4 5 = some (0x90008, (2 ^ 32 - 1) * 2 ^ 32, 5 * 2 ^ 32) ∧
    (({ State.reset with sat := [(223, { st := .armed, when_ := 5 })] } : State).satEntry 223).st = .armed ∧ (State.reset.satEntry 0).st ≠ .armed ∧
    moorSector State.reset 1023 = none ∧ moorSector tSM 3 = some 2 ∧ ({ State.reset with xl := { fqOn := true } } : State).xl.fqOn = true :=
  ⟨by decide, by decide, by decide, ⟨by decide, by decide, by decide, by decide, by decide, by decide, fun n h => by revert h; decide +revert⟩,
    by decide, by decide, by decide, by decide, by decide, by decide, by decide, by decide⟩

theorem witness_TranslationAnswers_config : released State.reset = false ∧
    (let s : State := { State.reset with kpr := { State.reset.kpr with boot := { kind := 1, result := 1 } } }
     released s = true ∧ s.pci.pba = [] ∧ s.xl.waits = [] ∧ bit (tget (2 ^ 32 : BitVec 64) [(0x3000008, (0 : BitVec 64))] (0x3000008 + 16 * 0)).toNat 32 = false) :=
  ⟨by decide, by decide⟩

theorem witness_VersionOffer : (∃ c ∈ tS.ctxs, c.2.st ≠ .inactive) ∧
    ¬ ((∃ c ∈ State.reset.ctxs, c.2.st ≠ .inactive) ∨ ∃ r ∈ State.reset.rings, r.2.st ≠ .free) := ⟨by decide, by decide⟩

def tF (f : Flash) : State := { State.reset with flash := f }
def tFrame : List Byte := [1, 0, 0, 1, 0, 0, 0, 0, 0, 0, 0xE8, 3, 0xD7, 0xC5]
def tFR (f : Flash) : State := tF { f with lastPulse := some 1000 }
/-- The CHAIN selection nominates port 0, which is up. -/
def tFM (f : Flash) : State := { tF { f with srcNow := 2 } with regs := [(0xB8, 1)], chn := { ports := [(0, { st := .up })] } }

theorem witness_FlashLocking :
    (usesFlashIn State.reset = true ∧ usesFlashIn (tFM {}) = false) ∧
    (let f : Flash := { st := .locked, src := .flashIn, grid := 0, est := 1000000 }
     f.pend.filter (fun x => x.port.isNone) = none ∧ 100 * f.grid + 99 * f.est ≤ 100 * 990000 ∧ 100 * 990000 < 100 * f.grid + 101 * f.est) ∧
    (frameValid (tFR {}) tFrame 60000 = true ∧ frameValid (tFR {}) [1] 60000 = false ∧ fieldAt tFrame 10 2 = 1000 ∧
      framesMatch { num := 192, period := 1000, gaps := List.replicate 64 1000000 } 256 1000 = true ∧ framesMatch { num := 256, period := 1000, gaps := [] } 256 999 = false) ∧
    (((tFM {}).port 0).st = .up ∧ markerPort (tFM {}) = some 0 ∧ (tFM {}).flash.pend = none ∧ markerPort State.reset = none) ∧
    (∃ x : PendLock, x.port = none ∧ 100 * x.base + 99 * x.p 1000000 ≤ 100 * (x.base + x.p 1000000)) :=
  ⟨by decide, by decide, by decide, by decide, ⟨{ num := 1, period := 1000, seed := [], base := 0, port := none }, by decide⟩⟩

theorem witness_FlashTicks :
    (tF { st := .locked }).flash.pend = none ∧ State.reset.flash.st ≠ .locked ∧ State.reset.flash.tick < 4095 ∧
    (tF { tick := 4095 }).flash.tick = 4095 ∧ (tF { st := .holdover }).flash.holdAt + 10 ^ 10 ≤ 10 ^ 10 ∧ (State.reset.flash.tick + 1) % 64 ≠ 0 ∧
    dueEntries { State.reset with flash := { State.reset.flash with tick := State.reset.flash.tick + 1 } } = [] :=
  ⟨rfl, by decide, by decide, rfl, by decide, by decide, by decide⟩

theorem witness_ScheduledActions :
    (let s : State := { State.reset with sat := [(0, { when_ := 5, action := 3 }), (1, { action := 1 }), (2, { action := 3 }), (3, { st := .armed }), (4, { st := .done })] }
     satOperandOk 3 0 = true ∧ satPast s (s.satEntry 0) = false ∧ satPast s (s.satEntry 2) = true ∧ (s.satEntry 1).action = 1 ∧ (s.satEntry 3).st = .armed ∧
       (s.satEntry 4).st ≠ .empty ∧ (s.satEntry 4).st ≠ .armed) :=
  ⟨by decide, by decide, by decide, by decide, by decide, by decide, by decide⟩

/-! ### Light Lists and the rebind engine -/

/-- A FULL list of an END record alone, GENERATION 1, TARGET_FLASH 1,000; its DIGEST was computed outside the model. -/
def tList : List Byte :=
  [76, 71, 72, 84, 76, 73, 83, 84, 1, 0, 0, 0, 1, 0, 0, 0, 232, 3, 0, 0, 0, 0, 0, 0, 1, 0, 0, 0, 136, 0, 0, 0] ++
  [157, 53, 135, 238, 231, 213, 172, 109, 86, 48, 148, 48, 14, 79, 82, 126, 141, 122, 194, 198, 190, 77, 124, 142, 75, 100, 125, 4, 198, 127, 192, 96, 233, 167, 140, 28, 252, 187, 12, 0, 232, 42, 136, 14, 183, 232, 216, 39] ++ List.replicate 48 0 ++ [255, 0, 8, 0, 1, 0, 0, 0]

def tLL (st : SlotSt) : State := { State.reset with regs := [(24, 0x10001000100), (32, 0x8000010001000100)], ll := { slots := [(0, { st := st, bytes := tList, len := 136, gen := 1, target := 1000 })] } }

theorem witness_Loader :
    ((State.reset.slotAt 0).inProgress = false ∧ ((tLL .staged).slotAt 0).inProgress = true ∧ ((tLL .staged).slotAt 1).inProgress = false ∧
      ((tLL .fetching).slotAt 0).st = .fetching ∧ lengthOk ((tLL .fetching).slotAt 0).len = true ∧ ((tLL .fetching).slotAt 1).dependent = false ∧ lengthOk 135 = false) ∧
    (((tLL .checking).slotAt 0).st = .checking ∧ (let b := slotBase (tLL .checking) 0
      (checkList (tLL .checking) tList 136 b.1 b.2.1 b.2.2 0).toOption.isSome = true ∧ (checkList (tLL .checking) tList 135 b.1 b.2.1 b.2.2 0).toOption = none)) ∧
    (satFree (tLL .authorising) = some 224 ∧ (tLL .authorising).flash.count.toNat < ((tLL .authorising).slotAt 0).target.toNat ∧
      authErr (tLL .authorising) (tList.set 40 0) ≠ none) ∧
    (∃ s : State, (s.slotAt 0).st = .staged ∧ (s.satEntry (s.slotAt 0).sat).st = .armed) :=
  ⟨by decide, by decide, by decide +kernel, ⟨{ tLL .staged with ll := { slots := [(0, { st := .staged, sat := 224 })] }, sat := [(224, { st := .armed })] }, by decide, by decide⟩⟩

theorem witness_Loader_authorised : authErr (tLL .authorising) tList = none := by decide +kernel

/-- A Sector with a lit Lantern of one core, a lit channel, a dimming generation and a move under way. -/
def tRb (moves : List Move) (leave : Nat) (asked : Bool) : State :=
  { State.reset with
    sectors := [(2, { exists_ := true, stripes := [⟨0, 4, [0]⟩], channels := [0] })]
    res := [(0, { st := .lit, sector := 2 }), (1024, { st := .lit, sector := 2 }), (1025, { st := .fill, leave := 2 }), (1026, { st := .fill, leave := 2, pend := some 2 }),
      (1027, { st := .fill }), (2048, { st := .lit, sector := 2 }), (2049, { st := .fill, leave := 2 })]
    gens := [(2, { oldLive := true, oldTag := 1, moves := moves, leave := leave, asked := asked, deadDone := false })]
    ctxs := [(3, { st := .resident, slot := 1, sector := 2, pages := [some 1, some 2] })] }
def tMove (chunk : Nat) : Move := { what := .page 3 0 1 5, chunk := chunk }

theorem witness_RebindMovesAndFills :
    (∀ m ∈ ((tRb [tMove 0] 65536 false).gen 2).moves, m.noRoom = false) ∧ ((tRb [] 0 false).gen 2).moves.find? (mayMove (tRb [] 0 false) 2) = none ∧
    (((tRb [tMove 0] 65536 false).gen 2).moves.find? (mayMove (tRb [tMove 0] 65536 false) 2) = some (tMove 0) ∧ (tMove 0).chunk + 1 < (tMove 0).chunks ∧
      (tMove 15).chunk + 1 = (tMove 15).chunks ∧ ((tRb [tMove 0] 65535 true).gen 2).leave < 65536) ∧
    ((State.reset.resAt (resCore 1)).st ≠ .fill ∧ ((tRb [] 0 false).resAt (resCore 1)).leave = 2 ∧ ((tRb [] 0 false).resAt (resCore 1)).pend = none ∧
      ((tRb [] 0 false).resAt (resCore 2)).pend = some 2 ∧ ((tRb [] 0 false).resAt (resCore 3)).leave = 0 ∧ ((tRb [] 0 false).resAt (resCore 1)).st = .fill ∧
      fillsWith (tRb [] 0 false) (resCore 1) = false ∧ ((tRb [] 0 false).resAt (resChannel 1)).st = .fill) :=
  ⟨by decide, by decide, by decide, by decide⟩

theorem witness_Drains :
    (((tRb [] 0 false).gen 2).oldLive = true ∧ ((tRb [] 0 false).gen 2).drained = false ∧ oldCount (tRb [] 0 false) 2 = 0) ∧
    ((({ tRb [] 0 false with gens := [(2, { oldLive := true, drained := true, removed := [⟨3, 1, [0]⟩] })] } : State).gen 2).drained = true) ∧
    (((tRb [] 0 false).gen 2).deadDone = false ∧ ((tRb [] 0 false).gen 2).deadEdges = 0) ∧
    oldCount { tRb [] 0 false with rings := [(4, { sector := 2, cmds := [{ idx := 0, raw := [], tag := some 1 }] })] } 2 ≠ 0 :=
  ⟨by decide, by decide, by decide, by decide⟩

/-- A LAUNCH of a verified binary in Sector memory, held, and two free lit cores for it. -/
def tHead : List Byte :=
  List.replicate 16 0 ++ leBytes 4 192 ++ leBytes 4 128 ++ leBytes 4 64 ++ leBytes 4 0 ++ leBytes 4 0 ++ leBytes 4 0 ++ leBytes 4 0 ++ leBytes 4 0 ++ leBytes 2 1 ++ leBytes 2 192 ++
  leBytes 2 1 ++ List.replicate 74 0
def tLaunch (st : CmdSt) : Cmd :=
  { idx := 5, raw := [1] ++ List.replicate 15 0 ++ leBytes 4 0x77 ++ leBytes 4 0 ++ List.replicate 6 0 ++ leBytes 2 2 ++ List.replicate 32 0, st := st,
    rd := [(16, [0, 0, 0, 2] ++ leBytes 4 3 ++ leBytes 8 0 ++ leBytes 8 192 ++ leBytes 8 0)] }
def tLa (st : CmdSt) : State :=
  { State.reset with
    sectors := [(2, { exists_ := true, stripes := [⟨0, 4, [0]⟩], channels := [0], lanterns := [(0, 3)], qRings := 8 })]
    res := [(0, { st := .lit, sector := 2 }), (1024, { st := .lit, sector := 2 }), (1025, { st := .lit, sector := 2 }), (2048, { st := .lit, sector := 2 })]
    ctxs := [(3, { st := .resident, slot := 1, sector := 2, pages := [some 1, some 2] })]
    rings := [(4, { st := .enabled, sector := 2, ctx := 3, sqBase := 0x10000, cqBase := 0x20000, sqLog := 6, cqLog := 6, cmds := [tLaunch st] })]
    binaries := [⟨2, 0x77⟩]
    sm := cwrite [] (smKey 2 0) tHead }
def tLS : LaunchSpec :=
  { owner := .cmd 4 5 none, sector := 2, ctx := 3, handle := 0x77, kernel := { space := 2, base := 0, pasid := none }, length := 192, group := 2, argBytes := 0,
    args := { space := 0, base := 0, pasid := none }, step := false, batch := 0, tag := 0 }

theorem witness_Launches :
    (((tLa .held).ring 4).find 5 none = some (tLaunch .held) ∧ (tLaunch .held).opcode = 1 ∧ workRuns (tLa .held) 2 = true ∧ (tLaunch .queued).st ≠ .held ∧
      (State.reset.ring 4).find 5 none = none ∧ (State.reset.seqSec 0).step = none) ∧
    launchReady (tLa .held) tLS = true ∧ coresOk (tLa .held) 2 2 [0, 1] = true ∧ coresOk (tLa .held) 2 2 [0, 0] = false ∧
    ([0, 1] : List Nat).Nodup ∧ (sub tHead (fieldAt tHead 32 4) (fieldAt tHead 36 4)).length ≤ 0x7F000 :=
  ⟨by decide, by decide, by decide, by decide, by decide, by decide⟩

/-! ### Completions, sequences, the step scheduler (12) -/

/-- A ring entry from its opcode and its fields (offset, length, value). -/
def tRaw (op : Nat) (fs : List (Nat × Nat × Nat)) : List Byte :=
  fs.foldl (fun b f => b.take f.1 ++ leBytes f.2.1 f.2.2 ++ b.drop (f.1 + f.2.1)) (leBytes 64 op)
def tCmd (op : Nat) (fs : List (Nat × Nat × Nat)) (st : CmdSt := .queued) : Cmd := { idx := 5, raw := tRaw op fs, st := st }
/-- Sector 2 with its KV layout, four blocks of 2,048 bytes, an enabled scheduler, context 3 on slot 1, and one entry in its sequence ring 4. -/
def tE (c : Cmd) (seqs : Tbl Seq) (x : SeqSec := { enabled := true }) : State :=
  { State.reset with
    sectors := [(2, { exists_ := true, stripes := [⟨0, 4, [0]⟩, ⟨8192, 8, [0]⟩], channels := [0], kvLog := 4, qSeq := 8, slots := 8, qRings := 8, qCtx := 8 })]
    res := [(0, { st := .lit, sector := 2 }), (1024, { st := .lit, sector := 2 }), (1025, { st := .lit, sector := 2 })]
    ctxs := [(3, { st := .resident, slot := 1, sector := 2, pages := [some 1, some 2] })]
    regs := [(0xB1200, BitVec.ofNat 64 (2 ^ 16 + 1)), (0xB1208, BitVec.ofNat 64 4), (0xB1210, BitVec.ofNat 64 (8192 * 2 ^ 32 + 4)),
      (0xB1220, BitVec.ofNat 64 (2 ^ 63 + 3 * 2 ^ 48 + 0x8000000)), (0xB1230, BitVec.ofNat 64 (4 * 2 ^ 48 + 64 * 2 ^ 32 + 32 * 2 ^ 16 + 8))]
    rings := [(4, { st := .enabled, kind := 1, sector := 2, ctx := 3, sqBase := 0x10000, cqBase := 0x20000, sqLog := 6, cqLog := 6, cmds := [c] })]
    seqs := seqs
    seqSecs := [(2, x)]
    sm := cwrite (cwrite [] (smKey 2 0x8000000) (leBytes 2 1 ++ leBytes 2 1 ++ leBytes 12 0 ++ leBytes 4 0x77 ++ leBytes 2 2 ++ leBytes 26 0)) (smKey 2 0x4000000) (leBytes 4 9 ++ leBytes 4 11) }
/-- An idle sequence of it. -/
def tX (queue : List (Nat × BitVec 32)) : Seq := { st := .idle, sector := 2, ctx := 3, c := 4, t := 5, maxTokens := 64, pendingTok := 9, queue := queue, text := [(4, 9)] }
def tRun (op : Nat) (pend : Bool) : SeqRun := { ring := 4, idx := 4, opcode := op, raw := tRaw op [(20, 4, 8), (24, 8, 0x1000), (32, 1, 3)], abortPend := pend }

theorem witness_Completions :
    (let s := tE (tCmd 0x44 []) []
     (tCmd 0x44 []).buf = none ∧ (tCmd 0x44 []).conds = [] ∧ (tCmd 0x44 []).short = false ∧ (tCmd 0x44 []).signal = none ∧ (tCmd 0x44 []).irq = false ∧
      (s.ring 4).heldRecs = [] ∧ hostWriteOk s (s.ring 4).recAddr = true ∧ (s.ctx (s.ring 4).ctx).st ≠ .inactive ∧ (s.ring 4).kind ≠ 3) ∧
    (chooseCond ((tCmd 0x44 []).conds ++ [⟨4, 7⟩]) = some ⟨4, 7⟩ ∧ (4 : Nat) ≠ stDONE ∧
      (let s := { tE (tCmd 0x44 []) [] with env := { badPages := [0x20] } }
       hostWriteOk s (s.ring 4).recAddr = false ∧ (s.ring 4).st = .enabled)) := by decide

theorem witness_SequenceOpen :
    (let c := tCmd 0x40 [(16, 4, 64), (36, 4, 0x3F800000)]
     let s := tE c []
     (s.ring 4).find 5 none = some c ∧ (s.ring 4).kind = 1 ∧ c.opcode = 0x40 ∧ workRuns s 2 = true ∧ openSeqs s 2 < (s.sector 2).qSeq ∧ 1 ≤ c.f 16 4 ∧
      c.f 16 4 ≤ 8192 * kvB s 2 ∧ c.f 16 4 ≤ kvFrames s 2 * kvB s 2 ∧ c.f 20 1 ≤ 1 ∧ samplingOk (c.f 32 4) (c.f 36 4) = true ∧ (s.seq 7).st = .free) ∧
    (let s := { tE (tCmd 0x40 []) [] with sectors := [(2, { exists_ := true })] }
     workRuns s 2 = true ∧ (s.sector 2).qSeq ≤ openSeqs s 2) ∧
    (tCmd 0x40 []).f 16 4 = 0 ∧
    (let c := tCmd 0x41 [(16, 4, 7), (20, 4, 2), (24, 8, 0x4000000), (32, 1, 2)]
     let s := tE c [(7, tX [(4, 5)])]
     SeqTurn s 4 5 0x41 c 7 ∧ (s.seq 7).t + c.f 20 4 ≤ (s.seq 7).maxTokens ∧ notEnabled s 2 false = false ∧ spaceOk s 2 2 (c.f 24 8) (4 * c.f 20 4) = true ∧
      s.smChk = [] ∧ needsPull s 7 = false ∧ (∀ p ∈ s.seqs, p.1 ≠ 7 → (s.seq p.1).st ≠ .pulling) ∧ (s.seq 7).c + 1 ≠ (s.seq 7).t + c.f 20 4) ∧
    (let c := tCmd 0x41 [(16, 4, 7), (20, 4, 60)]
     SeqTurn (tE c [(7, tX [(4, 5)])]) 4 5 0x41 c 7 ∧ (tX []).maxTokens < (tX []).t + c.f 20 4) := by
  refine ⟨by decide, by decide, by decide, ?_, ?_⟩ <;> (unfold SeqTurn; decide)

/-- GENERATE of sequence 7, without drafts, with PREFETCH, and with the draft sequence 8. -/
def tGen : Cmd := tCmd 0x42 [(16, 4, 7), (20, 4, 8), (24, 8, 0x4001000), (32, 1, 2)]
def tPre : Cmd := tCmd 0x42 [(16, 4, 7), (24, 8, 0x4001000), (32, 1, 2), (33, 1, 1)]
def tSpec : Cmd := tCmd 0x42 [(16, 4, 7), (20, 4, 8), (24, 8, 0x4001000), (32, 1, 2), (34, 1, 2), (35, 1, 3), (56, 4, 8)]
def tSpecS : State :=
  let s := tE tSpec [(7, tX [(4, 5)]), (8, { tX [] with draft := true })]
  { s with regs := tput 0 (tput 0 (tput 0 s.regs 0xB1218 (BitVec.ofNat 64 (3 * 2 ^ 32 + 1))) 0xB1228 (BitVec.ofNat 64 (2 ^ 63 + 3 * 2 ^ 48 + 0x8000000))) 0xB1200 (BitVec.ofNat 64 (2 ^ 16 + 1)) }

theorem witness_SequenceCommands :
    (∃ w, SeqTurn (tE (tCmd 0x42 [(16, 4, 7)]) [(7, tX [(4, 5)])]) 4 5 0x42 (tCmd 0x42 [(16, 4, 7)]) 7 ∧
      generateErr (tE (tCmd 0x42 [(16, 4, 7)]) [(7, tX [(4, 5)])]) 4 (tCmd 0x42 [(16, 4, 7)]) 7 = some w) ∧
    (let s := tE tGen [(7, tX [(4, 5)])]
     SeqTurn s 4 5 0x42 tGen 7 ∧ generateErr s 4 tGen 7 = none ∧ needsPull s 7 = false ∧ (∀ p ∈ s.seqs, p.1 ≠ 7 → (s.seq p.1).st ≠ .pulling) ∧
      bit (tGen.f 33 1) 0 = false ∧ tGen.f 34 1 ≠ 2) ∧
    (SeqTurn tSpecS 4 5 0x42 tSpec 7 ∧ generateErr tSpecS 4 tSpec 7 = none ∧ needsPull tSpecS 7 = false ∧ bit (tSpec.f 33 1) 0 = false ∧ tSpec.f 34 1 = 2) ∧
    (let s := tE tPre [(7, tX [(4, 5)])]
     SeqTurn s 4 5 0x42 tPre 7 ∧ generateErr s 4 tPre 7 = none ∧ bit (tPre.f 33 1) 0 = true ∧ tPre.conds = []) ∧
    (let c := tCmd 0x43 [(16, 4, 7), (20, 4, 3), (24, 4, 6), (28, 4, 32), (44, 4, 0x3F800000)]
     let s := tE c [(7, tX [(4, 5)])]
     SeqTurn s 4 5 0x43 c 7 ∧ openSeqs s 2 < (s.sector 2).qSeq ∧ c.f 20 4 ≤ (s.seq 7).t ∧ c.f 20 4 ≤ c.f 28 4 ∧ c.f 28 4 ≤ 8192 * kvB s 2 ∧ c.f 28 4 ≤ kvFrames s 2 * kvB s 2 ∧
      samplingOk (c.f 40 4) (c.f 44 4) = true ∧ needsPull s 7 = false ∧ (s.seq 9).st = .free) ∧
    (let c := tCmd 0x44 [(16, 4, 7)]
     let s := tE c [(7, tX [])]
     (s.ring 4).find 5 none = some c ∧ (s.ring 4).kind = 1 ∧ workRuns s 2 = true ∧ nameSeq s 3 7 = .ok 7 ∧ c.opcode = 0x44 ∧ (s.seq 7).run = none ∧ (s.seq 7).st = .idle ∧
      (s.seq 7).table = [] ∧ inStep s 7 = false ∧ (tCmd 0x45 []).opcode = 0x45) ∧
    (let s := tE (tCmd 0x45 [(16, 4, 7)]) [(7, { tX [] with st := .inStep, run := some (tRun 0x42 true) }), (8, { tX [] with run := some (tRun 0x42 true) })] { enabled := true, step := some { cls := 0, rows := [tQR], tag := 0 } }
     inStep s 7 = true ∧ (s.seq 7).st = .inStep ∧ (s.seq 7).run = some (tRun 0x42 true) ∧ nameSeq s 3 7 = .ok 7 ∧ inStep s 8 = false ∧ (s.seq 8).run = some (tRun 0x42 true)) := by
  refine ⟨⟨⟨11, 0x204⟩, ?_⟩, ?_, ?_, ?_, ?_, ?_, ?_⟩ <;> (try unfold SeqTurn) <;> decide

/-- Sector 2 with block 1 on its way. -/
def tB (st : BlkSt) (host : Bool) : State :=
  let s := tE (tCmd 0x45 []) [] { enabled := true, blk := [(1, { st := st, frame := 1, refs := 1, hostTier := host, fill := 2, ctx := 3, spillAddr := 3, begun := true, fb := [] })] }
  { s with regs := tput 0 s.regs 0xB1240 (BitVec.ofNat 64 0x700000) }
def tBH : HostView := [(0x701800, List.replicate 128 1), (0x701C00, List.replicate 128 2)]

theorem witness_BlockMoves :
    (∀ st ∈ [BlkSt.spilling, .pulling], ∀ h ∈ [true, false], bits (spillReg (tB st h) 2) 15 0 = 0 ∧ ((tB st h).seqSec 2).spilling = false ∧
      ((tB st h).blk 2 1).st = st ∧ ((tB st h).blk 2 1).hostTier = h ∧ blkWaits (tB st h) 2 1 = false ∧ (tB st h).env.badPages = [] ∧ (tB st h).smChk = [] ∧
      ((tB st h).blk 2 1).fallback = false) ∧
    (pullParts (tB .pulling true) 2 ((tB .pulling true).blk 2 1)).length = 2 ∧
    (∀ p ∈ pullParts (tB .pulling true) 2 ((tB .pulling true).blk 2 1), hostRead tBH p.2.1 p.2.2 ≠ none) := by decide

theorem witness_SchedulerConfig :
    (let s := tE (tCmd 0x45 []) [] {}
     (s.sector 2).exists_ = true ∧ (s.seqSec 2).enabled = false ∧ bit (stepReg s 2 0) 63 = true ∧ bit (stepReg s 2 1) 63 = false ∧
      readProgram s 2 0 = (some [⟨0x77, 2, 0, 0⟩], s) ∧ cfgErr s 2 true = 0 ∧ openSeqs s 2 = 0) ∧
    (let s := { tE (tCmd 0x45 []) [] {} with regs := [] }
     bit (stepReg s 2 0) 63 = false ∧ cfgErr s 2 false = 1) ∧
    ((tE (tCmd 0x45 []) []).seqSec 2).enabled = true ∧ openSeqs (tE (tCmd 0x45 []) [(7, tX [])]) 2 ≠ 0 := by decide

/-- A program held for class 0, the class whose turn it is, and one sequence that generates; and a running step of one decode row. -/
def tBt : State :=
  tE (tCmd 0x45 []) [(7, { tX [] with st := .ready, run := some (tRun 0x42 false), table := [(0, some 1)] })]
    { enabled := true, program := [(0, [⟨0x77, 2, 0, 0⟩])], blk := [(1, { st := .resident, frame := 1, refs := 1, ctx := 3 })] }
def tBr : Row := { tQR with toks := [12], a := 1 }
def tBc : State :=
  tE (tCmd 0x45 []) [(7, { tX [] with st := .inStep, run := some (tRun 0x42 false) })] { enabled := true, step := some { cls := 0, rows := [tBr], tag := 0, running := true } }

theorem witness_Batches :
    ((tBt.seqSec 2).enabled = true ∧ (tBt.seqSec 2).step = none ∧ workRuns tBt 2 = true ∧ tBt.resets = [] ∧
      (formClass (pullReady (endFailed tBt 2) 2) 2 (1 - (tBt.seqSec 2).lastCls) []).rows ≠ [] ∧
      (formClass (pullReady (endFailed tBt 2) 2) 2 (1 - (tBt.seqSec 2).lastCls) []).held = false) ∧
    (tBc.seqSec 2).step ≠ none ∧
    ((tBc.seqSec 2).step = some { cls := 0, rows := [tBr], tag := 0, running := true } ∧ tBr.slot = 7 ∧ tBr.kind = 1 ∧ tBr.toks = [12] ∧ tBr.given = [] ∧ tBr.buffer = none ∧
      tBr.heads = [] ∧ (tBc.seq 7).table = [] ∧ (tBc.seq 7).st = .inStep ∧ (tBc.seq 7).sector = 2 ∧ (tBc.seq 7).run = some (tRun 0x42 false) ∧
      (tBc.seq 7).reservedBy = none ∧ (∀ j ∈ tBc.seqs, (tBc.seq j.1).reservedBy ≠ some 7) ∧ (∀ j ∈ tBc.seqs, j.2 = tBc.seq j.1) ∧ (12 : Nat) ∉ (tBc.seq 7).stops ∧
      (tRun 0x42 false).posted + 1 < fieldAt (tRun 0x42 false).raw 20 4 ∧ (tBc.seq 7).t + 1 < (tBc.seq 7).maxTokens ∧ fieldAt (tRun 0x42 false).raw 32 1 = 3) := by decide

/-! ### Rings, contexts, the aperture (13) -/

/-- An entry of context 3's rings, and one of a privileged ring. -/
def tEnt (op : Nat) (fs : List (Nat × Nat × Nat)) : Cmd := tCmd op ((1, 1, 1) :: (4, 2, 3) :: fs)
def tEnp (op : Nat) (fs : List (Nat × Nat × Nat)) : Cmd := tCmd op ((1, 1, 1) :: fs)
/-- What a check read of a handle of Sector memory at an address. -/
def tHdl (base : Nat) : List Byte := [0, 0, 0, 2] ++ leBytes 4 3 ++ leBytes 8 base ++ leBytes 8 4096 ++ leBytes 8 0
/-- Ring 4 of a kind, with its words and its commands, in the Sector of `tE`. -/
def tRg (kind : Nat) (cmds : List Cmd) (tail : BitVec 32 := 6) (st : RingSt := .enabled) : State :=
  { tE (tCmd 0 []) [] with
    rings := [(4, { st := st, kind := kind, sector := 2, ctx := if kind = 3 then 0 else 3, sqBase := 0x10000, cqBase := 0x20000, sqLog := 6, cqLog := 6, head := 5, tail := tail, cmds := cmds })] }
/-- The host shows a NOP entry at submission index 5. -/
def tNopRaw : List Byte := (tEnt 0 []).raw
def tNopHost : HostView := [(0x10000 + 5 * 64, tNopRaw)]
/-- The privileged ring's registers of Sector 2 name ring 9, and the host interface is agreed or not. -/
def tPr (agreed : Bool) (on : Bool) : State :=
  let s := tRg 0 []
  let s1 : State := { s with regs := tput 0 (tput 0 s.regs (secReg 2 0) 0x50000) (secReg 2 0x10) (BitVec.ofNat 64 (9 * 2 ^ 16 + 8 * 2 ^ 8 + 7 + (if on then 2 ^ 63 else 0))) }
  let s2 : State := if agreed then setReg s1 0x20 0x8000000000000100 else s1
  if on then s2.setRing 9 { st := .enabled, kind := 3, sector := 2 } else s2

theorem witness_Rings :
    ((State.reset.ring 4).st = .free ∧ ((tRg 0 [] 6 .stopped).ring 4).st ≠ .free ∧ ((tRg 0 [] 6 .stopped).ring 4).st ≠ .enabled ∧
      ((tRg 0 []).ring 4).st = .enabled ∧ (let r := (tRg 0 []).ring 4
        ((7 : BitVec 32) - r.head).toNat ≤ 2 ^ r.sqLog ∧ (r.cqTail - r.cqHead).toNat ≤ 2 ^ r.cqLog ∧ 2 ^ r.sqLog < ((70 : BitVec 32) - r.head).toNat ∧
        (r.tail - r.head).toNat ≤ 2 ^ r.sqLog ∧ (r.cqTail - 0).toNat ≤ 2 ^ r.cqLog ∧ 2 ^ r.cqLog < (r.cqTail - 1).toNat)) ∧
    (mayFetch (tRg 0 [] 5) 4 = false ∧ ((tRg 0 [] 5).ring 4).head = ((tRg 0 [] 5).ring 4).tail ∧ mayFetch (tRg 0 []) 4 = true ∧ hostRead [] (0x10000 + 5 * 64) 64 = none ∧
      hostRead tNopHost (0x10000 + 5 * 64) 64 = some tNopRaw ∧ ((tRg 0 []).ring 4).mark = none ∧ ((tRg 0 []).ring 4).head + 1 = ((tRg 0 []).ring 4).tail ∧
      fetchErr (tRg 0 []) 4 { idx := 5, raw := tNopRaw, rd := fetchReads (tRg 0 []) { idx := 5, raw := tNopRaw } tNopHost } = none ∧
      launchFetchErr (tRg 0 []) 4 { idx := 5, raw := tNopRaw, rd := fetchReads (tRg 0 []) { idx := 5, raw := tNopRaw } tNopHost } = none) ∧
    (((tRg 0 []).ring 4).st ≠ .destroying ∧ ((tRg 0 [tEnt 0 []] 5 .destroying).ring 4).cmds ≠ [] ∧ ((tRg 0 [] 5 .destroying).ring 4).cmds = [] ∧
      ((tRg 0 [] 5 .destroying).ring 4).heldRecs = [] ∧ ((tRg 0 [] 5 .destroying).ring 4).destroyers = [] ∧
      ((tRg 0 [] 5 .destroying).ctx ((tRg 0 [] 5 .destroying).ring 4).ctx).st ≠ .resetting) ∧
    (let s := tPr true false
     let ctl := regAt s (secReg 2 0x10)
     (s.sector 2).exists_ = true ∧ bit ctl 63 = false ∧ hifAgreed s = true ∧ (s.ring (bits ctl 27 16)).st = .free ∧ sectorRings s 2 < (s.sector 2).qRings ∧ 6 ≤ bits ctl 4 0 ∧
      bits ctl 4 0 ≤ 16 ∧ 6 ≤ bits ctl 12 8 ∧ bits ctl 12 8 ≤ 16 ∧ vectorOk (bits ctl 42 32) = true) ∧
    (hifAgreed (tPr false false) = false ∧ bit (regAt (tPr false false) (secReg 2 0x10)) 63 = false) ∧
    (bit (regAt (tPr true true) (secReg 2 0x10)) 63 = true ∧ privRing (tPr true true) 2 = some 9) := by decide

/-- The commands of a ring's turn. -/
def tSig (st : Nat) : Cmd := tEnt 3 [(16, 2, 2), (18, 1, st), (24, 8, 5)]
def tWt : Cmd := tEnt 4 [(16, 2, 2), (24, 8, 5)]
def tEvS (c : Cmd) (e : Event) : State := { tRg 0 [c] with events := [(2, e)], tables := some ⟨0x1000, 0x2000, 0x3000, 4, 4⟩ }
def tBuf : Cmd := { tEnt 2 [(24, 8, 0x40), (32, 4, 1)] with rd := [(16, tHdl 0x4000000)] }
def tBufS : State := { tRg 0 [tBuf] with sm := cwrite [] (smKey 2 0x4000040) tNopRaw }

theorem witness_RingCommands :
    (MayBegin (tRg 0 [tEnt 0 []]) 4 5 none 0 (tEnt 0 []) ∧ fetchErr (tRg 0 [tEnt 0 []]) 4 (tEnt 0 []) = none) ∧ MayBegin (tRg 0 [tWt]) 4 5 none 4 tWt ∧
    (∀ st ∈ [0, 1], let s := tEvS (tSig st) { st := .live, owner := 3 }
      (s.ring 4).find 5 none = some (tSig st) ∧ (tSig st).opcode = 3 ∧ (tSig st).st = .queued ∧ (s.ring 4).before 5 none = [] ∧ (s.event ((tSig st).f 16 2)).owner = (s.ring 4).ctx) ∧
    (let s := tRg 0 [{ tEnt 0 [] with idx := 4 }, tSig 0]
     (s.ring 4).find 5 none = some (tSig 0) ∧ (s.ring 4).before 5 none ≠ []) ∧
    (MayBegin (tEvS tWt { st := .live, owner := 3, value := 5 }) 4 5 none 4 tWt ∧ tWt.f 24 8 ≤ ((tEvS tWt { st := .live, owner := 3, value := 5 }).event (tWt.f 16 2)).value.toNat) ∧
    (∀ st ∈ [EvSt.live, .abandoned], let s := tEvS tWt { st := st, owner := 3 }
      MayBegin s 4 5 none 4 tWt ∧ (s.event (tWt.f 16 2)).value.toNat < tWt.f 24 8 ∧ (s.event (tWt.f 16 2)).st = st ∧ hostWriteOk s (s.ring 4).recAddr = true) ∧
    (let s := tLa .held
     let c := tLaunch .queued
     MayBegin { s with rings := [(4, { st := .enabled, sector := 2, ctx := 3, cmds := [c] })] } 4 5 none 1 c ∧ sectorRuns s 2 = true ∧ c.f 30 2 ≤ (litCores s 2).length ∧
      (litCores { s with res := [] } 2).length < c.f 30 2 ∧ sectorRuns { s with frz := [(2, { st := .frozen })] } 2 = false) ∧
    (let o := objOf tBufS tBuf 16 (tBuf.f 24 8)
     let e : Cmd := { idx := 5, buf := some 0, raw := tNopRaw, rd := fetchReads tBufS { idx := 5, buf := some 0, raw := tNopRaw } [] }
     MayBegin tBufS 4 5 none 2 tBuf ∧ tBuf.f 32 4 = 1 ∧ o.space = 2 ∧ rangeMapped tBufS 2 o.base 64 = true ∧ objReady tBufS 2 o 64 = true ∧
      cread tBufS.sm (smKey 2 o.base) 64 = tNopRaw ∧ fetchErr tBufS 4 e = none ∧ launchFetchErr tBufS 4 e = none ∧ (tBufS.ring 4).find 5 (some 0) = none) := by
  unfold MayBegin; decide

/-- A FILL and a COPY of 64 bytes in Sector memory, and the FILL with its piece moving. -/
def tFill (fl : List Piece) (next : Nat) : Cmd := { tEnt 0x11 [(24, 8, 0x0807060504030201), (40, 8, 64)] with flight := fl, next := next, rd := [(20, tHdl 0x4000000)] }
def tCopy : Cmd := { tEnt 0x10 [(40, 8, 64)] with rd := [(16, tHdl 0x4000100), (20, tHdl 0x4000000)] }

theorem witness_CopiesAndAperture :
    (∀ c ∈ [tCopy, tFill [] 0], let s := tRg 2 [c]
      MayBegin s 4 5 none c.opcode c ∧ (c.opcode = 0x10 ∨ c.opcode = 0x11) ∧ workRuns s 2 = true ∧ c.flight = [] ∧ c.next = 0 ∧ c.f 40 8 = 64 ∧ sectorDma s 2 = [0, 1, 2, 3] ∧
      (copyDst s c).space = 2 ∧ (∀ o, copySrc s c = some o → o.space = 2 ∧ unmappedExtent s 2 o.base 64 (some (s.gen 2).curTag) = none) ∧
      unmappedExtent s 2 (copyDst s c).base 64 (some (s.gen 2).curTag) = none ∧ needsLeave s 1 128 = false) ∧
    (let p : Piece := { off := 0, len := 64, engine := 0, xl := 2 }
     let c := tFill [p] 64
     let s := tRg 2 [c]
     (s.ring 4).find 5 none = some c ∧ c.opcode = 0x11 ∧ c.flight = [p] ∧ p.moving = true ∧ p.len = c.f 40 8 ∧ c.next = c.f 40 8 ∧ c.conds = [] ∧ c.signal = none ∧
      (copyDst s c).space = 2 ∧ objReady s 2 (copyDst s c) 64 = true ∧ (s.ring 4).find 6 none = none) ∧
    bar2Place (tRg 0 []) 0 4 = none ∧ bar2Place (tRg 0 []) (2 * 2 ^ 39 + 64) 4 = some (2, 64) ∧ (tRg 0 []).smChk = [] ∧ (tRg 0 []).lsChk = [] := by
  refine ⟨?_, by decide, by decide, by decide, by decide, by decide⟩
  intro c hc
  rcases List.mem_cons.mp hc with rfl | hc
  · refine ⟨⟨by decide, by decide, by decide, by decide⟩, by decide, by decide, by decide, by decide, by decide, by decide, by decide, ?_, by decide, by decide⟩
    intro o ho; cases ho; decide
  · rcases List.mem_cons.mp hc with rfl | hc
    · refine ⟨⟨by decide, by decide, by decide, by decide⟩, by decide, by decide, by decide, by decide, by decide, by decide, by decide, ?_, by decide, by decide⟩
      intro o ho; cases ho
    · cases hc

/-- A privileged ring's one command, with the tables set. -/
def tPv (c : Cmd) (ctxs : Tbl Ctx := []) : State := { tRg 3 [c] with ctxs := ctxs, tables := some ⟨0x100000, 0x200000, 0x300000, 8, 8⟩ }
def tTab : Cmd := tEnp 0x80 [(16, 8, 0x100000), (24, 8, 0x200000), (32, 8, 0x300000), (40, 1, 8), (41, 1, 8)]
def tRes : Tbl Ctx := [(3, { st := .resident, slot := 1, sector := 2, pages := [some 1, some 2] })]
def tRc : Cmd := tEnp 0x84 [(16, 2, 6), (20, 2, 3), (24, 8, 0x40000), (32, 8, 0x50000), (40, 1, 6), (41, 1, 6)]
def tPvR (c : Cmd) (r : Ring) : State := (tPv c tRes).setRing 6 r
def tPvE (c : Cmd) (e : Event) : State := { tPv c tRes with events := [(2, e)] }

theorem witness_PrivilegedCommands :
    (PrivStarts (tPv tTab) 4 5 0x80 tTab ∧ (∀ x ∈ (tPv tTab).ctxs, x.2.st ≠ .resident ∧ x.2.st ≠ .waiting)) ∧
    (PrivStarts (tPv tTab tRes) 4 5 0x80 tTab ∧ ∃ x ∈ (tPv tTab tRes).ctxs, x.2.st = .resident) ∧
    (PrivStarts (tPv tRc tRes) 4 5 0x84 tRc ∧ ((tPv tRc tRes).ring (tRc.f 16 2)).st = .free ∧ sectorRings (tPv tRc tRes) 2 < ((tPv tRc tRes).sector 2).qRings ∧ bit (tRc.f 19 1) 0 = false) ∧
    (let s := tPvR tRc { st := .enabled, sector := 2, ctx := 3 }
     PrivStarts s 4 5 0x84 tRc ∧ (s.ring (tRc.f 16 2)).st ≠ .free) ∧
    (let c := tEnp 0x85 [(16, 2, 6)]
     PrivStarts (tPvR c { st := .enabled, sector := 2, ctx := 3 }) 4 5 0x85 c ∧ c.f 16 2 ≠ 4) ∧
    (let c := tEnp 0x86 [(16, 2, 6)]
     let s := tPvR c { st := .stopped, error := 3, sector := 2, ctx := 3, sqLog := 6, cqLog := 6 }
     PrivStarts s 4 5 0x86 c ∧ c.f 16 2 ≠ 4 ∧ (s.ring 6).heldRecs = [] ∧ ((s.ring 6).tail - (s.ring 6).head).toNat ≤ 2 ^ (s.ring 6).sqLog ∧
      ((s.ring 6).cqTail - (s.ring 6).cqHead).toNat ≤ 2 ^ (s.ring 6).cqLog) ∧
    (let c := tEnp 0x87 [(16, 2, 2), (20, 2, 3), (24, 8, 1)]
     PrivStarts (tPv c tRes) 4 5 0x87 c ∧ ((tPv c tRes).event (c.f 16 2)).st = .free) ∧
    (∀ k ∈ [0, 1, 2], let c := tEnp 0x88 [(16, 2, 2), (18, 1, k), (24, 8, if k = 0 then 9 else 0), (19, 1, if k = 1 then 1 else 0)]
      let s := tPvE c { st := if k = 2 then .abandoned else .live, owner := 3 }
      PrivStarts s 4 5 0x88 c ∧ c.f 18 1 = k ∧ (k = 2 → eventIdle s (c.f 16 2) = true)) := by
  unfold PrivStarts
  refine ⟨?_, ?_, ?_, ?_, ?_, ?_, ?_, ?_⟩ <;> decide

theorem witness_EventRules :
    (let s := tEvS tWt { st := .live, owner := 3 }
     (s.event 2).st = .live ∧ (s.event 2).value.toNat < (5 : Word).toNat ∧ (0 : Word).toNat ≤ (s.event 2).value.toNat ∧ s.tables = some ⟨0x1000, 0x2000, 0x3000, 4, 4⟩ ∧
      (s.event 2).vector = 0 ∧ hostWriteOk s (0x3000 + 32 * 2) = true) ∧
    (State.reset.event 2).st ≠ .live := by decide

/-- CTX_ACTIVATE of context 7 with its descriptor read, the Sector's quota of contexts, and the contexts there are. -/
def tDescr : List Byte := leBytes 2 1 ++ leBytes 1 0 ++ leBytes 1 2 ++ leBytes 4 0 ++ leBytes 2 1 ++ leBytes 2 0 ++ leBytes 2 16 ++ leBytes 50 0
def tAct : Cmd := { tEnp 0x81 [(16, 2, 7)] with rd := [(16, tDescr)] }
def tActS (quota : Nat) (ctxs : Tbl Ctx) : State := { tPv tAct ctxs with sectors := [(2, { exists_ := true, stripes := [⟨0, 4, [0]⟩], channels := [0], qCtx := quota, qRings := 8, slots := 8 })] }
def tReset (part esc : Bool) : RunReset := { rung := 1, target := 7, cause := 2, by_ := 1, sector := 2, ctx := 7, start := 0, part := part, escalated := esc }

theorem witness_Contexts :
    (PrivStarts (tActS 8 []) 4 5 0x81 tAct ∧ tAct.read 16 = some tDescr ∧ descErr 2 tDescr = none ∧ fieldAt tDescr 2 1 = 0 ∧ ((tActS 8 []).ctx 7).st = .inactive ∧
      residents (tActS 8 []) 2 < ((tActS 8 []).sector 2).qCtx ∧ firstWaiting (tActS 8 []) 2 = none ∧ freeSlotNo (tActS 8 []) = some 0 ∧
      fieldAt tDescr 8 2 ≤ (freeLsFrames (tActS 8 []) 2).length ∧ ((tActS 0 []).sector 2).qCtx ≤ residents (tActS 0 []) 2 ∧ PrivStarts (tActS 0 []) 4 5 0x81 tAct) ∧
    (PrivStarts (tActS 8 [(7, { st := .resident, sector := 2, slot := 1 })]) 4 5 0x81 tAct) ∧
    (let s := tActS 8 [(7, { st := .waiting, sector := 2, lsPages := 1, act := some (4, 5) })]
     residents s 2 < (s.sector 2).qCtx ∧ firstWaiting s 2 = some 7 ∧ freeSlotNo s = some 0 ∧ (s.ctx 7).lsPages ≤ (freeLsFrames s (s.ctx 7).sector).length) ∧
    (let c := tEnp 0x82 [(16, 2, 7)]
     let r : Tbl Ctx := [(7, { st := .resident, sector := 2, slot := 1 })]
     PrivStarts (tPv c r) 4 5 0x82 c ∧ ((tPv c r).ctx 7).st = .resident ∧ mayDeactivate (tPv c r) 7 = true ∧
      mayDeactivate ((tPv c r).setRing 6 { st := .enabled, sector := 2, ctx := 7 }) 7 = false) ∧
    (let c := tEnp 0x83 [(16, 2, 7)]
     let s : State := { tPv c [(7, { st := .resetting, sector := 2, slot := 1 })] with resets := [tReset false false] }
     PrivStarts s 4 5 0x83 c ∧ (s.ctx 7).st = .resetting ∧ runningReset s 1 7 = some (tReset false false) ∧ PrivStarts (tPv c) 4 5 0x83 c ∧ ((tPv c).ctx 7).st = .inactive ∧
      runningReset (tPv c) 1 7 = none) ∧
    (let s : State := { tPv (tEnp 0 []) [(7, { st := .resetting, sector := 2, slot := 1 })] with rings := [], resets := [tReset false false] }
     runningReset s 1 7 = some (tReset false false) ∧ ctxQuiet s 7 = true ∧ runningReset s 3 2 = none) := by
  unfold PrivStarts
  refine ⟨?_, ?_, ?_, ?_, ?_, ?_⟩ <;> decide

/-! ### Translation, coherence, scrubbing, bandwidth (14) -/

/-- One unit of one tile instruction of core 0 that waits for its translation. -/
def tU (st : UnitSt) (prg : Option Nat) : XUnit := { unit := 7, st := st, prg := prg }
def tW (st : UnitSt) (prg : Option Nat) : XWait :=
  { who := .tile 0 0, sector := 2, ctx := 3, slot := 1, pasid := none, write := false, source := 0, stream := 0, ring := 4, idx := 5, units := [tU st prg] }
def tXl (x : Xlate) : State :=
  { State.reset with
    xl := x, pci := { ats := true, pri := true }, regs := [(0x30000, 0x600000), (0x30008, BitVec.ofNat 64 (2 ^ 63 + 10))]
    kpr := { st := .running, runs := true } }

theorem witness_TranslationAnswers :
    (State.reset.xl.waits = []) ∧
    (let s := tXl { waits := [tW .ats none], fqOn := true }
     s.xl.waits = [tW .ats none] ∧ (tW .ats none).units = [tU .ats none] ∧ (tU .ats none).st = .ats ∧ (if (tW .ats none).write then false else true) = true ∧ (tU .ats none).asked < 4 ∧
      s.pci.pri = true ∧ s.xl.priStopped = false ∧ s.xl.fqErr = false ∧ s.xl.groups = [] ∧ s.xl.fq = [] ∧ 256 < fqSize s ∧
      hostWriteOk s (regAt s 0x30000 / 4096 * 4096 + s.xl.fqTail.toNat % fqSize s * 32) = true) ∧
    (let s := tXl { waits := [tW .pend (some 4)], groups := [(4, [⟨2, none, 7⟩])] }
     4 ∉ tkeys State.reset.xl.groups ∧ 4 ∈ tkeys s.xl.groups ∧ s.xl.waits = [tW .pend (some 4)] ∧ (tU .pend (some 4)).prg = some 4) ∧
    4 ∈ tkeys (tXl { groups := [(4, [⟨2, none, 7⟩])] }).xl.groups ∧ State.reset.pci.pri = false := by decide

def tTlb (users : List Waiter) : State :=
  { tSR (tWord 1 0 0 0 0 0 1 2 1) with
    xl := { tlb := [(0, [⟨2, none, 0, 32, true, true⟩, ⟨2, some 5, 512, 32, true, true⟩])], invals := [{ itag := 6, users := users }], fqOn := true } }

theorem witness_InvalidationsAndFaults :
    ((∃ i ∈ (tTlb []).xl.invals, i.itag = 6) ∧ (∀ i ∈ (tTlb []).xl.invals, i.itag ≠ 3) ∧ twf [] (tTlb []).xl.tlb = true ∧
      (tTlb []).xl.invals.find? (fun x => x.itag == 6) = some { itag := 6, users := [] } ∧ stillMoves (tTlb []) (.tile 0 0) = true) ∧
    (let s := tXl { fqOn := false, fqTail := 3, fqHead := 1, fq := [{ index := 1, prg := 0, slot := none, answered := true }] }
     (s.xl.fqTail - s.xl.fqHead).toNat < ((9 : BitVec 32) - s.xl.fqHead).toNat ∧ ((2 : BitVec 32) - s.xl.fqHead).toNat ≤ (s.xl.fqTail - s.xl.fqHead).toNat ∧ s.xl.waits = [] ∧
      bits (10 : Word).toNat 4 0 = bits (regNow s 0x30008).toNat 4 0 ∧ 10 ≤ bits (regNow s 0x30008).toNat 4 0 ∧ bits (regNow s 0x30008).toNat 4 0 ≤ 16) ∧
    (bits (regNow (tXl { fqOn := true }) 0x30008).toNat 4 0 = bits (10 : Word).toNat 4 0 ∧ (tXl { fqOn := true }).xl.fqOn = true ∧ (tXl { fqOn := true }).xl.fq = []) ∧
    bits (regNow State.reset 0x30008).toNat 4 0 < 10 ∧ bits (11 : Word).toNat 4 0 ≠ bits (regNow (tXl {}) 0x30008).toNat 4 0 ∧
    (tXl { fqOn := true, fq := [{ index := 1, prg := 0, slot := none }] }).xl.fq ≠ [] := by decide

def tFin (age : Nat) : State :=
  { State.reset with chn := { recs := [(9 * 2 ^ 20 + 8, { done := [0], held := [({ type := 1, flags := 1, src := 8, stream := 9, seq := 4 }, 0, age)] })] }, kpr := { st := .running, runs := true } }
def tDir (m : DirMode) (chks : Tbl Nat) : State := { State.reset with mem := { dir := [(1, m)], dirChk := chks }, kpr := { st := .running, runs := true } }

theorem witness_Coherence :
    ((∀ h ∈ (State.reset.seqIn 9).held, h.1.seq ≠ (4 : BitVec 32).toNat ∨ h.2.2 < 16) ∧
      ∃ h, h ∈ ((tFin 16).seqIn (9 * 2 ^ 20 + 8)).held ∧ h.1.seq = 4 ∧ 16 ≤ h.2.2) ∧
    (dirMode (tDir .directory []) 1 ≠ .rebuild ∧ dirMode (tDir .rebuild []) 1 = .rebuild ∧ (tDir .rebuild []).mem.dirChk = [] ∧
      (tDir .rebuild [(2 ^ 40 + 5, 2)]).mem.dirChk = [(2 ^ 40 + 5, 2)] ∧ (2 ^ 40 + 5) / 2 ^ 40 = 1) ∧
    keeperTakes (tDir .rebuild []) ∧
    (let r : Rehome := { sector := 2, host := false, old := [0], new := [1] }
     let s : State := { State.reset with mem := { rehomes := [r] } }
     s.mem.rehomes = [r] ∧ r.walked = false ∧ s.mem.dirChk = [] ∧ s.mem.tagChk = [] ∧ State.reset.mem.rehomes = []) ∧
    (rwlOpen State.reset = true ∧ rwlOpen { State.reset with dmk := { lost := true } } = false) :=
  ⟨⟨by decide, ⟨_, List.Mem.head _, rfl, by decide⟩⟩, by decide, by unfold keeperTakes; decide, by decide, by decide⟩

def tScr (x : Scrub) : State :=
  { State.reset with mem := { scrub := [(5, x)] }, regs := [(0x98, 0x3F), (0x40040, 3)], sectors := [(2, { exists_ := true })], res := [(resChannel 5, { st := .lit, sector := 2 })] }

theorem witness_ScrubbingAndBandwidth :
    (scrubs { tScr {} with res := [(resChannel 5, { st := .fill })] } 5 = false ∧ scrubs (tScr { leave := 1 }) 5 = true ∧ (tScr { leave := 1 }).scrubAt 5 = { leave := 1 } ∧
      (tScr {}).scrubAt 5 = {} ∧ scrubs (tScr { pos := 3, leave := 2 }) 5 = true ∧ ((tScr { pos := 3, leave := 2 }).scrubAt 5).pos + 1 < lapUnits 5 ∧
      ((tScr { pos := 50331647, leave := 2 }).scrubAt 5).pos + 1 = lapUnits 5) ∧
    (((tScr {}).resAt (resChannel 5)).st = .lit ∧ ((tScr {}).sector 2).exists_ = true ∧ ((tScr {}).sector 3).exists_ = false ∧
      256 < bits (0xFFFF : Word).toNat 7 0 + bits (0xFFFF : Word).toNat 15 8 ∧ bits (0x21 : Word).toNat 7 0 ≤ 256) := by decide

/-! ### Chain (15) -/

/-- Module 7 with ports 0 and 1 of ring position 0 up, mooring 2 of Sector 2 leased: to peer 8 (16 extents from extent 0), or a pool one towards it. -/
def tLease (peer : Bool) (fallback : Nat) : Lease :=
  { gen := 3, ctl := BitVec.ofNat 64 ((if peer then 2 ^ 61 else 0) + 8 * 2 ^ 20 + 11 * 2 ^ 43), aux := BitVec.ofNat 64 (if peer then 4 else fallback) }
def tCh (peer : Bool) (reqs : List ChReq) (x : SeqIn := {}) : State :=
  { State.reset with
    sectors := [(2, { exists_ := true, stripes := [⟨0, 4, [0]⟩], channels := [0], moorFirst := 0, moorCount := 4 })]
    res := [(1024, { st := .lit, sector := 2 })]
    regs := [(0xB8, 0xFFFF), (0xC0, 0xFFFFFFFF)]
    kpr := { st := .running, runs := true }
    chn := { id := 7, rps := [(0, { open_ := true }), (1, { open_ := true })], ports := [(0, { st := .up }), (1, { st := .up })]
             lanes := [(0, { up := true }), (1, { up := true }), (8, { up := true })], reqs := reqs, moors := [(2, { st := .leased, cur := tLease peer 0, expiry := 9 })]
             recs := [(9 * 2 ^ 20 + 8, x)] } }
def tFr (type : Nat) (flags : Nat) (payload : List Byte) (addr : Nat := 0x100) : Frame :=
  { type := type, flags := flags, dst := 7, src := 8, mooring := 2, stream := 9, seq := 4, lgen := 3, addr := addr, payload := payload }
def tPay : List Byte := List.replicate 64 3
def tLenPay : List Byte := leBytes 8 100 ++ List.replicate 56 0

theorem witness_ServedRequests :
    (FrameArrives (tCh true []) 0 (tFr 1 0 tPay) 1 ∧ inbound (tCh true []) (tFr 1 0 tPay) 64 = .ok (2, 0x100) ∧ rangeReady (tCh true []) 2 0x100 64 = true ∧
      (4 : Nat) ∉ ((tCh true []).seqIn (recKey (tFr 1 0 tPay))).done ∧ ((tCh true []).seqIn (recKey (tFr 1 0 tPay))).held = []) ∧
    (FrameArrives (tCh true []) 0 (tFr 1 1 tPay) 1 ∧ mayLand ((tCh true []).seqIn (recKey (tFr 1 1 tPay))) 4 = false) ∧
    4 ∈ ((tCh true [] { seen := true, done := [4] }).seqIn (recKey (tFr 1 0 tPay))).done ∧ inbound (tCh false []) (tFr 1 0 tPay) 64 = .error 1 ∧
    (FrameArrives (tCh true []) 0 (tFr 2 0 tLenPay) 2 ∧ inbound (tCh true []) (tFr 2 0 tLenPay) 100 = .ok (2, 0x100) ∧ inbound (tCh false []) (tFr 2 0 tLenPay) 100 = .error 1) ∧
    FrameArrives (tCh true []) 0 (tFr 3 0 []) 3 ∧ FrameArrives (tCh true []) 0 (tFr 4 0 tPay) 4 ∧ FrameArrives (tCh true []) 0 (tFr 5 0 []) 5 ∧
    ((tCh true [] { held := [(tFr 1 1 tPay, 0, 0)] }).seqIn (recKey (tFr 5 0 []))).held = [(tFr 1 1 tPay, 0, 0)] ∧ (State.reset.lane 0).up = false := by
  unfold FrameArrives; decide

/-- A request of this module that was sent: of a tile, or of a block; under a lease with or without a fallback area. -/
def tReq (type : Nat) (who : Waiter) (fallback : Nat) : ChReq :=
  { id := 5, who := who, sector := 2, ctx := 3, type := type, mooring := 2, lease := tLease false fallback, stream := 9, dst := 8, seq := 4, addr := 0x100, len := 64, firstMoor := 2, sent := true }

theorem witness_AnswersToRequests :
    (∀ ty ∈ [0x11, 0x12, 0x13, 0x14, 0x15, 0x16], FrameArrives (tCh false []) 0 (tFr ty 0 tPay) ty ∧ reqFor (tCh false []) (tFr ty 0 tPay) = none ∧
      reqFor (tCh false [tReq 1 (.tile 0 0) 0]) (tFr ty 0 tPay) = some (tReq 1 (.tile 0 0) 0) ∧ reqFor (tCh false [tReq 2 (.blk 2 1) 4096]) (tFr ty 0 tPay) = some (tReq 2 (.blk 2 1) 4096)) ∧
    (let r : ChReq := tReq 1 (.tile 0 0) 0
     reqFor (tCh false [{ r with reask := true }]) (tFr 0x13 0 tPay) = some { r with reask := true } ∧ reqFor (tCh false [{ r with redirects := 3 }]) (tFr 0x13 0 tPay) = some { r with redirects := 3 }) ∧
    (let f : Frame := { tFr 0x13 0 tPay 12 with status := 1 }
     FrameArrives (tCh false []) 0 f 0x13 ∧ (∀ t ∈ (tReq 1 (.tile 0 0) 0).refused ++ [2 + 1024 * 8], t / 1024 ≠ f.addr % 2 ^ 20) ∧ poolMooring (tCh false []) 2 (tLease false 0).group 12 = none ∧
      poolMooring (tCh false []) 2 (tLease false 0).group 8 = some 2) ∧
    (tFr 0x13 0 tPay).status ≠ 1 ∧ (tLease false 0).fallback = 0 ∧ (tLease false 4096).fallback ≠ 0 ∧ FrameArrives (tCh false []) 0 { tFr 0x16 0 [] with status := 5 } 0x16 ∧
    (let f : Frame := { tFr 0x17 0 [] with mooring := 11 }
     FrameArrives (tCh false []) 0 f 0x17 ∧
      (tCh false [tReq 1 (.tile 0 0) 0]).chn.reqs.find? (fun r => r.sent && r.type != 0x14 && r.stream == f.stream && r.addr == f.addr && r.lease.remote == f.mooring) = some (tReq 1 (.tile 0 0) 0)) := by
  unfold FrameArrives; decide

theorem witness_AnswersToRequests_ends :
    ((tCh false [tReq 1 (.release 2) 0]).chn.reqs = [tReq 1 (.release 2) 0]) ∧
    (let s := { tB .pulling false with chn := { reqs := [tReq 2 (.blk 2 1) 0] } }
     (s.blk 2 1).st = .pulling ∧ s.smChk = []) ∧
    (findOp (tSR (tWord 1 0 0 0 0 0 1 2 1)) 0 0 = some (tO (tWord 1 0 0 0 0 0 1 2 1))) ∧ keeperTakes (tCh false []) := by
  unfold keeperTakes; decide

theorem witness_RingFrames :
    (let s := tCh false []
     (s.lane 0).up = true ∧ ({ tFr 1 0 tPay with dst := 9 } : Frame).dst ≠ s.chn.id.toNat ∧ (s.port 1).st = .up ∧ ({ tFr 1 0 tPay with dst := 9 } : Frame).hops < 255 ∧ (s.lane 8).up = true ∧ (s.lane 0).held = false ∧
      (s.setPort 1 { st := .training } |>.port 1).st ≠ .up) ∧
    (let f : Frame := { tFr 0x20 0 [] with hops := 2 }
     f.src ≠ (tCh false []).chn.id.toNat ∧ f.src < 2 ^ 20 ∧ hopsTo (tCh false []) 0 8 ≠ some 3 ∧ ({ f with src := 7 } : Frame).src = (tCh false []).chn.id.toNat) ∧
    ((tCh false []).port 0).st = .up := by decide

def tPt (x : Port) : State := (tCh false []).setPort 0 x

theorem witness_PortControl :
    ((tPt {}).port 0).st ≠ .training ∧ availLane (tPt { st := .training }) 0 = true ∧ (3 : BitVec 8).toNat.testBit 0 = true ∧ (2 : BitVec 8).toNat.testBit 0 = false ∧ (tPt {}).kpr.chainPort ≠ some 0 ∧
    (let s := tPt { st := .keying, trained := 3 }
     (s.port 0).st = .keying ∧ s.chn.reqs = [] ∧ keeperTakes s) ∧
    (∀ k ∈ [0, 1], ((tPt { st := .up, rekey := k }).port 0).st = .up ∧ ((tPt { st := .up, rekey := k }).port 0).rekey = k) ∧
    ((tPt {}).port 0).st ≠ .keying ∧ ((tPt {}).port 0).st ≠ .up ∧ ((tPt {}).port 0).st ≠ .dark ∧ ((tPt {}).port 0).st ≠ .disabled ∧
    (let s := tPt { st := .disabled }
     (s.port 0).st = .disabled ∧ availPort s 0 = true ∧ rpOpen s (0 / 2) = true ∧ lifeCycle s = 1 ∧ bit (regNow s 0x50200).toNat 0 = false) ∧
    ((tPt { oldKey := some 2 }).port 0).oldKey = some 2 ∧ ((tPt { oldKey := some 1 }).port 0).oldKey = some 1 ∧
    (let s := tCh false []
     (tget {} s.chn.rps 0 : RingPos).dark = false ∧ (tget {} s.chn.rps 0 : RingPos).open_ = true ∧ (tget {} s.chn.rps 0 : RingPos).moving = none ∧
      (tget {} (setRp s 0 { open_ := true, moving := some false }).chn.rps 0 : RingPos).moving = some false) := by
  unfold keeperTakes; decide

def tLn (x : Lane) : State := { tCh false [] with chn := { (tCh false []).chn with lanes := [(0, x), (1, { up := true })] } }

theorem witness_LanesAndTimers_lanes :
    (∀ u ∈ ((tLn { up := true }).lane 0).unacked, u.1 ≠ (3 : BitVec 16)) ∧
    (let l : List (BitVec 16 × Frame) := [(2, tFr 1 0 []), (3, tFr 2 0 []), (4, tFr 3 0 [])]
     ((tLn { up := true, unacked := l }).lane 0).unacked = [(2, tFr 1 0 [])] ++ (3, tFr 2 0 []) :: [(4, tFr 3 0 [])] ∧ (∀ u ∈ [((2 : BitVec 16), tFr 1 0 [])], u.1 ≠ 3)) ∧
    ((tLn {}).lane 0).up = false ∧ ((tLn { up := true }).lane (8 * (0 / 8) + 1)).up = true ∧ (tLn { up := true }).chn.reqs = [] ∧
    ((tLn {}).port 0).st = .up ∧ availLane (tLn {}) 0 = true ∧ ((tLn {}).lane 0).dead = false ∧ ((tLn {}).lane 0).fctr ≤ 2 ^ 31 ∧
    (2 ^ 31 < ((tLn { fctr := 2 ^ 31 + 1 }).lane 0).fctr ∧ satFree (tLn {}) = some 224 ∧ (tLn {}).flash.count.toNat + 2 < 2 ^ 64) ∧
    (2 ^ 32 - 2 ^ 20 ≤ ((tLn { fctr := 2 ^ 32 - 1, armed := true }).lane 0).fctr) := by decide

def tMoor (x : Moor) (reqs : List ChReq := []) : State := { tCh false reqs with chn := { (tCh false reqs).chn with moors := [(2, x)], reqs := reqs } }

theorem witness_LanesAndTimers_timers :
    (∀ e ∈ [(0, 0), (255, 0), (255, 3)], let r : ChReq := { tReq 1 (.tile 0 0) 0 with edges := e.1, resends := e.2 }
      (tCh false [r]).chn.reqs.find? (fun r => r.id == 5 && r.sent && r.type != 0x14) = some r) ∧
    (0 < respTimeout (tCh false []) ∧ respTimeout (tCh false []) ≤ 255) ∧
    (64 ≤ ((tCh false [] { idle := 64 }).seqIn (9 * 2 ^ 20 + 8)).idle ∧ ((tCh false []).seqIn (9 * 2 ^ 20 + 8)).idle < 64) ∧
    (let s : State := { State.reset with chn := { nums := [(9 * 2 ^ 20 + 8, { next := 3, idle := 32 })], routes := [(8, (3, 192))] } }
     32 ≤ (tget {} s.chn.nums (9 * 2 ^ 20 + 8) : SeqNum).idle ∧ (tget {} State.reset.chn.nums 8 : SeqNum).idle < 32 ∧ (tget (0, 0) s.chn.routes 8).1 ≠ 0 ∧ 192 ≤ (tget (0, 0) s.chn.routes 8).2 ∧
      (tget (0, 0) State.reset.chn.routes 8).1 = 0) ∧
    (moorSector (tMoor {}) 5 = none ∧ moorSector (tMoor {}) 2 ≠ none ∧ ((tMoor {}).moor 2).cur.gen.toNat < (3 : BitVec 32).toNat ∧ laterFlash (tMoor {}) 9 = true ∧
      ((tMoor { st := .leased, cur := tLease false 0 }).moor 2).cur.gen = 3 ∧ laterFlash (tMoor {}) 0 = false) ∧
    (((tMoor { st := .leased, expiry := 0 }).moor 2).st = .leased ∧ ((tMoor {}).moor 2).st ≠ .leased) ∧
    (((tMoor { st := .leased, prev := some (tLease false 0) }).moor 2).prev = some (tLease false 0)) ∧
    (let r : ChReq := tReq 1 (.release 2) 0
     let s := { tMoor { st := .expired, cur := r.lease, expiry := 2 ^ 32 - 8 } [r] with flash := { count := 8 } }
     (s.moor 2).prev = none ∧ (s.moor 2).st = .expired ∧ laterFlash s ((s.moor 2).expiry + 8) = false ∧ s.chn.reqs = [r] ∧ r.mooring = 2 ∧ r.lease = (s.moor 2).cur) ∧
    (∃ q ∈ (tCh false []).chn.moors, q.2.st ≠ .free) ∧ (∀ q ∈ State.reset.chn.moors, q.2.st = .free) := by decide

/-! ### The Tender and freezes (16) -/

/-- A request of core 0's tile instruction, of Sector 2's rebind engine or of a fill, in the queue of an account. -/
def tGr (who : Waiter) (edges : Nat := 0) : Grant := { who := who, ctx := 3, cls := 0, kind := 0, amount := 1, est := 100, edges := edges }
def tTn (a : Nat) (g : Grant) (credit : Int := 1000000) : State :=
  { tS with tnd := { queues := [(a, [g])], secs := [(2, { credit := credit, budget := 1000000 })] } }

theorem witness_Grants :
    (tndQueue State.reset 2 = [] ∧ tndQueue (tTn 2 (tGr (.rebind 2))) 2 = [tGr (.rebind 2)] ∧ mayGrant (tTn 2 (tGr (.rebind 2))) 2 (tGr (.rebind 2)) = true ∧
      mayGrant (tTn 2 (tGr (.rebind 2)) (-1)) 2 (tGr (.rebind 2)) = false ∧ mayGrant (tTn 16 (tGr (.scrub 5))) 16 (tGr (.scrub 5)) = true) ∧
    ((tndQueue State.reset 2)[0]? = none ∧ (∀ w ∈ [Waiter.tile 0 0, .rebind 2, .fill 5], ∀ e ∈ [0, 8], (tndQueue (tTn 2 (tGr w e)) 2)[0]? = some (tGr w e)) ∧
      (tGr (.fill 5)).edges < Sys2Proof.Machine.grantTimeout tS ∧ Sys2Proof.Machine.grantTimeout tS ≤ 8) := by decide

/-- The Tender with its readings, at Flash 10. -/
def tRead (sites : List Int) : Readings := { sites := sites, inlet := 250, outlet := 300, rails := [], inputW := 500, reserveW := 100, sectors := [], ageing := [] }
def tPw (t : Tender) : State := { State.reset with flash := { count := 10 }, tnd := t, kpr := { st := .running, runs := true } }

theorem witness_PowerSteps :
    (bit (tndCtl (tPw { edges1024 := 1024 })) 0 = true ∧ 1024 ≤ (tPw { edges1024 := 1024 }).tnd.edges1024 ∧ (tPw {}).tnd.edges1024 < 1024) ∧
    ((tPw {}).tnd.judged = true ∧ (tPw { judged := false, deadline := 9 }).tnd.judged = false ∧
      (tPw { judged := false, deadline := 9 }).tnd.deadline.toNat ≤ (tPw { judged := false, deadline := 9 }).flash.count.toNat) ∧
    (let s : State := { tPw {} with regs := [(0x60020, 20)] }
     satFree s = some 224 ∧ satOperandOk 2 (bits (1000 : Word).toNat 23 0) = true ∧ s.flash.count.toNat < (regNow s 0x60020).toNat) ∧
    satFree { State.reset with sat := (List.range 32).map (fun i => (224 + i, { st := .armed })) } = none ∧ (tPw {}).tnd.schedEntry = 0 ∧
    (let s : State := { tPw { schedEntry := 230 } with sat := [(230, { st := .armed })] }
     s.tnd.schedEntry ≠ 0 ∧ (s.satEntry s.tnd.schedEntry).st = .armed ∧ (s.satEntry s.tnd.schedEntry).irq = false) ∧
    (let s : State := { tPw { last := some (tRead (List.replicate 160 200)) } with regs := [(0x38, 2000)] }
     boostAllowed s = true ∧ boostAllowed (tPw { boost := 1 }) = false ∧ s.tnd.boost ≠ 1 ∧ s.tnd.boost ≠ 2) ∧
    ((tPw { boost := 1 }).tnd.boost = 1 ∧ (tPw { boost := 2 }).tnd.boost = 2 ∧ tget 0 (tPw {}).tnd.used 1 < wearBudget ∧ (tPw {}).tnd.wearSpent = false ∧
      wearBudget ≤ tget 0 (tPw { used := [(1, wearBudget)] }).tnd.used 1) := by decide

theorem witness_PeakLimits :
    (1 ∉ (tPw {}).tnd.droop ∧ 1 ∈ (tPw { droop := [1] }).tnd.droop ∧ (tPw {}).tnd.emerg.level = 0) ∧
    (let e := (tPw { emerg := { level := 1, cause := 2 } }).tnd.emerg
     1 ≤ e.level ∧ e.level ≤ 2 ∧ e.clear = 0) ∧
    (let e := (tPw { emerg := { level := 2, cause := 2, clear := 4 } }).tnd.emerg
     1 ≤ e.level ∧ 4 ≤ e.clear) ∧ keeperTakes (tPw {}) ∧
    (State.reset.kpr.runs = false ∧ (∀ i, i < (tRead [40, 41]).sites.length → (tRead [40, 41]).sites.getD i 0 < 380) ∧ 460 ≤ (tRead [40, 470]).sites.getD 1 0 ∧
      1 ∉ State.reset.kpr.invalid ∧ State.reset.pins.thermTrip = false) ∧
    (siteFails (List.replicate 160 700) 3 = true ∧ siteFails (List.replicate 160 450) 3 = false ∧ warnLevel (tPw {}) < (List.replicate 160 (450 : Int)).getD 3 0) := by
  unfold keeperTakes; decide

/-- Sector 2 on its way to a freeze, frozen, or restoring from an image. -/
def tFz (f : Frz) (sm : List Host.Cell := []) : State :=
  { tE (tCmd 0 []) [] with frz := [(2, f)], sm := sm, rings := [], kpr := { st := .running, runs := true } }
/-- The image that a frozen Sector 2 with one running ring writes from extent 3 on, and the memory that holds it. -/
def tFrozen : State :=
  { tFz { st := .frozen, first := 3, extents := 1, writing := true } with
    rings := [(6, { st := .enabled, kind := 0, sector := 2, ctx := 3, sqBase := 0x10000, cqBase := 0x20000, sqLog := 6, cqLog := 6, head := 5, tail := 5 })] }

/-- A saved image of 77,888 bytes: the header with its sections 1, 3 and 6, and one ring of context 3; its digest stands at byte 240. -/
def tImA : List Byte :=
  leBytes 8 0x47414D495A46584F ++ (leBytes 8 0x101 ++ (leBytes 8 77888 ++ (leBytes 24 (4 * 2 ^ 168) ++ (leBytes 16 0 ++ (leBytes 16 (4096 + 2 ^ 64 + 512 * 2 ^ 96) ++ (leBytes 16 0 ++
    (leBytes 16 (8192 + 2 ^ 64 + 64 * 2 ^ 96) ++ (leBytes 32 0 ++ (leBytes 16 (12288 + 2 * 2 ^ 64 + 32800 * 2 ^ 96) ++ leBytes 80 0)))))))))
def tImB : List Byte :=
  leBytes 4 9 ++ (leBytes 4 3 ++ (leBytes 8 0x10000 ++ (leBytes 8 0x20000 ++ (leBytes 4 0x0606 ++ (leBytes 4 5 ++ (leBytes 4 5 ++ leBytes 28 0))))))
def tImR : List Byte := List.replicate 7904 0 ++ (tImB ++ List.replicate 69632 0)
def tImg (d : List Byte) : List Byte := tImA ++ (d ++ tImR)
def tIm0 : List Byte := tImg (List.replicate 48 0)
def tIm : List Byte := tImg (sha384 (sub tIm0 0 10 ++ sub tIm0 12 228 ++ tIm0.drop 512))

theorem tImA_length : tImA.length = 240 := by decide +kernel
theorem tImR_length : tImR.length = 77600 := by
  unfold tImR
  rw [List.length_append, List.length_append, List.length_replicate, List.length_replicate]
  decide +kernel
theorem tLeBytes_length (n v : Nat) : (leBytes n v).length = n := by
  induction n generalizing v with
  | zero => rfl
  | succ n ih => rw [leBytes, List.length_cons, ih]

theorem tShaRound_length (v : List (BitVec 64)) (kw : BitVec 64) (h : v.length = 8) : (shaRound v kw).length = 8 := by
  unfold shaRound
  split
  · rfl
  · exact h

theorem tShaFold_length (l : List (BitVec 64)) (v : List (BitVec 64)) (h : v.length = 8) : (l.foldl shaRound v).length = 8 := by
  induction l generalizing v with
  | nil => exact h
  | cons x r ih => exact ih _ (tShaRound_length v x h)

theorem tShaBlocks_length (n : Nat) (h : List (BitVec 64)) (bs : List Byte) (hh : h.length = 8) : (shaBlocks n h bs).length = 8 := by
  induction n generalizing h bs with
  | zero => exact hh
  | succ n ih =>
    refine ih _ _ ?_
    simp only [shaBlock, List.length_zipWith]
    rw [tShaFold_length _ _ hh, hh]; rfl

theorem tShaOut_length (x : List (BitVec 64)) (h : x.length = 8) : (((x.take 6).map (fun x => beBytes 8 x.toNat)).foldr (· ++ ·) []).length = 48 := by
  match x, h with
  | [a, b, c, d, e, f, g, h], _ => simp [beBytes, tLeBytes_length]
theorem tSha384_length (b : List Byte) : (sha384 b).length = 48 := tShaOut_length _ (tShaBlocks_length _ _ _ rfl)

theorem sub_tImg (d : List Byte) (h : d.length = 48) (off len : Nat) (hr : off + len ≤ 240 ∨ 288 ≤ off) : sub (tImg d) off len = sub tIm0 off len := by
  unfold sub
  apply List.map_congr_left
  intro i hi
  have hi := List.mem_range.mp hi
  unfold tIm0 tImg
  rcases hr with hr | hr
  · rw [List.getD_append _ _ _ _ (by rw [tImA_length]; omega), List.getD_append _ _ _ _ (by rw [tImA_length]; omega)]
  · rw [List.getD_append_right _ _ _ _ (by rw [tImA_length]; omega), List.getD_append_right _ _ _ _ (by rw [tImA_length]; omega),
      List.getD_append_right _ _ _ _ (by rw [tImA_length]; omega), List.getD_append_right _ _ _ _ (by rw [tImA_length, List.length_replicate]; omega), h, List.length_replicate]

theorem tIm_sub (off len : Nat) (hr : off + len ≤ 240 ∨ 288 ≤ off) : sub tIm off len = sub tIm0 off len := sub_tImg _ (tSha384_length _) off len hr
theorem tIm_field (off len : Nat) (hr : off + len ≤ 240 ∨ 288 ≤ off) : fieldAt tIm off len = fieldAt tIm0 off len := by
  unfold fieldAt; rw [tIm_sub off len hr]
theorem tImg_length (d : List Byte) (h : d.length = 48) : (tImg d).length = 77888 := by
  unfold tImg; rw [List.length_append, List.length_append, tImA_length, tImR_length, h]
theorem tIm_sec (k : Nat) (hk : 1 ≤ k) (h : k ≤ 11) : imgSec tIm k = imgSec tIm0 k := by
  unfold imgSec; rw [tIm_field _ _ (by omega), tIm_field _ _ (by omega), tIm_field _ _ (by omega)]
theorem tIm_recs0 (k : Nat) (hk : 1 ≤ k) (h : k ≤ 11) (h0 : (imgSec tIm0 k).2.1 = 0) : imgRecs tIm k = [] := by
  unfold imgRecs; rw [tIm_sec k hk h]; simp [h0]
theorem tImB_length : tImB.length = 64 := by decide +kernel
theorem tIm_byte (i : Nat) (h : 288 ≤ i) : tIm0.getD i 0 = if i < 8192 ∨ 8256 ≤ i then 0 else tImB.getD (i - 8192) 0 := by
  unfold tIm0 tImg tImR
  rw [List.getD_append_right _ _ _ _ (by rw [tImA_length]; omega), List.getD_append_right _ _ _ _ (by rw [tImA_length, List.length_replicate]; omega), tImA_length, List.length_replicate]
  by_cases h1 : i < 8192
  · rw [if_pos (Or.inl h1), List.getD_append _ _ _ _ (by rw [List.length_replicate]; omega), List.getD_replicate _ (by omega)]
  · rw [List.getD_append_right _ _ _ _ (by rw [List.length_replicate]; omega), List.length_replicate]
    by_cases h2 : 8256 ≤ i
    · rw [if_pos (Or.inr h2), List.getD_append_right _ _ _ _ (by rw [tImB_length]; omega), tImB_length]
      by_cases h3 : i < 77888
      · rw [List.getD_replicate _ (by omega)]
      · rw [List.getD_eq_default _ _ (by rw [List.length_replicate]; omega)]
    · rw [if_neg (by omega), List.getD_append _ _ _ _ (by rw [tImB_length]; omega), Nat.sub_sub, Nat.sub_sub]
theorem tIm_recs3 : imgRecs tIm 3 = [tImB] := by
  have e : imgSec tIm0 3 = (8192, 1, 64) := by decide +kernel
  unfold imgRecs; rw [tIm_sec 3 (by omega) (by omega), e]
  show [sub tIm (8192 + 64 * 0) 64] = _
  rw [tIm_sub _ _ (by omega)]
  refine congrArg (fun x => [x]) ?_
  unfold sub
  apply List.ext_getElem
  · rw [List.length_map, List.length_range, tImB_length]
  · intro i h1 h2
    rw [tImB_length] at h2
    rw [List.getElem_map, List.getElem_range, tIm_byte _ (by omega), if_neg (by omega), List.getD_eq_getElem _ _ (by rw [tImB_length]; omega)]
    simp only [Nat.mul_zero, Nat.add_zero, Nat.add_sub_cancel_left]
theorem tLeNat_zeros (n : Nat) : leNat (List.replicate n 0) = 0 := by
  induction n with
  | zero => rfl
  | succ n ih => rw [List.replicate_succ, leNat, ih]; rfl
theorem tFz_sm (f : Frz) (m : List Host.Cell) : (tFz f m).sm = m := rfl
theorem tIm_reg (i : Nat) : fieldAt tIm (4096 + 8 * i) 8 = if i < 512 then 0 else fieldAt tIm0 (4096 + 8 * i) 8 := by
  rw [tIm_field _ _ (by omega)]
  by_cases h : i < 512
  · rw [if_pos h]
    have e : sub tIm0 (4096 + 8 * i) 8 = List.replicate 8 0 := by
      unfold sub
      apply List.ext_getElem
      · rw [List.length_map, List.length_range, List.length_replicate]
      · intro j h1 h2
        rw [List.length_replicate] at h2
        rw [List.getElem_map, List.getElem_range, tIm_byte _ (by omega), if_pos (by omega), List.getElem_replicate]
    rw [fieldAt, e, tLeNat_zeros]
  · rw [if_neg h]
theorem tDrop_mid (a d e r : List Byte) (ha : a.length = 240) (hd : d.length = 48) (he : e.length = 48) : (a ++ (d ++ r)).drop 512 = (a ++ (e ++ r)).drop 512 := by
  rw [List.drop_append, List.drop_append, List.drop_append, List.drop_append, List.drop_eq_nil_of_le (as := d) (by omega), List.drop_eq_nil_of_le (as := e) (by omega), hd, he]
theorem tSub_mid (a d r : List Byte) (ha : a.length = 240) (hd : d.length = 48) : sub (a ++ (d ++ r)) 240 48 = d := by
  unfold sub
  apply List.ext_getElem
  · simp [hd]
  · intro i h1 h2
    rw [List.getElem_map, List.getElem_range, List.getD_append_right _ _ _ _ (by omega), List.getD_append _ _ _ _ (by omega), List.getD_eq_getElem _ _ (by omega)]
    congr 1; omega
theorem tIm_digest : sub tIm 240 48 = sha384 (sub tIm 0 10 ++ sub tIm 12 228 ++ tIm.drop 512) := by
  rw [tIm_sub 0 10 (by omega), tIm_sub 12 228 (by omega)]
  have e : tIm.drop 512 = tIm0.drop 512 := tDrop_mid tImA _ _ tImR tImA_length (tSha384_length _) List.length_replicate
  rw [e]
  exact tSub_mid tImA _ tImR tImA_length (tSha384_length _)
theorem tSecs_congr (im jm : List Byte) (hl : im.length = jm.length) (h : ∀ k, 1 ≤ k → k ≤ 11 → imgSec im k = imgSec jm k) : secsOk im = secsOk jm := by
  unfold secsOk
  rw [h 1 (by omega) (by omega), h 6 (by omega) (by omega), h 8 (by omega) (by omega), h 10 (by omega) (by omega)]
  exact congrArg (fun w : Bool × Nat => (w.1 && (imgSec jm 1).2.1 == 1 && (imgSec jm 6).2.1 == 2 && (imgSec jm 8).2.1 == (imgSec jm 10).2.1))
    (List.foldl_ext _ _ _ (fun x i hi => by rw [h (i + 1) (by omega) (by have := List.mem_range.mp hi; omega), hl]))
theorem tIm_length : tIm.length = 77888 := tImg_length _ (tSha384_length _)
theorem tIm0_length : tIm0.length = 77888 := tImg_length _ List.length_replicate
theorem tIm_secs : secsOk tIm = true := by
  rw [tSecs_congr tIm tIm0 (tIm_length.trans tIm0_length.symm) tIm_sec]
  unfold secsOk
  rw [tIm0_length]
  decide +kernel
theorem tIm_imageOk (s : State) (h : s.smChk = []) : imageOk s 2 3 1 tIm = true := by
  unfold imageOk
  rw [tIm_digest, tIm_secs, h, tIm_length]
  rw [tIm_field 0 8 (by omega), tIm_field 8 1 (by omega), tIm_field 9 1 (by omega)]
  have r : recsOk tIm = true := by
    unfold recsOk
    rw [tIm_recs3, tIm_recs0 2 (by omega) (by omega) (by decide +kernel), tIm_recs0 4 (by omega) (by omega) (by decide +kernel), tIm_recs0 5 (by omega) (by omega) (by decide +kernel),
      tIm_recs0 7 (by omega) (by omega) (by decide +kernel), tIm_recs0 8 (by omega) (by omega) (by decide +kernel)]
    decide +kernel
  have f : (fieldAt tIm0 0 8 == 0x47414D495A46584F && fieldAt tIm0 8 1 == 1 && fieldAt tIm0 9 1 == 1) = true := by decide +kernel
  rw [r, f]
  simp

/-- Sector 2, whose restore has read the image. -/
def tRst : State := tFz { st := .restoring, first := 3, image := 1 } (cwrite [] (smKey 2 (3 * 2 ^ 26)) tIm)
theorem tIm_shape : shapeOk tRst 2 tIm [] = true := by
  have r : regExtentsOk tRst 2 tIm = true := by
    unfold regExtentsOk
    simp only [tIm_reg]
    decide +kernel
  unfold shapeOk
  rw [r, tIm_field 45 1 (by omega), show fieldAt tIm (4096 + 24) 8 = 0 from tIm_reg 3, tIm_recs3, tIm_recs0 2 (by omega) (by omega) (by decide +kernel), 
    tIm_recs0 5 (by omega) (by omega) (by decide +kernel), tIm_recs0 7 (by omega) (by omega) (by decide +kernel), tIm_recs0 8 (by omega) (by omega) (by decide +kernel)]
  decide +kernel
theorem tIm_numbers : numbersOk tRst tIm = true := by
  unfold numbersOk
  rw [tIm_recs3, tIm_recs0 2 (by omega) (by omega) (by decide +kernel), tIm_recs0 4 (by omega) (by omega) (by decide +kernel), tIm_recs0 5 (by omega) (by omega) (by decide +kernel)]
  decide +kernel
theorem tCread_write (m : List Host.Cell) (a : Nat) (b : List Byte) (o len : Nat) (h : o + len ≤ b.length) : cread (cwrite m a b) (a + o) len = sub b o len := by
  unfold cread sub
  apply List.map_congr_left
  intro i hi
  rw [Nat.add_assoc, Laws.cget_cwrite_inside _ _ _ _ (by have := List.mem_range.mp hi; omega)]
theorem tSub_all (b : List Byte) : sub b 0 b.length = b := by
  unfold sub
  apply List.ext_getElem
  · simp
  · intro i h1 h2
    rw [List.getElem_map, List.getElem_range, Nat.zero_add, List.getD_eq_getElem _ _ h2]

theorem tRst_image (m : List Host.Cell) (h : m = cwrite [] (smKey 2 (3 * 2 ^ 26)) tIm) :
    leNat (cread m (smKey 2 (3 * 2 ^ 26 + 16)) 8) = 77888 ∧ cread m (smKey 2 (3 * 2 ^ 26)) 77888 = tIm := by
  have k : smKey 2 (3 * 2 ^ 26 + 16) = smKey 2 (3 * 2 ^ 26) + 16 := by decide
  have d : fieldAt tIm 16 8 = 77888 := by rw [tIm_field 16 8 (by omega)]; decide +kernel
  have c : sub tIm 0 77888 = tIm := by have := tSub_all tIm; rwa [tIm_length] at this
  have b := tCread_write [] (smKey 2 (3 * 2 ^ 26)) tIm 0 77888 (by rw [tIm_length])
  rw [Nat.add_zero, c] at b
  rw [h, k, tCread_write _ _ _ _ _ (by rw [tIm_length]; omega)]
  exact ⟨d, b⟩

theorem witness_FreezeEnds :
    (((tFz {}).frzAt 2).st ≠ .quiescing ∧ ((tFz { st := .quiescing }).frzAt 2).st = .quiescing ∧ quiesces (tFz { st := .quiescing }) 2 = false ∧
      quiesces (tQ.setFrz 2 { st := .quiescing }) 2 = true ∧ (extentSet ((tFz { st := .quiescing, first := 3 }).sector 2) 3).isSome = true ∧ keeperTakes (tFz {})) ∧
    (((tFz { st := .quiescing, edges := 0 }).frzAt 2).edges = 0 ∧ ((tFz { st := .quiescing, edges := 3 }).frzAt 2).edges ≠ 0) ∧
    (((tFz {}).frzAt 2).st ≠ .frozen ∧ (tFrozen.frzAt 2).st = .frozen ∧ (tFrozen.frzAt 2).writing = true ∧ tFrozen.smChk = []) ∧
    (((tFz {}).frzAt 2).st ≠ .restoring ∧ (tRst.frzAt 2).st = .restoring ∧ (tRst.frzAt 2).restored = false) ∧
    (unmappedExtent (tFz { st := .restoring, first := 5 }) 2 (5 * 2 ^ 26) (max 1 0) ≠ none) ∧
    (let len := leNat (cread tRst.sm (smKey 2 (3 * 2 ^ 26 + 16)) 8)
     let im := cread tRst.sm (smKey 2 (3 * 2 ^ 26)) len
     len ≤ 2 ^ 39 - 3 * 2 ^ 26 ∧ unmappedExtent tRst 2 (3 * 2 ^ 26) (max 1 len) = none ∧ imageOk tRst 2 3 1 im = true ∧ shapeOk tRst 2 im [] = true ∧ numbersOk tRst im = true ∧
      imgRecs im 3 = [tImB] ∧ imgRecs im 5 = [] ∧ (fieldAt im (4096 + 80) 8).testBit 63 = false) ∧
    (let s : State := { tRst with sectors := [(2, { exists_ := true, stripes := [⟨0, 4, [0]⟩], kvLog := 5 })] }
     let len := leNat (cread s.sm (smKey 2 (3 * 2 ^ 26 + 16)) 8)
     let im := cread s.sm (smKey 2 (3 * 2 ^ 26)) len
     len ≤ 2 ^ 39 - 3 * 2 ^ 26 ∧ unmappedExtent s 2 (3 * 2 ^ 26) (max 1 len) = none ∧ imageOk s 2 3 1 im = true ∧ shapeOk s 2 im [] = false) := by
  refine ⟨by unfold keeperTakes; decide, by decide, by decide, by decide, by decide, ?_, ?_⟩
  · dsimp only
    have h := tRst_image tRst.sm (tFz_sm _ _)
    rw [h.1, h.2]
    refine ⟨by decide, by decide, tIm_imageOk tRst rfl, tIm_shape, tIm_numbers, tIm_recs3, tIm_recs0 5 (by omega) (by omega) (by decide +kernel), ?_⟩
    rw [show fieldAt tIm (4096 + 80) 8 = 0 from tIm_reg 10]; rfl
  · dsimp only
    have h := tRst_image tRst.sm (tFz_sm _ _)
    rw [h.1, h.2]
    refine ⟨by decide, by decide, tIm_imageOk _ rfl, ?_⟩
    unfold shapeOk
    rw [tIm_field 45 1 (by omega)]
    decide +kernel

/-! ### Daymark (17) -/

/-- A mailbox request: its header and body, and the module with LENGTH written and Daymark running. -/
def tMb (op : Nat) (body : List Byte) : List Byte := leBytes 1 op ++ (leBytes 1 1 ++ (leBytes 2 0 ++ (leBytes 4 body.length ++ body)))
def tDk (len : Nat) (d : Daymark) : State :=
  { State.reset with dmk := { d with running := true }, regs := [(0x80008, BitVec.ofNat 64 len)], kpr := { st := .running, runs := true } }
def tLc (v : Nat) : Fuses := { copies := [some v, some v, some v] }

theorem tDk_runs (d : Daymark) (op : Nat) (body : List Byte) (h0 : lifeCycle (tDk (body.length + 8) d) ≠ 7) (h1 : d.busy = false)
    (h2 : fieldAt (tMb op body) 0 1 = op) (h3 : mboxBody (tMb op body) (bits (regNow (tDk (body.length + 8) d) 0x80008).toNat 11 0) = some body) :
    DaymarkRuns (tDk (body.length + 8) d) (some (tMb op body)) op body := ⟨rfl, h0, h1, _, rfl, h2, h3⟩

theorem tGcm_good (key nonce text : List Byte) : ∃ tag : List Byte, tag.length = 16 ∧ (gcmOpen key nonce text tag).isSome = true := by
  unfold gcmOpen
  refine ⟨(be16 (ghash (beNat (aesBlock (aesKeys key) (List.replicate 16 0))) (gcmBlocks (text.map (·.toNat)) ++ [8 * (text.map (·.toNat)).length]) ^^^
    beNat (aesBlock (aesKeys key) (nonce.map (·.toNat) ++ (List.range 4).map (fun j => 1 / 2 ^ (8 * (3 - j)) % 256))))).map (BitVec.ofNat 8), ?_, ?_⟩
  · simp [be16]
  · dsimp only
    rw [if_pos]
    · rfl
    · simp [be16, List.map_map, Function.comp_def]
theorem tGcm_bad (key nonce text : List Byte) : ∃ tag : List Byte, tag.length = 16 ∧ gcmOpen key nonce text tag = none := by
  unfold gcmOpen
  dsimp only
  generalize hx : be16 _ = x
  by_cases h : x = (List.replicate 16 (0 : Byte)).map (·.toNat)
  · refine ⟨List.replicate 16 1, rfl, ?_⟩
    rw [if_neg (by rw [h]; decide)]
  · exact ⟨List.replicate 16 0, rfl, if_neg h⟩
/-- A COMPKEY_ENROL body: a nonce and a text of zeros, and a tag. -/
def tWrap (tag : List Byte) : List Byte := List.replicate 60 0 ++ tag
theorem tWrap_ok (tag : List Byte) (h : tag.length = 16) :
    (tWrap tag).length = 76 ∧ sub (tWrap tag) 60 16 = tag ∧ sub (tWrap tag) 0 12 = List.replicate 12 0 ∧ sub (tWrap tag) 12 48 = List.replicate 48 0 := by
  match tag, h with
  | [a, b, c, d, e, f, g, i, j, k, l, m, n, o, p, q], _ => exact ⟨rfl, rfl, rfl, rfl⟩
theorem tMb4 (body : List Byte) (h : body.length = 76) : fieldAt (tMb 4 body) 0 1 = 4 ∧ mboxBody (tMb 4 body) 84 = some body := by
  have e : tMb 4 body = [4, 1, 0, 0, 76, 0, 0, 0] ++ body := by unfold tMb; rw [h]; rfl
  rw [e]
  refine ⟨rfl, ?_⟩
  have f1 : fieldAt ([4, 1, 0, 0, 76, 0, 0, 0] ++ body) 1 1 = 1 := rfl
  have f2 : fieldAt ([4, 1, 0, 0, 76, 0, 0, 0] ++ body) 2 2 = 0 := rfl
  have f3 : fieldAt ([4, 1, 0, 0, 76, 0, 0, 0] ++ body) 4 4 = 76 := rfl
  have hl : ([4, 1, 0, 0, 76, 0, 0, 0] ++ body : List Byte).length = 84 := by rw [List.length_append, h]; rfl
  unfold mboxBody
  rw [f1, f2, f3, hl, if_pos (by decide), List.take_of_length_le (by rw [hl])]
  rfl

theorem tDk_len (d : Daymark) : bits (regNow (tDk 84 d) 0x80008).toNat 11 0 = 84 := by
  have e : regNow (tDk 84 d) 0x80008 = regNow (tDk 84 {}) 0x80008 := by unfold regNow tDk; rfl
  rw [e]; decide

theorem witness_DaymarkServices :
    ((tDk 8 {}).dmk.running = true ∧ lifeCycle (tDk 8 {}) ≠ 7 ∧ (tDk 8 { busy := true }).dmk.busy = true ∧ State.reset.dmk.running = false) ∧
    DaymarkRuns (tDk 8 {}) (some (tMb 1 [])) 1 [] ∧
    (∀ v ∈ [1, 4], DaymarkRuns (tDk 56 { fuses := tLc v }) (some (tMb 4 (List.replicate 48 1))) 4 (List.replicate 48 1) ∧ lifeCycle (tDk 56 { fuses := tLc v }) = v) ∧
    (∀ (tag : List Byte) (k : Option (List Byte)), tag.length = 16 → DaymarkRuns (tDk 84 { fuses := tLc 3, compKey := k }) (some (tMb 4 (tWrap tag))) 4 (tWrap tag) ∧
      (tWrap tag).length = 76 ∧ lifeCycle (tDk 84 { fuses := tLc 3, compKey := k }) = 3 ∧ (tDk 84 { fuses := tLc 3, compKey := k }).dmk.compKey = k) ∧
    (∀ key : List Byte, (∃ tag : List Byte, tag.length = 16 ∧ (gcmOpen key (sub (tWrap tag) 0 12) (sub (tWrap tag) 12 48) (sub (tWrap tag) 60 16)).isSome = true) ∧
      ∃ tag : List Byte, tag.length = 16 ∧ gcmOpen key (sub (tWrap tag) 0 12) (sub (tWrap tag) 12 48) (sub (tWrap tag) 60 16) = none) ∧
    (3 ∉ (tDk 8 {}).dmk.fuses.killed ∧ 3 ∈ (tDk 8 { fuses := { killed := [3] } }).dmk.fuses.killed ∧ measurement (tDk 8 {}) 1 = some [] ∧ measurement (tDk 8 {}) 9 = none ∧
      identityOnly (tDk 8 {}) = false ∧ identityOnly (tDk 8 { fuses := tLc 5 }) = true ∧ (measurement (tDk 8 { fuses := tLc 5 }) 6).isSome = true) := by
  refine ⟨by decide, tDk_runs _ 1 [] (by decide) rfl (by decide) (by decide), ?_, ?_, ?_, by decide⟩
  · intro v hv
    refine ⟨⟨rfl, ?_, rfl, _, rfl, ?_, ?_⟩, ?_⟩ <;> (revert v; decide)
  · intro tag k h
    have w := tWrap_ok tag h
    have m := tMb4 (tWrap tag) w.1
    exact ⟨⟨rfl, (by decide : (3 : Nat) ≠ 7), rfl, _, rfl, m.1, by rw [tDk_len]; exact m.2⟩, w.1, rfl, rfl⟩
  · intro key
    obtain ⟨a, ha, ga⟩ := tGcm_good key (List.replicate 12 0) (List.replicate 48 0)
    obtain ⟨b, hb, gb⟩ := tGcm_bad key (List.replicate 12 0) (List.replicate 48 0)
    refine ⟨⟨a, ha, ?_⟩, b, hb, ?_⟩
    · rw [(tWrap_ok a ha).2.1, (tWrap_ok a ha).2.2.1, (tWrap_ok a ha).2.2.2]; exact ga
    · rw [(tWrap_ok b hb).2.1, (tWrap_ok b hb).2.2.1, (tWrap_ok b hb).2.2.2]; exact gb

def tTok (target : Nat) : List Byte := leBytes 4 target ++ List.replicate 32 1
def tCert (rights counter sig : Nat) : List Byte :=
  leBytes 8 0x545243474244584F ++ (leBytes 4 1 ++ (leBytes 4 counter ++ (leBytes 8 7 ++ (leBytes 8 rights ++ (leBytes 96 4 ++ (beBytes 48 sig ++ beBytes 48 sig))))))
/-- Three certificates of module 7 in state FIELDED's mask, and the keys that they verify under: DBG_MAKER rights 1 at counter 0, the same at 1,024, and SCAN at 0. -/
def tSigs : List (Nat × Nat × Nat × (Nat × Nat)) :=
  [(1, 0, 0x4186fd6e50f3d5dd23655773506bff45e37ec8ae02338cb95ffc96bf7c554b3359a483863fa81af032aa5b45911187f3,
    (0x911953de7dddb2e141ee098cbd3b9d4db6bd6c3d48967e102a8c8db5e5c1a7a293f0a2398a477748e5c28bdc10d84d0c,
     0xe6be57d5718067727e834190ccec00c42efebd3655093378af089090e7ecf7a01f1c75d23d6d27cb13471b32f0520710))] ++
  [(1, 1024, 0x445c4196c4b3f92f32956acc79fb833ff73d9bdf2299deb3d362c9aa3cfb37abc9aaa8272a406a50f578d16453a57dee,
    (0x65e4a50cef9776ab755732d07fd4c6860c465d345b68a8f4fc05419391e2c976bc01099a41f074d744c6732562b92482,
     0xe81ef18f820b65c04d2c527c3b3206305cffaf5fb3581cb4d4c0a99baa0abd14721c71d6c4011cf87bbf49caf9324132))] ++
  [(8, 0, 0x32021eb15c83798569c84b047bae403fa620fe390f1126638114d69923ef5338cda227b1b69a92bb81d7ec3dde7ed14,
    (0xf80b2f799fb67bc734c4308cb548d8f8cb7ff92c0643fdd97d892dc83762ee9af4e13a56cc0e5a3d51e16a648031f25d,
     0x61638487b34e651af0545b2c99fde3c61f5df1623e58d9912d42b6d516e6ea0c08c565df89fadb7d364d3cd0f01d6644))]

theorem tSigs_good : ∀ x ∈ tSigs, let b := tCert x.1 x.2.1 x.2.2.1
    ecdsaOk x.2.2.2 (sha384 (b.take 128)) (be48 b 128) (be48 b 176) = true := by decide +kernel

def tDbg (x : Nat × Nat × Nat × (Nat × Nat)) (serial lc : Nat) : Daymark :=
  { fuses := { tLc lc with serial := BitVec.ofNat 64 serial, counter := x.2.1, dbgKeys := [x.2.2.2] } }

theorem witness_LifeCycleAndDebug :
    (∀ t ∈ [2, 3], ∀ f ∈ [0, 8], DaymarkRuns (tDk 44 { fails := f }) (some (tMb 2 (tTok t))) 2 (tTok t) ∧ (tTok t).length = 36 ∧ zeroAt (tTok t) 1 3 = true ∧ (tDk 44 { fails := f }).dmk.fails = f ∧
      fieldAt (tTok t) 0 1 = t) ∧
    (tokenDigest (tDk 44 {}) 3 = none ∧ tokenDigest (tDk 44 {}) 2 = some (some []) ∧ sha384 (sub (tTok 2) 4 32) ≠ [] ∧
      tokenDigest (tDk 44 { fuses := { integDigest := sha384 (sub (tTok 2) 4 32) } }) 2 = some (some (sha384 (sub (tTok 2) 4 32))) ∧ anySector (tDk 44 {}) = false ∧
      anySector { tDk 44 {} with sectors := [(2, { exists_ := true })] } = true) ∧
    ((tDk 8 {}).dmk.prog = none ∧ ∀ t ∈ [2, 4, 5], (tDk 8 { prog := some t }).dmk.prog = some t) ∧
    (∀ v ∈ [1, 2], ∀ a ∈ [0, 1], DaymarkRuns (tDk 104 { fuses := tLc v }) (some (tMb 3 (List.replicate 96 a))) 3 (List.replicate 96 a)) ∧
    (¬ ((sub (List.replicate 96 (1 : Byte)) 0 48).all (· == 0) = true) ∧ (sub (List.replicate 96 (0 : Byte)) 48 48).all (· == 0) = true ∧
      (tDk 104 { fuses := { tLc 2 with fieldDigest := some [] } }).dmk.fuses.fieldDigest ≠ none) ∧
    (∀ x ∈ tSigs, ∀ serial ∈ [7, 9], ∀ lc ∈ [2, 5], let b := tCert x.1 x.2.1 x.2.2.1
      DaymarkRuns (tDk 232 (tDbg x serial lc)) (some (tMb 5 b)) 5 b ∧ b.length = 224 ∧ certLayout b = true ∧ lifeCycle (tDk 232 (tDbg x serial lc)) = lc ∧
      (serial = 7 → lc = 2 → fieldAt b 16 8 = (tDk 232 (tDbg x serial lc)).dmk.fuses.serial.toNat ∧ fieldAt b 12 4 = (tDk 232 (tDbg x serial lc)).dmk.fuses.counter ∧
        (fieldAt b 32 1).testBit (lifeCycle (tDk 232 (tDbg x serial lc))) = true) ∧ (serial = 9 → fieldAt b 16 8 ≠ (tDk 232 (tDbg x serial lc)).dmk.fuses.serial.toNat)) ∧
    (tenantRights 8 = true ∧ tenantRights 1 = false ∧ (8 : Nat).testBit 3 = true ∧ (1 : Nat).testBit 3 = false ∧ ecdsaOk (0, 0) [] 0 0 = false) ∧
    DaymarkRuns (tDk 8 { scan := true }) (some (tMb 6 [])) 6 [] := by
  refine ⟨?_, ⟨by decide, by decide, ?_, rfl, by decide, by decide⟩, by decide, ?_, by decide, ?_, by decide, tDk_runs _ 6 [] (by decide) rfl (by decide) (by decide)⟩
  · intro t ht f hf
    refine ⟨⟨rfl, ?_, rfl, _, rfl, ?_, ?_⟩, ?_, ?_, rfl, ?_⟩ <;> (revert t f; decide)
  · intro h; have := tSha384_length (sub (tTok 2) 4 32); rw [h] at this; cases this
  · intro v hv a ha
    refine ⟨rfl, ?_, rfl, _, rfl, ?_, ?_⟩ <;> (revert v a; decide)
  · intro x hx serial hs lc hl
    refine ⟨⟨rfl, ?_, rfl, _, rfl, ?_, ?_⟩, ?_, ?_, ?_, ?_, ?_⟩ <;> (revert x serial lc; decide +kernel)

/-! ### Boots, power and the Keeper (18) -/

def tPi (p : Pins) (k : Keeper := { st := .running, runs := true, boot := { result := 1 } }) : State := { State.reset with pins := p, kpr := k, dmk := { running := true } }
/-- A boot whose step runs at a level. -/
def tBo (id l : Nat) : State := { State.reset with kpr := { runs := true, boot := { kind := 1, result := 0, stage := 4, steps := [⟨id, l, false⟩] } } }

theorem witness_PowerAndBoots :
    ((tPi { vsb := true }).pins.vsb = true ∧ State.reset.pins.vsb = false ∧ (tPi { vsb := true }).pins.resetN = true ∧ bootWaits (tPi { vsb := true }) = false ∧ (tPi { vsb := true }).kpr.runs = true) ∧
    (let s := tPi { vsb := true, resetN := false, vin := 480 }
     s.pins.resetN = false ∧ s.pins.vsb = true ∧ 380 ≤ s.pins.vin ∧ keeperTakes s) ∧
    ((tPi { vsb := true, resetN := false }).pins.vin < 380 ∧ bootWaits (tPi { vsb := true, resetN := false }) = false) ∧
    (runningStep State.reset 0x31 = none ∧ runningStep (tBo 0x31 0) 0x31 = some ⟨0x31, 0, false⟩ ∧ dieLevelOk 0x31 0 0 = true ∧ runningStep (tBo 1 0) 1 = some ⟨1, 0, false⟩ ∧
      (tBo 0x31 0).kpr.nvmOk = false ∧ (1 : BitVec 32).toNat.testBit 0 = true ∧ (∀ i, i < 12 → (0 : BitVec 32).toNat.testBit i = false)) ∧
    ((tBo 0x70 0).resets = [] ∧ 0 < stepMax 0x31 ∧ (tBo 0x31 0).kpr.boot.steps = [⟨0x31, 0, false⟩] ∧ stepFatal 0x13 = true ∧ keeperTakes (tBo 0x31 0)) := by
  unfold keeperTakes; decide

def tKp (k : Keeper) : State := tPi { vsb := true } k

theorem witness_KeeperCommands :
    ((tKp { runs := true, nvmOk := true }).kpr.runs = true ∧ (tKp { runs := true, nvmOk := true }).kpr.nvmOk = true ∧ State.reset.kpr.runs = false ∧ State.reset.kpr.flushing = none) ∧
    (let s := tKp { runs := true, flushing := some 5 }
     s.kpr.flushing = some 5 ∧ s.pins.vsb = true ∧ s.hng.pwrWait = false ∧ s.kpr.restart = false) ∧
    ((tKp { st := .running, runs := true, boot := { result := 1 } }).kpr.st ≠ .restarting ∧ (tKp { st := .running, runs := true, boot := { result := 1 } }).kpr.boot.result ≠ 0) ∧
    (let s := tKp { st := .restarting, runs := true, cause := 2, boot := { result := 1 } }
     s.kpr.st = .restarting ∧ s.kpr.cause = 2 ∧ s.kpr.boot.result = 1 ∧ s.hng.wait = none ∧ s.kpr.lost = 0) ∧
    ((tKp {}).dmk.rights.toNat.testBit 4 = false ∧ ({ tKp {} with dmk := { rights := 16 } } : State).dmk.rights.toNat.testBit 4 = true ∧ daymarkEndpoint (tKp { runs := false }) = true) ∧
    (let s : State := { tPi { vin := 300 } with tnd := { last := some { tRead [] with inlet := 300 } } }
     s.tnd.last = some { tRead [] with inlet := 300 } ∧ s.pins.vin < 380 ∧ ({ tRead [] with inlet := 300 } : Readings).inlet < 400 ∧ 380 ≤ (tPi { vin := 480 }).pins.vin) := by decide

/-- A request of the Keeper's mailbox over the sideband. -/
def tKm (st : KprSt) (nvm : Bool) (fl : Option (BitVec 32)) (d : Daymark) : State := { State.reset with kpr := { st := st, runs := true, nvmOk := nvm, flushing := fl }, dmk := d }

theorem witness_KeeperMailbox :
    ((tKm .restarting true none {}).kpr.runs = true ∧ (tKm .restarting true none {}).kpr.st = .restarting) ∧
    (∀ x ∈ [(1, leBytes 8 10), (2, []), (3, []), (4, leBytes 4 0), (5, leBytes 17 7), (6, []), (7, [3, 0xFF, 0, 7]), (8, [])], ∀ nvm ∈ [true, false],
      KeeperRuns (tKm .running nvm none {}) .sideband (some (tMb x.1 x.2)) x.1 x.2) ∧
    ((leBytes 8 10).length = 8 ∧ fieldAt (leBytes 8 10) 6 1 ≤ 1 ∧ fieldAt (leBytes 17 7) 16 1 ≤ 1 ∧ (∀ o ∈ ([3, 0xFF, 0, 7] : List Byte), o.toNat ≤ 7 ∨ o = 0xFF)) ∧
    ((tKm .running true none {}).kpr.flushing = none ∧ (tKm .running true (some 5) {}).kpr.flushing = some 5 ∧ KeeperRuns (tKm .running true (some 5) {}) .sideband (some (tMb 2 [])) 2 []) ∧
    (lifeCycle (tKm .running true none { fuses := tLc 3 }) = 3 ∧ KeeperRuns (tKm .running true none { fuses := tLc 3 }) .sideband (some (tMb 3 [])) 3 [] ∧
      lifeCycle (tKm .running true none {}) = 1) ∧
    ((tKm .running true none {}).dmk.rights.toNat.testBit 7 = false ∧ (tKm .running true none { rights := 128 }).dmk.rights.toNat.testBit 7 = true ∧
      KeeperRuns (tKm .running true none { rights := 128 }) .sideband (some (tMb 7 [3, 0xFF, 0, 7])) 7 [3, 0xFF, 0, 7]) := by
  refine ⟨by decide, ?_, by decide, ⟨rfl, rfl, ⟨rfl, (by decide : KprSt.running ≠ .restarting)⟩, _, rfl, by decide, by decide, by decide⟩,
    ⟨by decide, ⟨⟨rfl, (by decide : KprSt.running ≠ .restarting)⟩, _, rfl, by decide, by decide, by decide⟩, by decide⟩,
    by decide, by decide, ⟨⟨rfl, (by decide : KprSt.running ≠ .restarting)⟩, _, rfl, by decide, by decide, by decide⟩⟩
  intro x hx nvm hn
  refine ⟨⟨rfl, (by decide : KprSt.running ≠ .restarting)⟩, _, rfl, ?_, ?_, ?_⟩ <;> (revert x nvm; decide)

/-- An update of component 1 in a state, with the image in its inactive slot. -/
def tPl (p : Pldm) (img : List Byte) (fl : Option (BitVec 32)) : State :=
  { State.reset with
    kpr := { st := .running, runs := true, boot := { result := 1 }, pldm := p, comps := [1], comp := 1, accepted := [1], flushing := fl, fw := [(1, { b := img })] }
    dmk := { running := true, fuses := { fwKey :=
      (0xd922e8e8cd1399ef8e3851dd982f4049396900d4a1e52d99ce87635fad5d8e611c120c09259d98d69d44e13aac28f6be,
       0x7ab227731248ef635f1662c014d0b37f52b686a8bc9f2af44a727b1d4b9d2f23d5c7931b1362f474ce2bfd5cb92a4966) } } }
def tFw : List Byte :=
  leBytes 8 0x47414D495746584F ++ (leBytes 2 0x101 ++ (leBytes 14 0 ++ (leBytes 8 256 ++
    (beBytes 48 0x9c44f351a0792b713d27a16f8727d66e3fbbe0a3daaaa053ff66a30a826d0cb184066d31a13986de3745c306dfa77785 ++
      (beBytes 48 0x8ad5ddcb6101e0d5751eefc8f3db32c648eaecfc6b9dff03ce914f7f08af93282094279631b602c3addda0cad5e36720 ++
        (beBytes 48 0x8ad5ddcb6101e0d5751eefc8f3db32c648eaecfc6b9dff03ce914f7f08af93282094279631b602c3addda0cad5e36720 ++ List.replicate 80 0))))))

theorem tFw_good : imageCheck (tPl .verify tFw none) 1 tFw = mOK := by decide +kernel

theorem witness_FirmwareUpdate :
    keeperTakes (tPl .idle [] none) ∧
    (∀ p ∈ [Pldm.idle, .learn, .ready, .download, .verify, .apply], pldmNow (tPl p [] none) = p ∧ (tPl p [] none).kpr.pldm = p) ∧
    ((tPl .idle [] none).kpr.boot.result ≠ 0 ∧ lifeCycle (tPl .idle [] none) ≠ 5 ∧ (tPl .idle [] none).dmk.prog = none ∧ 1 ∈ (tPl .ready [] none).kpr.comps ∧
      (fwOf (tPl .ready [] none) 1).active ≤ 1 ∧ ((fwOf (tPl .download [] none) 1).image 1).length + 256 ≤ slotSize 1 ∧ slotSize 1 < ((fwOf (tPl .download [] none) 1).image 1).length + 2000000 ∧
      (List.replicate 256 (0 : Byte)).length ≤ 4096) ∧
    ((fwOf (tPl .verify tFw none) 1).image (1 - (fwOf (tPl .verify tFw none) 1).active) = tFw ∧ imageCheck (tPl .verify tFw none) 1 tFw = mOK ∧
      imageCheck (tPl .verify [] none) 1 ((fwOf (tPl .verify [] none) 1).image (1 - (fwOf (tPl .verify [] none) 1).active)) ≠ mOK) ∧
    ((tPl .ready [] (some 5)).kpr.accepted = [1] ∧ (tPl .ready [] (some 5)).kpr.flushing ≠ none ∧ (tPl .ready [] none).kpr.flushing = none) := by
  refine ⟨by unfold keeperTakes; decide, by decide, by decide, ⟨rfl, tFw_good, by decide⟩, by decide⟩

/-! ### Watches, resets, dumps (19) -/

def tHn (h : Hang) (ctxs : Tbl Ctx := []) (rs : List RunReset := []) : State :=
  { State.reset with
    hng := h, ctxs := ctxs, resets := rs, sectors := [(2, { exists_ := true })], kpr := { st := .running, runs := true, nvmOk := true, boot := { result := 1 } }, dmk := { running := true }
    pins := { vsb := true, vin := 480 } }
def tRr (rung target : Nat) (esc stuck : Bool) (edges : Nat) : RunReset := { rung := rung, target := target, cause := 2, by_ := 1, sector := 2, start := 0, escalated := esc, stuck := stuck, edges := edges }
def tR3 : Tbl Ctx := [(3, { st := .resident, slot := 1, sector := 2, window := 100 })]

theorem witness_HostResets :
    ((1 ≤ (tHn { reqRung := 2 }).hng.reqRung ∧ (tHn { reqRung := 2 }).hng.reqRung ≤ 3) ∧ ((tHn {}).ctx (3 : BitVec 14).toNat).st = .inactive ∧ 32 ≤ (40 : BitVec 14).toNat ∧
      ((tHn {}).sector (3 : BitVec 14).toNat).exists_ = false) ∧
    (let s := tHn {} tR3 [tRr 4 0 false false 0]
     ¬ (1 ≤ s.hng.reqRung ∧ s.hng.reqRung ≤ 3) ∧ (∃ r ∈ s.resets, 4 ≤ r.rung) ∧ (s.ctx 3).st ≠ .inactive ∧ (s.sector 2).exists_ = true) ∧
    (IdleWork (tHn {} tR3) ∧ (tHn {} tR3).resets = [] ∧ ((tHn {} tR3).ctx 3).st = .resident ∧ ((tHn {} tR3).frzAt (engineSector (tHn {} tR3) 5)).st = .running ∧
      IdleWork (tHn {}) ∧ ((tHn {}).sector 2).exists_ = true ∧ (tHn {}).ctxs = [] ∧ (tHn {}).res = [] ∧ ((tHn {}).frzAt 2).st = .running) ∧
    (runningReset (tHn {}) 2 5 = none ∧ ∀ e ∈ [true, false], runningReset (tHn {} [] [tRr 2 5 e false 0]) 2 5 = some (tRr 2 5 e false 0) ∧ engineQuiet (tHn {} [] [tRr 2 5 e false 0]) 5 = true ∧
      runningReset (tHn {} [] [tRr 2 5 e false 0]) 3 2 = none) := by
  unfold IdleWork; decide

def tWa (k quiet : Nat) : Hang := { watch := [(k, { quiet := quiet })] }
/-- AUTO_MAX is 0. -/
def tNoAuto (s : State) : State := { s with regs := [(0x90000, BitVec.ofNat 64 (1000 * 2 ^ 48 + 64 * 2 ^ 32 + 16 * 2 ^ 24))] }

theorem witness_WatchExpiries :
    (slotCtx (tHn {}) 1 = none ∧ slotCtx (tHn {} tR3) 1 = some 3 ∧ ((tHn {} tR3).watchAt 1).quiet < ((tHn {} tR3).ctx 3).window) ∧
    (let s := tHn (tWa 1 100) tR3
     slotCtx s 1 = some 3 ∧ (s.ctx 3).window ≠ 0xFFFF ∧ (s.watchAt 1).fired = false ∧ (s.ctx 3).window ≤ (s.watchAt 1).quiet ∧ (∀ i, i < 32 → engineDue s i = false) ∧
      (s.ctx 3).st = .resident ∧ 1 ≤ autoMax s ∧ IdleWork s ∧ s.resets = []) ∧
    (slotCtx (tHn (tWa 1 100) [(3, { st := .resetting, slot := 1, window := 100 })]) 1 = some 3) ∧
    (let d := tEnt 1 []
     let s : State := { tNoAuto (tHn (tWa 1 100) tR3) with rings := [(4, { st := .enabled, sector := 2, ctx := 3, cmds := [{ d with st := .started }] })] }
     autoMax s = 0 ∧ s.rings = [(4, { st := .enabled, sector := 2, ctx := 3, cmds := [{ d with st := .started }] })] ∧ (∀ i, i < 32 → engineDue s i = false) ∧ slotCtx s 1 = some 3) ∧
    (engineDue (tHn {}) 5 = false ∧ engineDue (tHn (tWa 69 64)) 5 = true ∧ IdleWork (tHn (tWa 69 64)) ∧ 2 ≤ autoMax (tHn (tWa 69 64)) ∧ autoMax (tNoAuto (tHn (tWa 69 64))) < 2 ∧
      engineDue (tNoAuto (tHn (tWa 69 64))) 5 = true ∧ ((tHn (tWa 69 64)).frzAt (engineSector (tHn (tWa 69 64)) 5)).st = .running) := by
  unfold IdleWork; decide

theorem witness_HostResets_escalations :
    (∀ x ∈ [(1, 3), (2, 5), (3, 2)], let r := tRr x.1 x.2 false false 16
      let s := tHn {} [] [r]
      runningReset s x.1 x.2 = some r ∧ r.part = false ∧ resetLimit s ≤ r.edges ∧ x.1 + 1 ≤ autoMax s ∧ s.resets = [r] ∧ IdleWork s ∧ s.ctxs = [] ∧ s.res = [] ∧ (s.frzAt r.sector).st = .running ∧
      s.kpr.st ≠ .restarting ∧ s.dmk.prog = none ∧ s.hng.dumping = false ∧ autoMax (tNoAuto s) < x.1 + 1 ∧ runningReset (tNoAuto s) x.1 x.2 = some r ∧ runningReset State.reset x.1 x.2 = none) ∧
    (tRr 1 3 true false 0).escalated = true := by
  unfold IdleWork; decide

/-- AUTO_MAX is 5. -/
def tAuto5 (s : State) : State := { s with regs := [(0x90000, BitVec.ofNat 64 (5 * 2 ^ 16 + 2 ^ 24))] }

theorem witness_ModuleResets :
    ((∀ r ∈ (tHn {}).resets, r.rung < 4) ∧ (tHn {}).kpr.st ≠ .restarting ∧ (tHn {}).dmk.prog = none ∧ (tHn {}).hng.dumping = false ∧ (tHn {}).hng.wait = none ∧
      ({ tHn {} with dmk := { prog := some 2 } } : State).dmk.prog ≠ none ∧ (∃ r ∈ (tHn {} [] [tRr 5 0 false false 0]).resets, 5 ≤ r.rung)) ∧
    ((tHn {}).kpr.boot.result = 1 ∧ State.reset.kpr.boot.result ≠ 1 ∧ (∀ r ∈ (tHn {}).resets, r.rung ≠ 4)) ∧
    (let s := tHn {} [] [tRr 4 0 false false 0]
     s.resets = [tRr 4 0 false false 0] ∧ autoMax s < 5 ∧ autoMax (tAuto5 s) = 5 ∧ (tAuto5 s).hng.dumping = false) ∧
    (let s := tHn { pwrReq := true } [] [tRr 5 0 false false 0]
     s.hng.pwrReq = true ∧ 380 ≤ s.pins.vin ∧ s.resets = [tRr 5 0 false false 0] ∧ (tHn {}).hng.pwrReq = false) ∧
    ((tHn { dumping := true } [] [tRr 4 0 false false 0]).hng.dumping = true ∧ (∀ r ∈ (tHn { dumping := true } [] [tRr 4 0 false false 0]).resets, r.rung ≠ 5)) ∧
    ((tHn { copyBusy := true }).hng.copyBusy = true ∧ (tHn {}).hng.copyBusy = false ∧ ¬ keeperTakes State.reset ∧ keeperTakes (tHn {}) ∧ bits (4096 : Word).toNat 62 60 = 0 ∧
      bits (4096 : Word).toNat 22 0 % 4096 = 0 ∧ bits (4096 : Word).toNat 55 32 * 4096 + bits (4096 : Word).toNat 22 0 ≤ 24 * 2 ^ 20 ∧ bits (100 : Word).toNat 22 0 % 4096 ≠ 0) ∧
    (let e : ErrRec := { seq := 0, rung := 1, startedBy := 0, outcome := 0, cause := 2, sector := 2, engine := 255, ctx := 3, removed := 0, started := 0, ended := 0, logSeq := 0, dump := 255 }
     let s : State := { tHn { errs := [e], copyBusy := true } with regs := [(0x90048, BitVec.ofNat 64 (2 ^ 60 + 4096))] }
     bits (regNow s 0x90048).toNat 62 60 = 1 ∧ 0 < bits (regNow s 0x90048).toNat 22 0 ∧ s.hng.errs.find? (fun e => e.seq.toNat % 65536 == (bits (regNow s 0x90048).toNat 55 32 * 4096 + 0) / 64) = some e) := by
  unfold keeperTakes; decide

/-! ### What every step keeps (20) -/

theorem witness_RoundedOnce : f32Fin 0x3F800000 ∧ f32Fin 0x80000001 ∧ isNaN 0x7FC00000 = true := by unfold f32Fin; decide


theorem witness_LadderTree :
    (∃ a : Acc, 4 * a.cols ≤ a.stride ∧ a.nb ≤ 65536 ∧ LadderSound State.reset 0 a (fun _ _ _ => 0) ∧ mayPush a ⟨0, 1⟩ = true ∧
      ∀ y z, y < a.rows → z < a.cols → (0 : F32) = treeSum ((fun _ _ _ => 0 : Nat → Nat → Nat → F32) y z) 20 0 1) ∧
    (∃ (s : State) (a : Acc), tget none (s.core 0).acc 1 = some a ∧ a.ladder = [] ∧ 1 ≤ a.nb ∧ a.nb ≤ 65536 ∧
      Pushes 0 1 s [(⟨0, 1⟩, fun _ _ => 0)] (pushNode s 0 1 a ⟨0, 1⟩ (fun _ _ => 0))) := by
  refine ⟨⟨{ base := 0, rows := 2, cols := 2, stride := 64, nb := 3, depth := 8, ladder := [] }, by decide, by decide, ?_, by decide, ?_⟩,
    ⟨{ State.reset with cores := [(0, { acc := [(1, some { base := 0, rows := 2, cols := 2, stride := 64, nb := 3, depth := 8, ladder := [] })] })] },
      { base := 0, rows := 2, cols := 2, stride := 64, nb := 3, depth := 8, ladder := [] }, rfl, rfl, by decide, by decide, ⟨_, rfl, by decide, rfl⟩⟩⟩
  · intro l sp h; simp at h
  · intro y z _ _; show (0 : F32) = treeSum (fun _ => 0) 20 0 1; decide

theorem witness_MemoriesStayCanonical : memoriesWf State.reset = true ∧ step State.reset = .next State.reset := ⟨by decide, rfl⟩
theorem witness_FusesOnlyProgrammed : step State.reset = .next State.reset ∧ State.reset.dmk.fuses.counter ≤ 1024 := ⟨rfl, by decide⟩

theorem witness_StepRunsFront : State.reset.pending = [] ∧ step { State.reset with pending := [.flywheelEdge] } = exec .flywheelEdge State.reset := ⟨rfl, rfl⟩
theorem witness_QueueKept : step State.reset = .next State.reset := rfl
theorem witness_LifeCycleAndDebug_layout : DaymarkRuns (tDk 8 {}) (some (tMb 5 [])) 5 [] ∧ lifeCycle (tDk 8 {}) ≠ 5 ∧ ([] : List Byte).length ≠ 224 :=
  ⟨tDk_runs _ 5 [] (by decide) rfl (by decide) (by decide), by decide, by decide⟩
theorem witness_RegisterWrites_reads : wrSpan 0x10000 8 0 ≠ none ∧ wrSpan 0x10004 8 0 = none ∧ regFind 0xF8 = none ∧ wrSpan 0xF8 4 0 ≠ none ∧ wrSpan 0xC0000 8 0 = none := by
  decide

/-! ### Well-formedness: a term that each check refuses -/

/-- Readings with the right numbers of sites, rails and ageing counts. -/
def tReadings : Readings :=
  { sites := List.replicate 160 50, inlet := 30, outlet := 40, rails := List.replicate 8 (0, 0, 0), inputW := 0, reserveW := 0, sectors := [], ageing := List.replicate 64 0 }

theorem test_wellFormed_registers : wellFormed (.registerWrite 0 2 0) = false ∧ wellFormed (.seqConfigWrite (2 ^ 26 - 4) 8 0) = false ∧
    wellFormed (.registerWrite (2 ^ 26 - 8) 8 0) = true := by decide
theorem test_wellFormed_flash : wellFormed (.flashFrame (List.replicate 13 0) 0) = false ∧ wellFormed (.flashMarker 0 0 0 false 256 0) = false := by decide
theorem test_wellFormed_cores : wellFormed (.launchDispatch (.step 0) [] []) = false ∧ wellFormed (.launchDispatch (.step 0) [3, 3] []) = false ∧
    wellFormed (.launchDispatch (.step 0) [3, 4] []) = true := by decide
theorem test_wellFormed_aperture : wellFormed (.bar2Read (2 ^ 43 - 4) 8) = false ∧ wellFormed (.bar2Read 0 4097) = false ∧
    wellFormed (.bar2Write (2 ^ 43) [0]) = false ∧ coresOk [] = false := by decide
theorem test_wellFormed_bar2Write_length : (decide ((List.replicate 4097 (0 : Byte)).length ≤ 4096)) = false := by simp
theorem test_wellFormed_ats : wellFormed (.atsCompletion 0 none 0 (.range 11 true true false)) = false ∧
    wellFormed (.atsCompletion 0 none 0 (.range 65 true true false)) = false := by decide
theorem test_wellFormed_levels : wellFormed (.levelPublish 0 0 [0, 0, 0, 0]) = false ∧ wellFormed (.ageingRead [0]) = false := by decide
theorem test_wellFormed_frame : frameOk { type := 256 } = false ∧ frameOk { type := 1, flags := 256 } = false ∧ frameOk { type := 1, dst := 2 ^ 24 } = false ∧
    frameOk { type := 1, src := 2 ^ 24 } = false ∧ frameOk { type := 1, status := 256 } = false ∧ frameOk { type := 1, mooring := 2 ^ 16 } = false ∧
    frameOk { type := 1, stream := 2 ^ 16 } = false ∧ frameOk { type := 1, seq := 2 ^ 32 } = false ∧ frameOk { type := 1, addr := 2 ^ 64 } = false ∧
    frameOk { type := 1, payload := [0] } = false ∧ frameOk { type := 1, hops := 256 } = false ∧ frameOk { type := 1 } = true := by decide
theorem test_wellFormed_readings : readingsOk { tReadings with sites := [] } = false ∧ readingsOk { tReadings with rails := [] } = false ∧
    readingsOk { tReadings with ageing := [] } = false ∧ readingsOk tReadings = true := by decide
theorem test_wellFormed_requests : requestOk 3 (some [0, 0, 0, 0]) = false ∧ componentsOk [0] = false ∧ componentsOk [1, 1] = false ∧
    wellFormed (.updateComponent 0) = false ∧ nonceOk (some [0]) = false := by decide
theorem test_wellFormed_spdm : wellFormed (.getCertificate 8 0 0) = false ∧ wellFormed (.challenge 8 (List.replicate 32 0)) = false ∧
    wellFormed (.challenge 0 [0]) = false ∧ wellFormed (.getMeasurements 256 none) = false ∧ wellFormed (.getMeasurements 0 (some [0])) = false := by decide
theorem test_wellFormed_steps : wellFormed (.bootStepEnd 5 true 0 0 0) = false ∧ wellFormed (.bootStepTimeout 0x15 0) = false ∧
    wellFormed (.resetEscalation 1 16384) = false ∧ wellFormed (.resetEscalation 2 32) = false ∧ wellFormed (.resetEscalation 3 16) = false ∧
    wellFormed (.resetEscalation 4 0) = false := by decide

/-! ### One step: expected values worked out from the spec -/

/-- ADD wraps at 2^64, with sd also the source (R128). -/
theorem test_add_wraps : ((goT (.add 0 (BitVec.ofNat 26 (1 * 2 ^ 21 + 1 * 2 ^ 16 + 2 * 2 ^ 11)))
    { tS with cores := [(0, { tC with s := [(1, 2 ^ 64 - 1), (2, 3)] })] }).core 0).sreg 1 = 2 := by decide
/-- DIVU by zero gives all ones, REMU by zero the dividend (R128). -/
theorem test_divide_by_zero :
    ((goT (.divu 0 (BitVec.ofNat 26 (3 * 2 ^ 21 + 1 * 2 ^ 16 + 9 * 2 ^ 11))) tS).core 0).sreg 3 = BitVec.allOnes 64 ∧
    ((goT (.remu 0 (BitVec.ofNat 26 (3 * 2 ^ 21 + 1 * 2 ^ 16 + 9 * 2 ^ 11))) tS).core 0).sreg 3 = 0x12345 := by decide
/-- SRA keeps the sign, SRL does not (R128). -/
theorem test_shifts_right :
    ((goT (.srai 0 (BitVec.ofNat 26 (3 * 2 ^ 21 + 7 * 2 ^ 16 + 4))) { tS with cores := [(0, { tC with s := [(7, 2 ^ 63)] })] }).core 0).sreg 3 = 0xF800000000000000 ∧
    ((goT (.srli 0 (BitVec.ofNat 26 (3 * 2 ^ 21 + 7 * 2 ^ 16 + 4))) { tS with cores := [(0, { tC with s := [(7, 2 ^ 63)] })] }).core 0).sreg 3 = 0x0800000000000000 := by decide
/-- BLT compares as signed, BLTU as unsigned: −1 < 1 but not 2^64 − 1 < 1. off16 counts words (R128). -/
theorem test_branches :
    ((goT (.blt 0 (BitVec.ofNat 26 (1 * 2 ^ 21 + 2 * 2 ^ 16 + 0xFFFF))) { tS with cores := [(0, { tC with s := [(1, 2 ^ 64 - 1), (2, 1)] })] }).core 0).pc = 4 ∧
    ((goT (.bltu 0 (BitVec.ofNat 26 (1 * 2 ^ 21 + 2 * 2 ^ 16 + 0xFFFF))) { tS with cores := [(0, { tC with s := [(1, 2 ^ 64 - 1), (2, 1)] })] }).core 0).pc = 12 := by decide
/-- 1 + 2^-24 ties to the even 1; 1 + 3 × 2^-24 ties up to 1 + 2^-22; twice the largest finite value is an infinity (IEEE 754, R159). -/
theorem test_add_rounds : fadd 0x3F800000 0x33800000 = 0x3F800000 ∧ fadd 0x3F800001 0x33800000 = 0x3F800002 ∧ fadd 0x7F7FFFFF 0x7F7FFFFF = 0x7F800000 := by decide
/-- The smallest subnormal is kept by a product with 1, and half of it rounds to zero (R159). -/
theorem test_mul_subnormal : fmul 0x00000001 0x3F800000 = 0x00000001 ∧ fmul 0x00000001 0x3F000000 = 0 ∧ fmul 0x00000003 0x3F000000 = 0x00000002 := by decide
/-- SHA-384 of "abc": the first 8 bytes of the digest that FIPS 180-4 gives as its example. -/
theorem test_sha384_abc : (sha384 [0x61, 0x62, 0x63]).take 8 = [0xCB, 0x00, 0x75, 0x3F, 0x45, 0xA3, 0x5E, 0x8B] := by decide +kernel
/-- RING: a TAIL past the ring's size stops it with ERROR 1 (R274). -/
theorem test_ring_tail_range : let s : State := { State.reset with rings := [(5, { st := .enabled, sqLog := 6, cqLog := 6 })] }
    ((goT (.doorbellTail 5 65) s).ring 5).error = 1 ∧ ((goT (.doorbellTail 5 64) s).ring 5).error = 0 := by decide
/-- A reset state idles on an empty queue, and its command is run from the queue's front. -/
theorem test_queue_front : step { State.reset with pending := [.take, .flywheelEdge] } = exec .take { State.reset with pending := [.flywheelEdge] } := rfl
/-- AES-256-GCM under the zero key and nonce: test case 14 of the GCM specification; a wrong tag is refused. -/
theorem test_gcm_zero : gcmOpen (List.replicate 32 0) (List.replicate 12 0)
      [0xCE, 0xA7, 0x40, 0x3D, 0x4D, 0x60, 0x6B, 0x6E, 0x07, 0x4E, 0xC5, 0xD3, 0xBA, 0xF3, 0x9D, 0x18]
      [0xD0, 0xD1, 0xC8, 0xA7, 0x99, 0x99, 0x6B, 0xF0, 0x26, 0x5B, 0x98, 0xB5, 0xD4, 0x8A, 0xB9, 0x19] = some (List.replicate 16 0) ∧
    gcmOpen (List.replicate 32 0) (List.replicate 12 0) (List.replicate 16 0) (List.replicate 16 0) = none := by decide +kernel
end

/-!
SUPPORT. REGISTER_WRITE and the reads of BAR0: the bits of a written word, the accesses that R9 and R10 accept, one equation for each way a
write is taken, and the obligation RegisterWrites.
-/
namespace Sys2Proof.Proofs
open Sys2Proof.Machine Sys2Proof.Laws

/-! ### The bits of a written word (R11) -/

/-- Two numbers without a common bit add without a carry. -/
theorem add_eq_or_of_and_eq_zero (x y : Nat) (h : x &&& y = 0) : x + y = x ||| y := by
  have lt : x + y < 2 ^ (x + y) := Nat.lt_two_pow_self
  have hx : x < 2 ^ (x + y) := by omega
  have hy : y < 2 ^ (x + y) := by omega
  have key := BitVec.add_eq_or_of_and_eq_zero (BitVec.ofNat (x + y) x) (BitVec.ofNat (x + y) y)
    (by rw [← BitVec.ofNat_and, h])
  have nat := congrArg BitVec.toNat key
  rwa [BitVec.toNat_add, BitVec.toNat_or, BitVec.toNat_ofNat, BitVec.toNat_ofNat, Nat.mod_eq_of_lt hx, Nat.mod_eq_of_lt hy,
    Nat.mod_eq_of_lt lt] at nat

/-- Taking the common bits of `b` away from `a` clears exactly the bits of `b`. -/
theorem sub_and_eq_ldiff (a b : Nat) : a - (a &&& b) = Nat.ldiff a b := by
  have apart : Nat.ldiff a b &&& (a &&& b) = 0 := by
    apply Nat.eq_of_testBit_eq
    intro i
    rw [Nat.testBit_and, Nat.testBit_ldiff, Nat.testBit_and, Nat.zero_testBit]
    cases a.testBit i <;> cases b.testBit i <;> rfl
  have whole : Nat.ldiff a b ||| (a &&& b) = a := by
    apply Nat.eq_of_testBit_eq
    intro i
    rw [Nat.testBit_or, Nat.testBit_ldiff, Nat.testBit_and]
    cases a.testBit i <;> cases b.testBit i <;> rfl
  have sum := add_eq_or_of_and_eq_zero _ _ apart
  omega

theorem testBit_sub_and (a b i : Nat) : Nat.testBit (a - (a &&& b)) i = (Nat.testBit a i && !Nat.testBit b i) := by
  rw [sub_and_eq_ldiff, Nat.testBit_ldiff]

theorem testBit_mergeBits (old mask new i : Nat) :
    Nat.testBit (mergeBits old mask new) i = if Nat.testBit mask i then Nat.testBit new i else Nat.testBit old i := by
  have apart : (old - (old &&& mask)) &&& (new &&& mask) = 0 := by
    apply Nat.eq_of_testBit_eq
    intro j
    rw [Nat.testBit_and, testBit_sub_and, Nat.testBit_and, Nat.zero_testBit]
    cases mask.testBit j <;> simp
  rw [mergeBits, add_eq_or_of_and_eq_zero _ _ apart, Nat.testBit_or, testBit_sub_and, Nat.testBit_and]
  cases mask.testBit i <;> simp

/-- A write bit by bit, where no bit is both set and cleared by a one. -/
theorem testBit_write (r : RegRow) (old mask new i : Nat) (h : (Nat.testBit r.rw i && Nat.testBit r.w1c i) = false) :
    Nat.testBit (r.write old mask new) i =
      if Nat.testBit r.rw i && Nat.testBit mask i then Nat.testBit new i
      else if Nat.testBit r.w1c i && Nat.testBit mask i && Nat.testBit new i then false
      else Nat.testBit old i := by
  rw [RegRow.write, testBit_sub_and, testBit_mergeBits, Nat.testBit_and, Nat.testBit_and, Nat.testBit_and]
  cases hrw : r.rw.testBit i
  case true =>
    have hw1c : r.w1c.testBit i = false := by simpa [hrw] using h
    simp [hw1c]
  case false => cases r.w1c.testBit i <;> cases mask.testBit i <;> cases new.testBit i <;> simp

/-! ### The accesses that R9 and R10 accept -/

/-- The register's word is not accessed whole, or there is none: a 4-byte access is allowed. -/
theorem halfAllowed_iff (base : Nat) :
    (!((regFind base).map (·.whole)).getD false) = true ↔ ∀ row, regFind base = some row → row.whole = false := by
  cases regFind base <;> simp

theorem wrSpan_word (off : Nat) (value : Word) (hb : inBlock off = true) (ho : off % 8 = 0) :
    wrSpan off 8 value = some (off, 2 ^ 64 - 1, value.toNat) := by
  have base : off / 8 * 8 = off := by omega
  simp [wrSpan, hb, ho, base]

theorem wrSpan_half (off : Nat) (value : Word) (hb : inBlock off = true) (ho : off % 4 = 0)
    (hw : ∀ row, regFind (off / 8 * 8) = some row → row.whole = false) :
    wrSpan off 4 value = some (off / 8 * 8, (2 ^ 32 - 1) * 2 ^ (off % 8 * 8), value.toNat % 2 ^ 32 * 2 ^ (off % 8 * 8)) := by
  have allowed := (halfAllowed_iff _).2 hw
  simp only [wrSpan, hb, ho, allowed]
  rfl

theorem wrSpan_ne_none_iff (off size : Nat) (value : Word) :
    wrSpan off size value ≠ none ↔ inBlock off = true ∧ ((size = 8 ∧ off % 8 = 0) ∨
      (size = 4 ∧ off % 4 = 0 ∧ ∀ row, regFind (off / 8 * 8) = some row → row.whole = false)) := by
  rw [← halfAllowed_iff]
  simp only [wrSpan]
  split_ifs <;> simp_all

/-- Reads and writes accept the same offsets and sizes. -/
theorem regRead_eq_none_iff (s : State) (off size : Nat) (value : Word) : regRead s off size = none ↔ wrSpan off size value = none := by
  simp only [regRead, wrSpan]
  split_ifs <;> simp

/-! ### Reads where no register is (R10) -/

/-- Every bank of counters lies below the MSI-X table. -/
theorem snapBank_eq_none (off : Nat) (h : 0x3000000 ≤ off) : snapBank off = none := by
  simp only [snapBank, List.findSome?_eq_none_iff, List.forall_mem_cons, id]
  refine ⟨?_, ?_, ?_, ?_, ?_, ?_, ?_, ?_, ?_, ?_, ?_, ?_, ?_, List.forall_mem_nil _⟩ <;>
    exact if_neg (by simp only [Bool.and_eq_true, decide_eq_true_eq]; omega)

theorem regView_eq_zero (s : State) (off : Nat) (h : regFind off = none) (ho : off < 0x3000000 ∨ 0x3008100 ≤ off) : regView s off = 0 := by
  rcases ho with ho | ho
  · simp only [regView, h, ho, Option.isNone_none, Option.isSome_none, decide_true, Bool.and_true, if_true, Bool.false_eq_true, if_false]
    split <;> rfl
  · have bank : (snapBank off).isSome = false := by rw [snapBank_eq_none off (by omega)]; rfl
    have msix : viewMSIX s off = some 0 := by rw [viewMSIX, if_neg (by omega), if_neg (by omega)]
    have low (n : Nat) (hn : n ≤ 0x3000000) : ¬ off < n := by omega
    have ne (n : Nat) (hn : n ≤ 0x3000000) : ¬ off = n := by omega
    simp [regView, bank, msix, low, ne]

theorem regRead_eq_zero (s : State) (off size : Nat) (value : Word) (hs : wrSpan off size value ≠ none)
    (h : regFind (off / 8 * 8) = none) (ho : off < 0x3000000 ∨ 0x3008100 ≤ off) : regRead s off size = some 0 := by
  have view : regView s (off / 8 * 8) = 0 := regView_eq_zero s _ h (by omega)
  have accepted : regRead s off size ≠ none := mt (regRead_eq_none_iff s off size value).1 hs
  revert accepted
  simp only [regRead, view]
  split_ifs <;> simp [bits]

/-! ### One equation for each way a write is taken -/

section Write
variable {s : State} {off size : Nat} {value : Word} {base mask new : Nat} {row : RegRow}

theorem registerWrite_of_none (h : wrSpan off size value = none) : exec (.registerWrite off size value) s = .next (s.emit .unsupported) := by
  show execRegisterWrite off size value s = _
  rw [execRegisterWrite, h]

/-- A write where no register is changes nothing (R10). -/
theorem registerWrite_of_noRegister (h : wrSpan off size value = some (base, mask, new)) (hm : ¬ (0x3000000 ≤ base ∧ base < 0x3008000))
    (hf : regFind base = none) : exec (.registerWrite off size value) s = .next s := by
  show execRegisterWrite off size value s = _
  simp only [execRegisterWrite, h, hf, Bool.and_eq_true, decide_eq_true_eq, hm, if_false]

theorem registerWrite_of_absentSector (h : wrSpan off size value = some (base, mask, new)) (hm : ¬ (0x3000000 ≤ base ∧ base < 0x3008000))
    {n : Nat} (hn : regSector base = some n) (he : (s.sector n).exists_ = false) : exec (.registerWrite off size value) s = .next s := by
  cases hf : regFind base with
  | none => exact registerWrite_of_noRegister h hm hf
  | some row =>
    show execRegisterWrite off size value s = _
    simp only [execRegisterWrite, h, hf, hn, he, Bool.and_eq_true, decide_eq_true_eq, hm, if_false, Bool.not_false, if_true]

theorem registerWrite_of_sat (h : wrSpan off size value = some (base, mask, new)) (hf : regFind base = some row)
    (hb : 0x11000 ≤ base ∧ base < 0x13000) : exec (.registerWrite off size value) s = .next (satWrite s base mask new) := by
  have noSector : regSector base = none := by
    rw [regSector, if_neg (by simp; omega), if_neg (by simp; omega), if_neg (by simp; omega)]
  have noMsix : ¬ (0x3000000 ≤ base ∧ base < 0x3008000) := by omega
  show execRegisterWrite off size value s = _
  simp only [execRegisterWrite, h, hf, noSector, Bool.and_eq_true, decide_eq_true_eq, noMsix, hb, and_self, if_false, if_true, Bool.false_eq_true]

theorem registerWrite_of_moor (h : wrSpan off size value = some (base, mask, new)) (hf : regFind base = some row)
    (hb : 0x58000 ≤ base ∧ base < 0x60000) : exec (.registerWrite off size value) s = .next (moorWrite s base mask new) := by
  have noSector : regSector base = none := by
    rw [regSector, if_neg (by simp; omega), if_neg (by simp; omega), if_neg (by simp; omega)]
  have noMsix : ¬ (0x3000000 ≤ base ∧ base < 0x3008000) := by omega
  have noSat : ¬ (0x11000 ≤ base ∧ base < 0x13000) := by omega
  show execRegisterWrite off size value s = _
  simp only [execRegisterWrite, h, hf, noSector, Bool.and_eq_true, decide_eq_true_eq, noMsix, noSat, hb, and_self, if_false, if_true, Bool.false_eq_true]

/-- The fault queue's base is refused while the queue is on or holds records (R319). -/
theorem registerWrite_of_queueBase (value : Word) (h : s.xl.fqOn = true ∨ s.xl.fq ≠ []) :
    exec (.registerWrite 0x30000 8 value) s = .next (raise s evATF 6) := by
  have span : wrSpan 0x30000 8 value = some (0x30000, 2 ^ 64 - 1, value.toNat) := wrSpan_word _ _ (by decide) (by decide)
  have refused : (s.xl.fqOn || !s.xl.fq.isEmpty) = true := by simpa using h
  have noSector : regSector 0x30000 = none := by decide
  cases hf : regFind 0x30000 with
  | none => exact absurd hf (by decide)
  | some row =>
    show execRegisterWrite 0x30000 8 value s = _
    simp [execRegisterWrite, span, hf, noSector, refused]

/-- A write of a plain register: its word is what its access types make of it, and a bit cleared by a one is cleared where its state is held (R11). -/
theorem registerWrite_of_plain (h : wrSpan off size value = some (base, mask, new)) (hf : regFind base = some row) (hp : plainReg s base) :
    exec (.registerWrite off size value) s =
      .next (clearHeld (setReg s base (BitVec.ofNat 64 (row.write (regNow s base).toNat mask new))) base (mask &&& new &&& row.w1c)) := by
  obtain ⟨noMsix, noSat, noMoor, noBase, noSec, noOwn, exist⟩ := hp
  have noSec' (b : Bool) : ((decide (0x2000000 ≤ base) && decide (base < 0x3000000)) && b) = false := by
    rw [← Bool.decide_and, decide_eq_false noSec, Bool.false_and]
  show execRegisterWrite off size value s = _
  cases hn : regSector base with
  | none => simp [execRegisterWrite, h, hf, hn, noMsix, noSat, noMoor, noBase, noSec', noOwn]
  | some n => simp [execRegisterWrite, h, hf, hn, noMsix, noSat, noMoor, noBase, noSec', noOwn, exist n hn]

end Write

/-! ### What a plain write leaves alone -/

/-- Clearing a bit held outside the register file touches the Chain, memory and hang blocks only. -/
theorem clearHeld_eq (s : State) (base ones : Nat) :
    ∃ c m h, clearHeld s base ones = { s with chn := c, mem := m, hng := h } := by
  unfold clearHeld
  split_ifs <;> exact ⟨_, _, _, rfl⟩

theorem regNow_clearHeld (s : State) (base ones b : Nat) : regNow (clearHeld s base ones) b = regNow s b := by
  obtain ⟨c, m, h, e⟩ := clearHeld_eq s base ones
  rw [e]
  rfl

theorem clearHeld_same (s : State) (base ones : Nat) : SameBut [.chn, .mem, .hng] s (clearHeld s base ones) := by
  obtain ⟨c, m, h, e⟩ := clearHeld_eq s base ones
  rw [e]
  intro p hp
  cases p with
  | chn | mem | hng => simp at hp
  | _ => rfl

theorem setReg_same (s : State) (off : Nat) (v : Word) : SameBut [.regs] s (setReg s off v) := by
  intro p hp
  cases p with
  | regs => simp at hp
  | _ => rfl

theorem registerWrite_plain {s : State} {off size : Nat} {value : Word} {base mask new : Nat} {row : RegRow}
    (h : wrSpan off size value = some (base, mask, new)) (hf : regFind base = some row) (hp : plainReg s base) :
    ∃ t, exec (.registerWrite off size value) s = .next t ∧
      regNow t base = BitVec.ofNat 64 (row.write (regNow s base).toNat mask new) ∧ (∀ b, b ≠ base → regNow t b = regNow s b) ∧
      SameBut [.regs, .chn, .mem, .hng] s t :=
  ⟨_, registerWrite_of_plain h hf hp,
    by rw [regNow_clearHeld, regNow_setReg_same],
    fun b hb => by rw [regNow_clearHeld, regNow_setReg_other _ _ _ _ hb],
    same_trans (setReg_same s _ _) (clearHeld_same _ _ _)⟩

/-! ### Scheduled-action entries (R58) and moorings (R390) -/

/-- An offset of a row of the register map has a register. -/
theorem exists_regFind (row : RegRow) (off : Nat) (hr : row ∈ regTable) (ho : row.has off = true) : ∃ r, regFind off = some r :=
  Option.isSome_iff_exists.1 (List.find?_isSome.2 ⟨row, hr, ho⟩)

theorem regFind_satWhen (e : Nat) (h : e < 256) : ∃ r, regFind (0x11000 + 0x20 * e) = some r :=
  exists_regFind ⟨0x11000, 0x20, 256, 0, 1, true, 0xffffffffffffffff, 0, 0⟩ _ (by decide) (by simp [RegRow.has]; omega)

theorem regFind_moorAux (m : Nat) (h : m < 1024) : ∃ r, regFind (0x58010 + 0x20 * m) = some r :=
  exists_regFind ⟨0x58010, 0x20, 1024, 0, 1, true, 0xffffffffffffffff, 0, 0⟩ _ (by decide) (by simp [RegRow.has]; omega)

/-- A write of the whole WHEN word of entry `e`. -/
theorem registerWrite_satWhen (s : State) (e : Nat) (value : Word) (h : e < 256) :
    exec (.registerWrite (0x11000 + 0x20 * e) 8 value) s =
      .next (if 224 ≤ e then satWriteErr s
        else if (s.satEntry e).when_ = value then s
        else if (s.satEntry e).st = .armed then satWriteErr s
        else s.setSat e { s.satEntry e with when_ := value }) := by
  obtain ⟨row, hf⟩ := regFind_satWhen e h
  have span := wrSpan_word (0x11000 + 0x20 * e) value (by simp [inBlock]; omega) (by omega)
  have kept : ({ s.satEntry e with when_ := value } : Sat) = s.satEntry e ↔ (s.satEntry e).when_ = value := by
    constructor
    · intro h; exact (congrArg Sat.when_ h).symm
    · rintro rfl; rfl
  rw [registerWrite_of_sat span hf (by omega)]
  simp [satWrite, kept]

theorem registerWrite_moorAux (s : State) (m : Nat) (value : Word) (h : m < 1024) :
    exec (.registerWrite (0x58010 + 0x20 * m) 8 value) s =
      .next (if (moorSector s m).isNone then raise s evCHN 6 else s.setMoor m { s.moor m with stAux := value }) := by
  obtain ⟨row, hf⟩ := regFind_moorAux m h
  have span := wrSpan_word (0x58010 + 0x20 * m) value (by simp [inBlock]; omega) (by omega)
  have mooring : (0x58010 + 0x20 * m - 0x58000) / 0x20 = m := by omega
  have field : (0x58010 + 0x20 * m - 0x58000) % 0x20 = 0x10 := by omega
  rw [registerWrite_of_moor span hf (by omega)]
  simp [moorWrite, mooring, field]

theorem setSat_sameBut (s : State) (e : Nat) (x : Sat) : SameBut [.sat] s (s.setSat e x) := by
  intro p hp
  cases p with
  | sat => simp at hp
  | _ => rfl

theorem setMoor_sameBut (s : State) (m : Nat) (x : Moor) : SameBut [.chn] s (s.setMoor m x) := by
  intro p hp
  cases p with
  | chn => simp at hp
  | _ => rfl

/-- A refused write answers with its event bit set, and changes nothing but what raising the bit changes. -/
theorem refused_of_raise {c : Instr} {s : State} {ev i : Nat} (hi : i < 64) (h : exec c s = .next (raise s ev i)) :
    ∃ t, exec c s = .next t ∧ evSet t ev i = true ∧ SameBut [.regs, .out, .pci] s t :=
  ⟨_, h, evSet_raise_self s ev i hi, raise_same s ev i⟩

theorem satWhen_refused (s : State) (e : Nat) (value : Word) (h : e < 256)
    (hr : 224 ≤ e ∨ ((s.satEntry e).st = .armed ∧ (s.satEntry e).when_ ≠ value)) :
    ∃ t, exec (.registerWrite (0x11000 + 0x20 * e) 8 value) s = .next t ∧ evSet t evFLS 8 = true ∧ SameBut [.regs, .out, .pci] s t := by
  refine refused_of_raise (by decide) ?_
  rw [registerWrite_satWhen s e value h]
  rcases hr with unit | ⟨armed, changes⟩
  · rw [if_pos unit, satWriteErr]
  · simp only [changes, armed, if_true, if_false, ite_self, satWriteErr]

theorem satWhen_written (s : State) (e : Nat) (value : Word) (h : e < 224) (hs : (s.satEntry e).st ≠ .armed) :
    ∃ t, exec (.registerWrite (0x11000 + 0x20 * e) 8 value) s = .next t ∧
      t.satEntry e = { s.satEntry e with when_ := value } ∧ (∀ d, d ≠ e → t.satEntry d = s.satEntry d) ∧ SameBut [.sat] s t := by
  rw [registerWrite_satWhen s e value (by omega), if_neg (by omega), if_neg hs]
  by_cases kept : (s.satEntry e).when_ = value
  · rw [if_pos kept]
    exact ⟨s, rfl, by rw [← kept], fun _ _ => rfl, same_refl s _⟩
  · rw [if_neg kept]
    exact ⟨_, rfl, setSat_same _ _ _, fun d hd => setSat_other _ _ _ d hd, setSat_sameBut _ _ _⟩

theorem moorAux_refused (s : State) (m : Nat) (value : Word) (h : m < 1024) (hn : moorSector s m = none) :
    ∃ t, exec (.registerWrite (0x58010 + 0x20 * m) 8 value) s = .next t ∧ evSet t evCHN 6 = true ∧ SameBut [.regs, .out, .pci] s t :=
  refused_of_raise (by decide) (by rw [registerWrite_moorAux s m value h, hn]; rfl)

theorem moorAux_staged (s : State) (m n : Nat) (value : Word) (h : m < 1024) (hn : moorSector s m = some n) :
    ∃ t, exec (.registerWrite (0x58010 + 0x20 * m) 8 value) s = .next t ∧
      t.moor m = { s.moor m with stAux := value } ∧ (∀ k, k ≠ m → t.moor k = s.moor k) ∧ SameBut [.chn] s t :=
  ⟨s.setMoor m { s.moor m with stAux := value }, by rw [registerWrite_moorAux s m value h, hn]; rfl,
    setMoor_same _ _ _, fun k hk => setMoor_other _ _ _ k hk, setMoor_sameBut _ _ _⟩

theorem queueBase_refused (s : State) (value : Word) (h : s.xl.fqOn = true ∨ s.xl.fq ≠ []) :
    ∃ t, exec (.registerWrite 0x30000 8 value) s = .next t ∧ evSet t evATF 6 = true ∧
      (∀ b, b ≠ evATF → regNow t b = regNow s b) ∧ SameBut [.regs, .out, .pci] s t :=
  ⟨_, registerWrite_of_queueBase value h, evSet_raise_self s evATF 6 (by decide),
    fun b hb => regs_raise_other s evATF 6 _ b hb, raise_same s evATF 6⟩

/-! ### The obligation -/

/-- Settles O12: the bits of a written word, then a case per way an access is taken (R9 to R11), the accepted spans and the reads, and the
registers whose writes have conditions of their own (R58, R390, R319). -/
theorem registerWrites : Obligations.RegisterWrites := by
  unfold Obligations.RegisterWrites
  refine ⟨testBit_write, fun s off size value => ⟨registerWrite_of_none, fun base mask new span => ⟨?_, ?_, ?_⟩⟩,
    fun s off size value => ⟨(regRead_eq_none_iff s off size value).2, mt (regRead_eq_none_iff s off size value).1,
      regRead_eq_zero s off size value, wrSpan_ne_none_iff off size value, ?_, ?_⟩,
    fun s value => ⟨?_, fun e => satWhen_written s e value, ?_, fun m => moorAux_refused s m value, fun m n => moorAux_staged s m n value,
      queueBase_refused s value⟩⟩
  · exact fun noRegister noMsix => registerWrite_of_noRegister span noMsix noRegister
  · exact fun n sector absent noMsix => registerWrite_of_absentSector span noMsix sector absent
  · exact fun row => registerWrite_plain span
  · rintro inside rfl aligned
    exact wrSpan_word off value inside aligned
  · rintro inside rfl aligned
    exact wrSpan_half off value inside aligned
  · exact fun e he armed changes => satWhen_refused s e value (by omega) (.inr ⟨armed, changes⟩)
  · exact fun e unit he => satWhen_refused s e value he (.inl unit)

end Sys2Proof.Proofs

/-!
SUPPORT. The Light List loader: the states of a slot, what entering a state does to a scheduled-action entry, what the failure of a slot leaves,
one equation for each way a loader command answers, and the obligation Loader.
-/
namespace Sys2Proof.Proofs
open Sys2Proof.Machine Sys2Proof.Laws

/-! ### Slots (R92) -/

/-- `1 - k` names the other one of the two slots. -/
theorem otherSlot_ne (k : Nat) : 1 - k ≠ k := by omega

theorem setSlot_otherSlot (s : State) (k : Nat) (x : Slot) : (s.setSlot k x).slotAt (1 - k) = s.slotAt (1 - k) :=
  setSlot_other s k x _ (otherSlot_ne k)

theorem setSlot_sameBut (s : State) (k : Nat) (x : Slot) : SameBut [.ll] s (s.setSlot k x) := by
  intro p hp
  cases p with
  | ll => simp at hp
  | _ => rfl

theorem inProgress_iff (x : Slot) :
    x.inProgress = true ↔ x.st = .fetching ∨ x.st = .checking ∨ x.st = .authorising ∨ x.st = .staged := by
  simp [Slot.inProgress, or_assoc]

/-- A slot takes a submission exactly when it holds no list in progress. -/
theorem free_eq_not_inProgress (x : Slot) : (x.st == .empty || x.st == .lit || x.st == .failed) = !x.inProgress := by
  cases h : x.st <;> simp [Slot.inProgress, h]

/-- The slot with its list failed for the reason `e`. -/
def failedSlot (x : Slot) (e : LErr) : Slot := { x with st := .failed, error := e.code, errRec := e.record, errOff := e.off }

/-! ### Scheduled-action entries of the loader (R55 to R59) -/

/-- The entry `x` once it has entered a state: the Flash and tick of the change are noted (R56). -/
def entered (s : State) (x : Sat) (st : SatSt) : Sat := { x with st := st, doneFlash := s.flash.count, doneTick := s.flash.tick }

/-- Entering ARMED raises nothing. -/
theorem satEnter_armed (s : State) (e : Nat) : satEnter s e .armed = s.setSat e (entered s (s.satEntry e) .armed) := by
  simp [satEnter, SatSt.terminal, entered]

/-- Entering CANCELLED sends the Flash interrupt where the entry asks for it, and sets no event bit (R56). -/
theorem satEnter_cancelled (s : State) (e : Nat) :
    satEnter s e .cancelled =
      if (s.satEntry e).irq = true then sendMsix (s.setSat e (entered s (s.satEntry e) .cancelled)) (eventVector evFLS)
      else s.setSat e (entered s (s.satEntry e) .cancelled) := by
  simp [satEnter, SatSt.terminal, entered]

/-- Until its Flash begins, the time of an entry is not past (R57). -/
theorem satPast_of_later (s : State) (x : Sat) (later : s.flash.count.toNat < x.when_.toNat) : satPast s x = false := by
  have otherFlash : x.when_ ≠ s.flash.count := fun same => by rw [same] at later; omega
  simp [satPast, otherFlash, Nat.le_of_lt later]

/-- An entry of the X1 that is valid and still to come is ARMED (R57). -/
theorem satArmNow_of_valid (s : State) (e : Nat) (idle : (s.satEntry e).st ≠ .armed)
    (operand : satOperandOk (s.satEntry e).action (s.satEntry e).op.toNat = true) (later : s.flash.count.toNat < (s.satEntry e).when_.toNat) :
    satArmNow s e false = s.setSat e (entered s (s.satEntry e) .armed) := by
  simp [satArmNow, idle, operand, satPast_of_later s _ later, satEnter_armed]

theorem satCancelNow_of_not_armed (s : State) (e : Nat) (h : (s.satEntry e).st ≠ .armed) : satCancelNow s e = s := if_neg h

theorem satCancelNow_same (s : State) (e : Nat) : SameBut [.sat, .out, .pci] s (satCancelNow s e) := by
  by_cases armed : (s.satEntry e).st = .armed
  · rw [satCancelNow, if_pos armed, satEnter_cancelled]
    split
    · exact same_trans (setSat_sameBut s e _) (sendMsix_same _ _)
    · exact same_mono (setSat_sameBut s e _) (by simp)
  · rw [satCancelNow_of_not_armed s e armed]
    exact same_refl s _

theorem satCancelNow_ll (s : State) (e : Nat) : (satCancelNow s e).ll = s.ll := satCancelNow_same s e .ll (by decide)

theorem satCancelNow_of_armed (s : State) (e : Nat) (h : (s.satEntry e).st = .armed) : ((satCancelNow s e).satEntry e).st = .cancelled := by
  rw [satCancelNow, if_pos h, satEnter_cancelled]
  split <;> simp [State.satEntry, State.setSat, entered]

/-- Cancelling an entry leaves every entry that is not ARMED, the one named included. -/
theorem satCancelNow_keeps (s : State) (e d : Nat) (h : (s.satEntry d).st ≠ .armed) : (satCancelNow s e).satEntry d = s.satEntry d := by
  by_cases armed : (s.satEntry e).st = .armed
  · have apart : d ≠ e := by rintro rfl; exact h armed
    rw [satCancelNow, if_pos armed, satEnter_cancelled]
    split <;> simp [State.satEntry, State.setSat, tget_tput_other _ _ _ _ _ _ apart]
  · rw [satCancelNow_of_not_armed s e armed]

/-! ### The failure of a slot (R93, R96, R97) -/

theorem raise_slotAt (s : State) (off i k : Nat) : (raise s off i).slotAt k = s.slotAt k := by simp [State.slotAt]

theorem raise_satEntry (s : State) (off i e : Nat) : (raise s off i).satEntry e = s.satEntry e := by simp [State.satEntry]

theorem setSlot_satEntry (s : State) (k : Nat) (x : Slot) (e : Nat) : (s.setSlot k x).satEntry e = s.satEntry e := rfl

section Failure
variable (s : State) (k : Nat) (e : LErr)

theorem failOneSlot_of_not_staged (h : (s.slotAt k).st ≠ .staged) :
    failOneSlot s k e = raise (s.setSlot k (failedSlot (s.slotAt k) e)) evCMP 1 := by
  simp only [failOneSlot, if_neg h, failedSlot]

theorem failOneSlot_of_staged (h : (s.slotAt k).st = .staged) :
    failOneSlot s k e = raise ((satCancelNow s (s.slotAt k).sat).setSlot k (failedSlot (s.slotAt k) e)) evCMP 1 := by
  simp only [failOneSlot, if_pos h, failedSlot]

theorem failOneSlot_slotAt_self : (failOneSlot s k e).slotAt k = failedSlot (s.slotAt k) e := by
  by_cases staged : (s.slotAt k).st = .staged
  · rw [failOneSlot_of_staged s k e staged, raise_slotAt, setSlot_same]
  · rw [failOneSlot_of_not_staged s k e staged, raise_slotAt, setSlot_same]

theorem failOneSlot_slotAt_other (j : Nat) (h : j ≠ k) : (failOneSlot s k e).slotAt j = s.slotAt j := by
  by_cases staged : (s.slotAt k).st = .staged
  · rw [failOneSlot_of_staged s k e staged, raise_slotAt, setSlot_other _ _ _ _ h, State.slotAt, satCancelNow_ll, ← State.slotAt]
  · rw [failOneSlot_of_not_staged s k e staged, raise_slotAt, setSlot_other _ _ _ _ h]

theorem failOneSlot_otherSlot : (failOneSlot s k e).slotAt (1 - k) = s.slotAt (1 - k) :=
  failOneSlot_slotAt_other s k e _ (otherSlot_ne k)

/-- A slot that becomes FAILED sets CMP_EVENTS.FAILED (R96). -/
theorem evSet_failOneSlot : evSet (failOneSlot s k e) evCMP 1 = true := evSet_raise_self _ evCMP 1 (by decide)

theorem failOneSlot_same_of_not_staged (h : (s.slotAt k).st ≠ .staged) : SameBut [.ll, .regs, .out, .pci] s (failOneSlot s k e) := by
  rw [failOneSlot_of_not_staged s k e h]
  exact same_trans (setSlot_sameBut s k _) (raise_same _ _ _)

theorem failOneSlot_same : SameBut [.ll, .regs, .out, .pci, .sat] s (failOneSlot s k e) := by
  by_cases staged : (s.slotAt k).st = .staged
  · rw [failOneSlot_of_staged s k e staged]
    exact same_mono (same_trans (satCancelNow_same s _) (same_trans (setSlot_sameBut _ k _) (raise_same _ _ _))) (by simp)
  · exact same_mono (failOneSlot_same_of_not_staged s k e staged) (by simp)

theorem failOneSlot_keeps (d : Nat) (h : (s.satEntry d).st ≠ .armed) : (failOneSlot s k e).satEntry d = s.satEntry d := by
  by_cases staged : (s.slotAt k).st = .staged
  · rw [failOneSlot_of_staged s k e staged, raise_satEntry, setSlot_satEntry, satCancelNow_keeps s _ d h]
  · rw [failOneSlot_of_not_staged s k e staged, raise_satEntry, setSlot_satEntry]

/-- The LIGHT entry of a STAGED list that fails is cancelled. -/
theorem failOneSlot_cancels (staged : (s.slotAt k).st = .staged) (armed : (s.satEntry (s.slotAt k).sat).st = .armed) :
    ((failOneSlot s k e).satEntry (s.slotAt k).sat).st = .cancelled := by
  rw [failOneSlot_of_staged s k e staged, raise_satEntry, setSlot_satEntry, satCancelNow_of_armed s _ armed]

/-- The failure of a slot reaches the other slot where that depends on it (R93). -/
theorem slotFail_eq : slotFail s k e = if (s.slotAt (1 - k)).dependent = true ∧ (s.slotAt (1 - k)).inProgress = true
    then failOneSlot (failOneSlot s k e) (1 - k) ⟨llDEPENDENT, 0xFFFF, 0⟩ else failOneSlot s k e := by
  simp only [slotFail, failOneSlot_otherSlot, Bool.and_eq_true]

theorem slotFail_slotAt_self : (slotFail s k e).slotAt k = failedSlot (s.slotAt k) e := by
  rw [slotFail_eq]
  split
  · rw [failOneSlot_slotAt_other _ _ _ _ (otherSlot_ne k).symm, failOneSlot_slotAt_self]
  · rw [failOneSlot_slotAt_self]

/-- A list whose base fails is FAILED with LL_DEPENDENT (R93). -/
theorem slotFail_otherSlot : (slotFail s k e).slotAt (1 - k) =
    if (s.slotAt (1 - k)).dependent = true ∧ (s.slotAt (1 - k)).inProgress = true
    then failedSlot (s.slotAt (1 - k)) ⟨llDEPENDENT, 0xFFFF, 0⟩ else s.slotAt (1 - k) := by
  rw [slotFail_eq]
  split
  · rw [failOneSlot_slotAt_self, failOneSlot_otherSlot]
  · rw [failOneSlot_otherSlot]

theorem evSet_slotFail : evSet (slotFail s k e) evCMP 1 = true := by
  rw [slotFail_eq]
  split <;> exact evSet_failOneSlot _ _ _

theorem slotFail_same : SameBut [.ll, .regs, .out, .pci, .sat] s (slotFail s k e) := by
  rw [slotFail_eq]
  split
  · exact same_mono (same_trans (failOneSlot_same s k e) (failOneSlot_same _ _ _)) (by simp)
  · exact failOneSlot_same s k e

theorem slotFail_cancels (staged : (s.slotAt k).st = .staged) (armed : (s.satEntry (s.slotAt k).sat).st = .armed) :
    ((slotFail s k e).satEntry (s.slotAt k).sat).st = .cancelled := by
  have cancelled := failOneSlot_cancels s k e staged armed
  rw [slotFail_eq]
  split
  · rw [failOneSlot_keeps _ _ _ _ (by rw [cancelled]; decide), cancelled]
  · exact cancelled

end Failure

/-! ### Two shapes of answer -/

section Answers
variable {s : State} {c : Instr} {k : Nat}

/-- The answer of a command that writes one slot. -/
theorem slot_written {x : Slot} (h : exec c s = .next (s.setSlot k x)) :
    ∃ t, exec c s = .next t ∧ t.slotAt k = x ∧ t.slotAt (1 - k) = s.slotAt (1 - k) ∧ SameBut [.ll] s t :=
  ⟨_, h, setSlot_same s k x, setSlot_otherSlot s k x, setSlot_sameBut s k x⟩

/-- The answer of a command that fails a slot before it is STAGED, where the other slot does not depend on it. -/
theorem slot_failed {e : LErr} (h : exec c s = .next (slotFail s k e)) (before : (s.slotAt k).st ≠ .staged)
    (independent : (s.slotAt (1 - k)).dependent = false) :
    ∃ t, exec c s = .next t ∧ t.slotAt k = failedSlot (s.slotAt k) e ∧ t.slotAt (1 - k) = s.slotAt (1 - k) ∧ evSet t evCMP 1 = true ∧
      SameBut [.ll, .regs, .out, .pci] s t := by
  have alone : slotFail s k e = failOneSlot s k e := by simp [slotFail_eq, independent]
  rw [alone] at h
  exact ⟨_, h, failOneSlot_slotAt_self s k e, failOneSlot_otherSlot s k e, evSet_failOneSlot s k e, failOneSlot_same_of_not_staged s k e before⟩

end Answers

/-! ### CMP_SUBMIT_GO (R92) -/

/-- Slot `k` as a submission leaves it. -/
def submission (s : State) (k : Nat) : Slot :=
  { st := .fetching, len := (regNow s 0x20008).toNat % 2 ^ 17, addr := (regNow s 0x20000).toNat / 64 * 64,
    dependent := (s.slotAt (1 - k)).inProgress }

/-- The state with slot `k` written by a submission. -/
def submitted (s : State) (k : Nat) : State :=
  { s.setSlot k (submission s k) with ll := { (s.setSlot k (submission s k)).ll with lastSlot := k } }

theorem submitted_slotAt (s : State) (k j : Nat) : (submitted s k).slotAt j = (s.setSlot k (submission s k)).slotAt j := rfl

theorem submitted_same (s : State) (k : Nat) : SameBut [.ll] s (submitted s k) := by
  intro p hp
  cases p with
  | ll => simp at hp
  | _ => rfl

theorem cmpSubmitGo_of_free {s : State} {k : Nat} (lowest : k = 0 ∨ (k = 1 ∧ (s.slotAt 0).inProgress = true))
    (free : (s.slotAt k).inProgress = false) : exec .cmpSubmitGo s = .next (submitted s k) := by
  show execCmpSubmitGo s = _
  rcases lowest with rfl | ⟨rfl, busy⟩
  · simp [execCmpSubmitGo, free_eq_not_inProgress, free, submission, submitted]
  · simp [execCmpSubmitGo, free_eq_not_inProgress, free, busy, submission, submitted]

theorem cmpSubmitGo_of_busy {s : State} (busy0 : (s.slotAt 0).inProgress = true) (busy1 : (s.slotAt 1).inProgress = true) :
    exec .cmpSubmitGo s = .next (raise s evCMP 2) := by
  show execCmpSubmitGo s = _
  simp [execCmpSubmitGo, free_eq_not_inProgress, busy0, busy1]

section Stages
variable {s : State} {k : Fin 2}

/-! ### LL_FETCH_DONE (R74, R94) -/

/-- The slot with the bytes of its list fetched. -/
def fetchedSlot (s : State) (x : Slot) (l : List Byte) : Slot :=
  { x with st := .checking, bytes := l, began := s.flash.count, gen := BitVec.ofNat 32 (fieldAt l 12 4),
           target := BitVec.ofNat 64 (fieldAt l 16 8) }

theorem llFetchDone_of_not_fetching (b : Option (List Byte)) (h : (s.slotAt k.val).st ≠ .fetching) : exec (.llFetchDone k b) s = .next s := by
  show execLlFetchDone k b s = _
  simp [execLlFetchDone, h]

theorem llFetchDone_of_fetched (b : List Byte) (h : (s.slotAt k.val).st = .fetching) (len : lengthOk (s.slotAt k.val).len = true) :
    exec (.llFetchDone k (some b)) s = .next (s.setSlot k.val (fetchedSlot s (s.slotAt k.val) (sub b 0 (s.slotAt k.val).len))) := by
  show execLlFetchDone k (some b) s = _
  simp [execLlFetchDone, h, len, fetchedSlot]

theorem llFetchDone_of_failure (h : (s.slotAt k.val).st = .fetching) (len : lengthOk (s.slotAt k.val).len = true) :
    exec (.llFetchDone k none) s = .next (slotFail s k.val ⟨llFETCH, 0xFFFF, 0⟩) := by
  show execLlFetchDone k none s = _
  simp [execLlFetchDone, h, len]

theorem llFetchDone_of_badLength (b : Option (List Byte)) (h : (s.slotAt k.val).st = .fetching) (len : lengthOk (s.slotAt k.val).len = false) :
    exec (.llFetchDone k b) s = .next (s.setSlot k.val { s.slotAt k.val with st := .checking, began := s.flash.count }) := by
  show execLlFetchDone k b s = _
  simp [execLlFetchDone, h, len]

/-! ### LL_CHECK_DONE (R93, R94) -/

theorem llCheckDone_of_not_checking (h : (s.slotAt k.val).st ≠ .checking) : exec (.llCheckDone k) s = .next s := by
  show execLlCheckDone k s = _
  simp [execLlCheckDone, h]

theorem llCheckDone_of_waiting (h : (s.slotAt k.val).st = .checking) (dep : (s.slotAt k.val).dependent = true)
    (base : (s.slotAt (1 - k.val)).st ≠ .staged) :
    exec (.llCheckDone k) s = .next (s.setSlot k.val { s.slotAt k.val with checked := true }) := by
  show execLlCheckDone k s = _
  simp [execLlCheckDone, h, dep, base]

theorem llCheckDone_of_ready (h : (s.slotAt k.val).st = .checking)
    (ready : (s.slotAt k.val).dependent = false ∨ (s.slotAt (1 - k.val)).st = .staged) :
    exec (.llCheckDone k) s = .next (checkSlot s k.val) := by
  show execLlCheckDone k s = _
  rcases ready with own | base
  · simp [execLlCheckDone, h, own]
  · simp [execLlCheckDone, h, base]

/-- The outcome of the checks of slot `k` against its base. -/
def slotCheck (s : State) (k : Nat) : Except LErr (List LRec) :=
  checkList s (s.slotAt k).bytes (s.slotAt k).len (slotBase s k).1 (slotBase s k).2.1 (slotBase s k).2.2 (s.slotAt k).began.toNat

/-- A list that passes goes on to Daymark. -/
theorem llCheckDone_of_passed {c : List LRec} (h : (s.slotAt k.val).st = .checking)
    (ready : (s.slotAt k.val).dependent = false ∨ (s.slotAt (1 - k.val)).st = .staged) (passed : slotCheck s k.val = .ok c) :
    exec (.llCheckDone k) s = .next (s.setSlot k.val { s.slotAt k.val with st := .authorising, checked := false }) := by
  rw [slotCheck] at passed
  simp only [llCheckDone_of_ready h ready, checkSlot, passed]

theorem llCheckDone_of_rejected {e : LErr} (h : (s.slotAt k.val).st = .checking)
    (ready : (s.slotAt k.val).dependent = false ∨ (s.slotAt (1 - k.val)).st = .staged) (rejected : slotCheck s k.val = .error e) :
    exec (.llCheckDone k) s = .next (slotFail s k.val e) := by
  rw [slotCheck] at rejected
  simp only [llCheckDone_of_ready h ready, checkSlot, rejected]

/-! ### LL_AUTHORISE_DONE (R55, R94) -/

theorem llAuthoriseDone_of_not_authorising (h : (s.slotAt k.val).st ≠ .authorising) : exec (.llAuthoriseDone k) s = .next s := by
  show execLlAuthoriseDone k s = _
  simp [execLlAuthoriseDone, h]

theorem llAuthoriseDone_of_refused {e : LErr} (h : (s.slotAt k.val).st = .authorising) (auth : authErr s (s.slotAt k.val).bytes = some e) :
    exec (.llAuthoriseDone k) s = .next (slotFail s k.val e) := by
  show execLlAuthoriseDone k s = _
  simp [execLlAuthoriseDone, h, auth]

theorem llAuthoriseDone_of_full (h : (s.slotAt k.val).st = .authorising) (auth : authErr s (s.slotAt k.val).bytes = none)
    (full : satFree s = none) : exec (.llAuthoriseDone k) s = .next (slotFail s k.val ⟨llSATFULL, 0xFFFF, 0⟩) := by
  show execLlAuthoriseDone k s = _
  simp [execLlAuthoriseDone, h, auth, satArmUnit, full]

/-- The LIGHT entry that the loader writes for slot `k`: at tick 0 of its list's TARGET_FLASH, with the header's FLEET bit (R55). -/
def lightEntry (s : State) (k : Nat) : Sat :=
  { when_ := (s.slotAt k).target, op := BitVec.ofNat 64 k, action := 1, fleet := bit (fieldAt (s.slotAt k).bytes 11 1) 1, owner := 1 }

/-- A LIGHT entry of a list whose Flash is still to come is ARMED: its operand names a slot. -/
theorem satArmUnit_light {e : Nat} (free : satFree s = some e) (later : s.flash.count.toNat < (s.slotAt k.val).target.toNat) :
    satArmUnit s 1 1 (s.slotAt k.val).target (BitVec.ofNat 64 k.val) 0 (bit (fieldAt (s.slotAt k.val).bytes 11 1) 1) =
      some (e, (s.setSat e (lightEntry s k.val)).setSat e (entered s (lightEntry s k.val) .armed)) := by
  have operand : satOperandOk 1 (BitVec.ofNat 64 k.val).toNat = true := by fin_cases k <;> rfl
  have arm := satArmNow_of_valid (s.setSat e (lightEntry s k.val)) e
  rw [setSat_same] at arm
  simp only [satArmUnit, free]
  exact congrArg (fun t => some (e, t)) (arm SatSt.noConfusion operand later)

theorem setSat_slotAt (s : State) (e : Nat) (x : Sat) (k : Nat) : (s.setSat e x).slotAt k = s.slotAt k := rfl

/-- The slot is STAGED and its LIGHT entry ARMED; no list waits for this one. -/
theorem llAuthoriseDone_of_accepted {e : Nat} (h : (s.slotAt k.val).st = .authorising) (auth : authErr s (s.slotAt k.val).bytes = none)
    (free : satFree s = some e) (later : s.flash.count.toNat < (s.slotAt k.val).target.toNat)
    (independent : (s.slotAt (1 - k.val)).dependent = false) :
    exec (.llAuthoriseDone k) s = .next (((s.setSat e (lightEntry s k.val)).setSat e (entered s (lightEntry s k.val) .armed)).setSlot k.val
      { s.slotAt k.val with st := .staged, sat := e }) := by
  show execLlAuthoriseDone k s = _
  simp [execLlAuthoriseDone, h, auth, satArmUnit_light free later, setSlot_otherSlot, setSat_slotAt, independent, entered]

theorem llAuthoriseDone_stages {e : Nat} (h : (s.slotAt k.val).st = .authorising) (auth : authErr s (s.slotAt k.val).bytes = none)
    (free : satFree s = some e) (later : s.flash.count.toNat < (s.slotAt k.val).target.toNat)
    (independent : (s.slotAt (1 - k.val)).dependent = false) :
    ∃ t, exec (.llAuthoriseDone k) s = .next t ∧ t.slotAt k.val = { s.slotAt k.val with st := .staged, sat := e } ∧
      t.slotAt (1 - k.val) = s.slotAt (1 - k.val) ∧ t.satEntry e = entered s (lightEntry s k.val) .armed ∧ (∀ d, d ≠ e → t.satEntry d = s.satEntry d) ∧
      SameBut [.ll, .sat] s t := by
  refine ⟨_, llAuthoriseDone_of_accepted h auth free later independent, setSlot_same _ _ _, ?_, ?_, fun d hd => ?_, ?_⟩
  · rw [setSlot_otherSlot, setSat_slotAt, setSat_slotAt]
  · rw [setSlot_satEntry, setSat_same]
  · rw [setSlot_satEntry, setSat_other _ _ _ d hd, setSat_other _ _ _ d hd]
  · exact same_mono (same_trans (setSat_sameBut s e _) (same_trans (setSat_sameBut _ e _) (setSlot_sameBut _ _ _))) (by simp)

/-! ### CMP_SLOT_CANCEL (R97) -/

theorem cmpSlotCancel_of_unstaged (h : (s.slotAt k.val).inProgress = true) (before : (s.slotAt k.val).st ≠ .staged) :
    exec (.cmpSlotCancel k) s = .next (slotFail s k.val ⟨llCANCELLED, 0xFFFF, 0⟩) := by
  show execCmpSlotCancel k s = _
  rcases (inProgress_iff _).1 h with st | st | st | st
  · simp [execCmpSlotCancel, st]
  · simp [execCmpSlotCancel, st]
  · simp [execCmpSlotCancel, st]
  · exact absurd st before

theorem cmpSlotCancel_of_staged (staged : (s.slotAt k.val).st = .staged) (armed : (s.satEntry (s.slotAt k.val).sat).st = .armed) :
    exec (.cmpSlotCancel k) s = .next (slotFail s k.val ⟨llCANCELLED, 0xFFFF, 0⟩) := by
  show execCmpSlotCancel k s = _
  simp [execCmpSlotCancel, staged, armed]

/-- A slot with no list in progress has nothing to cancel. -/
theorem cmpSlotCancel_of_not_inProgress (h : (s.slotAt k.val).inProgress = false) : exec (.cmpSlotCancel k) s = .next s := by
  show execCmpSlotCancel k s = _
  cases st : (s.slotAt k.val).st with
  | empty | lit | failed => simp [execCmpSlotCancel, st]
  | fetching | checking | authorising | staged => simp [Slot.inProgress, st] at h

/-- A STAGED list whose LIGHT entry is no longer ARMED stays as it is. -/
theorem cmpSlotCancel_of_issued (staged : (s.slotAt k.val).st = .staged) (issued : (s.satEntry (s.slotAt k.val).sat).st ≠ .armed) :
    exec (.cmpSlotCancel k) s = .next s := by
  show execCmpSlotCancel k s = _
  simp [execCmpSlotCancel, staged, issued]

end Stages

/-! ### The obligation -/

/-- Settles O17: one equation for each way a loader command answers, and what a failure leaves of the two slots and of the LIGHT entry. The
checks are the model's own: the place that a failing check names is log 30, the Flash that TARGET_FLASH is judged against log 31. -/
theorem loader : Obligations.Loader := by
  unfold Obligations.Loader
  refine ⟨fun s => ⟨fun k lowest free => ?_, fun busy0 busy1 => ?_, fun k b => llFetchDone_of_not_fetching b, fun k b fetching len => ?_,
    fun k fetching len independent => ?_, fun k b fetching len => ?_⟩,
    fun s k => ⟨fun checking ready => ⟨fun c ok => ?_, fun e error independent => ?_⟩, fun checking dep base => ?_, llCheckDone_of_not_checking,
      fun authorising auth e free later independent => ?_, fun authorising auth full independent => ?_,
      fun e authorising auth independent => ?_, llAuthoriseDone_of_not_authorising⟩,
    fun s k => ⟨fun inProgress before => ?_, fun staged armed => ?_, ?_⟩⟩
  · refine ⟨_, cmpSubmitGo_of_free lowest free, ?_⟩
    rw [submitted_slotAt, submitted_slotAt, setSlot_same, setSlot_otherSlot]
    exact ⟨rfl, rfl, rfl, rfl, rfl, rfl, rfl, submitted_same s k⟩
  · exact refused_of_raise (by decide) (cmpSubmitGo_of_busy busy0 busy1)
  · exact slot_written (llFetchDone_of_fetched b fetching len)
  · exact slot_failed (llFetchDone_of_failure fetching len) (by rw [fetching]; decide) independent
  · exact slot_written (llFetchDone_of_badLength b fetching len)
  · exact slot_written (llCheckDone_of_passed checking ready ok)
  · exact slot_failed (llCheckDone_of_rejected checking ready error) (by rw [checking]; decide) independent
  · exact slot_written (llCheckDone_of_waiting checking dep base)
  · obtain ⟨t, answer, self, other, entry, entries, same⟩ := llAuthoriseDone_stages authorising auth free later independent
    refine ⟨t, answer, ?_⟩
    rw [entry]
    exact ⟨self, other, rfl, rfl, rfl, rfl, rfl, rfl, rfl, entries, same⟩
  · obtain ⟨t, answer, self, -, event, same⟩ := slot_failed (llAuthoriseDone_of_full authorising auth full) (by rw [authorising]; decide) independent
    exact ⟨t, answer, self, event, same⟩
  · obtain ⟨t, answer, self, -, event, same⟩ := slot_failed (llAuthoriseDone_of_refused authorising auth) (by rw [authorising]; decide) independent
    exact ⟨t, answer, self, event, same⟩
  · exact ⟨_, cmpSlotCancel_of_unstaged inProgress before, slotFail_slotAt_self s _ _, slotFail_otherSlot s _ _, evSet_slotFail s _ _,
      slotFail_same s _ _⟩
  · exact ⟨_, cmpSlotCancel_of_staged staged armed, slotFail_slotAt_self s _ _, slotFail_otherSlot s _ _, slotFail_cancels s _ _ staged armed,
      evSet_slotFail s _ _, slotFail_same s _ _⟩
  · rintro (idle | ⟨staged, issued⟩)
    · exact cmpSlotCancel_of_not_inProgress idle
    · exact cmpSlotCancel_of_issued staged issued

end Sys2Proof.Proofs

/-!
SUPPORT. ATS_INVALIDATE and INVALIDATE_COMPLETION, and the registers of the fault queue: what an invalidation leaves in every TLB, that asking
again for removed translations leaves the TLBs alone, one equation for each way a command answers, and the obligation InvalidationsAndFaults.
-/
namespace Sys2Proof.Proofs
open Sys2Proof.Machine Sys2Proof.Laws

/-! ### Parts -/

theorem setXl_same (s : State) (x : Xlate) : SameBut [.xl] s { s with xl := x } := by
  intro p hp
  cases p with
  | xl => simp at hp
  | _ => rfl

theorem setCores_same (s : State) (cores : Tbl Core) : SameBut [.cores] s { s with cores := cores } := by
  intro p hp
  cases p with
  | cores => simp at hp
  | _ => rfl

theorem emit_same (s : State) (o : Out) : SameBut [.out] s (s.emit o) := by
  intro p hp
  cases p with
  | out => simp at hp
  | _ => rfl

theorem atfCount_same (s : State) (i n : Nat) : SameBut [.ctr] s (atfCount s i n) := by
  intro p hp
  cases p with
  | ctr => simp at hp
  | _ => rfl

/-! ### What stays in a TLB (R305) -/

/-- The TLBs without the entries of which `gone` holds: a TLB left with no entry is no longer listed. -/
def tlbWithout (gone : XEntry → Bool) (tlb : Tbl (List XEntry)) : Tbl (List XEntry) :=
  (tlb.map (fun t => (t.1, t.2.filter (fun e => !gone e)))).filter (fun t => !t.2.isEmpty)

/-- A canonical table lists no key below its bound. -/
theorem tget_of_lt_twfFrom {α : Type} [DecidableEq α] (d : α) {t : Tbl α} {lo k : Nat} (w : twfFrom d lo t = true) (below : k < lo) :
    tget d t k = d := by
  induction t generalizing lo with
  | nil => rfl
  | cons p r ih =>
    obtain ⟨a, v⟩ := p
    simp only [twfFrom, Bool.and_eq_true, decide_eq_true_eq] at w
    obtain ⟨⟨above, -⟩, rest⟩ := w
    rw [tget, if_neg (by omega)]
    exact ih rest (by omega)

/-- Rising keys matter here: a second list under a key whose first list went empty would come to light. -/
theorem tget_tlbWithout_of_twfFrom (gone : XEntry → Bool) (k : Nat) {tlb : Tbl (List XEntry)} {lo : Nat} (w : twfFrom [] lo tlb = true) :
    tget [] (tlbWithout gone tlb) k = (tget [] tlb k).filter (fun e => !gone e) := by
  induction tlb generalizing lo with
  | nil => rfl
  | cons p r ih =>
    obtain ⟨a, v⟩ := p
    simp only [twfFrom, Bool.and_eq_true, decide_eq_true_eq] at w
    obtain ⟨-, rest⟩ := w
    have step := ih rest
    unfold tlbWithout at step ⊢
    cases left : v.filter (fun e => !gone e) with
    | nil =>
      simp only [List.map_cons, left, List.filter_cons, List.isEmpty_nil, Bool.not_true, Bool.false_eq_true, if_false, step, tget]
      split
      · next same => rw [left, tget_of_lt_twfFrom [] rest (by omega), List.filter_nil]
      · rfl
    | cons e es =>
      simp only [List.map_cons, left, List.filter_cons, List.isEmpty_cons, Bool.not_false, if_true, step, tget]
      split
      · exact left.symm
      · rfl

theorem mem_tget_tlbWithout (gone : XEntry → Bool) {tlb : Tbl (List XEntry)} (w : twf [] tlb = true) (k : Nat) (e : XEntry) :
    e ∈ tget [] (tlbWithout gone tlb) k ↔ e ∈ tget [] tlb k ∧ gone e = false := by
  rw [tget_tlbWithout_of_twfFrom gone k w, List.mem_filter, Bool.not_eq_true']

/-! ### Asking again (R306) -/

/-- From `s` to `t` translations were at most asked for: the TLBs and the invalidations that are served are as they were. -/
structure AsksOnly (s t : State) : Prop where
  tlb : t.xl.tlb = s.xl.tlb
  invals : t.xl.invals = s.xl.invals
  same : SameBut [.xl, .cores, .out, .ctr] s t

theorem AsksOnly.refl (s : State) : AsksOnly s s := ⟨rfl, rfl, same_refl s _⟩

theorem AsksOnly.trans {s t u : State} (h : AsksOnly s t) (k : AsksOnly t u) : AsksOnly s u :=
  ⟨k.tlb.trans h.tlb, k.invals.trans h.invals, same_mono (same_trans h.same k.same) (fun _ hp => (List.mem_append.1 hp).elim id id)⟩

theorem AsksOnly.foldl {α : Type} (f : State → α → State) (h : ∀ s a, AsksOnly s (f s a)) (l : List α) (s : State) :
    AsksOnly s (l.foldl f s) :=
  List.foldlRecOn l f (AsksOnly.refl s) (fun t ht a _ => ht.trans (h t a))

theorem atsSend_asksOnly (s : State) (n : Nat) (pasid : Option Nat) (unit : Nat) (write : Bool) :
    AsksOnly s (atsSend s n pasid unit write) := by
  unfold atsSend
  split
  · exact AsksOnly.refl s
  · exact ⟨rfl, rfl, same_mono (same_trans (emit_same s _) (atfCount_same _ _ _)) (by decide)⟩

theorem setWait_asksOnly (s : State) (w : XWait) : AsksOnly s (setWait s w) :=
  ⟨rfl, rfl, same_mono (setXl_same s _) (by decide)⟩

theorem setCores_asksOnly (s : State) (cores : Tbl Core) : AsksOnly s { s with cores := cores } :=
  ⟨rfl, rfl, same_mono (setCores_same s cores) (by decide)⟩

theorem xlAgain_asksOnly (s : State) (pasid : Option Nat) (base len : Nat) : AsksOnly s (xlAgain s pasid base len) := by
  refine (setCores_asksOnly s _).trans (AsksOnly.foldl _ (fun t w => ?_) _ _)
  split_ifs
  · exact AsksOnly.refl t
  · exact (AsksOnly.foldl _ (fun t u => atsSend_asksOnly t _ _ _ _) _ t).trans (setWait_asksOnly _ _)

/-! ### Invalidations (R305) -/

section Invalidations
variable {s : State} {itag : Fin 32} {i : Inval}

/-- The state `s` once the TLBs have lost the entries of a range and the request is noted under its ITag. -/
def invalidated (s : State) (itag : Nat) (p : Option Nat) (base len : Nat) : State :=
  { s with xl := { s.xl with tlb := tlbWithout (fun e => e.hit p base len) s.xl.tlb,
                             invals := s.xl.invals ++ [{ itag := itag, users := xlUsers s p base len }] } }

/-- A request under an ITag that is being served (log 64). -/
theorem atsInvalidate_of_served (pasid : Option (BitVec 20)) (base len : Nat) (served : ∃ i ∈ s.xl.invals, i.itag = itag.val) :
    exec (.atsInvalidate itag pasid base len) s = .next s := by
  have any : s.xl.invals.any (fun i => i.itag == itag.val) = true := by simpa using served
  show execAtsInvalidate itag pasid base len s = _
  simp only [execAtsInvalidate, any, if_true]

theorem atsInvalidate_of_free (pasid : Option (BitVec 20)) (base len : Nat) (free : ∀ i ∈ s.xl.invals, i.itag ≠ itag.val) :
    exec (.atsInvalidate itag pasid base len) s =
      .next (xlAgain (invalidated s itag.val (pasid.map (·.toNat)) base len) (pasid.map (·.toNat)) base len) := by
  have any : s.xl.invals.any (fun i => i.itag == itag.val) = false := by simpa using free
  show execAtsInvalidate itag pasid base len s = _
  simp only [execAtsInvalidate, any, Bool.false_eq_true, if_false]
  rfl

theorem atsInvalidate_removes (pasid : Option (BitVec 20)) (base len : Nat) (free : ∀ i ∈ s.xl.invals, i.itag ≠ itag.val)
    (wf : twf [] s.xl.tlb = true) :
    ∃ t, exec (.atsInvalidate itag pasid base len) s = .next t ∧
      (∀ k e, e ∈ tget [] t.xl.tlb k ↔ e ∈ tget [] s.xl.tlb k ∧ e.hit (pasid.map (·.toNat)) base len = false) ∧
      t.xl.invals = s.xl.invals ++ [{ itag := itag.val, users := xlUsers s (pasid.map (·.toNat)) base len }] ∧
      SameBut [.xl, .cores, .out, .ctr] s t := by
  have asks := xlAgain_asksOnly (invalidated s itag.val (pasid.map (·.toNat)) base len) (pasid.map (·.toNat)) base len
  refine ⟨_, atsInvalidate_of_free pasid base len free, fun k e => ?_, asks.invals,
    same_mono (same_trans (setXl_same s _) asks.same) (by decide)⟩
  rw [asks.tlb]
  exact mem_tget_tlbWithout _ wf k e

theorem invalidateCompletion_of_moving (found : s.xl.invals.find? (fun x => x.itag == itag.val) = some i)
    (moving : ∃ w ∈ i.users, stillMoves s w = true) : exec (.invalidateCompletion itag) s = .next s := by
  have any : i.users.any (stillMoves s) = true := by simpa using moving
  show execInvalidateCompletion itag s = _
  simp only [execInvalidateCompletion, found, any, if_true]

theorem invalidateCompletion_of_settled (found : s.xl.invals.find? (fun x => x.itag == itag.val) = some i)
    (settled : ∀ w ∈ i.users, stillMoves s w = false) :
    exec (.invalidateCompletion itag) s =
      .next (atfCount (({ s with xl := { s.xl with invals := s.xl.invals.filter (fun x => !(x.itag == itag.val)) } } : State).emit
        (.invalidateDone itag)) 5 1) := by
  have any : i.users.any (stillMoves s) = false := by simpa using settled
  show execInvalidateCompletion itag s = _
  simp only [execInvalidateCompletion, found, any, Bool.false_eq_true, if_false]

theorem invalidateCompletion_answers (found : s.xl.invals.find? (fun x => x.itag == itag.val) = some i)
    (settled : ∀ w ∈ i.users, stillMoves s w = false) :
    ∃ t, exec (.invalidateCompletion itag) s = .next t ∧ t.out = .invalidateDone itag :: s.out ∧
      (∀ x, x ∈ t.xl.invals ↔ x ∈ s.xl.invals ∧ x.itag ≠ itag.val) ∧ SameBut [.xl, .out, .ctr] s t :=
  ⟨_, invalidateCompletion_of_settled found settled, rfl, fun x => by simp [atfCount],
    same_trans (same_trans (setXl_same s _) (emit_same _ _)) (atfCount_same _ _ _)⟩

end Invalidations

/-! ### The fault queue (R314, R316, R319) -/

/-- Nothing goes on where no translation is waited for. -/
theorem xlRun_of_no_waits {s : State} (h : s.xl.waits = []) : xlRun s = s := by
  have pump : xlPump s = (⟨[], []⟩, s) := by simp only [xlPump, h, List.foldl_nil]
  simp only [xlRun, pump, List.foldl_nil]

/-- The entries that stay in use: the group of an entry is not answered, or HEAD is not past it (R314). -/
theorem mem_fq_fqFree (s : State) (e : FqEntry) :
    e ∈ (fqFree s).xl.fq ↔
      e ∈ s.xl.fq ∧ ¬ (e.answered = true ∧ 0 < (s.xl.fqHead - e.index).toNat ∧ (s.xl.fqHead - e.index).toNat ≤ 2 ^ 31) := by
  simp only [fqFree, List.mem_filter, Bool.not_eq_true', ← Bool.not_eq_true, Bool.and_eq_true, decide_eq_true_eq, and_assoc]

/-- Bit 63 lies outside SIZE_LOG2, the bits [4:0]. -/
theorem bits_setBits_63 (x : Word) (v : Nat) : bits (setBits x 63 63 v).toNat 4 0 = bits x.toNat 4 0 := by
  have lt := x.isLt
  simp only [bits, setBits, BitVec.toNat_ofNat]
  omega

/-- The translation unit `x` with its fault queue enabled, which clears the write error. -/
def queueOn (x : Xlate) : Xlate := { x with fqOn := true, fqErr := false }

/-- The translation unit `x` with its fault queue disabled. -/
def queueOff (x : Xlate) : Xlate := { x with fqOn := false }

/-- The state `s` with bit 63 of ATF_FQ_CTL, the ENABLE of the queue, written as `b`, and the translation unit switched by `f`. -/
def switched (s : State) (b : Nat) (f : Xlate → Xlate) : State :=
  { setReg s 0x30008 (setBits (regNow s 0x30008) 63 63 b) with xl := f (setReg s 0x30008 (setBits (regNow s 0x30008) 63 63 b)).xl }

theorem regNow_setXl (s : State) (x : Xlate) (off : Nat) : regNow { s with xl := x } off = regNow s off := rfl

theorem switched_xl (s : State) (b : Nat) (f : Xlate → Xlate) : (switched s b f).xl = f s.xl := congrArg f (setReg_xl _ _ _)

theorem regNow_switched (s : State) (b : Nat) (f : Xlate → Xlate) : regNow (switched s b f) 0x30008 = setBits (regNow s 0x30008) 63 63 b := by
  rw [switched, regNow_setXl, regNow_setReg_same]

theorem switched_same (s : State) (b : Nat) (f : Xlate → Xlate) : SameBut [.xl, .regs] s (switched s b f) :=
  same_mono (same_trans (setReg_same s _ _) (setXl_same _ _)) (by decide)

theorem xlRun_switched {s : State} (b : Nat) {f : Xlate → Xlate} (h : (f s.xl).waits = []) : xlRun (switched s b f) = switched s b f :=
  xlRun_of_no_waits (by rw [switched_xl, h])

/-- SIZE_LOG2 as it stands in ATF_FQ_CTL. -/
def sizeLog (s : State) : Nat := bits (regNow s 0x30008).toNat 4 0

theorem sizeLog_switched (s : State) (b : Nat) (f : Xlate → Xlate) : sizeLog (switched s b f) = sizeLog s := by
  rw [sizeLog, regNow_switched, bits_setBits_63, sizeLog]

/-- ATF_FQ_ENABLE: the write of SIZE_LOG2 goes first; the queue is enabled where that is not refused, the queue is off and the size stands from
10 to 16. -/
theorem exec_atfFqEnable (s : State) (x : Word) :
    exec (.atfFqEnable x) s = .next (if (fqSizeWrite s x).2 || s.xl.fqOn then (fqSizeWrite s x).1
      else if sizeLog (fqSizeWrite s x).1 < 10 || 16 < sizeLog (fqSizeWrite s x).1 then raise (fqSizeWrite s x).1 evATF 6
      else xlRun (switched (fqSizeWrite s x).1 1 queueOn)) := rfl

/-- ATF_FQ_DISABLE: a queue that is on with no entry in use is disabled, and the write of SIZE_LOG2 follows. -/
theorem exec_atfFqDisable (s : State) (x : Word) :
    exec (.atfFqDisable x) s = .next (if !s.xl.fqOn then (fqSizeWrite s x).1
      else if !s.xl.fq.isEmpty then raise s evATF 6
      else xlRun (fqSizeWrite (switched s 0 queueOff) x).1) := rfl

section FaultQueue
variable {s : State} {v : BitVec 32} {x : Word}

/-- A write of the SIZE_LOG2 that stands is no change (log 64). -/
theorem fqSizeWrite_of_same (same : bits x.toNat 4 0 = sizeLog s) : fqSizeWrite s x = (s, false) := if_pos same

theorem fqSizeWrite_of_idle (change : bits x.toNat 4 0 ≠ sizeLog s) (off : s.xl.fqOn = false) (unused : s.xl.fq = []) :
    fqSizeWrite s x = (setReg s 0x30008 (setBits (regNow s 0x30008) 4 0 (bits x.toNat 4 0)), false) := by
  unfold sizeLog at change
  simp [fqSizeWrite, change, off, unused]

theorem atfFqHead_of_beyond (beyond : (s.xl.fqTail - s.xl.fqHead).toNat < (v - s.xl.fqHead).toNat) :
    exec (.atfFqHead v) s = .next (raise s evATF 7) := by
  show execAtfFqHead v s = _
  rw [execAtfFqHead, if_pos beyond]

theorem atfFqHead_of_between (between : (v - s.xl.fqHead).toNat ≤ (s.xl.fqTail - s.xl.fqHead).toNat) (noWaits : s.xl.waits = []) :
    exec (.atfFqHead v) s = .next (fqFree { s with xl := { s.xl with fqHead := v } }) := by
  show execAtfFqHead v s = _
  rw [execAtfFqHead, if_neg (Nat.not_lt.2 between)]
  exact congrArg Host.Outcome.next (xlRun_of_no_waits noWaits)

theorem atfFqHead_moves (between : (v - s.xl.fqHead).toNat ≤ (s.xl.fqTail - s.xl.fqHead).toNat) (noWaits : s.xl.waits = []) :
    ∃ t, exec (.atfFqHead v) s = .next t ∧ t.xl.fqHead = v ∧ t.xl.fqTail = s.xl.fqTail ∧
      (∀ e, e ∈ t.xl.fq ↔ e ∈ s.xl.fq ∧ ¬ (e.answered = true ∧ 0 < (v - e.index).toNat ∧ (v - e.index).toNat ≤ 2 ^ 31)) ∧
      SameBut [.xl] s t :=
  ⟨_, atfFqHead_of_between between noWaits, rfl, rfl, mem_fq_fqFree _, setXl_same s _⟩

theorem atfFqEnable_of_on (same : bits x.toNat 4 0 = sizeLog s) (on : s.xl.fqOn = true) : exec (.atfFqEnable x) s = .next s := by
  simp [exec_atfFqEnable, fqSizeWrite_of_same same, on]

theorem atfFqEnable_of_badSize (same : bits x.toNat 4 0 = sizeLog s) (off : s.xl.fqOn = false) (bad : sizeLog s < 10 ∨ 16 < sizeLog s) :
    exec (.atfFqEnable x) s = .next (raise s evATF 6) := by
  simp [exec_atfFqEnable, fqSizeWrite_of_same same, off, bad]

theorem atfFqEnable_of_goodSize (same : bits x.toNat 4 0 = sizeLog s) (off : s.xl.fqOn = false) (low : 10 ≤ sizeLog s)
    (high : sizeLog s ≤ 16) (noWaits : s.xl.waits = []) :
    exec (.atfFqEnable x) s = .next (switched s 1 queueOn) := by
  have good : ¬ (sizeLog s < 10 ∨ 16 < sizeLog s) := by omega
  simp [exec_atfFqEnable, fqSizeWrite_of_same same, off, good, xlRun_switched (f := queueOn) 1 noWaits]

theorem atfFqEnable_enables (same : bits x.toNat 4 0 = sizeLog s) (off : s.xl.fqOn = false) (low : 10 ≤ sizeLog s)
    (high : sizeLog s ≤ 16) (noWaits : s.xl.waits = []) :
    ∃ t, exec (.atfFqEnable x) s = .next t ∧ t.xl = { s.xl with fqOn := true, fqErr := false } ∧
      regNow t 0x30008 = setBits (regNow s 0x30008) 63 63 1 ∧ SameBut [.xl, .regs] s t :=
  ⟨_, atfFqEnable_of_goodSize same off low high noWaits, switched_xl s _ _, regNow_switched s _ _, switched_same s _ _⟩

theorem atfFqDisable_of_inUse (on : s.xl.fqOn = true) (inUse : s.xl.fq ≠ []) : exec (.atfFqDisable x) s = .next (raise s evATF 6) := by
  simp [exec_atfFqDisable, on, inUse]

theorem atfFqDisable_of_unused (on : s.xl.fqOn = true) (unused : s.xl.fq = []) (noWaits : s.xl.waits = [])
    (same : bits x.toNat 4 0 = sizeLog s) :
    exec (.atfFqDisable x) s = .next (switched s 0 queueOff) := by
  have kept := fqSizeWrite_of_same (same.trans (sizeLog_switched s 0 queueOff).symm)
  simp [exec_atfFqDisable, on, unused, kept, xlRun_switched (f := queueOff) 0 noWaits]

theorem atfFqDisable_disables (on : s.xl.fqOn = true) (unused : s.xl.fq = []) (noWaits : s.xl.waits = [])
    (same : bits x.toNat 4 0 = sizeLog s) :
    ∃ t, exec (.atfFqDisable x) s = .next t ∧ t.xl = { s.xl with fqOn := false } ∧
      regNow t 0x30008 = setBits (regNow s 0x30008) 63 63 0 ∧ SameBut [.xl, .regs] s t :=
  ⟨_, atfFqDisable_of_unused on unused noWaits same, switched_xl s _ _, regNow_switched s _ _, switched_same s _ _⟩

/-- A queue that is off takes a new SIZE_LOG2 while no entry is in use. -/
theorem atfFqDisable_resizes (off : s.xl.fqOn = false) (change : bits x.toNat 4 0 ≠ sizeLog s) (unused : s.xl.fq = []) :
    ∃ t, exec (.atfFqDisable x) s = .next t ∧ regNow t 0x30008 = setBits (regNow s 0x30008) 4 0 (bits x.toNat 4 0) ∧
      SameBut [.regs] s t := by
  refine ⟨_, ?_, regNow_setReg_same s _ _, setReg_same s _ _⟩
  simp only [exec_atfFqDisable, off, Bool.not_false, if_true, fqSizeWrite_of_idle change off unused]

end FaultQueue

/-! ### The obligation -/

/-- Settles O34: one lemma for each way an invalidation, its completion and the writes of HEAD, ENABLE and DISABLE answer. That a request
under an ITag being served and a write of the SIZE_LOG2 that stands change nothing is log 64. -/
theorem invalidationsAndFaults : Obligations.InvalidationsAndFaults := by
  unfold Obligations.InvalidationsAndFaults
  exact ⟨fun s itag pasid base len => ⟨atsInvalidate_of_served pasid base len, atsInvalidate_removes pasid base len,
      fun i found => ⟨invalidateCompletion_of_moving found, invalidateCompletion_answers found⟩⟩,
    fun s v x => ⟨atfFqHead_of_beyond, atfFqHead_moves, atfFqEnable_of_on, atfFqEnable_of_badSize, atfFqEnable_enables,
      atfFqDisable_of_inUse, atfFqDisable_disables, atfFqDisable_resizes⟩⟩

end Sys2Proof.Proofs

/-!
SUPPORT. Rounding (R159): the value of an F32 bit pattern, the nearest integer, the nearest encoding, and the obligation RoundedOnce.
-/
namespace Sys2Proof.Proofs
open Sys2Proof.Machine Sys2Proof.Laws

/-! ### The value of a magnitude -/

/-- The value of the bits of an F32 below its sign, the exponent not bounded above. -/
def magVal (b : ℕ) : ℚ :=
  if b / 2 ^ 23 = 0 then (b % 2 ^ 23 : ℕ) * (2 : ℚ) ^ (-149 : ℤ) else (2 ^ 23 + b % 2 ^ 23 : ℕ) * (2 : ℚ) ^ ((b / 2 ^ 23 : ℕ) - 150 : ℤ)

/-- `1`, or `-1` under a sign. -/
def signOf (n : Bool) : ℚ := if n then -1 else 1

theorem abs_signOf (n : Bool) : |signOf n| = 1 := by cases n <;> simp [signOf]

theorem f32Val_eq (x : F32) : f32Val x = signOf (decide (2 ^ 31 ≤ x.toNat)) * magVal (x.toNat % 2 ^ 31) := by
  have exponent : x.toNat % 2 ^ 31 / 2 ^ 23 = x.toNat / 2 ^ 23 % 256 := by omega
  have mantissa : x.toNat % 2 ^ 31 % 2 ^ 23 = x.toNat % 2 ^ 23 := by omega
  simp only [f32Val, magVal, signOf, exponent, mantissa, decide_eq_true_eq]

theorem f32Fin_iff (x : F32) : f32Fin x ↔ x.toNat % 2 ^ 31 < 0x7F800000 := by
  unfold f32Fin
  omega

/-- In binade `k`, and from 0 on in the first one, the encoding `k * 2 ^ 23 + q` holds `q` units of the binade's last place. -/
theorem magVal_binade (k q : ℕ) (top : q ≤ 2 ^ 24) (normal : k = 0 ∨ 2 ^ 23 ≤ q) : magVal (k * 2 ^ 23 + q) = q * (2 : ℚ) ^ ((k : ℤ) - 149) := by
  rcases Nat.lt_or_ge q (2 ^ 23) with small | large
  · obtain rfl : k = 0 := by omega
    have exponent : (0 * 2 ^ 23 + q) / 2 ^ 23 = 0 := by omega
    have mantissa : (0 * 2 ^ 23 + q) % 2 ^ 23 = q := by omega
    rw [magVal, if_pos exponent, mantissa]
    norm_num
  · rcases Nat.lt_or_ge q (2 ^ 24) with below | carry
    · have exponent : (k * 2 ^ 23 + q) / 2 ^ 23 = k + 1 := by omega
      have mantissa : 2 ^ 23 + (k * 2 ^ 23 + q) % 2 ^ 23 = q := by omega
      have unit : ((k + 1 : ℕ) : ℤ) - 150 = (k : ℤ) - 149 := by push_cast; ring
      rw [magVal, exponent, if_neg (Nat.succ_ne_zero k), mantissa, unit]
    · obtain rfl : q = 2 ^ 24 := by omega
      have exponent : (k * 2 ^ 23 + 2 ^ 24) / 2 ^ 23 = k + 2 := by omega
      have mantissa : (k * 2 ^ 23 + 2 ^ 24) % 2 ^ 23 = 0 := by omega
      have unit : ((k + 2 : ℕ) : ℤ) - 150 = 1 + ((k : ℤ) - 149) := by push_cast; ring
      rw [magVal, exponent, if_neg (Nat.succ_ne_zero _), mantissa, unit, zpow_add₀ two_ne_zero]
      push_cast
      ring

/-- Above the binades below `k`, every encoding holds a whole number of units of binade `k`. -/
theorem magVal_multiple (k b : ℕ) (h : k ≤ b / 2 ^ 23 - 1) : ∃ n : ℕ, magVal b = n * (2 : ℚ) ^ ((k : ℤ) - 149) := by
  rcases Nat.eq_zero_or_pos (b / 2 ^ 23) with zero | pos
  · obtain rfl : k = 0 := by omega
    exact ⟨b % 2 ^ 23, by rw [magVal, if_pos zero]; norm_num⟩
  · refine ⟨(2 ^ 23 + b % 2 ^ 23) * 2 ^ (b / 2 ^ 23 - 1 - k), ?_⟩
    have unit : ((b / 2 ^ 23 : ℕ) : ℤ) - 150 = ((b / 2 ^ 23 - 1 - k : ℕ) : ℤ) + ((k : ℤ) - 149) := by omega
    rw [magVal, if_neg (by omega), unit, zpow_add₀ two_ne_zero, zpow_natCast]
    push_cast
    ring

/-- Below binade `k` every encoding holds less than its least normal number. -/
theorem magVal_lt_binade (k b : ℕ) (h : b / 2 ^ 23 ≤ k) : magVal b < 2 ^ 23 * (2 : ℚ) ^ ((k : ℤ) - 149) := by
  have mantissa : b % 2 ^ 23 < 2 ^ 23 := Nat.mod_lt _ (by decide)
  rcases Nat.eq_zero_or_pos (b / 2 ^ 23) with zero | pos
  · rw [magVal, if_pos zero]
    calc ((b % 2 ^ 23 : ℕ) : ℚ) * (2 : ℚ) ^ (-149 : ℤ) < 2 ^ 23 * (2 : ℚ) ^ (-149 : ℤ) := by
          gcongr
          exact_mod_cast mantissa
      _ ≤ 2 ^ 23 * (2 : ℚ) ^ ((k : ℤ) - 149) := by
          gcongr
          · norm_num
          · omega
  · rw [magVal, if_neg (by omega)]
    calc ((2 ^ 23 + b % 2 ^ 23 : ℕ) : ℚ) * (2 : ℚ) ^ ((b / 2 ^ 23 : ℕ) - 150 : ℤ)
          < (2 ^ 24 : ℕ) * (2 : ℚ) ^ ((b / 2 ^ 23 : ℕ) - 150 : ℤ) := by
          gcongr
          omega
      _ ≤ (2 ^ 24 : ℕ) * (2 : ℚ) ^ (((k : ℤ) - 149) - 1) :=
          mul_le_mul_of_nonneg_left (zpow_le_zpow_right₀ one_le_two (by omega)) (by positivity)
      _ = 2 ^ 23 * (2 : ℚ) ^ ((k : ℤ) - 149) := by
          rw [zpow_sub_one₀ two_ne_zero]
          push_cast
          ring

theorem magVal_nonneg (b : ℕ) : 0 ≤ magVal b := by
  unfold magVal
  split <;> positivity

theorem magVal_zero : magVal 0 = 0 := by norm_num [magVal]

/-- Successive encodings hold rising values. -/
theorem magVal_lt_succ (b : ℕ) : magVal b < magVal (b + 1) := by
  obtain ⟨k, q, rfl, top, normal⟩ : ∃ k q, b = k * 2 ^ 23 + q ∧ q < 2 ^ 24 ∧ (k = 0 ∨ 2 ^ 23 ≤ q) := by
    rcases Nat.eq_zero_or_pos (b / 2 ^ 23) with zero | pos
    · exact ⟨0, b, by omega, by omega, .inl rfl⟩
    · exact ⟨b / 2 ^ 23 - 1, b % 2 ^ 23 + 2 ^ 23, by omega, by omega, .inr (by omega)⟩
  rw [magVal_binade k q (by omega) normal, add_assoc, magVal_binade k (q + 1) (by omega) (by omega)]
  push_cast
  gcongr
  linarith

theorem magVal_strictMono : StrictMono magVal := strictMono_nat_of_lt_succ magVal_lt_succ

/-! ### The nearest integer and the nearest encoding -/

/-- `q` is the integer nearest to `ρ`, and the even one of two. -/
def NearestInt (q : ℕ) (ρ : ℚ) : Prop := |(q : ℚ) - ρ| ≤ 1 / 2 ∧ (|(q : ℚ) - ρ| = 1 / 2 → q % 2 = 0)

/-- No integer is nearer than the nearest one; another one is as near only where that is even. -/
theorem NearestInt.le {q : ℕ} {ρ : ℚ} (h : NearestInt q ρ) (n : ℕ) :
    |(q : ℚ) - ρ| ≤ |(n : ℚ) - ρ| ∧ (|(q : ℚ) - ρ| = |(n : ℚ) - ρ| → n ≠ q → q % 2 = 0) := by
  obtain ⟨half, even⟩ := h
  by_cases same : n = q
  · subst same
    exact ⟨le_rfl, fun _ other => absurd rfl other⟩
  · have apart : (1 : ℚ) ≤ |(n : ℚ) - q| := by
      have whole : (1 : ℤ) ≤ |(n : ℤ) - q| := Int.one_le_abs (by omega)
      exact_mod_cast whole
    have triangle : |(n : ℚ) - q| ≤ |(n : ℚ) - ρ| + |(q : ℚ) - ρ| := by
      rw [abs_sub_comm (q : ℚ) ρ]
      exact abs_sub_le _ _ _
    exact ⟨by linarith, fun eq _ => even (by linarith)⟩

/-- The encoding `b` holds the value nearest to `r`, and is the even one of two. -/
def NearestMag (b : ℕ) (r : ℚ) : Prop :=
  ∀ b', |magVal b - r| ≤ |magVal b' - r| ∧ (|magVal b - r| = |magVal b' - r| → b' ≠ b → b % 2 = 0)

/-- Rounding to units of the number's binade finds the nearest encoding. -/
theorem nearestMag_of_nearestInt {k q : ℕ} {ρ : ℚ} (nearest : NearestInt q ρ) (top : q ≤ 2 ^ 24) (normal : k = 0 ∨ 2 ^ 23 ≤ q ∧ 2 ^ 23 ≤ ρ) :
    NearestMag (k * 2 ^ 23 + q) (ρ * (2 : ℚ) ^ ((k : ℤ) - 149)) := by
  have unit : (0 : ℚ) < (2 : ℚ) ^ ((k : ℤ) - 149) := by positivity
  have scaled (n : ℚ) : |n * (2 : ℚ) ^ ((k : ℤ) - 149) - ρ * (2 : ℚ) ^ ((k : ℤ) - 149)| = |n - ρ| * (2 : ℚ) ^ ((k : ℤ) - 149) := by
    rw [← sub_mul, abs_mul, abs_of_pos unit]
  intro b
  rw [magVal_binade k q top (normal.imp_right And.left), scaled]
  by_cases above : k ≤ b / 2 ^ 23 - 1
  · obtain ⟨n, value⟩ := magVal_multiple k b above
    obtain ⟨le, even⟩ := nearest.le n
    rw [value, scaled]
    refine ⟨by gcongr, fun eq other => ?_⟩
    have eq' := mul_right_cancel₀ unit.ne' eq
    have distinct : n ≠ q := by
      rintro rfl
      exact other (magVal_strictMono.injective (value.trans (magVal_binade k n top (normal.imp_right And.left)).symm))
    have := even eq' distinct
    omega
  · have positive : k ≠ 0 := by omega
    have below := magVal_lt_binade k b (by omega)
    obtain ⟨-, large⟩ := normal.resolve_left positive
    obtain ⟨le, -⟩ := nearest.le (2 ^ 23)
    have base : |((2 ^ 23 : ℕ) : ℚ) - ρ| = ρ - 2 ^ 23 := by
      rw [abs_sub_comm, abs_of_nonneg] <;> push_cast <;> linarith
    have far : (ρ - 2 ^ 23) * (2 : ℚ) ^ ((k : ℤ) - 149) < |magVal b - ρ * (2 : ℚ) ^ ((k : ℤ) - 149)| := by
      rw [abs_sub_comm]
      exact lt_of_lt_of_le (by rw [sub_mul]; linarith) (le_abs_self _)
    have near : |(q : ℚ) - ρ| * (2 : ℚ) ^ ((k : ℤ) - 149) ≤ (ρ - 2 ^ 23) * (2 : ℚ) ^ ((k : ℤ) - 149) := by
      rw [← base]
      gcongr
    exact ⟨by linarith, fun eq => absurd eq (by linarith)⟩

/-! ### The rounding of the model -/

theorem two_zpow_sub_of_le {u e : ℤ} (h : u ≤ e) : (2 : ℚ) ^ (e - u) = ((2 ^ (e - u).toNat : ℕ) : ℚ) := by
  rw [← Int.toNat_of_nonneg (Int.sub_nonneg.2 h), zpow_natCast]
  norm_cast

/-- The model's rounding of m × 2^e to units of 2^u. -/
theorem nearestInt_rne (m : ℕ) (e u : ℤ) : NearestInt (rne m e u) (m * (2 : ℚ) ^ (e - u)) := by
  unfold rne
  split
  · next exact_ =>
    rw [two_zpow_sub_of_le exact_]
    constructor <;> push_cast <;> simp
  · next coarse =>
    have fine : (2 : ℚ) ^ (e - u) = (((2 ^ (u - e).toNat : ℕ) : ℚ))⁻¹ := by
      rw [← two_zpow_sub_of_le (by omega), ← zpow_neg, neg_sub]
    rw [fine, ← div_eq_mul_inv]
    generalize hd : 2 ^ (u - e).toNat = d
    have pos : 0 < d := hd ▸ Nat.two_pow_pos _
    have posQ : (0 : ℚ) < d := by exact_mod_cast pos
    have split_ : (m : ℚ) / d = (m / d : ℕ) + (m % d : ℕ) / (d : ℚ) := by
      field_simp
      exact_mod_cast (Nat.div_add_mod m d).symm.trans (by ring)
    have less : m % d < d := Nat.mod_lt _ pos
    simp only [split_]
    split
    · next low =>
      have lowQ : ((m % d : ℕ) : ℚ) / d < 1 / 2 := by
        rw [div_lt_iff₀ posQ]
        have : (2 * (m % d : ℕ) : ℚ) < d := by exact_mod_cast low
        linarith
      have size : |((m / d : ℕ) : ℚ) - ((m / d : ℕ) + (m % d : ℕ) / (d : ℚ))| = (m % d : ℕ) / (d : ℚ) := by
        rw [sub_add_cancel_left, abs_neg, abs_of_nonneg (by positivity)]
      exact ⟨by rw [size]; exact lowQ.le, fun tie => absurd tie (by rw [size]; exact lowQ.ne)⟩
    · split
      · next tie =>
        have tieQ : ((m % d : ℕ) : ℚ) / d = 1 / 2 := by
          rw [div_eq_iff posQ.ne']
          have : (2 * (m % d : ℕ) : ℚ) = d := by exact_mod_cast tie
          linarith
        rw [tieQ]
        refine ⟨?_, fun _ => by omega⟩
        rcases Nat.mod_two_eq_zero_or_one (m / d) with even | odd
        · rw [even, add_zero, sub_add_cancel_left, abs_neg, abs_of_pos (by norm_num)]
        · rw [odd]
          push_cast
          rw [abs_le]
          constructor <;> linarith
      · next notLow notTie =>
        have high : (1 : ℚ) / 2 < ((m % d : ℕ) : ℚ) / d := by
          rw [lt_div_iff₀ posQ]
          have : (d : ℚ) < 2 * (m % d : ℕ) := by exact_mod_cast (by omega : d < 2 * (m % d))
          linarith
        have one : ((m % d : ℕ) : ℚ) / d < 1 := by
          rw [div_lt_one posQ]
          exact_mod_cast less
        have size : |((m / d + 1 : ℕ) : ℚ) - ((m / d : ℕ) + (m % d : ℕ) / (d : ℚ))| = 1 - (m % d : ℕ) / (d : ℚ) := by
          push_cast
          rw [abs_of_nonneg] <;> linarith
        exact ⟨by rw [size]; linarith, fun tie => absurd tie (by rw [size]; exact (by linarith : _ < _).ne)⟩

/-- The integer nearest to a number that lies between two integers lies between them. -/
theorem NearestInt.mem_Icc {q lo hi : ℕ} {ρ : ℚ} (h : NearestInt q ρ) (hlo : (lo : ℚ) ≤ ρ) (hhi : ρ ≤ hi) : lo ≤ q ∧ q ≤ hi := by
  obtain ⟨half, -⟩ := h
  rw [abs_le] at half
  constructor
  · by_contra less
    have : (q : ℚ) + 1 ≤ lo := by exact_mod_cast (by omega : q + 1 ≤ lo)
    linarith
  · by_contra more
    have : (hi : ℚ) + 1 ≤ q := by exact_mod_cast (by omega : hi + 1 ≤ q)
    linarith

/-- The F32 encoding of a magnitude is the nearest one. -/
theorem nearestMag_encMag (m : ℕ) (e : ℤ) : NearestMag (encMag 23 127 m e) (m * (2 : ℚ) ^ e) := by
  unfold encMag
  split
  · next zero =>
    have nearest : NearestInt 0 0 := by norm_num [NearestInt]
    simpa [zero] using nearestMag_of_nearestInt (k := 0) nearest (by norm_num) (.inl rfl)
  · next nonzero =>
    simp only [Nat.cast_ofNat]
    generalize hu : max ((Nat.log2 m : ℤ) - 23 + e) (1 - 127 - 23) = u
    obtain ⟨k, hk⟩ : ∃ k : ℕ, u - (1 - 127 - 23) = k := Int.eq_ofNat_of_zero_le (by omega)
    obtain rfl : u = (k : ℤ) - 149 := by omega
    have lower : (2 : ℚ) ^ (Nat.log2 m : ℤ) ≤ m := by
      rw [zpow_natCast]
      exact_mod_cast Nat.log2_self_le nonzero
    have upper : (m : ℚ) ≤ 2 ^ ((Nat.log2 m : ℤ) + 1) := by
      have : m ≤ 2 ^ (Nat.log2 m + 1) := Nat.lt_log2_self.le
      exact_mod_cast this
    have nearest := nearestInt_rne m e ((k : ℤ) - 149)
    have scale : (m : ℚ) * (2 : ℚ) ^ e = m * (2 : ℚ) ^ (e - ((k : ℤ) - 149)) * (2 : ℚ) ^ ((k : ℤ) - 149) := by
      rw [mul_assoc, ← zpow_add₀ two_ne_zero, sub_add_cancel]
    have ceiling : (m : ℚ) * (2 : ℚ) ^ (e - ((k : ℤ) - 149)) ≤ (2 ^ 24 : ℕ) := by
      calc (m : ℚ) * (2 : ℚ) ^ (e - ((k : ℤ) - 149)) ≤ 2 ^ ((Nat.log2 m : ℤ) + 1) * (2 : ℚ) ^ (e - ((k : ℤ) - 149)) := by gcongr
        _ = (2 : ℚ) ^ ((Nat.log2 m : ℤ) + 1 + (e - ((k : ℤ) - 149))) := (zpow_add₀ two_ne_zero _ _).symm
        _ ≤ (2 : ℚ) ^ (24 : ℤ) := by
          gcongr
          · norm_num
          · omega
        _ = (2 ^ 24 : ℕ) := by norm_num
    have floor : k = 0 ∨ ((2 ^ 23 : ℕ) : ℚ) ≤ (m : ℚ) * (2 : ℚ) ^ (e - ((k : ℤ) - 149)) := by
      rcases Nat.eq_zero_or_pos k with zero | pos
      · exact .inl zero
      · have normal : (k : ℤ) - 149 = (Nat.log2 m : ℤ) - 23 + e := by omega
        refine .inr ?_
        calc ((2 ^ 23 : ℕ) : ℚ) = (2 : ℚ) ^ ((Nat.log2 m : ℤ) + (e - ((k : ℤ) - 149))) := by
              rw [normal, show (Nat.log2 m : ℤ) + (e - ((Nat.log2 m : ℤ) - 23 + e)) = 23 by ring]
              norm_num
          _ = (2 : ℚ) ^ (Nat.log2 m : ℤ) * (2 : ℚ) ^ (e - ((k : ℤ) - 149)) := zpow_add₀ two_ne_zero _ _
          _ ≤ m * (2 : ℚ) ^ (e - ((k : ℤ) - 149)) := by gcongr
    rw [scale, hk, Int.toNat_natCast]
    refine nearestMag_of_nearestInt nearest (nearest.mem_Icc (lo := 0) (by simp only [Nat.cast_zero]; positivity) ceiling).2 ?_
    exact floor.imp_right fun large => ⟨(nearest.mem_Icc large ceiling).1, by exact_mod_cast large⟩

/-! ### The range of finite numbers -/

theorem magVal_largest : magVal 0x7F7FFFFF = 2 ^ 128 - 2 ^ 104 := by norm_num [magVal]

theorem magVal_overflow : magVal 0x7F800000 = 2 ^ 128 := by norm_num [magVal]

/-- The nearest encoding, the exponent unbounded, lies beyond the finite ones exactly from half of the last place beyond the largest one on. -/
theorem NearestMag.lt_overflow_iff {b : ℕ} {r : ℚ} (h : NearestMag b r) : b < 0x7F800000 ↔ r < 2 ^ 128 - 2 ^ 103 := by
  obtain ⟨finite, -⟩ := h 0x7F7FFFFF
  obtain ⟨beyondLe, even⟩ := h 0x7F800000
  rw [magVal_largest] at finite
  rw [magVal_overflow] at beyondLe even
  constructor
  · intro below
    by_contra beyond
    have top : magVal b ≤ 2 ^ 128 - 2 ^ 104 := magVal_largest ▸ magVal_strictMono.monotone (by omega : b ≤ 0x7F7FFFFF)
    have size : |magVal b - r| = r - magVal b := by
      rw [abs_sub_comm, abs_of_nonneg]
      linarith
    rw [size] at beyondLe even
    rcases abs_cases ((2 : ℚ) ^ 128 - r) with ⟨eq, -⟩ | ⟨eq, -⟩ <;> rw [eq] at beyondLe even
    · have odd := even (by linarith) (by omega)
      have strict : magVal b < 2 ^ 128 - 2 ^ 104 := magVal_largest ▸ magVal_strictMono (by omega : b < 0x7F7FFFFF)
      linarith
    · linarith
  · intro below
    by_contra beyond
    have top : 2 ^ 128 ≤ magVal b := magVal_overflow ▸ magVal_strictMono.monotone (by omega : 0x7F800000 ≤ b)
    have size : |magVal b - r| = magVal b - r := abs_of_nonneg (by linarith)
    rw [size] at finite
    rcases abs_cases ((2 : ℚ) ^ 128 - 2 ^ 104 - r) with ⟨eq, -⟩ | ⟨eq, -⟩ <;> rw [eq] at finite <;> linarith

/-! ### Rounding a number -/

/-- The value of a finite number of the formats. -/
def finVal (n : Bool) (m : ℕ) (e : ℤ) : ℚ := signOf n * m * (2 : ℚ) ^ e

theorem toNat_toF32_fin (n : Bool) (m : ℕ) (e : ℤ) :
    (toF32 (.fin n m e)).toNat = min (encMag 23 127 m e) 0x7F800000 + if n then 2 ^ 31 else 0 := by
  simp only [toF32, BitVec.toNat_ofNat]
  cases n <;> exact Nat.mod_eq_of_lt (by simp only [Bool.false_eq_true, if_false, if_true]; omega)

theorem toF32_sign (n : Bool) (m : ℕ) (e : ℤ) : (toF32 (.fin n m e)).toNat / 2 ^ 31 = if n then 1 else 0 := by
  rw [toNat_toF32_fin]
  cases n <;> simp only [Bool.false_eq_true, if_false, if_true] <;> omega

theorem abs_signOf_mul_sub (n : Bool) (a r : ℚ) : |signOf n * a - signOf n * r| = |a - r| := by
  rw [← mul_sub, abs_mul, abs_signOf, one_mul]

/-- A number of the other sign is at least as far from `r` as zero is. -/
theorem abs_sub_of_signs_differ {n n' : Bool} (differ : n' ≠ n) {a r : ℚ} (ha : 0 ≤ a) (hr : 0 ≤ r) :
    |signOf n' * a - signOf n * r| = a + r := by
  have flip : signOf n' * a - signOf n * r = signOf n' * (a + r) := by
    obtain rfl : n = !n' := by cases n <;> cases n' <;> simp at differ ⊢
    cases n' <;> simp [signOf, sub_eq_add_neg, add_comm]
  rw [flip, abs_mul, abs_signOf, one_mul, abs_of_nonneg (add_nonneg ha hr)]

/-- The model's one rounding (R159). -/
theorem nearestEven_toF32 (n : Bool) (m : ℕ) (e : ℤ) : NearestEven (finVal n m e) (toF32 (.fin n m e)) := by
  have nearest := nearestMag_encMag m e
  have range := nearest.lt_overflow_iff
  have bitsEq := toNat_toF32_fin n m e
  have sign : decide (2 ^ 31 ≤ (toF32 (.fin n m e)).toNat) = n := by
    rw [bitsEq]
    cases n <;> simp
  generalize hr : (m : ℚ) * (2 : ℚ) ^ e = r at nearest range
  have nonneg : 0 ≤ r := hr ▸ by positivity
  have value : finVal n m e = signOf n * r := by rw [finVal, mul_assoc, hr]
  have size : |signOf n * r| = r := by rw [abs_mul, abs_signOf, one_mul, abs_of_nonneg nonneg]
  rw [value, NearestEven, size]
  generalize encMag 23 127 m e = b at *
  refine ⟨fun within => ?_, fun beyond => ?_⟩
  · have finite := range.2 within
    have low : (toF32 (.fin n m e)).toNat % 2 ^ 31 = b := by
      rw [bitsEq]
      cases n <;> simp <;> omega
    refine ⟨(f32Fin_iff _).2 (low ▸ finite), fun y _ => ?_⟩
    rw [f32Val_eq, f32Val_eq y, sign, low, abs_signOf_mul_sub]
    have parity : (toF32 (.fin n m e)).toNat % 2 = b % 2 := by omega
    rw [parity]
    by_cases same : decide (2 ^ 31 ≤ y.toNat) = n
    · rw [same, abs_signOf_mul_sub]
      obtain ⟨le, even⟩ := nearest (y.toNat % 2 ^ 31)
      exact ⟨le, fun eq other => even eq fun h => other (by rw [h])⟩
    · rw [abs_sub_of_signs_differ same (magVal_nonneg _) nonneg]
      obtain ⟨le, even⟩ := nearest 0
      rw [magVal_zero, zero_sub, abs_neg, abs_of_nonneg nonneg] at le even
      have := magVal_nonneg (y.toNat % 2 ^ 31)
      refine ⟨by linarith, fun eq other => even (by linarith) fun h => other ?_⟩
      have zero : magVal (y.toNat % 2 ^ 31) = 0 := by linarith
      rw [zero, ← h, magVal_zero, mul_zero, mul_zero]
  · have overflow : ¬ b < 0x7F800000 := fun finite => absurd (range.1 finite) (not_lt.2 beyond)
    have positive : (0 : ℚ) < r := lt_of_lt_of_le (by norm_num) beyond
    apply BitVec.eq_of_toNat_eq
    rw [bitsEq]
    have infinity : min b 0x7F800000 = 0x7F800000 := by omega
    cases n
    · have positiveSign : ¬ signOf false * r < 0 := by simp [signOf, nonneg]
      rw [infinity, if_neg positiveSign]
      rfl
    · have negativeSign : signOf true * r < 0 := by simp [signOf, positive]
      rw [infinity, if_pos negativeSign]
      rfl

/-! ### The operations -/

/-- A finite F32 decodes to a finite number of its value. -/
theorem ofF32_of_finite {x : F32} (h : f32Fin x) : ∃ n m e, ofF32 x = .fin n m e ∧ finVal n m e = f32Val x := by
  have sign : (x.toNat / 2 ^ 31 % 2 == 1) = decide (2 ^ 31 ≤ x.toNat) := by
    rw [Bool.eq_iff_iff]
    simp
    omega
  have finite : ¬ x.toNat / 2 ^ 23 % 256 = 256 - 1 := h
  unfold ofF32 decFloat
  simp only [sign, show 2 ^ 8 = 256 from rfl, finite, decide_false, Bool.and_false, Bool.false_and, Bool.false_eq_true, if_false, Nat.reduceAdd,
      show (2 = 1) = False by simp]
  by_cases subnormal : x.toNat / 2 ^ 23 % 256 = 0
  · refine ⟨_, _, _, if_pos subnormal, ?_⟩
    rw [f32Val, if_pos subnormal]
    simp [finVal, signOf]
  · refine ⟨_, _, _, if_neg subnormal, ?_⟩
    rw [f32Val, if_neg subnormal]
    have unit : ((x.toNat / 2 ^ 23 % 256 : ℕ) : ℤ) - (127 : ℕ) - (23 : ℕ) = ((x.toNat / 2 ^ 23 % 256 : ℕ) : ℤ) - 150 := by push_cast; ring
    rw [finVal, unit, mul_assoc]
    simp [signOf]

theorem finVal_neg (n : Bool) (m : ℕ) (e : ℤ) : finVal (!n) m e = -finVal n m e := by
  cases n <;> simp [finVal, signOf]

theorem sigAt_val (n : Bool) (m : ℕ) (e g : ℤ) (h : g ≤ e) : (sigAt n m e g : ℚ) * (2 : ℚ) ^ g = finVal n m e := by
  have scale : (2 : ℚ) ^ e = ((2 ^ (e - g).toNat : ℕ) : ℚ) * (2 : ℚ) ^ g := by
    rw [← two_zpow_sub_of_le h, ← zpow_add₀ two_ne_zero, sub_add_cancel]
  rw [finVal, scale]
  cases n <;> simp [sigAt, signOf] <;> ring

/-- The sum of two finite numbers is exact. -/
theorem add_fin (a b : Bool) (m n : ℕ) (e f : ℤ) :
    ∃ c k g, (Machine.Num.fin a m e).add (.fin b n f) = .fin c k g ∧ finVal c k g = finVal a m e + finVal b n f := by
  rw [← sigAt_val a m e (min e f) (min_le_left e f), ← sigAt_val b n f (min e f) (min_le_right e f), ← add_mul]
  simp only [Machine.Num.add]
  by_cases zero : sigAt a m e (min e f) + sigAt b n f (min e f) = 0
  · refine ⟨_, _, _, if_pos zero, ?_⟩
    have zeroQ : (sigAt a m e (min e f) : ℚ) + sigAt b n f (min e f) = 0 := by exact_mod_cast zero
    rw [zeroQ]
    simp [finVal]
  · refine ⟨_, _, _, if_neg zero, ?_⟩
    rw [finVal, ← Int.cast_add]
    generalize sigAt a m e (min e f) + sigAt b n f (min e f) = t
    congr 1
    rw [Nat.cast_natAbs]
    rcases lt_or_ge t 0 with neg | nonneg
    · simp [signOf, neg, abs_of_neg neg]
    · simp [signOf, not_lt.2 nonneg, abs_of_nonneg nonneg]

theorem mul_fin (a b : Bool) (m n : ℕ) (e f : ℤ) : (Machine.Num.fin a m e).mul (.fin b n f) = .fin (a != b) (m * n) (e + f) := rfl

theorem finVal_mul (a b : Bool) (m n : ℕ) (e f : ℤ) : finVal (a != b) (m * n) (e + f) = finVal a m e * finVal b n f := by
  have sign : signOf (a != b) = signOf a * signOf b := by cases a <;> cases b <;> simp [signOf]
  rw [finVal, finVal, finVal, sign, zpow_add₀ two_ne_zero]
  push_cast
  ring

section Finite
variable {x y z : F32}

theorem nearestEven_fadd (hx : f32Fin x) (hy : f32Fin y) : NearestEven (f32Val x + f32Val y) (fadd x y) := by
  obtain ⟨a, m, e, dx, vx⟩ := ofF32_of_finite hx
  obtain ⟨b, n, f, dy, vy⟩ := ofF32_of_finite hy
  obtain ⟨c, k, g, sum, val⟩ := add_fin a b m n e f
  rw [fadd, dx, dy, sum, ← vx, ← vy, ← val]
  exact nearestEven_toF32 c k g

theorem nearestEven_fsub (hx : f32Fin x) (hy : f32Fin y) : NearestEven (f32Val x - f32Val y) (fsub x y) := by
  obtain ⟨a, m, e, dx, vx⟩ := ofF32_of_finite hx
  obtain ⟨b, n, f, dy, vy⟩ := ofF32_of_finite hy
  obtain ⟨c, k, g, sum, val⟩ := add_fin a (!b) m n e f
  rw [fsub, dx, dy, Machine.Num.neg, sum, ← vx, ← vy, sub_eq_add_neg, ← finVal_neg, ← val]
  exact nearestEven_toF32 c k g

theorem nearestEven_fmul (hx : f32Fin x) (hy : f32Fin y) : NearestEven (f32Val x * f32Val y) (fmul x y) := by
  obtain ⟨a, m, e, dx, vx⟩ := ofF32_of_finite hx
  obtain ⟨b, n, f, dy, vy⟩ := ofF32_of_finite hy
  rw [fmul, dx, dy, mul_fin, ← vx, ← vy, ← finVal_mul]
  exact nearestEven_toF32 _ _ _

theorem nearestEven_ffma (hx : f32Fin x) (hy : f32Fin y) (hz : f32Fin z) : NearestEven (f32Val x * f32Val y + f32Val z) (ffma x y z) := by
  obtain ⟨a, m, e, dx, vx⟩ := ofF32_of_finite hx
  obtain ⟨b, n, f, dy, vy⟩ := ofF32_of_finite hy
  obtain ⟨c, o, h, dz, vz⟩ := ofF32_of_finite hz
  obtain ⟨d, k, g, sum, val⟩ := add_fin (a != b) c (m * n) o (e + f) h
  rw [ffma, dx, dy, dz, mul_fin, sum, ← vx, ← vy, ← vz, ← finVal_mul, ← val]
  exact nearestEven_toF32 d k g

/-- x − x is +0. -/
theorem fsub_self (hx : f32Fin x) : fsub x x = 0 := by
  obtain ⟨a, m, e, dx, -⟩ := ofF32_of_finite hx
  have cancel : sigAt a m e (min e e) + sigAt (!a) m e (min e e) = 0 := by cases a <;> simp [sigAt]
  rw [fsub, dx]
  simp only [Machine.Num.neg, Machine.Num.add, cancel, if_true]
  cases a <;> simp [toF32, encMag]

end Finite

/-! ### NaN -/

theorem add_nan (a : Machine.Num) : a.add .nan = .nan := by cases a <;> rfl
theorem nan_add (a : Machine.Num) : Machine.Num.nan.add a = .nan := by cases a <;> rfl
theorem mul_nan (a : Machine.Num) : a.mul .nan = .nan := by cases a <;> rfl
theorem nan_mul (a : Machine.Num) : Machine.Num.nan.mul a = .nan := by cases a <;> rfl

/-- Every result of a NaN is the canonical NaN. -/
theorem operations_of_nan (x y z : F32) (nan : isNaN x = true) :
    fadd x y = 0x7FC00000 ∧ fadd y x = 0x7FC00000 ∧ fsub x y = 0x7FC00000 ∧ fsub y x = 0x7FC00000 ∧ fmul x y = 0x7FC00000 ∧
    fmul y x = 0x7FC00000 ∧ ffma x y z = 0x7FC00000 ∧ ffma y x z = 0x7FC00000 ∧ ffma y z x = 0x7FC00000 := by
  have decoded : ofF32 x = .nan := by simpa [isNaN] using nan
  simp [fadd, fsub, fmul, ffma, decoded, Machine.Num.neg, add_nan, nan_add, mul_nan, nan_mul, toF32, f32NaN]

/-! ### The obligation -/

/-- Settles O55: an encoding of F32 is a whole number of units of its binade, so that rounding to the nearest unit, ties to the even one, finds
the nearest of all encodings (R159); the operations decode to exact numbers and round once (R181). -/
theorem roundedOnce : Obligations.RoundedOnce := by
  unfold Obligations.RoundedOnce
  exact ⟨fun n m e => ⟨nearestEven_toF32 n m e, toF32_sign n m e⟩,
    fun x y z hx hy hz => ⟨nearestEven_fadd hx hy, nearestEven_fsub hx hy, nearestEven_fmul hx hy, nearestEven_ffma hx hy hz, fsub_self hx⟩,
    by decide, by decide, operations_of_nan⟩

end Sys2Proof.Proofs

/-!
SUPPORT. Little-endian bytes (R5) and reads of a memory after a write.
-/
namespace Sys2Proof.Proofs
open Sys2Proof.Machine Sys2Proof.Laws

@[simp] theorem length_leBytes (n v : Nat) : (leBytes n v).length = n := by
  induction n generalizing v with
  | zero => rfl
  | succ n ih => simp [leBytes, ih]

/-- The bytes of a number spell what of it fits. -/
theorem leNat_leBytes (n v : Nat) : leNat (leBytes n v) = v % 256 ^ n := by
  induction n generalizing v with
  | zero => simp [leBytes, leNat, Nat.mod_one]
  | succ n ih =>
    rw [leBytes, leNat, ih, BitVec.toNat_ofNat, Nat.pow_succ' (n := n)]
    exact Nat.mod_mul.symm

@[simp] theorem length_cread (m : List Host.Cell) (a len : Nat) : (cread m a len).length = len := by simp [cread]

/-- A write leaves what is read outside its range. -/
theorem cread_cwrite_outside (m : List Host.Cell) (bs : List Byte) (a b len : Nat) (h : a + len ≤ b ∨ b + bs.length ≤ a) :
    cread (cwrite m b bs) a len = cread m a len := by
  apply List.map_congr_left
  intro i hi
  rw [List.mem_range] at hi
  exact cget_cwrite_outside bs m b (a + i) (by omega)

/-- A write leaves its own bytes at its place. -/
theorem cread_cwrite_inside (m : List Host.Cell) (bs : List Byte) (a i len : Nat) (h : i + len ≤ bs.length) :
    cread (cwrite m a bs) (a + i) len = (bs.drop i).take len := by
  apply List.ext_getElem
  · simp
    omega
  · intro k hk _
    rw [length_cread] at hk
    simp only [cread, List.getElem_map, List.getElem_range, List.getElem_take, List.getElem_drop]
    rw [Nat.add_assoc, cget_cwrite_inside bs m a (i + k) (by omega)]
    exact List.getD_eq_getElem _ _ _

theorem cread_cwrite_same (m : List Host.Cell) (bs : List Byte) (a : Nat) : cread (cwrite m a bs) a bs.length = bs := by
  simpa using cread_cwrite_inside m bs a 0 bs.length (by omega)

/-- Pieces of one length laid end to end: the piece of an entry stands at its place. -/
theorem take_drop_flatMap {α : Type} (f : α → List Byte) (n : Nat) (len : ∀ x, (f x).length = n) (l : List α) (j : Nat) (h : j < l.length) :
    ((l.flatMap f).drop (n * j)).take n = f l[j] := by
  induction l generalizing j with
  | nil => simp at h
  | cons x r ih =>
    cases j with
    | zero => rw [List.flatMap_cons, Nat.mul_zero, List.drop_zero, List.take_left' (len x)]; rfl
    | succ j =>
      have past : n * (j + 1) = (f x).length + n * j := by rw [len x]; ring
      rw [List.flatMap_cons, past, List.drop_length_add_append]
      simpa using ih j (by simpa using h)

/-- Writes at several places leave what lies outside all of them. -/
theorem cread_foldl_cwrite_outside {α : Type} (place : α → Nat) (row : α → List Byte) (l : List α) (m : List Host.Cell) (b len : Nat)
    (h : ∀ x ∈ l, b + len ≤ place x ∨ place x + (row x).length ≤ b) :
    cread (l.foldl (fun m x => cwrite m (place x) (row x)) m) b len = cread m b len := by
  induction l generalizing m with
  | nil => rfl
  | cons x r ih =>
    rw [List.foldl_cons, ih _ fun y hy => h y (List.mem_cons_of_mem x hy), cread_cwrite_outside _ _ _ _ _ (h x List.mem_cons_self)]

/-- Rows that lie apart: each keeps its own bytes. -/
theorem cread_foldl_cwrite_row (place : Nat → Nat) (row : Nat → List Byte) (m : List Host.Cell) (n i off len : Nat) (hi : i < n)
    (fits : off + len ≤ (row i).length)
    (apart : ∀ k, k < n → k ≠ i → place i + (row i).length ≤ place k ∨ place k + (row k).length ≤ place i) :
    cread ((List.range n).foldl (fun m k => cwrite m (place k) (row k)) m) (place i + off) len = ((row i).drop off).take len := by
  induction n with
  | zero => omega
  | succ n ih =>
    rw [List.range_succ, List.foldl_append, List.foldl_cons, List.foldl_nil]
    rcases Nat.lt_succ_iff_lt_or_eq.1 hi with earlier | rfl
    · have clear := apart n (by omega) (by omega)
      rw [cread_cwrite_outside _ _ _ _ _ (by omega), ih earlier fun k hk => apart k (by omega)]
    · exact cread_cwrite_inside _ _ _ _ _ fits

end Sys2Proof.Proofs

/-!
SUPPORT. The canonical tree and the ladder of an accumulator (R140, R174 to R176): the nodes of a tree, what a push and its merges leave in
core-local memory, how many nodes cover the first blocks, and the obligation LadderTree.
-/
namespace Sys2Proof.Proofs
open Sys2Proof.Machine Sys2Proof.Laws

/-! ### Nodes of the tree (R174) -/

/-- (f, c) is a node of the tree of which (nf, nc) is the root. -/
inductive Below : Nat → Nat → Nat → Nat → Prop
  | self (f c : Nat) : Below f c f c
  | left {f c nf nc : Nat} (wide : 2 ≤ nc) (h : Below nf (splitAt nc) f c) : Below nf nc f c
  | right {f c nf nc : Nat} (wide : 2 ≤ nc) (h : Below (nf + splitAt nc) (nc - splitAt nc) f c) : Below nf nc f c

theorem splitAt_pos (c : Nat) : 1 ≤ splitAt c := Nat.one_le_two_pow

theorem splitAt_lt {c : Nat} (h : 2 ≤ c) : splitAt c < c := by
  have := Nat.log2_self_le (n := c - 1) (by omega)
  unfold splitAt
  omega

/-- The right child is no wider than the left one. -/
theorem le_two_mul_splitAt {c : Nat} (h : 2 ≤ c) : c ≤ 2 * splitAt c := by
  have : c - 1 < 2 ^ ((c - 1).log2 + 1) := Nat.lt_log2_self
  rw [Nat.pow_succ] at this
  unfold splitAt
  omega

theorem splitAt_le_two_pow {c k : Nat} (h : 2 ≤ c) (hk : c ≤ 2 ^ (k + 1)) : splitAt c ≤ 2 ^ k := by
  have less : (c - 1).log2 < k + 1 := (Nat.log2_lt (by omega)).2 (by omega)
  exact Nat.pow_le_pow_right (by decide) (by omega)

theorem Below.within {f c nf nc : Nat} (h : Below nf nc f c) : nf ≤ f ∧ f + c ≤ nf + nc := by
  induction h with
  | self => omega
  | left wide _ ih => have := splitAt_lt wide; omega
  | right wide _ ih => have := splitAt_lt wide; omega

theorem Below.trans {f c mf mc nf nc : Nat} (h : Below nf nc mf mc) (k : Below mf mc f c) : Below nf nc f c := by
  induction h with
  | self => exact k
  | left wide _ ih => exact .left wide (ih k)
  | right wide _ ih => exact .right wide (ih k)

theorem below_of_isNodeIn {k f c nf nc : Nat} (h : isNodeIn k f c nf nc = true) : Below nf nc f c := by
  induction k generalizing nf nc with
  | zero => cases h
  | succ k ih =>
    rw [isNodeIn] at h
    split at h
    · next same => obtain ⟨rfl, rfl⟩ := same; exact .self _ _
    · split at h
      · cases h
      · next inside =>
        have wide : 2 ≤ nc := by omega
        simp only at h
        split at h
        · exact .left wide (ih h)
        · exact .right wide (ih h)

theorem isNodeIn_of_below {f c nf nc : Nat} (h : Below nf nc f c) (hc : 1 ≤ c) (k : Nat) (fuel : nc ≤ 2 ^ k) : isNodeIn (k + 1) f c nf nc = true := by
  induction h generalizing k with
  | self => simp [isNodeIn]
  | @left f c nf nc wide h ih =>
    have within := h.within
    have less := splitAt_lt wide
    obtain ⟨k, rfl⟩ : ∃ j, k = j + 1 := ⟨k - 1, by rcases k with _ | k <;> simp at fuel ⊢; omega⟩
    rw [isNodeIn, if_neg (by omega), if_neg (by omega)]
    simp only
    rw [if_pos (by omega)]
    exact ih hc k (splitAt_le_two_pow wide fuel)
  | @right f c nf nc wide h ih =>
    have within := h.within
    have less := splitAt_lt wide
    have balance := le_two_mul_splitAt wide
    obtain ⟨k, rfl⟩ : ∃ j, k = j + 1 := ⟨k - 1, by rcases k with _ | k <;> simp at fuel ⊢; omega⟩
    have half := splitAt_le_two_pow wide fuel
    rw [isNodeIn, if_neg (by omega), if_neg (by omega)]
    simp only
    rw [if_neg (by omega)]
    exact ih hc k (by omega)

/-- A tree of one block has one node. -/
theorem Below.eq_of_one {f c nf : Nat} (h : Below nf 1 f c) : f = nf ∧ c = 1 := by
  cases h with
  | self => exact ⟨rfl, rfl⟩
  | left wide => omega
  | right wide => omega

theorem siblings_iff {a b : Span} {nb : Nat} (hnb : nb ≤ 65536) : siblings a b nb = true ↔
    a.first + a.count = b.first ∧ 1 ≤ b.count ∧ Below 0 nb a.first (a.count + b.count) ∧ splitAt (a.count + b.count) = a.count := by
  simp only [siblings, isNode, Bool.and_eq_true, beq_iff_eq, decide_eq_true_eq, and_assoc]
  constructor
  · rintro ⟨adjacent, pos, node, split_⟩
    exact ⟨adjacent, pos, below_of_isNodeIn node, split_⟩
  · rintro ⟨adjacent, pos, node, split_⟩
    exact ⟨adjacent, pos, isNodeIn_of_below node (by omega) 39 (by omega), split_⟩

/-! ### The value of a node (R175) -/

/-- More fuel than the depth of the tree changes nothing. -/
theorem treeSum_fuel (leaf : Nat → F32) {k j f c : Nat} (deep : c ≤ 2 ^ k) (h : k ≤ j) : treeSum leaf j f c = treeSum leaf k f c := by
  induction k generalizing j f c with
  | zero => cases j with
    | zero => rfl
    | succ j =>
      rw [treeSum.eq_2, if_pos (by simpa using deep)]
      rfl
  | succ k ih =>
    obtain ⟨j, rfl⟩ : ∃ i, j = i + 1 := ⟨j - 1, by omega⟩
    rw [treeSum, treeSum]
    split
    · rfl
    · next wide =>
      have half := splitAt_le_two_pow (by omega) deep
      have balance := le_two_mul_splitAt (c := c) (by omega)
      simp only
      rw [ih half (by omega), ih (c := c - splitAt c) (by omega) (by omega)]

/-- The value of a node is the sum of its children's. -/
theorem treeSum_of_siblings (leaf : Nat → F32) {a b : Span} {nb : Nat} (hnb : nb ≤ 65536) (h : siblings a b nb = true) :
    treeSum leaf 20 a.first (a.count + b.count) = fadd (treeSum leaf 20 a.first a.count) (treeSum leaf 20 b.first b.count) := by
  obtain ⟨adjacent, pos, node, split_⟩ := (siblings_iff hnb).1 h
  have inside := node.within
  have posA := splitAt_pos (a.count + b.count)
  rw [treeSum, if_neg (by omega)]
  simp only [split_]
  have enough {f c : Nat} (deep : c ≤ 2 ^ 16) : treeSum leaf 19 f c = treeSum leaf 20 f c :=
    (treeSum_fuel leaf deep (by decide)).trans (treeSum_fuel leaf deep (by decide)).symm
  rw [adjacent, Nat.add_sub_cancel_left, enough (by omega), enough (by omega)]

/-! ### Levels of the ladder in core-local memory (R138) -/

/-- The bytes of a row of a ladder level. -/
def nodeRow (a : Acc) (v : Nat → Nat → F32) (i : Nat) : List Byte := (List.range a.cols).flatMap (fun j => leBytes 4 (v i j).toNat)

theorem length_nodeRow (a : Acc) (v : Nat → Nat → F32) (i : Nat) : (nodeRow a v i).length = 4 * a.cols := by
  simp [nodeRow, List.length_flatMap, Nat.mul_comm]

theorem putNode_clm (s : State) (c : Nat) (a : Acc) (l : Nat) (v : Nat → Nat → F32) :
    (putNode s c a l v).clm = (List.range a.rows).foldl (fun m i => cwrite m (clmKey c (a.at l i 0)) (nodeRow a v i)) s.clm :=
  (List.foldl_hom State.clm fun _ _ => rfl).symm

/-- Rows of the levels lie apart. -/
theorem level_rows_apart (a : Acc) {l k i j : Nat} (hi : i < a.rows) (hj : j < a.rows) (h : l ≠ k ∨ i ≠ j) :
    a.at l i 0 + a.stride ≤ a.at k j 0 ∨ a.at k j 0 + a.stride ≤ a.at l i 0 := by
  have order : ∀ {l k i j : Nat}, i < a.rows → (l < k ∨ l = k ∧ i < j) → a.at l i 0 + a.stride ≤ a.at k j 0 := by
    intro l k i j hi h
    have rows : l * a.rows + (i + 1) ≤ k * a.rows + j := by
      rcases h with h | ⟨rfl, h⟩
      · have : (l + 1) * a.rows ≤ k * a.rows := Nat.mul_le_mul_right _ h
        rw [Nat.succ_mul] at this
        omega
      · omega
    have := Nat.mul_le_mul_right a.stride rows
    simp only [Acc.at]
    nlinarith
  rcases Nat.lt_trichotomy l k with h1 | rfl | h1
  · exact .inl (order hi (.inl h1))
  · rcases Nat.lt_or_gt_of_ne (h.resolve_left (by simp)) with h2 | h2
    · exact .inl (order hi (.inr ⟨rfl, h2⟩))
    · exact .inr (order hj (.inr ⟨rfl, h2⟩))
  · exact .inr (order hj (.inl h1))

section Levels
variable (s : State) (c : Nat) (a : Acc) (v : Nat → Nat → F32) (wide : 4 * a.cols ≤ a.stride)
include wide

theorem getNode_putNode_same {l i j : Nat} (hi : i < a.rows) (hj : j < a.cols) : getNode (putNode s c a l v) c a l i j = v i j := by
  have place : clmKey c (a.at l i j) = clmKey c (a.at l i 0) + 4 * j := by simp [clmKey, Acc.at, Nat.add_assoc]
  have bytes : cread (putNode s c a l v).clm (clmKey c (a.at l i j)) 4 = leBytes 4 (v i j).toNat := by
    rw [putNode_clm, place, cread_foldl_cwrite_row (fun i => clmKey c (a.at l i 0)) (nodeRow a v) _ _ i (4 * j) 4 hi]
    · rw [nodeRow, take_drop_flatMap _ 4 (fun _ => length_leBytes 4 _) _ _ (by simpa using hj), List.getElem_range]
    · rw [length_nodeRow]
      omega
    · intro k hk other
      have := level_rows_apart a (l := l) (k := l) hi hk (.inr (Ne.symm other))
      simp only [length_nodeRow, clmKey]
      omega
  rw [getNode, bytes, leNat_leBytes]
  exact BitVec.eq_of_toNat_eq (by simpa using (v i j).isLt)

theorem getNode_putNode_other {l k i j : Nat} (hi : i < a.rows) (hj : j < a.cols) (h : k ≠ l) :
    getNode (putNode s c a l v) c a k i j = getNode s c a k i j := by
  have place : a.at k i j = a.at k i 0 + 4 * j := by simp [Acc.at]
  rw [getNode, getNode, putNode_clm, cread_foldl_cwrite_outside]
  intro r hr
  have := level_rows_apart a (l := k) (k := l) hi (List.mem_range.1 hr) (.inl h)
  simp only [length_nodeRow, clmKey, place]
  omega

end Levels

/-! ### Merges keep every entry at its tree value (R140, R175) -/

theorem ladderSound_nil (s : State) (c : Nat) (a : Acc) (leaf : Nat → Nat → Nat → F32) : LadderSound s c { a with ladder := [] } leaf := by
  intro l sp h
  simp at h

/-- The newest entry stands in the level above the others. -/
theorem ladderSound_cons (s : State) (c : Nat) (a : Acc) (sp : Span) (r : List Span) (leaf : Nat → Nat → Nat → F32) :
    LadderSound s c { a with ladder := sp :: r } leaf ↔ LadderSound s c { a with ladder := r } leaf ∧
      ∀ i j, i < a.rows → j < a.cols → getNode s c a r.length i j = treeSum (leaf i j) 20 sp.first sp.count := by
  simp only [LadderSound, List.reverse_cons]
  constructor
  · refine fun h => ⟨fun l sp' hl => h l sp' ?_, h r.length sp ?_⟩
    · rw [List.getElem?_append_left (List.getElem?_eq_some_iff.1 hl).1, hl]
    · rw [List.getElem?_append_right (by simp)]
      simp
  · rintro ⟨old, new⟩ l sp' hl
    rcases Nat.lt_or_ge l r.reverse.length with below | above
    · rw [List.getElem?_append_left below] at hl
      exact old l sp' hl
    · rw [List.getElem?_append_right above, List.getElem?_singleton] at hl
      split at hl
      · next top =>
        obtain rfl : l = r.length := by simp at top above; omega
        obtain rfl : sp = sp' := by simpa using hl
        exact new
      · cases hl

theorem ladderSound_putNode_above {s : State} {c : Nat} {a : Acc} {r : List Span} {leaf : Nat → Nat → Nat → F32}
    (sound : LadderSound s c { a with ladder := r } leaf) (wide : 4 * a.cols ≤ a.stride) (l : Nat) (above : r.length ≤ l) (v : Nat → Nat → F32) :
    LadderSound (putNode s c a l v) c { a with ladder := r } leaf := by
  intro k sp hk i j hi hj
  have below : k < r.length := by simpa using (List.getElem?_eq_some_iff.1 hk).1
  exact (getNode_putNode_other s c a v wide hi hj (by omega)).trans (sound k sp hk i j hi hj)

/-- A node that holds its tree value, written above the others, is a sound entry. -/
theorem ladderSound_push {s : State} {c : Nat} {a : Acc} {r : List Span} {leaf : Nat → Nat → Nat → F32}
    (sound : LadderSound s c { a with ladder := r } leaf) (wide : 4 * a.cols ≤ a.stride) {sp : Span} {v : Nat → Nat → F32}
    (value : ∀ i j, i < a.rows → j < a.cols → v i j = treeSum (leaf i j) 20 sp.first sp.count) :
    LadderSound (putNode s c a r.length v) c { a with ladder := sp :: r } leaf :=
  (ladderSound_cons _ c a sp r leaf).2 ⟨ladderSound_putNode_above sound wide _ le_rfl v, fun i j hi hj =>
    (getNode_putNode_same s c a v wide hi hj).trans (value i j hi hj)⟩

/-- What a merge of the top two entries `t` and `u` writes: their sum, older on the left. -/
theorem mergeTop_of_siblings (k : Nat) (s : State) (c : Nat) {a : Acc} {t u : Span} {r : List Span} (top : a.ladder = t :: u :: r)
    (h : siblings u t a.nb = true) : mergeTop (k + 1) s c a =
      mergeTop k (putNode s c a r.length (fun i j => fadd (getNode s c a r.length i j) (getNode s c a (r.length + 1) i j))) c
        { a with ladder := ⟨u.first, u.count + t.count⟩ :: r } := by
  rw [mergeTop, top]
  simp only [h, if_true]

theorem mergeTop_of_not_siblings (k : Nat) (s : State) (c : Nat) {a : Acc} {t u : Span} {r : List Span} (top : a.ladder = t :: u :: r)
    (h : siblings u t a.nb = false) : mergeTop (k + 1) s c a = (a, s) := by
  rw [mergeTop, top]
  simp [h]

theorem mergeTop_of_short (k : Nat) (s : State) (c : Nat) {a : Acc} (short : a.ladder.length ≤ 1) : mergeTop k s c a = (a, s) := by
  cases k with
  | zero => rfl
  | succ k =>
    rw [mergeTop]
    split
    · next top => simp [top] at short
    · rfl

theorem mergeTop_sound (k : Nat) (s : State) (c : Nat) (a : Acc) (leaf : Nat → Nat → Nat → F32) (wide : 4 * a.cols ≤ a.stride)
    (hnb : a.nb ≤ 65536) (sound : LadderSound s c a leaf) :
    (mergeTop k s c a).1 = { a with ladder := (mergeTop k s c a).1.ladder } ∧ LadderSound (mergeTop k s c a).2 c (mergeTop k s c a).1 leaf := by
  induction k generalizing s a with
  | zero => exact ⟨rfl, sound⟩
  | succ k ih =>
    rcases Nat.lt_or_ge 1 a.ladder.length with long | short
    · obtain ⟨t, u, r, top⟩ : ∃ t u r, a.ladder = t :: u :: r := by
        rcases h : a.ladder with _ | ⟨t, _ | ⟨u, r⟩⟩
        · simp [h] at long
        · simp [h] at long
        · exact ⟨t, u, r, rfl⟩
      cases h : siblings u t a.nb with
      | false => rw [mergeTop_of_not_siblings k s c top h]; exact ⟨rfl, sound⟩
      | true =>
        rw [mergeTop_of_siblings k s c top h]
        have entries : LadderSound s c { a with ladder := t :: u :: r } leaf := by rw [← top]; exact sound
        obtain ⟨entries, valueT⟩ := (ladderSound_cons s c a t (u :: r) leaf).1 entries
        obtain ⟨entries, valueU⟩ := (ladderSound_cons s c a u r leaf).1 entries
        refine ih _ { a with ladder := ⟨u.first, u.count + t.count⟩ :: r } wide hnb (ladderSound_push entries wide fun i j hi hj => ?_)
        rw [valueU i j hi hj, ← List.length_cons (a := u), valueT i j hi hj, treeSum_of_siblings (leaf i j) hnb h]
    · rw [mergeTop_of_short _ s c short]
      exact ⟨rfl, sound⟩

/-- The merged accumulator stands in the core's table. -/
theorem pushNode_acc (s : State) (c i : Nat) (a : Acc) (sp : Span) (v : Nat → Nat → F32) :
    tget none ((pushNode s c i a sp v).core c).acc i =
      some (mergeTop 20 (putNode s c a a.ladder.length v) c { a with ladder := sp :: a.ladder }).1 := by
  simp [pushNode]

theorem pushNode_sound {s : State} {c i : Nat} {a : Acc} {sp : Span} {v : Nat → Nat → F32} {leaf : Nat → Nat → Nat → F32}
    (wide : 4 * a.cols ≤ a.stride) (hnb : a.nb ≤ 65536) (sound : LadderSound s c a leaf)
    (value : ∀ y z, y < a.rows → z < a.cols → v y z = treeSum (leaf y z) 20 sp.first sp.count) :
    ∃ b, tget none ((pushNode s c i a sp v).core c).acc i = some b ∧ b = { a with ladder := b.ladder } ∧ LadderSound (pushNode s c i a sp v) c b leaf :=
  have merged := mergeTop_sound 20 (putNode s c a a.ladder.length v) c { a with ladder := sp :: a.ladder } leaf wide hnb
    (ladderSound_push (a := a) sound wide value)
  ⟨_, pushNode_acc s c i a sp v, merged.1, merged.2⟩

/-! ### The nodes that cover the first blocks (R140, R176) -/

/-- Spans, newest first, that cover the blocks from `lo` to `hi`. -/
def Tiles (lo : Nat) : Nat → List Span → Prop
  | hi, [] => lo = hi
  | hi, t :: r => 1 ≤ t.count ∧ t.first + t.count = hi ∧ Tiles lo t.first r

theorem Tiles.le {lo hi : Nat} {l : List Span} (h : Tiles lo hi l) : lo ≤ hi := by
  induction l generalizing hi with
  | nil => exact Nat.le_of_eq h
  | cons t r ih =>
    obtain ⟨pos, stop, rest⟩ := h
    have := ih rest
    omega

theorem Tiles.mem {lo hi : Nat} {l : List Span} (h : Tiles lo hi l) {t : Span} (ht : t ∈ l) : 1 ≤ t.count ∧ lo ≤ t.first ∧ t.first + t.count ≤ hi := by
  induction l generalizing hi with
  | nil => cases ht
  | cons u r ih =>
    obtain ⟨pos, stop, rest⟩ := h
    rcases List.mem_cons.1 ht with rfl | ht
    · exact ⟨pos, rest.le, stop.le⟩
    · obtain ⟨a, b, c⟩ := ih rest ht
      exact ⟨a, b, by omega⟩

theorem Tiles.eq_nil {lo : Nat} {l : List Span} (h : Tiles lo lo l) : l = [] := by
  cases l with
  | nil => rfl
  | cons t r =>
    have := h.mem (t := t) List.mem_cons_self
    omega

/-- Only one span covers its own blocks. -/
theorem Tiles.eq_singleton {lo hi : Nat} {l : List Span} (h : Tiles lo hi l) {t : Span} (ht : t ∈ l) (hlo : t.first = lo) (hhi : hi ≤ t.first + t.count) :
    l = [t] := by
  cases l with
  | nil => cases ht
  | cons u r =>
    obtain ⟨pos, stop, rest⟩ := h
    rcases List.mem_cons.1 ht with rfl | ht
    · rw [hlo] at rest
      rw [rest.eq_nil]
    · have := rest.mem ht
      omega

/-- Spans none of which crosses `x` part there. -/
theorem Tiles.split {lo hi x : Nat} {l : List Span} (h : Tiles lo hi l) (hlo : lo ≤ x) (hhi : x ≤ hi)
    (apart : ∀ t ∈ l, t.first + t.count ≤ x ∨ x ≤ t.first) : ∃ r m, l = r ++ m ∧ Tiles lo x m ∧ Tiles x hi r := by
  induction l generalizing hi with
  | nil =>
    obtain rfl : lo = hi := h
    obtain rfl : x = lo := by omega
    exact ⟨[], [], rfl, rfl, rfl⟩
  | cons t l ih =>
    by_cases stop : x = hi
    · subst stop
      exact ⟨[], t :: l, rfl, h, rfl⟩
    · obtain ⟨pos, last, rest⟩ := h
      have right : x ≤ t.first := by
        rcases apart t List.mem_cons_self with le | le <;> omega
      obtain ⟨r, m, rfl, left, new⟩ := ih rest right fun u hu => apart u (List.mem_cons_of_mem t hu)
      exact ⟨t :: r, m, rfl, left, pos, last, new⟩

/-- No two neighbours of a ladder, newest first, are siblings. -/
def Settled (nb : Nat) (l : List Span) : Prop := l.IsChain fun t u => siblings u t nb = false

/-- The most entries of the ladder of a tree of `n` blocks after a push: floor_log2(n − 1) + 1, one where `n` is 1. -/
def ladderBound (n : Nat) : Nat := if n = 1 then 1 else Nat.log2 (n - 1) + 1

theorem ladderBound_pos (n : Nat) : 1 ≤ ladderBound n := by
  unfold ladderBound
  split <;> omega

theorem ladderBound_mono {m n : Nat} (pos : 1 ≤ m) (h : m ≤ n) : ladderBound m ≤ ladderBound n := by
  unfold ladderBound
  split
  · split <;> omega
  · rw [if_neg (by omega), Nat.log2_eq_log_two, Nat.log2_eq_log_two]
    have := Nat.log_mono_right (b := 2) (show m - 1 ≤ n - 1 by omega)
    omega

theorem ladderBound_le {n : Nat} (h : n ≤ 65536) : ladderBound n ≤ 16 := by
  rcases Nat.eq_zero_or_pos n with rfl | pos
  · decide
  · exact (ladderBound_mono pos h).trans (by decide)

/-- A right child that is not whole leaves room for the entry of the left child. -/
theorem ladderBound_right {n : Nat} (h : 2 ≤ n) (wide : 2 ≤ n - splitAt n) : ladderBound (n - splitAt n) + 1 ≤ ladderBound n := by
  have balance := le_two_mul_splitAt h
  have less : (n - splitAt n - 1).log2 < (n - 1).log2 := (Nat.log2_lt (by omega)).2 (by unfold splitAt at *; omega)
  rw [ladderBound, ladderBound, if_neg (by omega), if_neg (by omega)]
  omega

/-- Nodes of a tree that cover its first blocks, no two neighbours siblings: there are few of them, and where they cover the tree its root is the
only one. Those inside the left child cover all of it only as the child itself; then the right child is not covered by one. -/
theorem few_of_settled {nb : Nat} (hnb : nb ≤ 65536) {nf nc p : Nat} {l : List Span} (root : Below 0 nb nf nc) (pos : 1 ≤ nc) (tiles : Tiles nf p l)
    (top : p ≤ nf + nc) (nodes : ∀ t ∈ l, Below nf nc t.first t.count) (settled : Settled nb l) :
    l.length ≤ ladderBound nc ∧ (p = nf + nc → l = [⟨nf, nc⟩]) := by
  induction nc using Nat.strong_induction_on generalizing nf p l with
  | _ nc ih =>
    by_cases whole : (⟨nf, nc⟩ : Span) ∈ l
    · rw [tiles.eq_singleton whole rfl top]
      exact ⟨ladderBound_pos nc, fun _ => rfl⟩
    by_cases one : nc = 1
    · subst one
      have none_ : l = [] := List.eq_nil_iff_forall_not_mem.2 fun t ht => by
        obtain ⟨first, count⟩ := (nodes t ht).eq_of_one
        exact whole (by rw [← first, ← count]; exact ht)
      subst none_
      obtain rfl : nf = p := tiles
      exact ⟨Nat.zero_le _, fun h => by omega⟩
    have wide : 2 ≤ nc := by omega
    have less := splitAt_lt wide
    have posSplit := splitAt_pos nc
    have child (t : Span) (ht : t ∈ l) : Below nf (splitAt nc) t.first t.count ∨ Below (nf + splitAt nc) (nc - splitAt nc) t.first t.count := by
      have node := nodes t ht
      generalize hf : t.first = f at node
      generalize hc : t.count = c at node
      cases node with
      | self => exact absurd (by rw [← hf, ← hc]; exact ht) whole
      | left _ h => exact .inl h
      | right _ h => exact .inr h
    rcases Nat.lt_or_ge (nf + splitAt nc) p with beyond | inside
    · obtain ⟨r, m, rfl, tilesM, tilesR⟩ := tiles.split (x := nf + splitAt nc) (by omega) beyond.le fun t ht => by
        rcases child t ht with h | h <;> have := h.within <;> omega
      have left (t) (ht : t ∈ m) : Below nf (splitAt nc) t.first t.count :=
        (child t (List.mem_append_right r ht)).resolve_right fun h => by have := h.within; have := tilesM.mem ht; omega
      have right (t) (ht : t ∈ r) : Below (nf + splitAt nc) (nc - splitAt nc) t.first t.count :=
        (child t (List.mem_append_left m ht)).resolve_left fun h => by have := h.within; have := tilesR.mem ht; omega
      obtain ⟨settledR, settledM, between⟩ := List.isChain_append.1 settled
      obtain ⟨-, wholeM⟩ := ih (splitAt nc) less (root.trans (.left wide (.self _ _))) posSplit tilesM le_rfl left settledM
      obtain ⟨fewR, wholeR⟩ := ih (nc - splitAt nc) (by omega) (root.trans (.right wide (.self _ _))) (by omega) tilesR (by omega) right settledR
      have leftOne := wholeM rfl
      have open_ : p ≠ nf + splitAt nc + (nc - splitAt nc) := by
        intro full
        have rightOne := wholeR full
        subst leftOne rightOne
        have apart := between ⟨nf + splitAt nc, nc - splitAt nc⟩ rfl ⟨nf, splitAt nc⟩ rfl
        have pair : siblings ⟨nf, splitAt nc⟩ ⟨nf + splitAt nc, nc - splitAt nc⟩ nb = true := by
          rw [siblings_iff hnb]
          simp only [Nat.add_sub_cancel' less.le]
          exact ⟨trivial, by omega, root, trivial⟩
        rw [pair] at apart
        cases apart
      have room := ladderBound_right wide (by omega)
      subst leftOne
      exact ⟨by rw [List.length_append]; exact (Nat.succ_le_succ fewR).trans room, fun full => absurd full (by omega)⟩
    · have left (t) (ht : t ∈ l) : Below nf (splitAt nc) t.first t.count :=
        (child t ht).resolve_right fun h => by have := h.within; have := tiles.mem ht; omega
      obtain ⟨few, -⟩ := ih (splitAt nc) less (root.trans (.left wide (.self _ _))) posSplit tiles inside left settled
      exact ⟨few.trans (ladderBound_mono posSplit less.le), fun full => by omega⟩

/-! ### The ladder under pushes -/

/-- The entries are nodes of the tree of `nb` blocks and cover its first ones. -/
structure Covers (nb : Nat) (l : List Span) : Prop where
  tiles : ∃ p, p ≤ nb ∧ Tiles 0 p l
  nodes : ∀ t ∈ l, Below 0 nb t.first t.count

theorem Covers.few {nb : Nat} {l : List Span} (h : Covers nb l) (settled : Settled nb l) (pos : 1 ≤ nb) (hnb : nb ≤ 65536) :
    l.length ≤ ladderBound nb ∧ (∀ t r, l = t :: r → t.first + t.count = nb → r = [] ∧ t.first = 0) := by
  obtain ⟨⟨p, top, tiles⟩, nodes⟩ := h
  obtain ⟨few, whole⟩ := few_of_settled hnb (.self 0 nb) pos tiles (by omega) nodes settled
  refine ⟨few, ?_⟩
  rintro t r rfl last
  obtain ⟨-, stop, -⟩ := tiles
  have one := whole (by omega)
  simp only [List.cons.injEq] at one
  obtain ⟨rfl, rfl⟩ := one
  exact ⟨rfl, rfl⟩

/-- Merges leave a ladder that covers the same blocks with no two neighbours siblings. -/
theorem mergeTop_settles (k : Nat) (s : State) (c : Nat) (a : Acc) (hnb : a.nb ≤ 65536) (nonempty : a.ladder ≠ []) (covers : Covers a.nb a.ladder)
    (settled : Settled a.nb a.ladder.tail) (fuel : a.ladder.length ≤ k + 1) :
    (mergeTop k s c a).1.nb = a.nb ∧ (mergeTop k s c a).1.ladder ≠ [] ∧ Covers a.nb (mergeTop k s c a).1.ladder ∧
      Settled a.nb (mergeTop k s c a).1.ladder := by
  induction k generalizing s a with
  | zero =>
    obtain ⟨t, r, top⟩ := List.exists_cons_of_ne_nil nonempty
    obtain rfl : r = [] := by simpa [top] using fuel
    exact ⟨rfl, nonempty, covers, by rw [mergeTop, top]; exact .singleton _⟩
  | succ k ih =>
    obtain ⟨t, r, top⟩ := List.exists_cons_of_ne_nil nonempty
    cases r with
    | nil =>
      rw [mergeTop_of_short _ s c (by simp [top])]
      exact ⟨rfl, nonempty, covers, by rw [top]; exact .singleton _⟩
    | cons u r =>
      cases h : siblings u t a.nb with
      | false =>
        rw [mergeTop_of_not_siblings k s c top h]
        rw [top, List.tail_cons] at settled
        exact ⟨rfl, nonempty, covers, by rw [top]; exact .cons_cons h settled⟩
      | true =>
        rw [mergeTop_of_siblings k s c top h]
        obtain ⟨adjacent, pos, node, -⟩ := (siblings_iff hnb).1 h
        obtain ⟨⟨p, within, tiles⟩, nodes⟩ := covers
        rw [top] at tiles nodes settled fuel
        obtain ⟨-, stop, posU, stopU, rest⟩ := tiles
        refine ih _ { a with ladder := ⟨u.first, u.count + t.count⟩ :: r } hnb (by simp) ⟨⟨p, within, ?_⟩, ?_⟩ ?_ (by simpa using fuel)
        · exact ⟨by simp only; omega, by simp only; omega, rest⟩
        · intro w hw
          rcases List.mem_cons.1 hw with rfl | old
          · exact node
          · exact nodes w (List.mem_cons_of_mem _ (List.mem_cons_of_mem _ old))
        · exact List.IsChain.tail (l := u :: r) settled

/-- A push that does not trap, from block 0 on, and its merges. -/
theorem mergeTop_push {k : Nat} {s : State} {c : Nat} {a : Acc} {sp : Span} (pos : 1 ≤ a.nb) (hnb : a.nb ≤ 65536) (may : mayPush a sp = true)
    (start : a.ladder = [] → sp.first = 0) (covers : Covers a.nb a.ladder) (settled : Settled a.nb a.ladder) (fuel : 16 ≤ k) :
    (mergeTop k s c { a with ladder := sp :: a.ladder }).1.nb = a.nb ∧ (mergeTop k s c { a with ladder := sp :: a.ladder }).1.ladder ≠ [] ∧
      Covers a.nb (mergeTop k s c { a with ladder := sp :: a.ladder }).1.ladder ∧
      Settled a.nb (mergeTop k s c { a with ladder := sp :: a.ladder }).1.ladder := by
  have few := (covers.few settled pos hnb).1.trans (ladderBound_le hnb)
  simp only [mayPush, Bool.and_eq_true, decide_eq_true_eq] at may
  obtain ⟨⟨⟨count, node⟩, -⟩, next⟩ := may
  have below := below_of_isNodeIn node
  obtain ⟨⟨p, within, tiles⟩, nodes⟩ := covers
  have meets : p = sp.first := by
    cases ladder : a.ladder with
    | nil =>
      rw [ladder] at tiles
      rw [start ladder]
      exact Eq.symm tiles
    | cons t r =>
      rw [ladder] at tiles next
      obtain ⟨-, stop, -⟩ := tiles
      have : t.first + t.count = sp.first := by simpa using next
      omega
  refine mergeTop_settles k s c { a with ladder := sp :: a.ladder } hnb (by simp) ⟨⟨sp.first + sp.count, ?_, count, rfl, meets ▸ tiles⟩, ?_⟩ settled ?_
  · have := below.within
    simp only
    omega
  · intro t ht
    rcases List.mem_cons.1 ht with rfl | old
    · exact below
    · exact nodes t old
  · simp only [List.length_cons]
    omega

theorem pushes_few {c i : Nat} {ps : List (Span × (Nat → Nat → F32))} {s t : State} {a b : Acc} (old : tget none (s.core c).acc i = some a)
    (pos : 1 ≤ a.nb) (hnb : a.nb ≤ 65536) (start : a.ladder = [] → ∀ p r, ps = p :: r → p.1.first = 0) (covers : Covers a.nb a.ladder)
    (settled : Settled a.nb a.ladder) (run : Pushes c i s ps t) (new : tget none (t.core c).acc i = some b) :
    b.ladder.length ≤ ladderBound a.nb ∧ b.nb = a.nb ∧ (∀ top rest, b.ladder = top :: rest → top.first + top.count = a.nb → rest = [] ∧ top.first = 0) := by
  induction ps generalizing s a with
  | nil =>
    obtain rfl : t = s := run
    obtain rfl : a = b := by simpa [old] using new
    exact ⟨(covers.few settled pos hnb).1, rfl, (covers.few settled pos hnb).2⟩
  | cons p ps ih =>
    obtain ⟨a', same, may, rest⟩ := run
    obtain rfl : a = a' := by simpa [old] using same
    obtain ⟨nb, nonempty, covers', settled'⟩ := mergeTop_push (k := 20) (s := putNode s c a a.ladder.length p.2) (c := c) pos hnb may
      (fun empty => start empty p ps rfl) covers settled (by decide)
    have := ih (pushNode_acc s c i a p.1 p.2) (by rwa [nb]) (by rwa [nb]) (fun empty => absurd empty nonempty) (by rwa [nb]) (by rwa [nb]) rest
    rwa [nb] at this

/-! ### The obligation -/

/-- Settles O56: a push and each merge write a node's tree value into the level above the others and leave every other level; between pushes the
entries are nodes no two neighbours of which are siblings, so that few cover the first blocks and the root alone covers all of them. -/
theorem ladderTree : Obligations.LadderTree := by
  unfold Obligations.LadderTree
  refine ⟨fun s c i a sp v leaf wide hnb sound _ value => pushNode_sound wide hnb sound value,
    fun s t c i a b ps old empty pos hnb start run new => ?_⟩
  have := pushes_few old pos hnb (fun _ => start) (by rw [empty]; exact ⟨⟨0, Nat.zero_le _, rfl⟩, by simp⟩) (by rw [empty]; exact .nil) run new
  exact this

end Sys2Proof.Proofs

/-!
SUPPORT. Control instructions of a core (R122, R128 to R130): what a core that issues runs, what one step of it leaves, and the obligations
StepRunsFront, ScalarResults, ScalarMemory and ControlFlow.
-/
namespace Sys2Proof.Proofs
open Sys2Proof.Machine Sys2Proof.Laws

/-- Settles O1: a step is `exec` of the front command by definition, and the queue decides (log 1). -/
theorem stepRunsFront : Obligations.StepRunsFront := by
  unfold Obligations.StepRunsFront
  refine ⟨fun s c rest => rfl, fun s empty => ?_⟩
  rw [step, empty]

/-! ### A core that issues -/

section Control
variable {s : State} {c : Nat} {x : Core} {g : Group} (issues : Issues s c x g)
include issues

theorem issuing_of_issues : issuing s c = some (x, g) := by
  obtain ⟨hx, run, group, live, -⟩ := issues
  simp [issuing, hx, run, group, live]

/-- A legal control instruction has its effect. -/
theorem control_of_issues {op : Nat} {legal : Bool} {f : Core → Group → State} (ok : legal = true) : control s c op legal f = f x g := by
  have inside : ¬ g.codeLen ≤ x.pc := by
    obtain ⟨-, -, -, -, fetched⟩ := issues
    omega
  simp [Machine.control, issuing_of_issues issues, inside, ok]

end Control

/-! ### What a control instruction leaves -/

theorem sreg_setSreg (x : Core) (sd : Nat) (v : Word) (k : Nat) : (x.setSreg sd v).sreg k = if k ≠ 0 ∧ k = sd then v else x.sreg k := by
  by_cases zero : sd = 0
  · subst zero
    simp [Core.setSreg, and_comm]
  · by_cases h : k = sd
    · subst h
      simp [Core.setSreg, Core.sreg, zero]
    · simp [Core.setSreg, Core.sreg, zero, h, tget_tput_other]

theorem setSreg_rest (x : Core) (sd : Nat) (v : Word) (pc : Nat) :
    { { x.setSreg sd v with pc := pc } with s := x.s, pc := x.pc } = x := by
  unfold Core.setSreg
  split <;> rfl

theorem bump_sameBut (s : State) (off n : Nat) : SameBut [.ctr] s (bump s off n) := by
  intro p hp
  cases p with
  | ctr => simp at hp
  | _ => rfl

theorem setCore_sameBut (s : State) (c : Nat) (x : Core) : SameBut [.cores] s (s.setCore c x) := by
  intro p hp
  cases p with
  | cores => simp at hp
  | _ => rfl

/-- The core `c` of `s1` takes the value `y`, and the retired instruction is counted. -/
def stepTo (s1 : State) (c : Nat) (y : Core) : State := retire (s1.setCore c y) c

theorem stepTo_core_same (s1 : State) (c : Nat) (y : Core) : (stepTo s1 c y).core c = y := setCore_same s1 c y

theorem stepTo_core_other (s1 : State) (c : Nat) (y : Core) (d : Nat) (h : d ≠ c) : (stepTo s1 c y).core d = s1.core d := setCore_other s1 c y d h

theorem stepTo_sameBut {s s1 : State} {more : List Part} (same : SameBut more s s1) (c : Nat) (y : Core) :
    SameBut ([.cores, .ctr] ++ more) s (stepTo s1 c y) :=
  same_mono (same_trans same (same_trans (setCore_sameBut s1 c y) (bump_sameBut _ _ _))) (by simp; tauto)

/-- One control instruction that writes `sd` and goes to `pc`. -/
theorem coreStepped_stepTo {s s1 : State} {c : Nat} {x : Core} {more : List Part} (same : SameBut more s s1)
    (cores : s1.cores = s.cores) (sd : Nat) (v : Word) (pc : Nat) :
    CoreStepped s (stepTo s1 c { x.setSreg sd v with pc := pc }) c x sd v pc more := by
  refine ⟨fun k => ?_, ?_, ?_, fun d hd => ?_, stepTo_sameBut same c _⟩
  · rw [stepTo_core_same]
    exact sreg_setSreg x sd v k
  · rw [stepTo_core_same]
  · rw [stepTo_core_same]
    exact setSreg_rest x sd v pc
  · rw [stepTo_core_other _ _ _ _ hd, State.core, cores, ← State.core]

section Steps
variable {s : State} {c : Fin 192} {w : BitVec 26} {x : Core} {g : Group} (issues : Issues s c.val x g)
include issues

/-- An instruction that is a legal control instruction which only writes `sd`. -/
theorem steps_of_writeSd {i : Instr} {op sd : Nat} {legal : Bool} {f : Core → Group → Word} (ok : legal = true)
    (answer : exec i s = .next (control s c op legal fun x g => writeSd s c sd x (f x g))) {v : Word} (value : f x g = v) :
    ∃ t, exec i s = .next t ∧ CoreStepped s t c.val x sd v (x.pc + 4) := by
  refine ⟨_, answer, ?_⟩
  rw [control_of_issues issues ok, value]
  exact coreStepped_stepTo (same_refl s []) rfl _ _ _

/-- An instruction that is a legal control instruction which writes `sd` and goes to some place. -/
theorem steps_of_jump {i : Instr} {op sd : Nat} {f : Core → Group → Word} {target : Core → Group → Nat}
    (answer : exec i s = .next (control s c op true fun x g => stepTo s c { x.setSreg sd (f x g) with pc := target x g })) {pc : Nat}
    (place : target x g = pc) : ∃ t, exec i s = .next t ∧ CoreStepped s t c.val x sd (f x g) pc := by
  refine ⟨_, answer, ?_⟩
  rw [control_of_issues issues rfl, place]
  exact coreStepped_stepTo (same_refl s []) rfl _ _ _

end Steps

/-! ### Results (R128) -/

theorem shiftLeft_eq_ofNat (a : Word) (n : Nat) : a <<< n = BitVec.ofNat 64 (a.toNat * 2 ^ n) := by
  apply BitVec.eq_of_toNat_eq
  simp [Nat.shiftLeft_eq]

theorem ushiftRight_eq_ofNat (a : Word) (n : Nat) : a >>> n = BitVec.ofNat 64 (a.toNat / 2 ^ n) := by
  apply BitVec.eq_of_toNat_eq
  rw [BitVec.toNat_ushiftRight, Nat.shiftRight_eq_div_pow, BitVec.toNat_ofNat,
    Nat.mod_eq_of_lt (lt_of_le_of_lt (Nat.div_le_self _ _) a.isLt)]

theorem sshiftRight_eq_ofInt (a : Word) (n : Nat) : a.sshiftRight n = BitVec.ofInt 64 (a.toInt / 2 ^ n) := by
  rw [BitVec.sshiftRight, Int.shiftRight_eq_div_pow]
  norm_cast

theorem slt_ite (a b : Word) : (if a.slt b then 1 else 0 : Word) = if a.toInt < b.toInt then 1 else 0 := by simp [BitVec.slt]

theorem ult_ite (a b : Word) : (if a.ult b then 1 else 0 : Word) = if a.toNat < b.toNat then 1 else 0 := by simp [BitVec.ult]

theorem immZ_eq (w : BitVec 26) : immZ w = BitVec.ofNat 64 (wImm w).toNat := by simp [immZ, BitVec.ofNat_toNat]

theorem immS_toInt (w : BitVec 26) : (immS w).toInt = (wImm w).toInt := BitVec.toInt_signExtend_of_le (by decide)

/-- MOVK replaces 16 bits. -/
theorem setBits_half (x : Word) (h : Nat) (v : BitVec 16) :
    setBits x (16 * h + 15) (16 * h) v.toNat =
      BitVec.ofNat 64 (x.toNat / 2 ^ (16 * h + 16) * 2 ^ (16 * h + 16) + v.toNat * 2 ^ (16 * h) + x.toNat % 2 ^ (16 * h)) := by
  have width : 16 * h + 15 + 1 - 16 * h = 16 := by omega
  have small : v.toNat % 2 ^ 16 = v.toNat := Nat.mod_eq_of_lt v.isLt
  have parts : x.toNat = x.toNat / 2 ^ (16 * h) / 2 ^ 16 * 2 ^ 16 * 2 ^ (16 * h) + x.toNat / 2 ^ (16 * h) % 2 ^ 16 * 2 ^ (16 * h) + x.toNat % 2 ^ (16 * h) := by
    rw [← Nat.add_mul, Nat.div_add_mod', Nat.div_add_mod']
  rw [setBits, bits, width, small, Nat.pow_add, ← Nat.div_div_eq_div_mul]
  congr 1
  rw [Nat.mul_comm (2 ^ (16 * h)) (2 ^ 16), ← Nat.mul_assoc]
  omega

/-- Settles O2: each row is a legal control instruction whose value is the one of the table. -/
theorem scalarResults : Obligations.ScalarResults := by
  unfold Obligations.ScalarResults
  refine ⟨fun s c w x g issues zero => ?_, fun s c w x g issues => ?_⟩
  · have legal : (bits w.toNat 10 0 == 0) = true := by simp [zero]
    simp only [List.forall_mem_cons, List.not_mem_nil, IsEmpty.forall_iff, implies_true, and_true]
    refine ⟨steps_of_writeSd issues legal rfl ?_, steps_of_writeSd issues legal rfl ?_, steps_of_writeSd issues legal rfl rfl,
      steps_of_writeSd issues legal rfl rfl, steps_of_writeSd issues legal rfl rfl, steps_of_writeSd issues legal rfl (shiftLeft_eq_ofNat _ _),
      steps_of_writeSd issues legal rfl (ushiftRight_eq_ofNat _ _), steps_of_writeSd issues legal rfl (sshiftRight_eq_ofInt _ _),
      steps_of_writeSd issues legal rfl (slt_ite _ _), steps_of_writeSd issues legal rfl (ult_ite _ _), steps_of_writeSd issues legal rfl ?_,
      steps_of_writeSd issues legal rfl rfl, steps_of_writeSd issues legal rfl rfl, steps_of_writeSd issues legal rfl rfl⟩
    · exact BitVec.eq_of_toNat_eq (by simp)
    · exact BitVec.eq_of_toInt_eq (by simp)
    · exact BitVec.eq_of_toNat_eq (by simp)
  · simp only [List.forall_mem_cons, List.not_mem_nil, IsEmpty.forall_iff, implies_true, and_true, beq_iff_eq]
    refine ⟨fun _ => steps_of_writeSd issues rfl rfl ?_, fun _ => steps_of_writeSd issues rfl rfl ?_, fun _ => steps_of_writeSd issues rfl rfl ?_,
      fun _ => steps_of_writeSd issues rfl rfl ?_, fun zero => steps_of_writeSd issues (by simp [zero]) rfl (shiftLeft_eq_ofNat _ _),
      fun zero => steps_of_writeSd issues (by simp [zero]) rfl (ushiftRight_eq_ofNat _ _),
      fun zero => steps_of_writeSd issues (by simp [zero]) rfl (sshiftRight_eq_ofInt _ _), fun _ => steps_of_writeSd issues rfl rfl ?_,
      fun zero => steps_of_writeSd issues (by simp [zero]) rfl ?_, fun zero => steps_of_writeSd issues (by simp [zero]) rfl (setBits_half _ _ _)⟩
    · exact BitVec.eq_of_toInt_eq (by simp [immS_toInt])
    · rw [immZ_eq]
    · rw [immZ_eq]
    · rw [immZ_eq]
    · exact (slt_ite _ _).trans (by rw [immS_toInt])
    · rw [shiftLeft_eq_ofNat, immZ_eq]
      exact BitVec.eq_of_toNat_eq (by simp)

/-! ### Core-local memory (R124, R130, R135, R352) -/

/-- A range with no error is read as it stands. -/
theorem memCheck_of_clean {s : State} {g : Group} {c space a len : Nat} (clean : spaceChk s g c space a len = []) :
    memCheck s g c space a len = (none, s) := by
  rw [memCheck, clean]
  rfl

section Memory
variable {s : State} {c : Fin 192} {w : BitVec 26} {x : Core} {g : Group} {a len : Nat} (issues : Issues s c.val x g)
  (place : (x.sreg (wSa w) + immS w).toNat = a) (aligned : a % len = 0) (inside : a + len ≤ 0x80000)
include issues place aligned inside

/-- An access that is aligned, in range and not held has its effect. -/
theorem clmAccess_of_ready {op : Nat} {store : Bool} {f : Core → Nat → State} (ready : clmBusy x a len store = false) :
    clmAccess s c op w len store f = f x a := by
  rw [clmAccess, control_of_issues issues rfl]
  have low : ¬ 0x80000 < a + len := by omega
  simp [place, aligned, low, ready]

omit place aligned inside in
theorem clmFault_of_clean (clean : spaceChk s g c.val 0 a len = []) : clmFault s c.val a len = (false, s) := by
  obtain ⟨hx, -, group, -, -⟩ := issues
  simp only [clmFault, hx, group, memCheck_of_clean clean]

/-- A scalar load. -/
theorem loads_of_clean {i : Instr} {op : Nat} (answer : exec i s = .next (loadClm s c op w len)) (ready : clmBusy x a len false = false)
    (clean : spaceChk s g c.val 0 a len = []) : ∃ t, exec i s = .next t ∧
      CoreStepped s t c.val x (wSd w) (BitVec.ofNat 64 (leNat (cread s.clm (clmKey c.val a) len))) (x.pc + 4) := by
  refine ⟨_, answer, ?_⟩
  rw [loadClm, clmAccess_of_ready issues place aligned inside ready]
  simp only [clmFault_of_clean issues clean]
  exact coreStepped_stepTo (same_refl s []) rfl _ _ _

end Memory

/-- The state with the low bytes of a number in core-local memory. -/
def stored (s : State) (c a len v : Nat) : State :=
  { s with clm := cwrite s.clm (clmKey c a) (leBytes len v), clmChk := byteWritten s.clmChk (clmKey c a) len }

theorem stored_sameBut (s : State) (c a len v : Nat) : SameBut [.clm, .clmChk] s (stored s c a len v) := by
  intro p hp
  cases p with
  | clm => simp at hp
  | clmChk => simp at hp
  | _ => rfl

theorem getD_leBytes (n v i : Nat) (h : i < n) : (leBytes n v).getD i 0 = BitVec.ofNat 8 (v / 256 ^ i) := by
  induction n generalizing v i with
  | zero => omega
  | succ n ih =>
    cases i with
    | zero => simp [leBytes]
    | succ i => rw [leBytes, List.getD_cons_succ, ih _ _ (by omega), Nat.div_div_eq_div_mul, Nat.pow_succ']

/-- What was written under the byte code is free of errors (R352). -/
theorem filter_byteWritten (t : Tbl Nat) (k len : Nat) : (byteWritten t k len).filter (fun p => k ≤ p.1 && p.1 < k + len) = [] := by
  simp [byteWritten, List.filter_filter]

/-- A scalar store. -/
theorem stores_of_ready {s : State} {c : Fin 192} {w : BitVec 26} {x : Core} {g : Group} {a len : Nat} (issues : Issues s c.val x g)
    (place : (x.sreg (wSa w) + immS w).toNat = a) (aligned : a % len = 0) (inside : a + len ≤ 0x80000)
    {i : Instr} {op : Nat} (answer : exec i s = .next (storeClm s c op w len)) (ready : clmBusy x a len true = false) :
    ∃ t, exec i s = .next t ∧
      (∀ i, i < len → cget t.clm (clmKey c.val a + i) = BitVec.ofNat 8 ((x.sreg (wSd w)).toNat / 256 ^ i)) ∧
      (∀ k, k < clmKey c.val a ∨ clmKey c.val a + len ≤ k → cget t.clm k = cget s.clm k) ∧
      spaceChk t g c.val 0 a len = [] ∧ CoreStepped s t c.val x 0 0 (x.pc + 4) [.clm, .clmChk] := by
  refine ⟨_, answer, ?_⟩
  have effect : storeClm s c op w len = stepTo (stored s c.val a len (x.sreg (wSd w)).toNat) c { x.setSreg 0 0 with pc := x.pc + 4 } :=
    clmAccess_of_ready issues place aligned inside ready
  rw [effect]
  refine ⟨fun i hi => ?_, fun k hk => ?_, filter_byteWritten _ _ _, coreStepped_stepTo (stored_sameBut s _ _ _ _) rfl 0 0 _⟩
  · rw [← getD_leBytes len _ i hi]
    exact cget_cwrite_inside _ _ _ _ (by simpa using hi)
  · exact cget_cwrite_outside _ _ _ _ (by simpa using hk)

/-! ### Tile registers -/

theorem treg_put (x : Core) (i k : Nat) (d : BitVec 256) (pc : Nat) :
    ({ x with t := tput 0 x.t i d, pc := pc } : Core).treg k = if k = i then d else x.treg k := tget_tput 0 x.t i d k

/-- One control instruction that writes tile register `i`. -/
theorem tileStepped {s : State} {c : Fin 192} (x : Core) (i : Nat) (d : BitVec 256) :
    let t := stepTo s c.val { x with t := tput 0 x.t i d, pc := x.pc + 4 }
    (∀ k, (t.core c.val).treg k = if k = i then d else x.treg k) ∧ (t.core c.val).pc = x.pc + 4 ∧ { t.core c.val with t := x.t, pc := x.pc } = x ∧
      (∀ e, e ≠ c.val → t.core e = s.core e) ∧ SameBut [.cores, .ctr] s t := by
  refine ⟨fun k => ?_, ?_, ?_, fun e he => stepTo_core_other _ _ _ _ he, stepTo_sameBut (same_refl s []) _ _⟩
  · rw [stepTo_core_same]
    exact treg_put x i k d _
  · rw [stepTo_core_same]
  · rw [stepTo_core_same]

theorem tld_of_clean {s : State} {c : Fin 192} {w : BitVec 26} {x : Core} {g : Group} {a : Nat} (issues : Issues s c.val x g)
    (place : (x.sreg (wSa w) + immS w).toNat = a) (aligned : a % 32 = 0) (inside : a + 32 ≤ 0x80000) (ready : clmBusy x a 32 false = false)
    (clean : spaceChk s g c.val 0 a 32 = []) : exec (.tld c w) s =
      .next (stepTo s c.val { x with t := tput 0 x.t (wSd w) (BitVec.ofNat 256 (leNat (cread s.clm (clmKey c.val a) 32))), pc := x.pc + 4 }) := by
  show execTld c w s = _
  rw [execTld, clmAccess_of_ready issues place aligned inside ready]
  simp only [clmFault_of_clean issues clean]
  rfl

/-- Settles O3: an access that is aligned, in range and not held reads or writes the core's own bytes. -/
theorem scalarMemory : Obligations.ScalarMemory := by
  unfold Obligations.ScalarMemory
  refine ⟨fun s c w x g issues => ⟨?_, fun aligned inside ready clean =>
    ⟨_, tld_of_clean issues rfl aligned inside ready clean, tileStepped _ _ _⟩⟩, fun s c w x g issues => ?_⟩
  · simp only [List.forall_mem_cons, List.not_mem_nil, IsEmpty.forall_iff, implies_true, and_true]
    exact ⟨fun aligned inside => loads_of_clean issues rfl aligned inside rfl, fun aligned inside => loads_of_clean issues rfl aligned inside rfl,
      fun aligned inside => loads_of_clean issues rfl aligned inside rfl⟩
  · simp only [List.forall_mem_cons, List.not_mem_nil, IsEmpty.forall_iff, implies_true, and_true]
    exact ⟨fun aligned inside => stores_of_ready issues rfl aligned inside rfl, fun aligned inside => stores_of_ready issues rfl aligned inside rfl,
      fun aligned inside => stores_of_ready issues rfl aligned inside rfl⟩

/-! ### Control flow (R122, R128) -/

theorem signed_toInt {n : Nat} (v : BitVec n) (h : 0 < n) : signed n v.toNat = v.toInt := by
  have double : 2 ^ n = 2 * 2 ^ (n - 1) := by rw [← Nat.pow_succ', Nat.succ_eq_add_one, Nat.sub_add_cancel h]
  rw [signed, BitVec.toInt_eq_toNat_cond]
  by_cases low : v.toNat < 2 ^ (n - 1)
  · rw [if_pos low, if_pos (by omega)]
  · rw [if_neg low, if_neg (by omega)]
    norm_cast

theorem branchTarget_eq {n : Nat} (pc : Nat) (v : BitVec n) (h : 0 < n) :
    branchTarget pc n v.toNat = (((pc : Int) + 4 * v.toInt) % 2 ^ 64).toNat := by rw [branchTarget, signed_toInt v h]

/-- A branch. -/
theorem branches {s : State} {c : Fin 192} {w : BitVec 26} {x : Core} {g : Group} (issues : Issues s c.val x g) {i : Instr} {op : Nat}
    {f f' : Word → Word → Bool} (answer : exec i s = .next (formB s c op w f)) (same : f (x.sreg (wSd w)) (x.sreg (wSa w)) = f' (x.sreg (wSd w)) (x.sreg (wSa w))) :
    ∃ t, exec i s = .next t ∧ CoreStepped s t c.val x 0 0
      (if f' (x.sreg (wSd w)) (x.sreg (wSa w)) then (((x.pc : Int) + 4 * (wImm w).toInt) % 2 ^ 64).toNat else x.pc + 4) := by
  rw [← same, ← branchTarget_eq x.pc (wImm w) (by decide)]
  exact steps_of_jump issues (sd := 0) (f := fun _ _ => 0) answer rfl

theorem bge_iff (a b : Word) : (!a.slt b) = decide (b.toInt ≤ a.toInt) := by
  rw [BitVec.slt, ← decide_not, decide_eq_decide, not_lt]

theorem bgeu_iff (a b : Word) : (!a.ult b) = decide (b.toNat ≤ a.toNat) := by
  rw [BitVec.ult, ← decide_not, decide_eq_decide, not_lt]

/-- SPR of a special register that Table 5-4 names, the count of cycles apart. -/
theorem spr_steps {s : State} {c : Fin 192} {w : BitVec 26} {x : Core} {g : Group} (issues : Issues s c.val x g) (form : wSa w = 0)
    (i : Nat) (index : (wImm w).toNat = i) (other : i ≠ 3) (v : Word) (value : sprValue s c.val i x g = some v) :
    ∃ t, exec (.spr c w) s = .next t ∧ CoreStepped s t c.val x (wSd w) v (x.pc + 4) := by
  refine ⟨stepTo s c.val { x.setSreg (wSd w) v with pc := x.pc + 4 }, ?_, coreStepped_stepTo (same_refl s []) rfl _ _ _⟩
  show execSpr c w s = _
  rw [execSpr, control_of_issues issues (by simp [form]), index, value, if_neg other]
  rfl

theorem fresh_sameBut (s : State) : SameBut [.free] s s.fresh.2 := by
  intro p hp
  cases p with
  | free => simp at hp
  | _ => rfl

/-- CYCLES is a free value. -/
theorem spr_cycles {s : State} {c : Fin 192} {w : BitVec 26} {x : Core} {g : Group} (issues : Issues s c.val x g) (form : wSa w = 0)
    (index : (wImm w).toNat = 3) :
    ∃ t v, exec (.spr c w) s = .next t ∧ CoreStepped s t c.val x (wSd w) v (x.pc + 4) [.free] := by
  refine ⟨stepTo s.fresh.2 c.val { x.setSreg (wSd w) (Config.free s.free) with pc := x.pc + 4 }, Config.free s.free, ?_,
    coreStepped_stepTo (fresh_sameBut s) rfl _ _ _⟩
  show execSpr c w s = _
  rw [execSpr, control_of_issues issues (by simp [form]), index]
  rfl

/-- The pending counts of the units, one byte each (Table 5-4). -/
theorem pending_bytes (p : Nat → Nat) (small : ∀ u, p u < 256) (u : Nat) (hu : u < 5) :
    bits (p 0 + p 1 * 2 ^ 8 + p 2 * 2 ^ 16 + p 3 * 2 ^ 24 + p 4 * 2 ^ 32) (8 * u + 7) (8 * u) = p u := by
  have h0 := small 0
  have h1 := small 1
  have h2 := small 2
  have h3 := small 3
  have h4 := small 4
  unfold bits
  interval_cases u <;> norm_num <;> omega

/-- TSETB of a value within 57 bits replaces BASE. -/
theorem tsetb_of_fits {s : State} {c : Fin 192} {w : BitVec 26} {x : Core} {g : Group} (issues : Issues s c.val x g)
    (form : bits w.toNat 15 0 = 0) (fits : (x.sreg (wSa w)).toNat < 2 ^ 57) : exec (.tsetb c w) s =
      .next (stepTo s c.val { x with
        t := tput 0 x.t (wSd w) (BitVec.ofNat 256 ((x.treg (wSd w)).toNat / 2 ^ 57 * 2 ^ 57 + (x.sreg (wSa w)).toNat)), pc := x.pc + 4 }) := by
  have high : (bits (x.sreg (wSa w)).toNat 63 57 != 0) = false := by
    rw [bits, Nat.div_eq_of_lt fits]
    rfl
  have base : (x.treg (wSd w)).toNat - bits (x.treg (wSd w)).toNat 56 0 = (x.treg (wSd w)).toNat / 2 ^ 57 * 2 ^ 57 := by
    simp only [bits]
    omega
  show execTsetb c w s = _
  rw [execTsetb, control_of_issues issues (by simp [form])]
  simp only [high, Bool.false_eq_true, if_false, base]
  rfl

section Wait
variable {s : State} {c : Fin 192} {w : BitVec 26} {x : Core} {g : Group} (issues : Issues s c.val x g) (form : wSa w = 0) {n : Nat}
  (pending : pendingOf x (wSd w) = some n)
include issues form pending

theorem twait_of_few (few : n ≤ (wImm w).toNat) : exec (.twait c w) s = .next (stepTo s c.val { x.setSreg 0 0 with pc := x.pc + 4 }) := by
  show execTwait c w s = _
  rw [execTwait, control_of_issues issues (by simp [form]), pending]
  simp only [if_pos few]
  rfl

theorem twait_of_many (many : (wImm w).toNat < n) : exec (.twait c w) s = .next s := by
  show execTwait c w s = _
  rw [execTwait, control_of_issues issues (by simp [form]), pending]
  simp only [if_neg (Nat.not_le.2 many)]

end Wait

/-- A group of which a core has not exited goes on. -/
theorem settleGroup_of_open {s : State} {k : Nat} {g : Group} (group : s.group k = some g) (live : g.stopped = false)
    (runs : ∃ d ∈ g.cores, (s.core d).run ≠ .exited) : settleGroup s k = s := by
  obtain ⟨d, member, other⟩ := runs
  have notAll : g.cores.all (fun c => (s.core c).run == .exited) = false := by
    rw [List.all_eq_false]
    exact ⟨d, member, by simpa using other⟩
  simp [settleGroup, group, live, notAll]

theorem exit_of_open {s : State} {c : Fin 192} {w : BitVec 26} {x : Core} {g : Group} (issues : Issues s c.val x g) (form : bits w.toNat 25 8 = 0)
    (runs : ∃ d ∈ g.cores, d ≠ c.val ∧ (s.core d).run ≠ .exited) :
    exec (.exit c w) s = .next (stepTo s c.val { x with run := .exited, code := bits w.toNat 7 0, pc := x.pc + 4 }) := by
  obtain ⟨d, member, other, open_⟩ := runs
  obtain ⟨-, -, group, live, -⟩ := id issues
  show execExit c w s = _
  rw [execExit, control_of_issues issues (by simp [form])]
  exact congrArg _ (settleGroup_of_open (s := stepTo s c.val _) group live ⟨d, member, by rwa [stepTo_core_other _ _ _ _ other]⟩)

/-- Settles O4: jumps and branches set PC alone, SPR reads what its index names, TSETB replaces BASE, TWAIT compares a count, and EXIT leaves a
group of which another core runs. -/
theorem controlFlow : Obligations.ControlFlow := by
  unfold Obligations.ControlFlow
  refine ⟨fun s c w x g issues => ⟨?_, ?_, ?_⟩, fun s c w x g issues => ⟨fun form => ?_, fun form index => ?_, fun form => spr_cycles issues form,
    fun form index => ?_, fun form fits => ⟨_, tsetb_of_fits issues form fits, fun k => ?_, ?_⟩, fun form n pending few => ?_,
    fun form n => twait_of_many issues form, fun form runs => ⟨_, exit_of_open issues form runs, ?_⟩⟩⟩
  · simp only [List.forall_mem_cons, List.not_mem_nil, IsEmpty.forall_iff, implies_true, and_true]
    exact ⟨branches issues rfl rfl, branches issues rfl rfl, branches issues (f' := fun a b => decide (a.toInt < b.toInt)) rfl rfl,
      branches issues (f' := fun a b => decide (b.toInt ≤ a.toInt)) rfl (bge_iff _ _),
      branches issues (f' := fun a b => decide (a.toNat < b.toNat)) rfl rfl, branches issues (f' := fun a b => decide (b.toNat ≤ a.toNat)) rfl (bgeu_iff _ _)⟩
  · exact steps_of_jump issues (sd := 31) (f := fun x _ => BitVec.ofNat 64 (x.pc + 4)) rfl (branchTarget_eq x.pc w (by decide))
  · exact steps_of_jump issues (f := fun x _ => BitVec.ofNat 64 (x.pc + 4)) rfl rfl
  · simp only [List.forall_mem_cons, List.not_mem_nil, IsEmpty.forall_iff, implies_true, and_true]
    have row (i : Nat) (other : i ≠ 3) (v : Word) (value : sprValue s c.val i x g = some v) (index : (wImm w).toNat = i) :=
      spr_steps issues form i index other v value
    exact ⟨row 0 (by decide) _ rfl, row 1 (by decide) _ rfl, row 4 (by decide) _ (by simp [sprValue]), row 5 (by decide) _ rfl,
      row 6 (by decide) _ rfl, row 7 (by decide) _ rfl, row 8 (by decide) _ rfl⟩
  · obtain ⟨t, answer, stepped⟩ := spr_steps issues form 2 index (by decide) _ rfl
    exact ⟨t, _, answer, rfl, stepped⟩
  · obtain ⟨t, answer, stepped⟩ := spr_steps issues form 9 index (by decide) _ rfl
    refine ⟨t, _, answer, fun u hu => ?_, stepped⟩
    rw [pending_bytes (fun u => (pendingOf x u).getD 0 % 256) (fun u => Nat.mod_lt _ (by decide)) u hu]
    simp [pendingOf, show u ≤ 4 by omega, TileOp.unit]
  · obtain ⟨tregs, -⟩ := tileStepped x (wSd w) (BitVec.ofNat 256 ((x.treg (wSd w)).toNat / 2 ^ 57 * 2 ^ 57 + (x.sreg (wSa w)).toNat))
    rw [tregs]
    split
    · next same => rw [same]
    · rfl
  · exact (tileStepped x _ _).2
  · exact ⟨_, twait_of_few issues form pending few, coreStepped_stepTo (same_refl s []) rfl 0 0 _⟩
  · exact ⟨stepTo_core_same _ _ _, fun d hd => stepTo_core_other _ _ _ _ hd, stepTo_sameBut (same_refl s []) _ _⟩

end Sys2Proof.Proofs

/-!
SUPPORT. Tile instructions (R129 to R137): the issue of a tile word, the start of one that starts at once, reads of clean memory, and the
obligation TileIssue.
-/
namespace Sys2Proof.Proofs
open Sys2Proof.Machine Sys2Proof.Laws

/-! ### Issue (R129, R132 to R134) -/

section Issue
variable {s : State} {c : Nat} {x : Core} {g : Group} {w : BitVec 64} {cls op : Nat} {residueOk : Bool} (issues : Issues s c x g)
  (word : bits w.toNat 31 26 = 0x3F) (hcls : tCLASS w = cls) (hop : tOP w = op)
include issues word hcls hop

/-- A tile word at 4 mod 8 is ILLEGAL. -/
theorem issueTile_of_misplaced (place : x.pc % 8 ≠ 0) : issueTile s c cls op w residueOk = trapCore s c 0x01 0 0 0x3F x.pc := by
  obtain ⟨-, -, -, -, fetched⟩ := id issues
  simp [issueTile, issuing_of_issues issues, word, hcls, hop, Nat.not_le.2 fetched, place]

/-- A word in its place is checked, and joins the queue of a unit that has room. -/
theorem issueTile_of_placed (place : x.pc % 8 = 0) : issueTile s c cls op w residueOk =
    match issueTrap s g (tileOf x w residueOk) with
    | some k => trapCore s c k 0 (cls + 1) op x.pc
    | none => if 32 ≤ (x.q.filter (fun q => tCLASS q.word == cls)).length then s else
      pumpCore (s.setCore c { x with q := x.q ++ [tileOf x w residueOk], issued := x.issued + 1, pc := x.pc + 8 }) c := by
  obtain ⟨-, -, -, -, fetched⟩ := id issues
  subst hcls hop
  simp only [issueTile, issuing_of_issues issues, word, bne_self_eq_false, Bool.or_self, Bool.false_eq_true, if_false, Nat.not_le.2 fetched, place]
  rfl

end Issue

/-- Settles O6: every row issues its own class and OP. -/
theorem tileIssue : Obligations.TileIssue := by
  unfold Obligations.TileIssue
  intro s c w x g issues
  have row (i : Instr) (cls op : Nat) (answer : exec i s = .next (issueTile s c.val cls op w)) (word : bits w.toNat 31 26 = 0x3F) (hcls : tCLASS w = cls)
      (hop : tOP w = op) :
      (x.pc % 8 ≠ 0 → exec i s = .next (trapCore s c.val 0x01 0 0 0x3F x.pc)) ∧
      (x.pc % 8 = 0 → ∀ k, issueTrap s g (tileOf x w) = some k → exec i s = .next (trapCore s c.val k 0 (cls + 1) op x.pc)) ∧
      (x.pc % 8 = 0 → issueTrap s g (tileOf x w) = none → (x.q.filter (fun q => tCLASS q.word == cls)).length < 32 →
        exec i s = .next (pumpCore (s.setCore c.val { x with q := x.q ++ [tileOf x w], issued := x.issued + 1, pc := x.pc + 8 }) c.val)) ∧
      (x.pc % 8 = 0 → issueTrap s g (tileOf x w) = none → 32 ≤ (x.q.filter (fun q => tCLASS q.word == cls)).length → exec i s = .next s) := by
    refine ⟨fun place => ?_, fun place k trap => ?_, fun place passes room => ?_, fun place passes full => ?_⟩
    · rw [answer, issueTile_of_misplaced issues word hcls hop place]
    · rw [answer, issueTile_of_placed issues word hcls hop place, trap]
    · rw [answer, issueTile_of_placed issues word hcls hop place, passes]
      simp only [if_neg (Nat.not_le.2 room)]
    · rw [answer, issueTile_of_placed issues word hcls hop place, passes]
      simp only [if_pos full]
  simp only [List.forall_mem_cons, List.not_mem_nil, IsEmpty.forall_iff, implies_true, and_true]
  (repeat' apply And.intro) <;> exact row _ _ _ rfl

/-! ### The start of an instruction that starts at once (R134 to R137) -/

/-- The second of two writes of one key stands. -/
theorem tins_tins {α : Type} (t : Tbl α) (k : Nat) (u v : α) : tins (tins t k u) k v = tins t k v := by
  induction t with
  | nil => simp [tins]
  | cons p r ih =>
    obtain ⟨a, w⟩ := p
    simp only [tins]
    split
    · simp [tins]
    · split
      · simp [tins]
      · next notLess notSame => simp [tins, notLess, notSame, ih]

theorem setCore_setCore (s : State) (c : Nat) {x y : Core} (hx : x ≠ {}) (hy : y ≠ {}) : (s.setCore c x).setCore c y = s.setCore c y := by
  simp only [State.setCore, tput, if_neg hx, if_neg hy, tins_tins]

theorem core_ne_default {x : Core} (h : x.q ≠ []) : x ≠ {} := fun e => h (by rw [e])

/-- No instruction of a core that has started is started again. -/
theorem pump_of_started (k : Nat) (s : State) (c : Nat) (started : ∀ o ∈ (s.core c).q, o.started = true) : pump k s c = s := by
  cases k with
  | zero => rfl
  | succ k =>
    have members (pre l : List TileOp) : ∀ p ∈ withPrefix pre l, p.2 ∈ l := by
      induction l generalizing pre with
      | nil => simp [withPrefix]
      | cons o r ih =>
        intro p hp
        rcases List.mem_cons.1 hp with rfl | hp
        · exact List.mem_cons_self
        · exact List.mem_cons_of_mem _ (ih _ p hp)
    have none_ (f : TileOp → Option State) :
        (withPrefix [] (s.core c).q).findSome? (fun p => if mayStartOp s c (s.core c) p.1 p.2 then f p.2 else none) = none := by
      rw [List.findSome?_eq_none_iff]
      intro p hp
      simp [mayStartOp, started p.2 (members _ _ p hp)]
    rw [pump]
    simp only [none_]
    (repeat' split) <;> rfl

theorem chRun_of_no_requests {s : State} (none_ : s.chn.reqs = []) : chRun s = s := by simp [chRun, chPump, none_]

theorem core_congr {s t : State} (h : t.cores = s.cores) (d : Nat) : t.core d = s.core d := by rw [State.core, h, State.core]

section Starts
variable {s : State} {c : Nat} {x : Core} {g : Group} {w : BitVec 64} {cls op : Nat} {o : TileOp} (starts : TileStarts s c x g w cls op o)
include starts

/-- The instruction joins an empty queue and its effect is made; then what can be sent on Chain is sent. -/
theorem issueTile_of_starts {t : State} (effect : startEff (s.setCore c (x.after o)) g c o = .go t) (started : ∀ p ∈ (t.core c).q, p.started = true) :
    issueTile s c cls op w o.residueOk = chRun t := by
  obtain ⟨⟨issues, member, place, hcls, hop, word, ho, passes⟩, empty, leave, reads, writes, ready, noReqs, -, -, -⟩ := starts
  have waiting : ({ x with q := x.q ++ [o], issued := x.issued + 1, pc := x.pc + 8 } : Core) ≠ {} := core_ne_default (by simp)
  obtain ⟨fresh, xl⟩ : o.started = false ∧ o.xl = 0 := by rw [ho]; exact ⟨rfl, rfl⟩
  obtain ⟨-, -, group, live, -⟩ := id issues
  rw [issueTile_of_placed issues word hcls hop place, ← ho, passes]
  simp only [empty, List.filter_nil, List.length_nil, show ¬ 32 ≤ 0 by decide, if_false]
  rw [pumpCore, setCore_same]
  simp only [empty, List.nil_append, List.length_singleton] at waiting ⊢
  rw [pump, setCore_same]
  have group' (y : Core) : (s.setCore c y).group x.group = some g := group
  have may (y : Core) : mayStartOp (s.setCore c y) c y [] o = true := by
    simp [mayStartOp, fresh, unitReady, clmReady, withPrefix, finalReady, writesOut, noReqs]
  have leave' (y : Core) : leaveNeed (s.setCore c y) o = none := leave
  have ready' (y : Core) : tileReady (s.setCore c y) g o = true := ready
  have start (y : Core) (hq : y.q = [o]) (hy : y ≠ {}) : startOp (s.setCore c y) g c o =
      match startEff (s.setCore c { y with q := [{ o with started := true }] }) g c o with
      | .go s1 => s1
      | .trap t => trapTile (dropOp (s.setCore c y) c o.num) c o t
      | .fail w s1 => failTile s1 c o.num ((s.setCore c y).core c).group w := by
    rw [startOp, setOp, setCore_same, setCore_setCore _ _ hy (core_ne_default (by simp [hq]))]
    simp only [hq, List.map_cons, List.map_nil, if_true] <;> rfl
  have advances : advance (s.setCore c { x with q := [o], issued := x.issued + 1, pc := x.pc + 8 }) g c o = some t := by
    rw [advance, leave', xl, reads, writes, ready', start _ rfl waiting]
    simp only [Core.after] at effect
    simp [effect]
  simp only [group', live, List.contains_iff_mem.2 member, withPrefix, List.findSome?_cons, may, advances, Bool.not_true, Bool.or_self, if_true,
    Bool.false_eq_true, if_false]
  rw [pump_of_started _ _ _ started]

theorem cls_of_starts : o.cls = cls := by
  obtain ⟨⟨-, -, -, hcls, -, -, ho, -⟩, -⟩ := starts
  rw [ho]
  exact hcls

theorem op_of_starts : o.op = op := by
  obtain ⟨⟨-, -, -, -, hop, -, ho, -⟩, -⟩ := starts
  rw [ho]
  exact hop

theorem word_of_starts : o.word = w := by
  obtain ⟨⟨-, -, -, -, -, -, ho, -⟩, -⟩ := starts
  rw [ho]
  rfl

/-- A start that sends nothing on Chain is the whole answer. -/
theorem exec_of_starts {i : Instr} {r : Bool} (answer : exec i s = .next (issueTile s c cls op w r)) (residue : o.residueOk = r) {t : State}
    (effect : startEff (s.setCore c (x.after o)) g c o = .go t) (started : ∀ p ∈ (t.core c).q, p.started = true) (quiet : t.chn = s.chn) :
    exec i s = .next t := by
  have noReqs : t.chn.reqs = [] := by
    obtain ⟨-, -, -, -, -, -, noReqs, -⟩ := starts
    rw [quiet, noReqs]
  rw [answer, ← residue, issueTile_of_starts starts effect started, chRun_of_no_requests noReqs]

/-- A start that changes no core further. -/
theorem answer_of_starts {i : Instr} {r : Bool} (answer : exec i s = .next (issueTile s c cls op w r)) (residue : o.residueOk = r) {t : State}
    {ps : List Part} (effect : startEff (s.setCore c (x.after o)) g c o = .go t) (same : SameBut ps (s.setCore c (x.after o)) t)
    (cores : Part.cores ∉ ps) (chn : Part.chn ∉ ps) :
    exec i s = .next t ∧ t.core c = x.after o ∧ (∀ d, d ≠ c → t.core d = s.core d) ∧ SameBut (.cores :: ps) s t := by
  have core (d : Nat) : t.core d = (s.setCore c (x.after o)).core d := core_congr (same .cores cores) d
  refine ⟨exec_of_starts starts answer residue effect ?_ (same .chn chn), ?_, fun d hd => ?_, same_trans (setCore_sameBut s c _) same⟩
  · rw [core, setCore_same]
    simp [Core.after]
  · rw [core, setCore_same]
  · rw [core, setCore_other _ _ _ _ hd]

/-- A start that changes the core's own state further. -/
theorem answer_of_starts_core {i : Instr} {r : Bool} (answer : exec i s = .next (issueTile s c cls op w r)) (residue : o.residueOk = r) {t : State}
    {y : Core} {ps : List Part} (effect : startEff (s.setCore c (x.after o)) g c o = .go t) (self : t.core c = y)
    (others : ∀ d, d ≠ c → t.core d = (s.setCore c (x.after o)).core d) (started : ∀ p ∈ y.q, p.started = true)
    (same : SameBut (.cores :: ps) (s.setCore c (x.after o)) t) (chn : Part.chn ∉ ps) :
    exec i s = .next t ∧ t.core c = y ∧ (∀ d, d ≠ c → t.core d = s.core d) ∧ SameBut (.cores :: ps) s t := by
  have quiet : t.chn = s.chn := same .chn (by simpa using chn)
  refine ⟨exec_of_starts starts answer residue effect (by rwa [self]) quiet, self, fun d hd => ?_,
    same_mono (same_trans (setCore_sameBut s c _) same) (by simp)⟩
  rw [others d hd, setCore_other _ _ _ _ hd]

end Starts

/-! ### Memory as a start finds it (R352) -/

/-- No line of the memories holds an error. -/
def Clean (s : State) : Prop := s.clmChk = [] ∧ s.lsChk = [] ∧ s.smChk = []

theorem clean_of_starts {s : State} {c : Nat} {x : Core} {g : Group} {w : BitVec 64} {cls op : Nat} {o : TileOp}
    (starts : TileStarts s c x g w cls op o) (y : Core) : Clean (s.setCore c y) := by
  obtain ⟨-, -, -, -, -, -, -, clm, ls, sm⟩ := starts
  exact ⟨clm, ls, sm⟩

section Clean
variable {s : State} (clean : Clean s) (g : Group) (c : Nat)
include clean

theorem memCheck_of_cleanState (space a len : Nat) : memCheck s g c space a len = (none, s) := by
  obtain ⟨clm, ls, sm⟩ := clean
  exact memCheck_of_clean (by simp [spaceChk, clm, ls, sm])

theorem checkTile_of_clean (d : Desc) : checkTile s g c d = (none, s) := by
  unfold checkTile
  split
  · rfl
  · exact List.foldl_fixed' (fun r => by simp [memCheck_of_cleanState clean]) _

end Clean

/-- Reads depend on the memories alone. -/
theorem spaceRead_congr {s t : State} (clm : t.clm = s.clm) (ls : t.ls = s.ls) (sm : t.sm = s.sm) (g : Group) (c space : Nat) :
    spaceRead t g c space = spaceRead s g c space := by
  funext a len
  simp [spaceRead, clm, ls, sm]

/-! ### Writes of rows to core-local memory -/

/-- The state with rows written to core-local memory. -/
def clmRows (s : State) (c : Nat) (rows : List (Nat × List Byte)) : State := rows.foldl (fun s p => clmPut s c p.1 p.2) s

theorem clmPut_sameBut (s : State) (c a : Nat) (bs : List Byte) : SameBut [.clm, .clmChk] s (clmPut s c a bs) := by
  intro p hp
  cases p with
  | clm => simp at hp
  | clmChk => simp at hp
  | _ => rfl

theorem clmRows_sameBut (s : State) (c : Nat) (rows : List (Nat × List Byte)) : SameBut [.clm, .clmChk] s (clmRows s c rows) :=
  same_foldl (fun s p => clmPut s c p.1 p.2) (fun s p => clmPut_sameBut s c p.1 p.2) rows s

theorem clmRows_clm (s : State) (c : Nat) (rows : List (Nat × List Byte)) : (clmRows s c rows).clm = clmAfter s.clm c rows :=
  (List.foldl_hom State.clm fun _ _ => rfl).symm

end Sys2Proof.Proofs

/-!
SUPPORT. The vector unit (R143, R177 to R183): what a vector instruction writes once its operands are read, and the obligation VectorUnit.
-/
namespace Sys2Proof.Proofs
open Sys2Proof.Machine Sys2Proof.Laws

/-- The columns of a row, largest value first (R182). -/
def sortedRow (b : Nat → Nat → F32) (cols r : Nat) : List (Nat × F32) := sortBy topkLe ((List.range cols).map (fun i => (i, b r i)))

/-- The rows that VTOPK writes to TC. -/
def topkColumns (o : TileOp) (b : Nat → Nat → F32) : List (Nat × List Byte) :=
  (List.range o.dc.rows).map (fun r => (o.dc.base + r * o.dc.rowStride, ((sortedRow b o.db.cols r).take o.da.cols).flatMap (fun p => leBytes 4 p.1)))

/-- The rows that VTOPP writes to TA. -/
def toppCounts (o : TileOp) (b : Nat → Nat → F32) : List (Nat × List Byte) :=
  (List.range o.da.rows).map (fun r => (o.da.base + r * o.da.rowStride,
    leBytes 4 ((topp (o.sx.setWidth 32) 0 0 ((List.range o.db.cols).map (b r))).getD o.db.cols)))

/-- The F32 operand of a descriptor in core-local memory. -/
def operand (s : State) (g : Group) (c : Nat) (d : Desc) : Nat → Nat → F32 := d.f32 (spaceRead s g c 0)

section Effects
variable {s : State} (clean : Clean s) (g : Group) (c : Nat) (o : TileOp)
include clean

/-- Operands without an error: the instruction writes its rows. -/
theorem vectorEff_of_clean : vectorEff s g c o = .go (
    if o.op = 16 then clmRows s c (toppCounts o (operand s g c o.db))
    else
      let t := clmRows s c (o.da.store (vecValue o.op o (operand s g c o.da) (operand s g c o.db) (operand s g c o.dc) o.db.cols))
      if o.op = 15 then clmRows t c (topkColumns o (operand s g c o.db)) else t) := by
  have none_ : (if ((tileUse 1 o.op).getD {}).tc && o.op != 15 then ((none : Option Cond), s) else (none, s)) = (none, s) := ite_self _
  simp only [vectorEff, checkTile_of_clean clean, Option.or_none, ite_self]
  split
  · rfl
  · split <;> rfl

end Effects

/-- VRSUM takes the canonical tree of a row (R177). -/
theorem vecValue_vrsum (o : TileOp) (a b k : Nat → Nat → F32) (n r q : Nat) : vecValue 13 o a b k n r q = treeSum (fun i => b r i) 20 0 n := by
  rw [vecValue]

/-- An element instruction, reduction or conversion writes the value of each element. -/
theorem element_answer {s : State} {c : Fin 192} {w : BitVec 64} {x : Core} {g : Group} {o : TileOp} {i : Instr} {op : Nat} {v : Nat → Nat → F32}
    (answer : exec i s = .next (issueTile s c.val 1 op w true)) (low : op < 15)
    (value : vecValue op o (operand s g c o.da) (operand s g c o.db) (operand s g c o.dc) o.db.cols = v)
    (starts : TileStarts s c.val x g w 1 op o) (residue : o.residueOk = true) :
    ∃ t, exec i s = .next t ∧ t.core c.val = x.after o ∧ (∀ d, d ≠ c.val → t.core d = s.core d) ∧
      t.clm = clmAfter s.clm c.val (o.da.store v) ∧ SameBut [.cores, .clm, .clmChk] s t := by
  have effect : startEff (s.setCore c.val (x.after o)) g c.val o = .go (clmRows (s.setCore c.val (x.after o)) c.val (o.da.store v)) := by
    rw [startEff, cls_of_starts starts]
    simp only [vectorEff_of_clean (clean_of_starts starts _), op_of_starts starts, if_neg (show op ≠ 16 by omega), if_neg (show op ≠ 15 by omega)]
    rw [← value]
    rfl
  obtain ⟨ends, self, others, same⟩ := answer_of_starts starts answer residue effect (clmRows_sameBut _ _ _) (by decide) (by decide)
  exact ⟨_, ends, self, others, clmRows_clm _ _ _, same⟩

/-- Settles O7: operands without an error are read before anything is written, and the rows written are those of the instruction's values. -/
theorem vectorUnit : Obligations.VectorUnit := by
  unfold Obligations.VectorUnit
  refine ⟨fun s c w x g o => ?_, fun s c w x g o residue => ⟨fun starts => ?_, fun starts => ?_⟩⟩
  · simp only [List.forall_mem_cons, List.not_mem_nil, IsEmpty.forall_iff, implies_true, and_true]
    have row (i : Instr) (op : Nat) (answer : exec i s = .next (issueTile s c.val 1 op w true)) (low : op < 15) (v : Nat → Nat → F32)
        (value : ∀ r q, vecValue op o (operand s g c o.da) (operand s g c o.db) (operand s g c o.dc) o.db.cols r q = v r q) :=
      element_answer (v := v) (g := g) (x := x) answer low (funext fun r => funext (value r))
    exact ⟨row (.vadd c w) 0 rfl (by decide) _ (fun _ _ => rfl), row (.vsub c w) 1 rfl (by decide) _ (fun _ _ => rfl),
      row (.vmul c w) 2 rfl (by decide) _ (fun _ _ => rfl),
      row (.vfma c w) 3 rfl (by decide) _ (fun _ _ => rfl), row (.vmax c w) 4 rfl (by decide) _ (fun _ _ => rfl),
      row (.vmin c w) 5 rfl (by decide) _ (fun _ _ => rfl),
      row (.vscale c w) 6 rfl (by decide) _ (fun _ _ => rfl), row (.vbias c w) 7 rfl (by decide) _ (fun _ _ => rfl),
      row (.vexp c w) 8 rfl (by decide) _ (fun _ _ => rfl),
      row (.vlog c w) 9 rfl (by decide) _ (fun _ _ => rfl), row (.vrcp c w) 10 rfl (by decide) _ (fun _ _ => rfl),
      row (.vcvt c w) 11 rfl (by decide) _ (fun _ _ => rfl),
      row (.vrmax c w) 12 rfl (by decide) _ (fun _ _ => rfl), row (.vrsum c w) 13 rfl (by decide) _ (vecValue_vrsum o _ _ _ _),
      row (.vsmx c w) 14 rfl (by decide) _ (fun _ _ => rfl)⟩
  · have effect : startEff (s.setCore c.val (x.after o)) g c.val o = .go (clmRows (clmRows (s.setCore c.val (x.after o)) c.val
        (o.da.store (vecValue 15 o (operand s g c o.da) (operand s g c o.db) (operand s g c o.dc) o.db.cols))) c.val
        (topkColumns o (operand s g c o.db))) := by
      rw [startEff, cls_of_starts starts]
      simp only [vectorEff_of_clean (clean_of_starts starts _), op_of_starts starts, if_true]
      rfl
    obtain ⟨ends, self, others, same⟩ := answer_of_starts starts (i := .vtopk c w) rfl residue effect
      (same_trans (clmRows_sameBut _ _ _) (clmRows_sameBut _ _ _)) (by decide) (by decide)
    refine ⟨_, ends, self, others, ?_, same_mono same (by simp)⟩
    rw [clmRows_clm, clmRows_clm]
    rfl
  · have effect : startEff (s.setCore c.val (x.after o)) g c.val o =
        .go (clmRows (s.setCore c.val (x.after o)) c.val (toppCounts o (operand s g c o.db))) := by
      rw [startEff, cls_of_starts starts]
      simp only [vectorEff_of_clean (clean_of_starts starts _), op_of_starts starts, if_true]
      rfl
    obtain ⟨ends, self, others, same⟩ := answer_of_starts starts (i := .vtopp c w) rfl residue effect (clmRows_sameBut _ _ _) (by decide) (by decide)
    exact ⟨_, ends, self, others, clmRows_clm _ _ _, same⟩

end Sys2Proof.Proofs

/-!
SUPPORT. The matrix engine (R138 to R141, R188): what a push leaves, that it depends on core-local memory alone, the start of each matrix
instruction, and the obligation MatrixUnit.
-/
namespace Sys2Proof.Proofs
open Sys2Proof.Machine Sys2Proof.Laws

/-! ### Pushes (R140) -/

theorem putNode_sameBut (s : State) (c : Nat) (a : Acc) (l : Nat) (v : Nat → Nat → F32) : SameBut [.clm, .clmChk] s (putNode s c a l v) :=
  same_foldl (fun s i => clmPut s c (a.at l i 0) ((List.range a.cols).flatMap (fun j => leBytes 4 (v i j).toNat)))
    (fun s _ => clmPut_sameBut s c _ _) _ s

theorem mergeTop_sameBut (k : Nat) (s : State) (c : Nat) (a : Acc) : SameBut [.clm, .clmChk] s (mergeTop k s c a).2 := by
  induction k generalizing s a with
  | zero => exact same_refl s _
  | succ k ih =>
    rw [mergeTop]
    split
    · split
      · exact same_mono (same_trans (putNode_sameBut _ _ _ _ _) (ih _ _)) (by simp)
      · exact same_refl s _
    · exact same_refl s _

/-- What is pushed and merged depends on core-local memory alone. -/
theorem putNode_congr {s t : State} (clm : s.clm = t.clm) (c : Nat) (a : Acc) (l : Nat) (v : Nat → Nat → F32) :
    (putNode s c a l v).clm = (putNode t c a l v).clm := by rw [putNode_clm, putNode_clm, clm]

theorem getNode_congr {s t : State} (clm : s.clm = t.clm) (c : Nat) (a : Acc) (l i j : Nat) : getNode s c a l i j = getNode t c a l i j := by
  rw [getNode, getNode, clm]

theorem mergeTop_congr (k : Nat) {s t : State} (clm : s.clm = t.clm) (c : Nat) (a : Acc) :
    (mergeTop k s c a).1 = (mergeTop k t c a).1 ∧ (mergeTop k s c a).2.clm = (mergeTop k t c a).2.clm := by
  induction k generalizing s t a with
  | zero => exact ⟨rfl, clm⟩
  | succ k ih =>
    rw [mergeTop, mergeTop]
    split
    · split
      · refine ih ?_ _
        simp only [getNode_congr clm]
        exact putNode_congr clm _ _ _ _
      · exact ⟨rfl, clm⟩
    · exact ⟨rfl, clm⟩

section Push
variable (s : State) (c i : Nat) (a : Acc) (sp : Span) (v : Nat → Nat → F32)

/-- The ladder and the memory once a node has been written and merged. -/
def merged : Acc × State := mergeTop 20 (putNode s c a a.ladder.length v) c { a with ladder := sp :: a.ladder }

theorem merged_sameBut : SameBut [.clm, .clmChk] s (merged s c a sp v).2 :=
  same_mono (same_trans (putNode_sameBut s c a _ v) (mergeTop_sameBut _ _ _ _)) (by simp)

theorem merged_core (d : Nat) : (merged s c a sp v).2.core d = s.core d := core_congr (merged_sameBut s c a sp v .cores (by simp)) d

theorem pushNode_clm : (pushNode s c i a sp v).clm = (merged s c a sp v).2.clm := rfl

theorem pushNode_core_self : (pushNode s c i a sp v).core c = { s.core c with acc := tput none (s.core c).acc i (some (merged s c a sp v).1) } := by
  have core := merged_core s c a sp v c
  rw [merged] at core
  rw [pushNode, setCore_same, core]
  rfl

theorem pushNode_core_other (d : Nat) (h : d ≠ c) : (pushNode s c i a sp v).core d = s.core d := by
  have core := merged_core s c a sp v d
  rw [merged] at core
  rw [pushNode, setCore_other _ _ _ _ h, core]

theorem pushNode_sameBut : SameBut [.cores, .clm, .clmChk] s (pushNode s c i a sp v) :=
  same_mono (same_trans (merged_sameBut s c a sp v) (setCore_sameBut _ c _)) (by simp)

theorem merged_congr {t : State} (clm : s.clm = t.clm) :
    (merged s c a sp v).1 = (merged t c a sp v).1 ∧ (merged s c a sp v).2.clm = (merged t c a sp v).2.clm :=
  mergeTop_congr 20 (putNode_congr clm c a _ v) c _

/-- The new entry is no sibling of the one below it. -/
theorem merged_of_apart (apart : ∀ t r, a.ladder = t :: r → siblings t sp a.nb = false) :
    merged s c a sp v = ({ a with ladder := sp :: a.ladder }, putNode s c a a.ladder.length v) := by
  cases ladder : a.ladder with
  | nil =>
    rw [merged, ladder]
    exact mergeTop_of_short _ _ _ le_rfl
  | cons t r =>
    rw [merged, ladder]
    exact mergeTop_of_not_siblings 19 _ c (a := { a with ladder := sp :: t :: r }) rfl (apart t r ladder)

/-- The new entry is the sibling of the one below it, and their parent of none. -/
theorem merged_of_pair {u : Span} {r : List Span} (ladder : a.ladder = u :: r) (pair : siblings u sp a.nb = true)
    (apart : ∀ z q, r = z :: q → siblings z ⟨u.first, u.count + sp.count⟩ a.nb = false) :
    let m := putNode s c a a.ladder.length v
    merged s c a sp v = ({ a with ladder := ⟨u.first, u.count + sp.count⟩ :: r },
      putNode m c a r.length (fun y z => fadd (getNode m c a r.length y z) (getNode m c a (r.length + 1) y z))) := by
  intro m
  rw [merged, ladder, mergeTop_of_siblings 19 _ c (a := { a with ladder := sp :: u :: r }) rfl pair]
  have same : putNode s c a (u :: r).length v = m := by rw [← ladder]
  rw [same]
  cases r with
  | nil => exact mergeTop_of_short _ _ _ le_rfl
  | cons z q => exact mergeTop_of_not_siblings 18 _ c (a := { a with ladder := ⟨u.first, u.count + sp.count⟩ :: z :: q }) rfl (apart z q rfl)

end Push

/-! ### The start of each matrix instruction -/

/-- A push that may be made names a node. -/
theorem node_of_mayPush {a : Acc} {sp : Span} (may : mayPush a sp = true) : (decide (1 ≤ sp.count) && isNode sp.first sp.count a.nb) = true := by
  simp only [mayPush, Bool.and_eq_true] at may ⊢
  exact may.1.1

section Effects
variable {s : State} (clean : Clean s) (g : Group) {c : Nat} {o : TileOp} {a : Acc} (bound : tget none (s.core c).acc (tACC o.word) = some a)

theorem matrixEff_acz (op : o.op = 0) : matrixEff s g c o = .go (s.setCore c { s.core c with
    acc := tput none (s.core c).acc (tACC o.word) (some ⟨o.da.base, o.da.rows, o.da.cols, o.da.rowStride, o.sx.toNat, tImm o.word % 16 + 1, []⟩) }) := by
  simp only [matrixEff, op]

/-- The state once an MMA's multiply-accumulates are counted. -/
def macCounted (s : State) (g : Group) (c n : Nat) : State := bump (bump s (0x201018 + 0x10000 * (c / 12)) n) (tlmWord (s.ctx g.ctx).slot 4) n

theorem macCounted_sameBut (s : State) (g : Group) (c n : Nat) : SameBut [.ctr] s (macCounted s g c n) :=
  same_mono (same_trans (bump_sameBut s _ _) (bump_sameBut _ _ _)) (by simp)

/-- No word of a telemetry page is a MAC counter of a Lantern (R294, Table 5-14). -/
theorem tlmWord_ne_macCounter (k l : Nat) : 0x201018 + 0x10000 * l ≠ tlmWord k 4 := by
  unfold tlmWord
  omega

theorem macCounted_ctr (s : State) (g : Group) (c n : Nat) :
    tget 0 (macCounted s g c n).ctr (0x201018 + 0x10000 * (c / 12)) = tget 0 s.ctr (0x201018 + 0x10000 * (c / 12)) + BitVec.ofNat 64 n := by
  rw [macCounted, bump, tmod, tget_tput_other _ _ _ _ _ _ (tlmWord_ne_macCounter _ _), bump, tget_tmod_same]

theorem matrixEff_ladfin (op : o.op = 3) (one : a.ladder.length = 1) (bound : tget none (s.core c).acc (tACC o.word) = some a) :
    matrixEff s g c o = .go s := by
  simp only [matrixEff, op, bound, one, if_true]

include clean bound

theorem matrixEff_mma (op : o.op = 1) (may : mayPush a (spanOf o.sx) = true) (rows : o.da.rows = a.rows) (cols : o.db.rows = a.cols) :
    matrixEff s g c o = .go (let s1 := macCounted s g c (o.da.rows * o.db.rows * o.da.cols / 1024)
      if o.residueOk then mmaPush s1 g c o a else setOp s1 c o.num (fun o => { o with attempt := some 1 })) := by
  simp only [matrixEff, op, bound, node_of_mayPush may, may, rows, cols, checkTile_of_clean clean, bne_self_eq_false, Bool.not_true, Bool.or_self,
    Bool.false_eq_true, if_false, Option.or_none]
  split <;> rfl

theorem matrixEff_tred (op : o.op = 2) (may : mayPush a (spanOf o.sx) = true) (rows : o.da.rows = a.rows) (cols : o.da.cols = a.cols)
    (inside : o.da.space ≤ 2) (untrapped : tileTrap s g o.da = none) :
    matrixEff s g c o = .go (pushNode s c (tACC o.word) a (spanOf o.sx) (o.da.f32 (spaceRead s g c o.da.space))) := by
  simp only [matrixEff, op, bound, node_of_mayPush may, may, rows, cols, checkTile_of_clean clean, untrapped, bne_self_eq_false, Bool.not_true,
    Bool.or_self, Bool.false_eq_true, if_false, show ¬ 3 ≤ o.da.space by omega]

theorem matrixEff_acst (op : o.op = 4) (one : a.ladder.length = 1) (rows : o.da.rows = a.rows) (cols : o.da.cols = a.cols) :
    matrixEff s g c o = .go (clmRows s c (o.da.store (getNode s c a 0))) := by
  simp only [matrixEff, op, bound, one, rows, cols, memCheck_of_cleanState clean, bne_self_eq_false, Bool.or_self, Bool.false_eq_true, if_false]
  rfl

end Effects

theorem startEff_matrix (s : State) (g : Group) (c : Nat) {o : TileOp} (cls : o.cls = 0) : startEff s g c o = matrixEff s g c o := by
  simp only [startEff, cls]

/-! ### The obligation -/

section Answers
variable {s : State} {c : Fin 192} {w : BitVec 64} {x : Core} {g : Group} {o : TileOp}

/-- A push made at the start of an instruction, on a state that holds the memories of `s`. -/
theorem push_answer {op : Nat} {i : Instr} (starts : TileStarts s c.val x g w 0 op o) (answer : exec i s = .next (issueTile s c.val 0 op w true))
    (residue : o.residueOk = true) {s1 : State} {a : Acc} {v : Nat → Nat → F32} {ps : List Part}
    (before : SameBut ps (s.setCore c.val (x.after o)) s1) (cores : Part.cores ∉ ps) (clm : Part.clm ∉ ps) (chn : Part.chn ∉ ps)
    (effect : startEff (s.setCore c.val (x.after o)) g c.val o = .go (pushNode s1 c.val (tACC w) a (spanOf o.sx) v)) :
    let n := pushNode s c.val (tACC w) a (spanOf o.sx) v
    let t := pushNode s1 c.val (tACC w) a (spanOf o.sx) v
    exec i s = .next t ∧ t.clm = n.clm ∧ t.core c.val = { x.after o with acc := (n.core c.val).acc } ∧ (∀ d, d ≠ c.val → t.core d = s.core d) ∧
      SameBut (.cores :: .clm :: .clmChk :: ps) s t := by
  intro n t
  have core (d : Nat) : s1.core d = (s.setCore c.val (x.after o)).core d := core_congr (before .cores cores) d
  have memory : s1.clm = s.clm := before .clm clm
  obtain ⟨ladder, bytes⟩ := merged_congr s1 c.val a (spanOf o.sx) v memory
  have hx : s.core c.val = x := starts.1.1.1
  have self : t.core c.val = { x.after o with acc := (n.core c.val).acc } := by
    rw [pushNode_core_self, pushNode_core_self, core, setCore_same, ladder, hx]
    rfl
  obtain ⟨ends, self, others, same⟩ := answer_of_starts_core (ps := .clm :: .clmChk :: ps) starts answer residue effect self
    (fun d hd => by rw [pushNode_core_other _ _ _ _ _ _ d hd, core]) (by simp [Core.after])
    (same_mono (same_trans before (pushNode_sameBut _ _ _ _ _ _)) (by simp; tauto)) (by simp [chn])
  exact ⟨ends, bytes, self, others, same⟩

end Answers

/-- Settles O8: each instruction's effect is made on the core's memory and accumulator, and a push merges at most while the top two entries are
siblings. -/
theorem matrixUnit : Obligations.MatrixUnit := by
  unfold Obligations.MatrixUnit
  refine ⟨fun s c w x g o a => ⟨fun starts residue => ?_, fun starts residue bound may rows cols => ?_, fun starts residue bound may rows cols => ?_,
    fun starts residue bound may rows cols inside untrapped => ?_, fun starts residue bound one => ?_, fun starts residue bound one rows cols => ?_⟩,
    fun s c i a sp v => ⟨fun apart => ?_, fun u r ladder pair apart => ?_⟩⟩
  · have effect := (startEff_matrix (s.setCore c.val (x.after o)) g c.val (cls_of_starts starts)).trans (matrixEff_acz g (op_of_starts starts))
    rw [setCore_same, word_of_starts starts] at effect
    obtain ⟨ends, self, others, same⟩ := answer_of_starts_core (ps := []) (i := .acz c w) starts rfl residue effect (setCore_same _ _ _)
      (fun d hd => setCore_other _ _ _ d hd) (by simp [Core.after]) (setCore_sameBut _ _ _) (by simp)
    exact ⟨_, ends, self, others, same⟩
  · have effect := (startEff_matrix (s.setCore c.val (x.after o)) g c.val (cls_of_starts starts)).trans
      (matrixEff_mma (clean_of_starts starts _) g (by rwa [setCore_same, word_of_starts starts]) (op_of_starts starts) may rows cols)
    simp only [residue, if_true, mmaPush, word_of_starts starts] at effect
    obtain ⟨ends, bytes, self, others, same⟩ := push_answer (i := .mma c w true) starts rfl residue (macCounted_sameBut _ _ _ _) (by decide)
      (by decide) (by decide) effect
    refine ⟨_, ends, bytes, self, others, ?_, same_mono same (by simp)⟩
    rw [pushNode_sameBut _ _ _ _ _ _ .ctr (by decide)]
    exact macCounted_ctr _ _ _ _
  · have effect := (startEff_matrix (s.setCore c.val (x.after o)) g c.val (cls_of_starts starts)).trans
      (matrixEff_mma (clean_of_starts starts _) g (by rwa [setCore_same, word_of_starts starts]) (op_of_starts starts) may rows cols)
    simp only [residue, Bool.false_eq_true, if_false] at effect
    have self (m : Nat) : (macCounted (s.setCore c.val (x.after o)) g c m).core c = x.after o := setCore_same _ _ _
    obtain ⟨ends, self, others, same⟩ := answer_of_starts_core (ps := [.ctr]) (i := .mma c w false) starts rfl residue effect
      (y := { x.after o with q := [{ o with started := true, attempt := some 1 }] }) (by rw [setOp, setCore_same, self]; simp [Core.after])
      (fun d hd => by rw [setOp, setCore_other _ _ _ _ hd]; rfl) (by simp)
      (same_mono (same_trans (macCounted_sameBut _ g c _) (setCore_sameBut _ c _)) (by simp)) (by simp)
    exact ⟨_, ends, self, others, same⟩
  · have effect := (startEff_matrix (s.setCore c.val (x.after o)) g c.val (cls_of_starts starts)).trans
      (matrixEff_tred (clean_of_starts starts _) g (by rwa [setCore_same, word_of_starts starts]) (op_of_starts starts) may rows cols inside untrapped)
    rw [word_of_starts starts] at effect
    obtain ⟨ends, bytes, self, others, same⟩ := push_answer (i := .tred c w) (ps := []) starts rfl residue (same_refl _ _) (by simp) (by simp) (by simp) effect
    exact ⟨_, ends, bytes, self, others, same⟩
  · have effect := (startEff_matrix (s.setCore c.val (x.after o)) g c.val (cls_of_starts starts)).trans
      (matrixEff_ladfin g (op_of_starts starts) one (by rwa [setCore_same, word_of_starts starts]))
    obtain ⟨ends, self, others, same⟩ := answer_of_starts (ps := []) (i := .ladfin c w) starts rfl residue effect (same_refl _ _) (by simp) (by simp)
    exact ⟨_, ends, self, others, same⟩
  · have effect := (startEff_matrix (s.setCore c.val (x.after o)) g c.val (cls_of_starts starts)).trans
      (matrixEff_acst (clean_of_starts starts _) g (by rwa [setCore_same, word_of_starts starts]) (op_of_starts starts) one rows cols)
    obtain ⟨ends, self, others, same⟩ := answer_of_starts (i := .acst c w) starts rfl residue effect (clmRows_sameBut _ _ _) (by decide) (by decide)
    exact ⟨_, ends, self, others, clmRows_clm _ _ _, same⟩
  · intro t
    have single := merged_of_apart s c a sp v apart
    refine ⟨by rw [pushNode_clm, single], ?_, pushNode_core_other s c i a sp v, pushNode_sameBut s c i a sp v⟩
    rw [pushNode_core_self, single, tget_tput_same]
  · intro m t
    have pairOnly := merged_of_pair s c a sp v ladder pair apart
    refine ⟨by rw [pushNode_clm, pairOnly], ?_, pushNode_core_other s c i a sp v, pushNode_sameBut s c i a sp v⟩
    rw [pushNode_core_self, pairOnly, tget_tput_same]

end Sys2Proof.Proofs

/-!
SUPPORT. What every step keeps: the rest of the queue, and the canonical form of the memories and of the check states of their lines.
-/
namespace Sys2Proof.Proofs
open Sys2Proof.Machine Sys2Proof.Laws

/-- From `s` to `t` the queue is the same and the memories stay in canonical form. -/
structure Keeps (s t : State) : Prop where
  queue : t.pending = s.pending
  memories : memoriesWf s = true → memoriesWf t = true

/-- A command answers a next state, which keeps the queue and the canonical form. -/
def Answers (s : State) (a : Ans) : Prop := ∃ t, a = .next t ∧ Keeps s t

variable {s₀ s t : State}

theorem keeps_refl (s : State) : Keeps s s := ⟨rfl, id⟩

theorem Keeps.trans {u : State} (h : Keeps s₀ s) (h' : Keeps s u) : Keeps s₀ u :=
  ⟨h'.queue.trans h.queue, h'.memories ∘ h.memories⟩

/-- An update of any other fields of the state. -/
theorem Keeps.update (h : Keeps s₀ s) {regs free out flash sat ll sectors res gens rb rings ctxs events tables cores groups nextGroup seqs
      seqSecs env pci ctr shadow log logSeq resets binaries xl mem chn tnd dmk frz kpr hng pins} :
    Keeps s₀ { s with
      regs := regs, free := free, out := out, flash := flash, sat := sat, ll := ll, sectors := sectors, res := res, gens := gens, rb := rb,
      rings := rings, ctxs := ctxs, events := events, tables := tables, cores := cores, groups := groups, nextGroup := nextGroup, seqs :=
      seqs, seqSecs := seqSecs, env := env, pci := pci, ctr := ctr, shadow := shadow, log := log, logSeq := logSeq, resets := resets,
      binaries := binaries, xl := xl, mem := mem, chn := chn, tnd := tnd, dmk := dmk, frz := frz, kpr := kpr, hng := hng, pins := pins } :=
  ⟨h.queue, h.memories⟩

/-- What may answer no state keeps the queue and the canonical form where it answers one. -/
abbrev KeepsSome (s : State) : Option State → Prop
  | some t => Keeps s t
  | none => True

/-- The same of what may answer a value and a state. -/
abbrev KeepsPair {α : Type} (s : State) : Option (α × State) → Prop
  | some p => Keeps s p.2
  | none => True

/-- The same of the two ends of the receipt of a frame. -/
abbrev KeepsBoth (s : State) : Except State State → Prop
  | .ok t => Keeps s t
  | .error t => Keeps s t

/-- The same of what the start of a tile instruction comes to. -/
abbrev KeepsEff (s : State) : Eff → Prop
  | .go t => Keeps s t
  | .trap _ => True
  | .fail _ t => Keeps s t

theorem Answers.next (h : Keeps s₀ t) : Answers s₀ (.next t) := ⟨t, rfl, h⟩

theorem Keeps.of_snd {α : Type} {p : α × State} {a : α} (eq : p = (a, t)) (h : Keeps s₀ p.2) : Keeps s₀ t := by rwa [eq] at h

theorem Keeps.of_fst {α : Type} {p : State × α} {a : α} (eq : p = (t, a)) (h : Keeps s₀ p.1) : Keeps s₀ t := by rwa [eq] at h

theorem Keeps.of_some {o : Option State} (eq : o = some t) (h : KeepsSome s₀ o) : Keeps s₀ t := by rwa [eq] at h

theorem Keeps.of_pair {α : Type} {o : Option (α × State)} {a : α} (eq : o = some (a, t)) (h : KeepsPair s₀ o) : Keeps s₀ t := by
  rwa [eq] at h

theorem Keeps.of_ok {r : Except State State} (eq : r = .ok t) (h : KeepsBoth s₀ r) : Keeps s₀ t := by rwa [eq] at h

theorem Keeps.of_error {r : Except State State} (eq : r = .error t) (h : KeepsBoth s₀ r) : Keeps s₀ t := by rwa [eq] at h

theorem Keeps.of_go {e : Eff} (eq : e = .go t) (h : KeepsEff s₀ e) : Keeps s₀ t := by rwa [eq] at h

theorem Keeps.of_fail {e : Eff} {w : Cond} (eq : e = .fail w t) (h : KeepsEff s₀ e) : Keeps s₀ t := by rwa [eq] at h

theorem keeps_getD {o : Option State} (h : KeepsSome s₀ o) (h' : Keeps s₀ t) : Keeps s₀ (o.getD t) := by
  cases o with
  | none => exact h'
  | some u => exact h

theorem keeps_ite {c : Prop} [Decidable c] (h : Keeps s₀ s) (h' : Keeps s₀ t) : Keeps s₀ (if c then s else t) := by
  split
  · exact h
  · exact h'

theorem answers_ite {c : Prop} [Decidable c] {a b : Ans} (h : Answers s₀ a) (h' : Answers s₀ b) : Answers s₀ (if c then a else b) := by
  split
  · exact h
  · exact h'

theorem keeps_foldl {α : Type} {f : State → α → State} {l : List α} (each : ∀ t x, Keeps s₀ t → Keeps s₀ (f t x)) (h : Keeps s₀ s) :
    Keeps s₀ (l.foldl f s) := by
  induction l generalizing s with
  | nil => exact h
  | cons x l ih => exact ih (each s x h)

theorem keeps_foldr {α : Type} {f : α → State → State} {l : List α} (each : ∀ x t, Keeps s₀ t → Keeps s₀ (f x t)) (h : Keeps s₀ s) :
    Keeps s₀ (l.foldr f s) := by
  induction l with
  | nil => exact h
  | cons x l ih => exact each x _ ih

theorem keeps_foldl_snd {α β : Type} {f : β × State → α → β × State} {l : List α} {p : β × State}
    (each : ∀ q x, Keeps s₀ q.2 → Keeps s₀ (f q x).2) (h : Keeps s₀ p.2) : Keeps s₀ (l.foldl f p).2 := by
  induction l generalizing p with
  | nil => exact h
  | cons x l ih => exact ih (each p x h)

theorem keeps_foldl_fst {α β : Type} {f : State × β → α → State × β} {l : List α} {p : State × β}
    (each : ∀ q x, Keeps s₀ q.1 → Keeps s₀ (f q x).1) (h : Keeps s₀ p.1) : Keeps s₀ (l.foldl f p).1 := by
  induction l generalizing p with
  | nil => exact h
  | cons x l ih => exact ih (each p x h)

/-! ### Writes of the memories and of the check states of their lines -/

theorem Keeps.of_memories (h : Keeps s₀ s) (queue : t.pending = s.pending) (sm : Memory.wf s.sm = true → Memory.wf t.sm = true)
    (ls : Memory.wf s.ls = true → Memory.wf t.ls = true) (clm : Memory.wf s.clm = true → Memory.wf t.clm = true)
    (smChk : twf 0 s.smChk = true → twf 0 t.smChk = true) (lsChk : twf 0 s.lsChk = true → twf 0 t.lsChk = true)
    (clmChk : twf 0 s.clmChk = true → twf 0 t.clmChk = true) : Keeps s₀ t := by
  refine ⟨queue.trans h.queue, fun wf => ?_⟩
  have before := h.memories wf
  simp only [memoriesWf, Bool.and_eq_true] at before ⊢
  obtain ⟨⟨⟨⟨⟨wfSm, wfLs⟩, wfClm⟩, wfSmChk⟩, wfLsChk⟩, wfClmChk⟩ := before
  exact ⟨⟨⟨⟨⟨sm wfSm, ls wfLs⟩, clm wfClm⟩, smChk wfSmChk⟩, lsChk wfLsChk⟩, clmChk wfClmChk⟩

theorem Keeps.sm (h : Keeps s₀ s) {m : List Host.Cell} {k : Tbl Nat} (wf : Memory.wf s.sm = true → Memory.wf m = true)
    (wfChk : twf 0 s.smChk = true → twf 0 k = true) : Keeps s₀ { s with sm := m, smChk := k } :=
  h.of_memories rfl wf id id wfChk id id

theorem Keeps.ls (h : Keeps s₀ s) {m : List Host.Cell} {k : Tbl Nat} (wf : Memory.wf s.ls = true → Memory.wf m = true)
    (wfChk : twf 0 s.lsChk = true → twf 0 k = true) : Keeps s₀ { s with ls := m, lsChk := k } :=
  h.of_memories rfl id wf id id wfChk id

theorem Keeps.clm (h : Keeps s₀ s) {m : List Host.Cell} {k : Tbl Nat} (wf : Memory.wf s.clm = true → Memory.wf m = true)
    (wfChk : twf 0 s.clmChk = true → twf 0 k = true) : Keeps s₀ { s with clm := m, clmChk := k } :=
  h.of_memories rfl id id wf id id wfChk

theorem twfFrom_filterMap {f : Nat × Nat → Option (Nat × Nat)} (keys : ∀ p q, f p = some q → q.1 = p.1 ∧ (p.2 ≠ 0 → q.2 ≠ 0)) (t : Tbl Nat)
    (lo : Nat) (wf : twfFrom 0 lo t = true) : twfFrom 0 lo (t.filterMap f) = true := by
  induction t generalizing lo with
  | nil => exact wf
  | cons p t ih =>
    simp only [twfFrom, Bool.and_eq_true, decide_eq_true_eq] at wf
    rw [List.filterMap_cons]
    split
    case h_1 => exact ih lo (twfFrom_le 0 t _ _ (by omega) wf.2)
    case h_2 q eq =>
      obtain ⟨key, value⟩ := keys p q eq
      simp only [twfFrom, Bool.and_eq_true, decide_eq_true_eq, key]
      exact ⟨⟨wf.1.1, by simpa using value (by simpa using wf.1.2)⟩, ih _ wf.2⟩

theorem twf_smWritten {t : Tbl Nat} (k len : Nat) (wf : twf 0 t = true) : twf 0 (smWritten t k len) = true := by
  refine twfFrom_filterMap (fun p q eq => ?_) t 0 wf
  split at eq
  · obtain rfl := Option.some.inj eq
    exact ⟨rfl, id⟩
  · split at eq
    · exact nomatch eq
    · split at eq
      · exact nomatch eq
      · obtain rfl := Option.some.inj eq
        exact ⟨rfl, fun _ => three_ne_zero⟩

theorem twf_foldl {α : Type} {f : Tbl Nat → α → Tbl Nat} {l : List α} {t : Tbl Nat} (each : ∀ t x, twf 0 t = true → twf 0 (f t x) = true)
    (wf : twf 0 t = true) : twf 0 (l.foldl f t) = true := by
  induction l generalizing t with
  | nil => exact wf
  | cons x l ih => exact ih (each t x wf)

theorem wf_foldl {α : Type} {f : List Host.Cell → α → List Host.Cell} {l : List α} {m : List Host.Cell}
    (each : ∀ m x, Memory.wf m = true → Memory.wf (f m x) = true) (wf : Memory.wf m = true) : Memory.wf (l.foldl f m) = true := by
  induction l generalizing m with
  | nil => exact wf
  | cons x l ih => exact ih (each m x wf)

end Sys2Proof.Proofs

/-!
SUPPORT. Each function of the model that answers a state keeps the queue and the canonical form of the memories, in the order in which the
functions build on each other: a record update by `Keeps.update`, an update of a memory by what keeps that memory, a call by its own lemma.
-/
namespace Sys2Proof.Proofs
open Sys2Proof.Machine Sys2Proof.Laws

variable {s₀ s t : State}

theorem keeps_emit {o} (h : Keeps s₀ s) : Keeps s₀ (State.emit s o) := h.update

theorem keeps_fresh (h : Keeps s₀ s) : Keeps s₀ (State.fresh s).2 := h.update

theorem keeps_setSeqSec {n x} (h : Keeps s₀ s) : Keeps s₀ (State.setSeqSec s n x) := h.update

theorem keeps_setBlk {n d b} (h : Keeps s₀ s) : Keeps s₀ (State.setBlk s n d b) := keeps_setSeqSec h

theorem keeps_setCore {c x} (h : Keeps s₀ s) : Keeps s₀ (State.setCore s c x) := h.update

theorem keeps_setCtx {c x} (h : Keeps s₀ s) : Keeps s₀ (State.setCtx s c x) := h.update

theorem keeps_setEvent {e x} (h : Keeps s₀ s) : Keeps s₀ (State.setEvent s e x) := h.update

theorem keeps_setFrz {n x} (h : Keeps s₀ s) : Keeps s₀ (State.setFrz s n x) := h.update

theorem keeps_setGen {n x} (h : Keeps s₀ s) : Keeps s₀ (State.setGen s n x) := h.update

theorem keeps_setGroup {g x} (h : Keeps s₀ s) : Keeps s₀ (State.setGroup s g x) := h.update

theorem keeps_setLane {l x} (h : Keeps s₀ s) : Keeps s₀ (State.setLane s l x) := h.update

theorem keeps_setMoor {m x} (h : Keeps s₀ s) : Keeps s₀ (State.setMoor s m x) := h.update

theorem keeps_setPort {p x} (h : Keeps s₀ s) : Keeps s₀ (State.setPort s p x) := h.update

theorem keeps_setRes {r x} (h : Keeps s₀ s) : Keeps s₀ (State.setRes s r x) := h.update

theorem keeps_setRing {q r} (h : Keeps s₀ s) : Keeps s₀ (State.setRing s q r) := h.update

theorem keeps_setSat {e x} (h : Keeps s₀ s) : Keeps s₀ (State.setSat s e x) := h.update

theorem keeps_setScrub {k x} (h : Keeps s₀ s) : Keeps s₀ (State.setScrub s k x) := h.update

theorem keeps_setSector {n x} (h : Keeps s₀ s) : Keeps s₀ (State.setSector s n x) := h.update

theorem keeps_setSeq {n x} (h : Keeps s₀ s) : Keeps s₀ (State.setSeq s n x) := h.update

theorem keeps_setSeqIn {k r} (h : Keeps s₀ s) : Keeps s₀ (State.setSeqIn s k r) := h.update

theorem keeps_setSlot {k x} (h : Keeps s₀ s) : Keeps s₀ (State.setSlot s k x) := h.update

theorem keeps_setTnd {n x} (h : Keeps s₀ s) : Keeps s₀ (State.setTnd s n x) := h.update

theorem keeps_setWatch {k w} (h : Keeps s₀ s) : Keeps s₀ (State.setWatch s k w) := h.update

theorem keeps_markWatch {k} (h : Keeps s₀ s) : Keeps s₀ (markWatch s k) := keeps_setWatch h

theorem keeps_markCtx {c} (h : Keeps s₀ s) : Keeps s₀ (markCtx s c) := keeps_ite h (keeps_markWatch h)

theorem keeps_bump {off n} (h : Keeps s₀ s) : Keeps s₀ (bump s off n) := h.update

theorem keeps_hostWrite {pasid addr bytes final} (h : Keeps s₀ s) : Keeps s₀ (hostWrite s pasid addr bytes final) := keeps_emit h

theorem keeps_sendMsix {v} (h : Keeps s₀ s) : Keeps s₀ (sendMsix s v) := keeps_ite (keeps_emit h) h.update

theorem keeps_sendVector {v} (h : Keeps s₀ s) : Keeps s₀ (sendVector s v) := keeps_ite h (keeps_sendMsix h)

theorem keeps_writeRecord {q head irq} (h : Keeps s₀ s) : Keeps s₀ (writeRecord s q head irq) := keeps_ite (keeps_ite (keeps_sendVector
    (keeps_setRing (keeps_hostWrite (keeps_hostWrite h)))) (keeps_setRing (keeps_hostWrite (keeps_hostWrite h)))) (keeps_setRing h)

theorem keeps_endCmd {q c status detail} (h : Keeps s₀ s) : Keeps s₀ (endCmd s q c status detail) := by
  unfold endCmd
  extract_lets -merge +onlyGivenNames r x s'
  have keeps_s' : Keeps s₀ s' := keeps_markCtx (keeps_bump h)
  extract_lets -merge +onlyGivenNames s''
  have keeps_s'' : Keeps s₀ s'' := keeps_ite h (keeps_ite keeps_s' (keeps_bump keeps_s'))
  extract_lets -merge +onlyGivenNames s'''
  have keeps_s''' : Keeps s₀ s''' := keeps_ite (keeps_bump keeps_s'') keeps_s''
  extract_lets -merge +onlyGivenNames s''''
  have keeps_s'''' : Keeps s₀ s'''' := keeps_ite (keeps_bump keeps_s''') keeps_s'''
  split
  · exact keeps_writeRecord (keeps_setRing keeps_s'''')
  · extract_lets -merge +onlyGivenNames r1
    split
    · exact keeps_setRing keeps_s''''
    · extract_lets -merge +onlyGivenNames fail gone r2 p1
      split
      · extract_lets -merge +onlyGivenNames s1
        have keeps_s1 : Keeps s₀ s1 := keeps_setRing keeps_s''''
        extract_lets -merge +onlyGivenNames worst
        clear_value worst
        split <;> exact keeps_writeRecord keeps_s1
      · exact keeps_setRing keeps_s''''

theorem keeps_settleWait {q c} (h : Keeps s₀ s) : Keeps s₀ (settleWait s q c) := by
  unfold settleWait
  extract_lets -merge +onlyGivenNames e v
  split
  · exact keeps_endCmd h
  · split
    · extract_lets -merge +onlyGivenNames s1
      have keeps_s1 : Keeps s₀ s1 := keeps_endCmd h
      extract_lets -merge +onlyGivenNames r
      exact keeps_ite (keeps_setRing keeps_s1) keeps_s1
    · exact h

theorem keeps_settleWaits {e} (h : Keeps s₀ s) : Keeps s₀ (settleWaits s e) := keeps_foldl (fun _ _ h' => keeps_foldl (fun _ _ h2 =>
    keeps_ite (keeps_settleWait h2) h2) h') h

theorem keeps_writeEvent {e} (h : Keeps s₀ s) : Keeps s₀ (writeEvent s e) := by
  unfold writeEvent
  split
  · exact h
  · exact keeps_sendVector (keeps_ite (keeps_hostWrite (keeps_hostWrite h)) h)

theorem keeps_abandonEvent {e err} (h : Keeps s₀ s) : Keeps s₀ (abandonEvent s e err) := keeps_ite (keeps_settleWaits (keeps_writeEvent
    (keeps_setEvent h))) h

theorem keeps_abandonLock (h : Keeps s₀ s) : Keeps s₀ (abandonLock s) := h.update

theorem keeps_chIssue {who n ctx type m stream addr len payload final} (h : Keeps s₀ s) : Keeps s₀ (chIssue s who n ctx type m stream addr
    len payload final) := h.update

theorem keeps_chRelease {n ctx m addr len} (h : Keeps s₀ s) : Keeps s₀ (chRelease s n ctx m addr len) := keeps_ite (keeps_chIssue h) h

theorem keeps_dropRef {n d} (h : Keeps s₀ s) : Keeps s₀ (dropRef s n d) := keeps_ite (keeps_ite (keeps_chRelease (keeps_setSeqSec h))
    (keeps_setSeqSec h)) (keeps_setSeqSec h)

theorem keeps_cutTable {slot e} (h : Keeps s₀ s) : Keeps s₀ (cutTable s slot e) := by
  unfold cutTable
  extract_lets -merge +onlyGivenNames x gone s1
  have keeps_s1 : Keeps s₀ s1 := keeps_setSeq h
  refine keeps_foldl ?_ ?_
  · intro t x kept
    split
    · exact keeps_dropRef kept
    · exact kept
  · exact keeps_s1

theorem keeps_resetDraft {m} (h : Keeps s₀ s) : Keeps s₀ (resetDraft s m) := by
  unfold resetDraft
  extract_lets -merge +onlyGivenNames x
  split
  · exact h
  · split
    · extract_lets -merge +onlyGivenNames b s1
      have keeps_s1 : Keeps s₀ s1 := keeps_setSeq h
      extract_lets -merge +onlyGivenNames s2
      have keeps_s2 : Keeps s₀ s2 := keeps_cutTable keeps_s1
      split
      · exact keeps_ite keeps_s2 (keeps_ite (keeps_setSeqSec keeps_s2) keeps_s2)
      · exact keeps_s2
    · exact h

theorem keeps_endReservation {k reset} (h : Keeps s₀ s) : Keeps s₀ (endReservation s k reset) := by
  unfold endReservation
  split
  · exact h
  · exact keeps_setSeq (keeps_ite (keeps_resetDraft h) h)

theorem keeps_signalEvent {e v} (h : Keeps s₀ s) : Keeps s₀ (signalEvent s e v) := keeps_ite (keeps_settleWaits (keeps_writeEvent
    (keeps_setEvent h))) h

theorem keeps_completeCmd {q c status detail} (h : Keeps s₀ s) : Keeps s₀ (completeCmd s q c status detail) := by
  unfold completeCmd
  extract_lets -merge +onlyGivenNames own fin s1
  have keeps_s1 : Keeps s₀ s1 := keeps_endCmd h
  split
  · exact keeps_s1
  · exact keeps_ite keeps_s1 (keeps_ite (keeps_signalEvent keeps_s1) (keeps_abandonEvent keeps_s1))

theorem keeps_completeSeq {q idx status detail} (h : Keeps s₀ s) : Keeps s₀ (completeSeq s q idx status detail) := by
  unfold completeSeq
  split
  · exact h
  · exact keeps_completeCmd h

theorem keeps_endQueued {k} (h : Keeps s₀ s) : Keeps s₀ (endQueued s k) := keeps_foldl (fun _ _ h' => keeps_completeSeq h') (keeps_setSeq h)

theorem keeps_freeDraft {m} (h : Keeps s₀ s) : Keeps s₀ (freeDraft s m) := by
  unfold freeDraft
  split
  · exact h
  · exact keeps_setSeq h

theorem keeps_raise {off i} (h : Keeps s₀ s) : Keeps s₀ (raise s off i) := keeps_ite (keeps_sendMsix h.update) h.update

theorem keeps_memCorr {kind unit sector addr} (h : Keeps s₀ s) : Keeps s₀ (memCorr s kind unit sector addr) := by
  unfold memCorr
  extract_lets -merge +onlyGivenNames pos info s1 s1'
  have keeps_s1' : Keeps s₀ s1' := h.update
  extract_lets -merge +onlyGivenNames s2
  have keeps_s2 : Keeps s₀ s2 := keeps_ite (keeps_bump keeps_s1') (keeps_ite (keeps_bump keeps_s1') (keeps_bump keeps_s1'))
  exact keeps_raise keeps_s2

theorem keeps_memCapture {kind cause unit sector addr scrub} (h : Keeps s₀ s) : Keeps s₀ (memCapture s kind cause unit sector addr scrub) :=
    keeps_ite (keeps_bump h.update) (keeps_ite (keeps_bump h.update) (keeps_ite (keeps_bump h.update) h.update))

theorem keeps_startFlush (h : Keeps s₀ s) : Keeps s₀ (startFlush s) := keeps_ite h h.update

theorem keeps_postLog {typ sector fatal arg more} (h : Keeps s₀ s) : Keeps s₀ (postLog s typ sector fatal arg more) := by
  unfold postLog
  extract_lets -merge +onlyGivenNames idle
  split
  · exact h.update
  · extract_lets -merge +onlyGivenNames s' s''
    have keeps_s'' : Keeps s₀ s'' := keeps_ite h.update h
    exact keeps_ite (keeps_startFlush keeps_s''.update) keeps_s''.update

theorem keeps_memUncorr {kind cause unit sector addr} (h : Keeps s₀ s) : Keeps s₀ (memUncorr s kind cause unit sector addr) := keeps_postLog
    (keeps_postLog (keeps_raise (keeps_memCapture h)))

theorem keeps_smPut {n a bs} (h : Keeps s₀ s) : Keeps s₀ (smPut s n a bs) := by
  unfold smPut
  extract_lets k len merged s1
  have keeps_s1 : Keeps s₀ s1 := keeps_foldl (fun _ _ h' => keeps_ite (keeps_memCorr h') (keeps_memUncorr h')) h
  exact keeps_s1.sm (wf_cwrite _ _ _) (twf_smWritten _ _)

theorem keeps_writeSpace {n ctx space addr bytes final} (h : Keeps s₀ s) : Keeps s₀ (writeSpace s n ctx space addr bytes final) := keeps_ite
    (keeps_smPut h) (keeps_hostWrite h)

theorem keeps_writeProgress {slot r reason ended} (h : Keeps s₀ s) : Keeps s₀ (writeProgress s slot r reason ended) := keeps_writeSpace h

theorem keeps_endRun {slot status detail reason st} (h : Keeps s₀ s) : Keeps s₀ (endRun s slot status detail reason st) := by
  unfold endRun
  extract_lets -merge +onlyGivenNames x
  split
  · exact h
  · extract_lets -merge +onlyGivenNames s1
    have keeps_s1 : Keeps s₀ s1 := keeps_ite (keeps_freeDraft (keeps_resetDraft (keeps_writeProgress h))) h
    extract_lets -merge +onlyGivenNames y s2
    have keeps_s2 : Keeps s₀ s2 := keeps_setSeq keeps_s1
    split
    · exact keeps_s2
    · exact keeps_completeCmd keeps_s2

theorem keeps_portCount {p i n} (h : Keeps s₀ s) : Keeps s₀ (portCount s p i n) := keeps_bump h

theorem keeps_laneSend {l f} (h : Keeps s₀ s) : Keeps s₀ (laneSend s l f) := keeps_ite (keeps_emit (keeps_setLane h)) (keeps_setLane h)

theorem keeps_laneOriginate {l f} (h : Keeps s₀ s) : Keeps s₀ (laneOriginate s l f) := keeps_portCount (keeps_portCount (keeps_laneSend h))

theorem keeps_chRemove {p} (h : Keeps s₀ s) : Keeps s₀ (chRemove s p) := by
  unfold chRemove
  extract_lets -merge +onlyGivenNames s1
  have keeps_s1 : Keeps s₀ s1 := keeps_foldl (fun _ _ h' => keeps_ite (keeps_laneOriginate h') h') h
  exact keeps_s1.update

theorem keeps_xlDrop {who} (h : Keeps s₀ s) : Keeps s₀ (xlDrop s who) := h.update

theorem keeps_dropLeave {p} (h : Keeps s₀ s) : Keeps s₀ (dropLeave s p) := h.update

theorem keeps_dropWaits {who} (h : Keeps s₀ s) : Keeps s₀ (dropWaits s who) := keeps_chRemove (keeps_xlDrop (keeps_dropLeave h))

theorem keeps_abortSeq {k reset} (h : Keeps s₀ s) : Keeps s₀ (abortSeq s k reset) := by
  unfold abortSeq
  extract_lets -merge +onlyGivenNames s1
  have keeps_s1 : Keeps s₀ s1 := keeps_endReservation (keeps_endQueued h)
  extract_lets -merge +onlyGivenNames x
  split
  · exact keeps_s1
  · exact keeps_ite (keeps_setSeq keeps_s1) (keeps_endRun (keeps_dropWaits keeps_s1))

theorem keeps_hngCount {i n} (h : Keeps s₀ s) : Keeps s₀ (hngCount s i n) := keeps_bump h

theorem keeps_errRecord {r outcome} (h : Keeps s₀ s) : Keeps s₀ (errRecord s r outcome) := h.update

theorem keeps_absorb {p} (h : Keeps s₀ s) : Keeps s₀ (absorb s p).1 := by
  unfold absorb
  extract_lets -merge +onlyGivenNames rs s1
  have keeps_s1 : Keeps s₀ s1 := keeps_foldl (fun _ _ h' => keeps_hngCount (keeps_ite h' (keeps_errRecord h'))) h
  exact keeps_s1.update

theorem keeps_epochUp {k} (h : Keeps s₀ s) : Keeps s₀ (epochUp s k) := keeps_bump h.update

theorem keeps_acquireDone {g o} (h : Keeps s₀ s) : Keeps s₀ (acquireDone s g o) := keeps_ite (keeps_epochUp h) h

theorem keeps_acquireMarker {p num at_} (h : Keeps s₀ s) : Keeps s₀ (acquireMarker s p num at_) := by
  unfold acquireMarker
  extract_lets -merge +onlyGivenNames f pair hold
  have keeps_hold : Keeps s₀ hold := h.update
  clear_value pair
  split
  · exact keeps_hold
  · exact keeps_ite keeps_hold h.update

theorem keeps_setFw {c f} (h : Keeps s₀ s) : Keeps s₀ (setFw s c f) := h.update

theorem keeps_switchSlot {c} (h : Keeps s₀ s) : Keeps s₀ (switchSlot s c) := keeps_setFw h

theorem keeps_fwRefused {c port slot version result} (h : Keeps s₀ s) : Keeps s₀ (fwRefused s c port slot version result) := keeps_raise
    (keeps_postLog h)

theorem keeps_fwRefusedFree {c port slot version} (h : Keeps s₀ s) : Keeps s₀ (fwRefusedFree s c port slot version) := keeps_fwRefused
    (keeps_fresh h)

theorem keeps_fwActivated {c port slot} (h : Keeps s₀ s) : Keeps s₀ (fwActivated s c port slot) := keeps_raise (keeps_postLog h)

theorem keeps_takeUcode {n} (h : Keeps s₀ s) : Keeps s₀ (takeUcode s n) := h.update

theorem keeps_dropRoutes {p} (h : Keeps s₀ s) : Keeps s₀ (dropRoutes s p) := keeps_ite h (keeps_raise h.update)

theorem keeps_setPortSt {p st} (h : Keeps s₀ s) : Keeps s₀ (setPortSt s p st) := keeps_ite h (keeps_raise (keeps_setPort h))

theorem keeps_dropReq {id} (h : Keeps s₀ s) : Keeps s₀ (dropReq s id) := h.update

theorem keeps_chSeq {stream dst} (h : Keeps s₀ s) : Keeps s₀ (chSeq s stream dst).2 := by
  unfold chSeq
  extract_lets -merge +onlyGivenNames k x
  exact h.update

theorem keeps_chNumber {r} (h : Keeps s₀ s) : Keeps s₀ (chNumber s r).2 := by
  unfold chNumber
  split
  · exact h
  · extract_lets -merge +onlyGivenNames q
    exact keeps_chSeq h

theorem keeps_setReq {r} (h : Keeps s₀ s) : Keeps s₀ (setReq s r) := h.update

theorem keeps_chPump (h : Keeps s₀ s) : Keeps s₀ (chPump s).2 := by
  unfold chPump
  refine keeps_foldl_snd (fun q r kept => ?_) h
  split
  · exact kept
  · extract_lets t
    split
    · split <;> exact keeps_dropReq kept
    · split
      · split
        case h_1 r' u eq =>
          have keeps_u : Keeps s₀ u := .of_snd eq (keeps_chNumber kept)
          extract_lets s1 s2
          have keeps_s2 : Keeps s₀ s2 := keeps_bump (keeps_laneOriginate keeps_u)
          exact keeps_ite (keeps_dropReq keeps_s2) (keeps_setReq keeps_s2)
      · exact kept

theorem keeps_orphanEvent {r reason} (h : Keeps s₀ s) : Keeps s₀ (orphanEvent s r reason) := keeps_postLog (keeps_postLog (keeps_raise h.update))

theorem keeps_freshBytes {n} (h : Keeps s₀ s) : Keeps s₀ (freshBytes s n).2 := h.update

theorem keeps_spaceWrite {g core space a bs} (h : Keeps s₀ s) : Keeps s₀ (spaceWrite s g core space a bs) := by
  unfold spaceWrite
  split
  · exact h.clm (wf_cwrite _ _ _) (twf_filter 0 _ _)
  · split
    · exact h.ls (wf_cwrite _ _ _) (twf_filter 0 _ _)
    · exact keeps_smPut h

theorem keeps_scrambleOp {g o} (h : Keeps s₀ s) : Keeps s₀ (scrambleOp s g o) := by
  unfold scrambleOp
  extract_lets -merge +onlyGivenNames d
  split
  · refine keeps_foldl ?_ ?_
    · intro t x kept
      split
      · exact kept
      · split
        · rename_i h1 h2 x1 bs t1 eq
          have keeps_t1 : Keeps s₀ t1 := .of_snd eq (keeps_freshBytes kept)
          exact keeps_spaceWrite keeps_t1
    · exact h
  · exact h

theorem keeps_releaseCores {g} (h : Keeps s₀ s) : Keeps s₀ (releaseCores s g) := keeps_foldl (fun _ _ h' => keeps_setCore h') h

theorem keeps_seqCount {n i k} (h : Keeps s₀ s) : Keeps s₀ (seqCount s n i k) := keeps_bump h

theorem keeps_raiseSeq {n i} (h : Keeps s₀ s) : Keeps s₀ (raiseSeq s n i) := keeps_raise h.update

theorem keeps_freeSlot {slot} (h : Keeps s₀ s) : Keeps s₀ (freeSlot s slot) := by
  unfold freeSlot
  extract_lets -merge +onlyGivenNames s1
  have keeps_s1 : Keeps s₀ s1 := keeps_cutTable h
  extract_lets -merge +onlyGivenNames x s2
  have keeps_s2 : Keeps s₀ s2 := keeps_setSeq keeps_s1
  split
  · exact keeps_completeSeq keeps_s2
  · exact keeps_s2

theorem keeps_leaveStep {slot} (h : Keeps s₀ s) : Keeps s₀ (leaveStep s slot) := keeps_ite (keeps_freeSlot (keeps_endRun h)) (keeps_ite
    (keeps_setSeq h) h)

theorem keeps_failStep {n w spec} (h : Keeps s₀ s) : Keeps s₀ (failStep s n w spec) := by
  unfold failStep
  extract_lets -merge +onlyGivenNames x
  split
  · exact h
  · extract_lets -merge +onlyGivenNames s1
    have keeps_s1 : Keeps s₀ s1 := keeps_seqCount (keeps_setSeqSec h)
    extract_lets -merge +onlyGivenNames s2
    have keeps_s2 : Keeps s₀ s2 := keeps_raiseSeq keeps_s1
    refine keeps_foldl ?_ ?_
    · intro t x kept
      extract_lets -merge +onlyGivenNames q s'
      have keeps_s' : Keeps s₀ s' := keeps_foldl (fun _ _ h' => keeps_ite h' (keeps_dropRef (keeps_setSeq h'))) kept
      exact keeps_leaveStep (keeps_endRun (keeps_setSeq keeps_s'))
    · exact keeps_s2

theorem keeps_poisonBlk {n d status} (h : Keeps s₀ s) : Keeps s₀ (poisonBlk s n d status) := keeps_foldl (fun _ _ h' => keeps_ite
    (keeps_raiseSeq (keeps_setSeq h')) h') (keeps_setSeqSec h)

theorem keeps_copyProv {n r c a} (h : Keeps s₀ s) : Keeps s₀ (copyProv s n r c a) := by
  unfold copyProv
  split
  · exact h
  · refine keeps_foldl (fun t j kept => ?_) h
    extract_lets pos
    split
    · exact kept
    · extract_lets f
      refine keeps_foldl (fun t' lh kept' => ?_) kept
      extract_lets src dst bad s1 s2 s3 q
      have keeps_s1 : Keeps s₀ s1 := keeps_smPut kept'
      have keeps_s2 : Keeps s₀ s2 := by
        refine keeps_s1.sm id (twf_foldl fun t x wf => ?_)
        split
        · exact twf_tput 0 _ _ _ wf
        · exact wf
      exact keeps_ite (keeps_setSeq (keeps_poisonBlk keeps_s2)) keeps_s1

theorem keeps_postRow {n r a} (h : Keeps s₀ s) : Keeps s₀ (postRow s n r a) := by
  unfold postRow
  extract_lets -merge +onlyGivenNames q
  split
  · exact h
  · split
    · exact keeps_ite (keeps_endRun h) h
    · exact keeps_ite (keeps_endRun (keeps_setSeq (keeps_writeSpace h))) (keeps_ite (keeps_endRun (keeps_setSeq (keeps_writeSpace h)))
        (keeps_ite (keeps_endRun (keeps_setSeq (keeps_writeSpace h))) (keeps_ite (keeps_endRun (keeps_setSeq (keeps_writeSpace h)))
        (keeps_ite (keeps_writeProgress (keeps_setSeq (keeps_writeSpace h))) (keeps_endRun (keeps_setSeq (keeps_writeSpace h)))))))

theorem keeps_commitStep {n} (h : Keeps s₀ s) : Keeps s₀ (commitStep s n) := by
  unfold commitStep
  extract_lets -merge +onlyGivenNames x
  split
  · exact h
  · extract_lets -merge +onlyGivenNames out rec_ dead live s1
    have keeps_s1 : Keeps s₀ s1 := keeps_setSeqSec h
    extract_lets -merge +onlyGivenNames s2
    have keeps_s2 : Keeps s₀ s2 := keeps_foldl (fun _ _ h' => keeps_ite (keeps_setSeq h') (keeps_setSeq h')) keeps_s1
    extract_lets -merge +onlyGivenNames s3
    have keeps_s3 : Keeps s₀ s3 := keeps_foldl (fun _ _ h' => keeps_copyProv h') keeps_s2
    extract_lets -merge +onlyGivenNames use
    have keeps_use : ∀ u x1, Keeps s₀ u → Keeps s₀ (use u x1) := by
      intro u x1 keeps_u
      unfold use
      extract_lets -merge +onlyGivenNames q b s'
      have keeps_s' : Keeps s₀ s' := keeps_foldl (fun _ _ h' => keeps_ite (keeps_dropRef (keeps_setSeq h')) h') keeps_u
      exact keeps_setSeqSec keeps_s'
    extract_lets -merge +onlyGivenNames s4
    have keeps_s4 : Keeps s₀ s4 := keeps_foldl (fun _ _ h' => keeps_use _ _ h') keeps_s3
    extract_lets -merge +onlyGivenNames s5
    have keeps_s5 : Keeps s₀ s5 := keeps_foldl (fun _ _ h' => keeps_foldl (fun _ _ h2 => keeps_ite h2 (keeps_dropRef (keeps_setSeq h2))) h')
      keeps_s4
    extract_lets -merge +onlyGivenNames cnt cnt' cnt''
    have keeps_cnt'' : ∀ u, Keeps s₀ u → Keeps s₀ (cnt'' u) := by
      intro u keeps_u
      unfold cnt''
      extract_lets -merge +onlyGivenNames s'
      have keeps_s' : Keeps s₀ s' := keeps_seqCount (keeps_seqCount keeps_u)
      exact keeps_foldl (fun _ _ h' => keeps_ite h' (keeps_bump h')) (keeps_seqCount (keeps_seqCount keeps_s'))
    extract_lets -merge +onlyGivenNames s6
    have keeps_s6 : Keeps s₀ s6 := keeps_cnt'' _ keeps_s5
    extract_lets -merge +onlyGivenNames s7 s7'
    have keeps_s7' : Keeps s₀ s7' := keeps_setSeqSec keeps_s6
    extract_lets -merge +onlyGivenNames s8
    have keeps_s8 : Keeps s₀ s8 := by
      unfold s8
      refine keeps_foldl ?_ ?_
      · intro t x kept
        extract_lets -merge +onlyGivenNames q a s'
        have keeps_s' : Keeps s₀ s' := keeps_setSeq kept
        extract_lets -merge +onlyGivenNames s''
        have keeps_s'' : Keeps s₀ s'' := by
          unfold s''
          split
          · exact keeps_ite keeps_s' (keeps_setSeq keeps_s')
          · exact keeps_ite (keeps_resetDraft keeps_s') keeps_s'
        exact keeps_leaveStep (keeps_postRow keeps_s'')
      · exact keeps_s7'
    exact keeps_foldl (fun _ _ h' => keeps_leaveStep (keeps_endRun h')) keeps_s8

theorem keeps_stepLaunchDone {n conds} (h : Keeps s₀ s) : Keeps s₀ (stepLaunchDone s n conds) := by
  unfold stepLaunchDone
  extract_lets -merge +onlyGivenNames x
  split
  · exact h
  · split
    · exact keeps_failStep h
    · exact keeps_ite (keeps_setSeqSec h) (keeps_ite (keeps_failStep h) (keeps_ite (keeps_failStep h) (keeps_commitStep h)))

theorem keeps_groupEnd {k} (h : Keeps s₀ s) : Keeps s₀ (groupEnd s k) := by
  unfold groupEnd
  split
  · exact h
  · extract_lets -merge +onlyGivenNames result s1
    have keeps_s1 : Keeps s₀ s1 := keeps_setGroup (keeps_releaseCores h)
    split
    · split
      · exact keeps_s1
      · exact keeps_completeCmd keeps_s1
    · exact keeps_stepLaunchDone keeps_s1

theorem keeps_settleGroup {k} (h : Keeps s₀ s) : Keeps s₀ (settleGroup s k) := by
  unfold settleGroup
  split
  · exact h
  · exact keeps_ite (keeps_groupEnd h) h

theorem keeps_stopGroup {k w} (h : Keeps s₀ s) : Keeps s₀ (stopGroup s k w) := by
  unfold stopGroup
  split
  · exact h
  · extract_lets -merge +onlyGivenNames s1
    have keeps_s1 : Keeps s₀ s1 := keeps_setGroup h
    split
    · exact keeps_s1
    · extract_lets -merge +onlyGivenNames s2
      have keeps_s2 : Keeps s₀ s2 := keeps_foldl (fun _ _ h' => keeps_setCore (keeps_foldl (fun _ _ h2 => keeps_scrambleOp h2) h')) keeps_s1
      exact keeps_settleGroup keeps_s2

theorem keeps_failTile {c num grp w} (h : Keeps s₀ s) : Keeps s₀ (failTile s c num grp w) := by
  unfold failTile
  split
  · exact h
  · exact keeps_ite h (keeps_stopGroup (keeps_dropWaits (keeps_setCore h)))

theorem keeps_stopCopy {q c w gone} (h : Keeps s₀ s) : Keeps s₀ (stopCopy s q c w gone) := keeps_ite (keeps_completeCmd (keeps_foldl (fun _ _
    h' => keeps_ite (keeps_dropWaits h') h') h)) (keeps_setRing (keeps_foldl (fun _ _ h' => keeps_ite (keeps_dropWaits h') h') h))

theorem keeps_failPiece {q idx buf off w} (h : Keeps s₀ s) : Keeps s₀ (failPiece s q idx buf off w) := by
  unfold failPiece
  split
  · exact h
  · exact keeps_stopCopy h

theorem keeps_failSpill {n d} (h : Keeps s₀ s) : Keeps s₀ (failSpill s n d) := keeps_raiseSeq (keeps_setSeqSec h)

theorem keeps_failPull {n d w} (h : Keeps s₀ s) : Keeps s₀ (failPull s n d w) := by
  unfold failPull
  extract_lets -merge +onlyGivenNames lost x s1
  have keeps_s1 : Keeps s₀ s1 := keeps_setSeqSec h
  extract_lets -merge +onlyGivenNames waiting s2
  have keeps_s2 : Keeps s₀ s2 := keeps_ite (keeps_poisonBlk keeps_s1) keeps_s1
  refine keeps_foldl ?_ ?_
  · intro t x kept
    extract_lets -merge +onlyGivenNames y det s1'
    have keeps_s1' : Keeps s₀ s1' := keeps_endRun kept
    extract_lets -merge +onlyGivenNames z s2'
    have keeps_s2' : Keeps s₀ s2' := keeps_ite (keeps_setSeq keeps_s1') keeps_s1'
    split
    · split
      · exact keeps_ite (keeps_completeCmd (keeps_setSeq keeps_s2')) keeps_s2'
      · exact keeps_s2'
    · exact keeps_s2'
  · exact keeps_s2

theorem keeps_failBlk {n d w} (h : Keeps s₀ s) : Keeps s₀ (failBlk s n d w) := by
  unfold failBlk
  extract_lets -merge +onlyGivenNames s1
  have keeps_s1 : Keeps s₀ s1 := keeps_dropWaits h
  split
  · exact keeps_failSpill keeps_s1
  · exact keeps_failPull keeps_s1
  · exact keeps_s1

theorem keeps_waiterFail {who grp w} (h : Keeps s₀ s) : Keeps s₀ (waiterFail s who grp w) := by
  unfold waiterFail
  split
  · exact keeps_failTile h
  · exact keeps_failPiece h
  · exact keeps_failBlk h
  · exact keeps_endRun h
  · exact h

theorem keeps_reqFail {r w} (h : Keeps s₀ s) : Keeps s₀ (reqFail s r w) := keeps_waiterFail (keeps_ite (keeps_orphanEvent (keeps_dropReq h))
    (keeps_dropReq h))

theorem keeps_chRun (h : Keeps s₀ s) : Keeps s₀ (chRun s) := keeps_foldl (fun _ _ h' => keeps_reqFail h') (keeps_chPump h)

theorem keeps_helloSend {k} (h : Keeps s₀ s) : Keeps s₀ (helloSend s k) := keeps_foldl (fun _ _ h' => keeps_ite (keeps_laneOriginate h') h') h

theorem keeps_portDown {p st} (h : Keeps s₀ s) : Keeps s₀ (portDown s p st) := by
  unfold portDown
  extract_lets -merge +onlyGivenNames was s1
  have keeps_s1 : Keeps s₀ s1 := keeps_foldl (fun _ _ h' => keeps_setLane h') h
  exact keeps_ite (keeps_chRun (keeps_helloSend (keeps_setPort (keeps_dropRoutes (keeps_setPortSt keeps_s1))))) (keeps_setPort
    (keeps_dropRoutes (keeps_setPortSt keeps_s1)))

theorem keeps_portTrain {p} (h : Keeps s₀ s) : Keeps s₀ (portTrain s p) := keeps_ite (keeps_portDown h) (keeps_ite (keeps_portDown h)
    (keeps_ite (keeps_portDown h) (keeps_portDown h)))

theorem keeps_chainFwGo {ps} (h : Keeps s₀ s) : Keeps s₀ (chainFwGo ps s) := by
  induction ps generalizing s with
  | nil => exact h.update
  | cons p r ih =>
    have keeps_slot (v : Nat) : Keeps s₀ { s with kpr := { s.kpr with portSlot := tput 0 s.kpr.portSlot p v } } := h.update
    refine keeps_ite (ih h) (keeps_ite ?_ (ih (keeps_fwActivated (keeps_slot _))))
    exact (keeps_portTrain (keeps_portDown (keeps_slot _))).update

theorem keeps_activateComp {c} (h : Keeps s₀ s) : Keeps s₀ (activateComp s c) := keeps_ite ((keeps_switchSlot h).update) (keeps_ite
    (keeps_ite (keeps_fwRefusedFree h) (keeps_fwActivated (keeps_foldl (fun _ _ h' => keeps_takeUcode h') (keeps_switchSlot h)))) (keeps_ite
    (keeps_chainFwGo (keeps_switchSlot h)) (keeps_ite (keeps_fwRefusedFree h) ((keeps_switchSlot h).update))))

theorem keeps_addRef {n d} (h : Keeps s₀ s) : Keeps s₀ (addRef s n d) := keeps_setSeqSec h

theorem keeps_clearTlm {k} (h : Keeps s₀ s) : Keeps s₀ (clearTlm s k) := h.update

theorem keeps_endAct {act : Option (Nat × BitVec 32)} {st : Nat} {d : BitVec 64} (h : Keeps s₀ s) :
    Keeps s₀ (match act with
      | none => s
      | some (q, i) => match (s.ring q).find i none with
        | none => s
        | some cmd => completeCmd s q cmd st d) := by
  split
  · exact h
  · split
    · exact h
    · exact keeps_completeCmd h

theorem keeps_admitCtx {c} (h : Keeps s₀ s) : Keeps s₀ (admitCtx s c) := by
  simp only [admitCtx]
  split
  · exact h
  next k _ =>
    have admitted (x : Ctx) : Keeps s₀ ((epochUp (clearTlm (s.setCtx c x) k) k)) := keeps_epochUp (keeps_clearTlm (keeps_setCtx h))
    split
    · exact keeps_endAct (keeps_setCtx h)
    · exact keeps_endAct (keeps_setWatch ((admitted _).ls (wf_czero _ _ _) (twf_filter 0 _ _)))

theorem keeps_setPiece {q idx buf off f} (h : Keeps s₀ s) : Keeps s₀ (setPiece s q idx buf off f) := by
  unfold setPiece
  split
  · exact h
  · exact keeps_setRing h

theorem keeps_atfCount {i n} (h : Keeps s₀ s) : Keeps s₀ (atfCount s i n) := keeps_bump h

theorem keeps_tlbPut {k size e} (h : Keeps s₀ s) : Keeps s₀ (tlbPut s k size e) := h.update

theorem keeps_tlbLookup {source n pasid unit} (h : Keeps s₀ s) : Keeps s₀ (tlbLookup s source n pasid unit).2 := by
  unfold tlbLookup
  extract_lets -merge +onlyGivenNames find
  split
  · extract_lets -merge +onlyGivenNames s'
    have keeps_s' : Keeps s₀ s' := keeps_atfCount h
    split
    · exact keeps_tlbPut keeps_s'
    · extract_lets -merge +onlyGivenNames s''
      have keeps_s'' : Keeps s₀ s'' := keeps_atfCount keeps_s'
      split
      · exact keeps_tlbPut (keeps_tlbPut keeps_s'')
      · exact keeps_atfCount keeps_s''
  · split
    · exact keeps_tlbPut h
    · exact h
  · exact h

theorem keeps_atsSend {n pasid unit write} (h : Keeps s₀ s) : Keeps s₀ (atsSend s n pasid unit write) := keeps_ite h (keeps_atfCount (keeps_emit h))

theorem keeps_xlAsk {w units} (h : Keeps s₀ s) : Keeps s₀ (xlAsk s w units).2 := by
  unfold xlAsk
  split
  · exact h
  · extract_lets r
    have keeps_r : Keeps s₀ r.2 := by
      refine keeps_foldl_snd (fun q x kept => ?_) h
      extract_lets l
      have keeps_l : Keeps s₀ l.2 := keeps_tlbLookup kept
      split
      · exact keeps_l
      · exact keeps_atsSend keeps_l
    split
    · exact keeps_r
    · exact keeps_r.update

theorem keeps_tndCount {n i k} (h : Keeps s₀ s) : Keeps s₀ (tndCount s n i k) := keeps_bump h

theorem keeps_askLeave {acct who ctx cls kind amount} (h : Keeps s₀ s) : Keeps s₀ (askLeave s acct who ctx cls kind amount) := keeps_ite h
    (keeps_ite (keeps_tndCount h.update) h.update)

theorem keeps_advPiece {q c p} (h : Keeps s₀ s) : KeepsSome s₀ (advPiece s q c p) := by
  unfold advPiece
  extract_lets -merge +onlyGivenNames r x set src dst hbm ask
  have keeps_set : ∀ t f, Keeps s₀ t → Keeps s₀ (set t f) := fun _ _ kept => keeps_setPiece kept
  have keeps_ask : ∀ o write yes no, KeepsSome s₀ (ask o write yes no) := fun _ _ _ _ => keeps_set _ _ (keeps_xlAsk h)
  clear_value ask hbm set src
  split
  · exact keeps_askLeave (keeps_set _ _ h)
  · split
    · trivial
    · split
      · split
        · split
          · exact keeps_ask _ _ _ _
          · exact keeps_set _ _ h
        · exact keeps_set _ _ h
      · split
        · split
          · exact keeps_ask _ _ _ _
          · exact keeps_set _ _ h
        · trivial

theorem keeps_setOp {c num f} (h : Keeps s₀ s) : Keeps s₀ (setOp s c num f) := keeps_setCore h

theorem keeps_askXlate {g c o write} (h : Keeps s₀ s) : Keeps s₀ (askXlate s g c o write).2 := by
  unfold askXlate
  extract_lets -merge +onlyGivenNames x
  exact keeps_xlAsk h

theorem keeps_memCheck {g core space a len} (h : Keeps s₀ s) : Keeps s₀ (memCheck s g core space a len).2 := by
  unfold memCheck
  refine keeps_foldl_snd ?_ ?_
  · intro q x kept
    extract_lets -merge +onlyGivenNames at_ pl
    split
    · exact keeps_memCorr kept
    · extract_lets -merge +onlyGivenNames cause d
      exact keeps_memUncorr kept
  · exact h

theorem keeps_checkTile {g c d} (h : Keeps s₀ s) : Keeps s₀ (checkTile s g c d).2 := by
  unfold checkTile
  split
  · exact h
  · refine keeps_foldl_snd ?_ ?_
    · intro q x kept
      extract_lets -merge +onlyGivenNames q'
      exact keeps_memCheck kept
    · exact h

theorem keeps_clmPut {c a bs} (h : Keeps s₀ s) : Keeps s₀ (clmPut s c a bs) := h.clm (wf_cwrite _ _ _) (twf_filter 0 _ _)

theorem keeps_putNode {c a l v} (h : Keeps s₀ s) : Keeps s₀ (putNode s c a l v) := keeps_foldl (fun _ _ h' => keeps_clmPut h') h

theorem keeps_mergeTop {k c a} (h : Keeps s₀ s) : Keeps s₀ (mergeTop k s c a).2 := by
  induction k generalizing s a with
  | zero => exact h
  | succ k ih =>
    unfold mergeTop
    split
    · split
      · exact ih (keeps_putNode h)
      · exact h
    · exact h

theorem keeps_pushNode {c i a sp v} (h : Keeps s₀ s) : Keeps s₀ (pushNode s c i a sp v) := keeps_setCore (keeps_mergeTop (keeps_putNode h))

theorem keeps_mmaPush {g c o a} (h : Keeps s₀ s) : Keeps s₀ (mmaPush s g c o a) := keeps_pushNode h

theorem keeps_matrixEff {g c o} (h : Keeps s₀ s) : KeepsEff s₀ (matrixEff s g c o) := by
  unfold matrixEff
  extract_lets -merge +onlyGivenNames x i d acc
  split
  · exact keeps_setCore h
  · clear_value acc
    split
    · exact trivial
    · extract_lets -merge +onlyGivenNames sp
      split
      · exact trivial
      · split
        · exact trivial
        · split
          · exact trivial
          · extract_lets -merge +onlyGivenNames q p
            split
            · exact keeps_checkTile (keeps_checkTile h)
            · extract_lets -merge +onlyGivenNames n s1
              have keeps_s1 : Keeps s₀ s1 := keeps_bump (keeps_bump (keeps_checkTile (keeps_checkTile h)))
              split
              · exact keeps_mmaPush keeps_s1
              · exact keeps_setOp keeps_s1
  · clear_value acc
    split
    · exact trivial
    · extract_lets -merge +onlyGivenNames sp
      split
      · exact trivial
      · split
        · exact trivial
        · split
          · exact trivial
          · split
            · exact h
            · split
              · exact trivial
              · split
                · rename_i x1 eq acc a h1 h2 h3 h4 x2 eq1 x3 w t1 eq2
                  have keeps_t1 : Keeps s₀ t1 := .of_snd eq2 (keeps_checkTile h)
                  exact keeps_t1
                · rename_i x1 eq acc a h1 h2 h3 h4 x2 eq1 x3 t1 eq2
                  have keeps_t1 : Keeps s₀ t1 := .of_snd eq2 (keeps_checkTile h)
                  exact keeps_pushNode keeps_t1
  · clear_value acc
    split
    · split
      · exact h
      · exact trivial
    · exact trivial
  · clear_value acc
    split
    · exact trivial
    · split
      · exact trivial
      · split
        · exact trivial
        · split
          · rename_i x1 x2 x3 x4 x5 acc a h1 h2 x6 w t1 eq
            have keeps_t1 : Keeps s₀ t1 := .of_snd eq (keeps_memCheck h)
            exact keeps_t1
          · rename_i x1 x2 x3 x4 x5 acc a h1 h2 x6 t1 eq
            have keeps_t1 : Keeps s₀ t1 := .of_snd eq (keeps_memCheck h)
            exact keeps_foldl (fun _ _ h' => keeps_clmPut h') keeps_t1

theorem keeps_vectorEff {g c o} (h : Keeps s₀ s) : KeepsEff s₀ (vectorEff s g c o) := by
  unfold vectorEff
  extract_lets u chk p s' rd put b row out s1
  have keeps_chk : ∀ on d (q : Option Cond × State), Keeps s₀ q.2 → Keeps s₀ (chk on d q).2 := by
    intro on d q kept
    unfold chk
    split
    · exact keeps_checkTile kept
    · exact kept
  have keeps_p : Keeps s₀ p.2 := keeps_chk _ _ _ (keeps_chk _ _ _ (keeps_chk _ _ _ h))
  split
  · exact keeps_p
  · have keeps_put : ∀ t l, Keeps s₀ t → Keeps s₀ (put t l) := fun _ _ kept => keeps_foldl (fun _ _ h' => keeps_clmPut h') kept
    split
    · exact keeps_put _ _ keeps_p
    · split
      · exact keeps_put _ _ (keeps_put _ _ keeps_p)
      · exact keeps_put _ _ keeps_p

theorem keeps_chainIssue {g c o type ps} (h : Keeps s₀ s) : Keeps s₀ (chainIssue s g c o type ps).2 := by
  unfold chainIssue
  refine keeps_foldl_snd ?_ ?_
  · intro q x kept
    extract_lets -merge +onlyGivenNames s'
    have keeps_s' : Keeps s₀ s' := kept
    exact keeps_chIssue keeps_s'
  · exact h

theorem keeps_haltStream {c o status} (h : Keeps s₀ s) : Keeps s₀ (haltStream s c o status) := keeps_raise h.update

theorem keeps_moveFail {c o w} (h : Keeps s₀ s) : KeepsEff s₀ (moveFail s c o w) := keeps_ite (keeps_haltStream h) h

theorem keeps_dmaCount {c g write space n} (h : Keeps s₀ s) : Keeps s₀ (dmaCount s c g write space n) := keeps_ite (keeps_bump (keeps_bump
    (keeps_bump h))) (keeps_bump (keeps_bump h))

theorem keeps_tileWrite {g c d bs} (h : Keeps s₀ s) : Keeps s₀ (tileWrite s g c d bs) := keeps_foldl (fun _ _ h' => keeps_spaceWrite h') h

theorem keeps_hmWrite {g o d bs} (h : Keeps s₀ s) : Keeps s₀ (hmWrite s g o d bs).2 := by
  unfold hmWrite
  refine keeps_foldl_snd ?_ ?_
  · intro q x kept
    split
    · exact kept
    · split
      · exact keeps_hostWrite kept
      · exact keeps_raise kept
  · exact h

theorem keeps_moveWrite {g c o bs} (h : Keeps s₀ s) : Keeps s₀ (moveWrite s g c o bs).2 := by
  unfold moveWrite
  extract_lets -merge +onlyGivenNames d s'
  have keeps_s' : Keeps s₀ s' := keeps_ite h (keeps_dmaCount h)
  extract_lets -merge +onlyGivenNames s''
  have keeps_s'' : Keeps s₀ s'' := keeps_setOp keeps_s'
  split
  · exact keeps_tileWrite keeps_s''
  · split
    · exact keeps_hmWrite keeps_s''
    · exact keeps_chainIssue keeps_s''

theorem keeps_moveEff {g c o} (h : Keeps s₀ s) : KeepsEff s₀ (moveEff s g c o) := by
  unfold moveEff
  extract_lets -merge +onlyGivenNames sides
  split
  · exact trivial
  · exact h
  · split
    · split
      · exact keeps_chainIssue h
      · exact h
    · split
      · split
        · rename_i x x1 eq eq1 h1 h2 x2 w t1 eq2
          have keeps_t1 : Keeps s₀ t1 := .of_snd eq2 (keeps_checkTile h)
          exact keeps_moveFail keeps_t1
        · rename_i x x1 eq eq1 h1 h2 x2 t1 eq2
          have keeps_t1 : Keeps s₀ t1 := .of_snd eq2 (keeps_checkTile h)
          extract_lets -merge +onlyGivenNames old s2
          have keeps_s2 : Keeps s₀ s2 := keeps_clmPut keeps_t1
          extract_lets -merge +onlyGivenNames s3
          have keeps_s3 : Keeps s₀ s3 := keeps_spaceWrite keeps_s2
          exact keeps_setOp (keeps_dmaCount (keeps_dmaCount keeps_s3))
      · split
        · extract_lets -merge +onlyGivenNames s1
          have keeps_s1 : Keeps s₀ s1 := keeps_dmaCount h
          split
          · extract_lets -merge +onlyGivenNames q
            exact keeps_setOp (keeps_chainIssue keeps_s1)
          · exact keeps_s1
        · split
          · rename_i x x1 eq eq1 h1 h2 h3 x2 w t1 eq2
            have keeps_t1 : Keeps s₀ t1 := .of_snd eq2 (keeps_checkTile h)
            exact keeps_moveFail keeps_t1
          · rename_i x x1 eq eq1 h1 h2 h3 x2 t1 eq2
            have keeps_t1 : Keeps s₀ t1 := .of_snd eq2 (keeps_checkTile h)
            extract_lets -merge +onlyGivenNames s2
            have keeps_s2 : Keeps s₀ s2 := keeps_ite keeps_t1 (keeps_dmaCount keeps_t1)
            split
            · rename_i x3 w t2 eq3
              have keeps_t2 : Keeps s₀ t2 := .of_snd eq3 (keeps_moveWrite keeps_s2)
              exact keeps_t2
            · rename_i x3 t2 eq3
              have keeps_t2 : Keeps s₀ t2 := .of_snd eq3 (keeps_moveWrite keeps_s2)
              exact keeps_t2

theorem keeps_barEff {g c o} (h : Keeps s₀ s) : KeepsEff s₀ (barEff s g c o) := by
  unfold barEff
  extract_lets -merge +onlyGivenNames x k n
  exact keeps_setOp (keeps_setGroup h)

/-- The kernel would evaluate the comparison that decides `blkAt`: the function is taken as a variable. -/
theorem keeps_of_poisonAt {f : State → Nat → Nat → State} (eq : f = poisonAt) {n a : Nat} (h : Keeps s₀ s) : Keeps s₀ (f s n a) := by
  delta poisonAt at eq
  generalize blkAt = at_ at eq
  subst eq
  beta_reduce
  split
  · exact keeps_poisonBlk h
  · exact h

theorem keeps_poisonAt {n a} (h : Keeps s₀ s) : Keeps s₀ (poisonAt s n a) := keeps_of_poisonAt rfl h

theorem keeps_decision {r} (h : Keeps s₀ s) : Keeps s₀ (decision s r).2 := by
  unfold decision
  extract_lets -merge +onlyGivenNames open_ flags ws
  exact h.update

theorem keeps_setRow {n i r} (h : Keeps s₀ s) : Keeps s₀ (setRow s n i r) := by
  unfold setRow
  extract_lets -merge +onlyGivenNames x
  split
  · exact h
  · exact keeps_setSeqSec h

theorem keeps_seqEff {g c o} (h : Keeps s₀ s) : KeepsEff s₀ (seqEff s g c o) := by
  unfold seqEff
  extract_lets -merge +onlyGivenNames n
  split
  · exact trivial
  · extract_lets -merge +onlyGivenNames q e rows
    split
    · extract_lets -merge +onlyGivenNames rec_ d
      exact keeps_foldl (fun _ _ h' => keeps_clmPut h') h
    · split
      · exact trivial
      · extract_lets -merge +onlyGivenNames ps chk
        have keeps_chk : Keeps s₀ chk.2 := by
          unfold chk
          refine keeps_foldl_snd ?_ ?_
          · intro q x kept
            extract_lets -merge +onlyGivenNames m
            split <;> exact keeps_memCheck kept
          · exact h
        split
        · exact keeps_poisonAt keeps_chk
        · exact keeps_foldl (fun _ _ h' => keeps_spaceWrite h') keeps_chk
    · split
      · exact trivial
      · split
        · rename_i x r eq x1 eq1 x2 eq2 x3 w t1 eq3
          have keeps_t1 : Keeps s₀ t1 := .of_snd eq3 (keeps_checkTile h)
          exact keeps_t1
        · rename_i x r eq x1 eq1 x2 eq2 x3 t1 eq3
          have keeps_t1 : Keeps s₀ t1 := .of_snd eq3 (keeps_checkTile h)
          exact keeps_foldl (fun _ _ h' => keeps_spaceWrite h') keeps_t1
    · extract_lets -merge +onlyGivenNames v
      split
      · exact trivial
      · split
        · exact trivial
        · split
          · exact trivial
          · split
            · rename_i x r eq x1 x2 x3 x4 x5 eq1 h1 h2 x6 w t1 eq2
              have keeps_t1 : Keeps s₀ t1 := .of_snd eq2 (keeps_checkTile h)
              exact keeps_t1
            · rename_i x r eq x1 x2 x3 x4 x5 eq1 h1 h2 x6 t1 eq2
              have keeps_t1 : Keeps s₀ t1 := .of_snd eq2 (keeps_checkTile h)
              extract_lets -merge +onlyGivenNames rd xs m r1 d
              exact keeps_clmPut (keeps_setRow (keeps_decision keeps_t1))

theorem keeps_startEff {g c o} (h : Keeps s₀ s) : KeepsEff s₀ (startEff s g c o) := by
  unfold startEff
  split
  · exact keeps_matrixEff h
  · exact keeps_vectorEff h
  · exact keeps_moveEff h
  · split
    · exact keeps_barEff h
    · exact h
  · exact keeps_seqEff h

theorem keeps_trapCore {c cause code cls op pc} (h : Keeps s₀ s) : Keeps s₀ (trapCore s c cause code cls op pc) := keeps_stopGroup
    (keeps_raise (keeps_setCore h))

theorem keeps_trapTile {c o cause} (h : Keeps s₀ s) : Keeps s₀ (trapTile s c o cause) := keeps_trapCore h

theorem keeps_dropOp {c num} (h : Keeps s₀ s) : Keeps s₀ (dropOp s c num) := keeps_setCore h

theorem keeps_startOp {g c o} (h : Keeps s₀ s) : Keeps s₀ (startOp s g c o) := by
  unfold startOp
  extract_lets s0
  have keeps_s0 : Keeps s₀ s0 := keeps_setOp h
  split
  case h_1 s1 eq => exact .of_go eq (keeps_startEff keeps_s0)
  case h_2 cause eq => exact keeps_trapTile (keeps_dropOp h)
  case h_3 w s1 eq => exact keeps_failTile (.of_fail eq (keeps_startEff keeps_s0))

theorem keeps_advance {g c o} (h : Keeps s₀ s) : KeepsSome s₀ (advance s g c o) := by
  unfold advance
  split
  · exact keeps_askLeave (keeps_setOp h)
  · trivial
  · extract_lets go
    have keeps_go : ∀ xl b, KeepsSome s₀ (go xl b) := fun _ _ => keeps_setOp (keeps_askXlate h)
    split
    · trivial
    · split
      · exact keeps_go _ _
      · split
        · exact keeps_go _ _
        · split
          · trivial
          · exact keeps_startOp h

theorem keeps_requestCycle (h : Keeps s₀ s) : Keeps s₀ (requestCycle s) := keeps_raise h.update

theorem keeps_journalPut {step level outcome ms detail} (h : Keeps s₀ s) : Keeps s₀ (journalPut s step level outcome ms detail) := keeps_ite
    h.update h

theorem keeps_setBoot {b} (h : Keeps s₀ s) : Keeps s₀ (setBoot s b) := h.update

theorem keeps_setRp {k x} (h : Keeps s₀ s) : Keeps s₀ (setRp s k x) := h.update

theorem keeps_releaseBypass {dark} (h : Keeps s₀ s) : Keeps s₀ (releaseBypass s dark) := keeps_foldl (fun _ _ h' => keeps_setRp h')
    (keeps_foldl (fun _ _ h' => keeps_ite h' (keeps_portDown h')) h)

theorem keeps_bootFailed {step} (h : Keeps s₀ s) : Keeps s₀ (bootFailed s step) := by
  unfold bootFailed
  extract_lets -merge +onlyGivenNames b s1
  have keeps_s1 : Keeps s₀ s1 := keeps_setBoot h
  extract_lets -merge +onlyGivenNames s2 s2'
  have keeps_s2' : Keeps s₀ s2' := keeps_s1.update
  exact keeps_releaseBypass (keeps_postLog keeps_s2')

theorem keeps_runLevel {ms id lvl} (h : Keeps s₀ s) : Keeps s₀ (runLevel s ms id lvl) := keeps_journalPut (keeps_setBoot (keeps_ite h.update h))

theorem keeps_startStep {ms id} (h : Keeps s₀ s) : Keeps s₀ (startStep ms s id) := keeps_ite h (keeps_ite (keeps_journalPut (keeps_setBoot
    h)) (keeps_ite (keeps_bootFailed h) (keeps_runLevel h)))

theorem keeps_startStage {ms stage} (h : Keeps s₀ s) : Keeps s₀ (startStage s ms stage) := keeps_foldl (fun _ _ h' => keeps_startStep h')
    (keeps_setBoot h)

theorem keeps_beginBoot {kind} (h : Keeps s₀ s) : Keeps s₀ (beginBoot s kind) := keeps_startStage (keeps_foldl (fun _ _ h' =>
    keeps_journalPut h') h.update)

theorem keeps_afterDump (h : Keeps s₀ s) : Keeps s₀ (afterDump s) := keeps_ite (keeps_ite ((keeps_startFlush h).update) (keeps_requestCycle
    (keeps_startFlush h))) (keeps_beginBoot h)

theorem keeps_allocBlk {n ctx fill} (h : Keeps s₀ s) : KeepsPair s₀ (allocBlk s n ctx fill) := by
  unfold allocBlk
  extract_lets -merge +onlyGivenNames x
  split
  · exact keeps_setSeqSec h
  · exact trivial

theorem keeps_answer {l f type status payload} (h : Keeps s₀ s) : Keeps s₀ (answer s l f type status payload) := keeps_laneOriginate h

theorem keeps_fqFree (h : Keeps s₀ s) : Keeps s₀ (fqFree s) := h.update

theorem keeps_answerFq {p} (h : Keeps s₀ s) : Keeps s₀ (answerFq s p) := keeps_fqFree h.update

theorem keeps_setEmerg {level cause} (h : Keeps s₀ s) : Keeps s₀ (setEmerg s level cause) := keeps_ite h.update (keeps_postLog (keeps_raise
    h.update))

theorem keeps_applyE1 {cause} (h : Keeps s₀ s) : Keeps s₀ (applyE1 s cause) := keeps_setEmerg h

theorem keeps_turnGen {n old} (h : Keeps s₀ s) : Keeps s₀ (turnGen s n old) := keeps_ite (keeps_setGen h) (keeps_setGen h)

theorem keeps_zeroSector {n} (h : Keeps s₀ s) : Keeps s₀ (zeroSector s n) := h.sm (wf_czero _ _ _) (twf_filter 0 _ _)

theorem keeps_freshSector {n} (h : Keeps s₀ s) : Keeps s₀ (freshSector s n) := keeps_zeroSector (keeps_dropLeave (keeps_setFrz
    (keeps_setSeqSec (keeps_setTnd h.update))))

theorem keeps_setReg {off v} (h : Keeps s₀ s) : Keeps s₀ (setReg s off v) := h.update

theorem keeps_releaseRes {k gen} (h : Keeps s₀ s) : Keeps s₀ (releaseRes s k gen) := keeps_ite (keeps_setRes h) (keeps_ite (keeps_ite
    (keeps_raise (keeps_setRes (keeps_dropLeave h))) (keeps_setRes (keeps_dropLeave h))) h)

theorem keeps_setKey {k sector gen} (h : Keeps s₀ s) : Keeps s₀ (setKey s k sector gen) := keeps_ite h.update h

theorem keeps_bindRes {k n gen} (h : Keeps s₀ s) : Keeps s₀ (bindRes s k n gen) := keeps_ite h (keeps_ite (keeps_setKey (keeps_setRes h))
    (keeps_setRes h))

theorem keeps_dropQuarantined (h : Keeps s₀ s) : Keeps s₀ (dropQuarantined s) := keeps_foldl (fun _ _ h' => keeps_ite ((keeps_setRes
    h').update) h') h

theorem keeps_lightExtents {n x rs} (h : Keeps s₀ s) : Keeps s₀ (lightExtents s n x rs) := keeps_setGen h

theorem keeps_lightPages {n} (h : Keeps s₀ s) : Keeps s₀ (lightPages s n) := by
  unfold lightPages
  extract_lets -merge +onlyGivenNames dims
  refine keeps_foldl ?_ ?_
  · intro t x kept
    split
    · exact kept
    · refine keeps_foldl ?_ ?_
      · intro t x kept
        split
        · exact kept
        · exact keeps_ite kept (keeps_setGen kept)
      · exact kept
  · exact h

theorem keeps_rehomeCheck {before} (h : Keeps s₀ s) : Keeps s₀ (rehomeCheck s before) := by
  unfold rehomeCheck
  refine keeps_foldl ?_ ?_
  · intro t x kept
    refine keeps_foldl ?_ ?_
    · intro t x kept
      extract_lets -merge +onlyGivenNames old new others running
      clear_value running
      split <;> exact keeps_ite kept kept.update
    · exact kept
  · exact h

theorem keeps_recheckLaunches {n} (h : Keeps s₀ s) : Keeps s₀ (recheckLaunches s n) := by
  unfold recheckLaunches
  extract_lets -merge +onlyGivenNames lit s1
  have keeps_s1 : Keeps s₀ s1 := keeps_foldl (fun _ _ h' => keeps_ite h' (keeps_foldl (fun _ _ h2 => keeps_ite (keeps_completeCmd h2) h2) h')) h
  split
  · exact keeps_ite (keeps_failStep keeps_s1) keeps_s1
  · exact keeps_s1

theorem keeps_applyLight {rs gen} (h : Keeps s₀ s) : Keeps s₀ (applyLight s rs gen) := by
  unfold applyLight
  extract_lets -merge +onlyGivenNames old homes new re begun ended s0
  have keeps_s0 : Keeps s₀ s0 := h.update
  extract_lets -merge +onlyGivenNames s1
  have keeps_s1 : Keeps s₀ s1 := keeps_foldl (fun _ _ h' => keeps_turnGen h') keeps_s0
  extract_lets -merge +onlyGivenNames s2
  have keeps_s2 : Keeps s₀ s2 := keeps_foldl (fun _ _ h' => keeps_freshSector h') keeps_s1
  extract_lets -merge +onlyGivenNames s3
  have keeps_s3 : Keeps s₀ s3 := keeps_foldl (fun _ _ h' => keeps_setReg h') keeps_s2
  extract_lets -merge +onlyGivenNames changed s4
  have keeps_s4 : Keeps s₀ s4 := keeps_foldl (fun _ _ h' => keeps_ite (keeps_releaseRes h') h') keeps_s3
  extract_lets -merge +onlyGivenNames s5
  have keeps_s5 : Keeps s₀ s5 := by
    unfold s5
    refine keeps_foldl ?_ ?_
    · intro t x kept
      split
      · exact keeps_bindRes kept
      · exact kept
    · exact keeps_s4
  extract_lets -merge +onlyGivenNames s6
  have keeps_s6 : Keeps s₀ s6 := keeps_dropQuarantined keeps_s5
  extract_lets -merge +onlyGivenNames s7
  have keeps_s7 : Keeps s₀ s7 := keeps_foldl (fun _ _ h' => keeps_ite (keeps_lightExtents h') h') keeps_s6
  extract_lets -merge +onlyGivenNames s8
  have keeps_s8 : Keeps s₀ s8 := keeps_foldl (fun _ _ h' => keeps_lightPages h') keeps_s7
  extract_lets -merge +onlyGivenNames s9 s9'
  have keeps_s9' : Keeps s₀ s9' := keeps_foldl (fun _ _ h' => keeps_setGen h') keeps_s8
  extract_lets -merge +onlyGivenNames s10
  have keeps_s10 : Keeps s₀ s10 := keeps_ite (keeps_raise keeps_s9') keeps_s9'
  extract_lets -merge +onlyGivenNames s11
  have keeps_s11 : Keeps s₀ s11 := keeps_foldl (fun _ _ h' => keeps_ite h' (keeps_setTnd h')) keeps_s10
  extract_lets -merge +onlyGivenNames s12
  have keeps_s12 : Keeps s₀ s12 := by
    unfold s12
    split
    · exact keeps_setReg keeps_s11
    · exact keeps_s11
  exact keeps_foldl (fun _ _ h' => keeps_recheckLaunches h') (keeps_rehomeCheck keeps_s12.update)

theorem keeps_askRebind {acct who amount} (h : Keeps s₀ s) : Keeps s₀ (askRebind s acct who amount) := keeps_ite (keeps_askLeave h)
    ((keeps_askLeave h).update)

theorem keeps_askFill {k} (h : Keeps s₀ s) : Keeps s₀ (askFill s k) := keeps_askRebind (keeps_setRes h)

theorem keeps_askSeq {k ranges} (h : Keeps s₀ s) : Keeps s₀ (askSeq s k ranges).2 := by
  unfold askSeq
  extract_lets -merge +onlyGivenNames x
  split
  · exact h
  · extract_lets -merge +onlyGivenNames w a
    exact keeps_setSeq (keeps_xlAsk h)

theorem keeps_markLantern {n} (h : Keeps s₀ s) : Keeps s₀ (markLantern s n) := keeps_markWatch h

theorem keeps_availDrop {c} (h : Keeps s₀ s) : Keeps s₀ (availDrop s c) := keeps_setReg (keeps_ite (keeps_setReg h) (keeps_setReg (keeps_setReg h)))

theorem keeps_quarantine {c} {s0 : State} (h : Keeps s₀ s0) : Keeps s₀ (quarantine s0 c) := keeps_setRes (keeps_availDrop h)

theorem keeps_donePriv {p} (h : Keeps s₀ s) : Keeps s₀ (donePriv s p) := by
  unfold donePriv
  split
  · exact h
  · exact keeps_completeCmd h

theorem keeps_endWait {c} (h : Keeps s₀ s) : Keeps s₀ (endWait s c) := by
  unfold endWait
  extract_lets -merge +onlyGivenNames x s1
  have keeps_s1 : Keeps s₀ s1 := keeps_setCtx h
  split
  · exact keeps_s1
  · split
    · exact keeps_s1
    · exact keeps_completeCmd keeps_s1

theorem keeps_updReset {rung target f} (h : Keeps s₀ s) : Keeps s₀ (updReset s rung target f) := h.update

theorem keeps_stopGroups {p} (h : Keeps s₀ s) : Keeps s₀ (stopGroups s p) := by
  unfold stopGroups
  refine keeps_foldl ?_ ?_
  · intro t x kept
    split
    · exact kept
    · exact keeps_ite (keeps_stopGroup kept) kept
  · exact h

theorem keeps_seqCtxReset {c} (h : Keeps s₀ s) : Keeps s₀ (seqCtxReset s c) := keeps_foldl (fun _ _ h' => keeps_ite h' (keeps_ite
    (keeps_setSeq (keeps_foldl (fun _ _ h2 => keeps_completeSeq h2) (keeps_setSeq h'))) (keeps_endRun (keeps_foldl (fun _ _ h2 =>
    keeps_completeSeq h2) (keeps_setSeq h'))))) h

theorem keeps_dropBlkMoves {n p} (h : Keeps s₀ s) : Keeps s₀ (dropBlkMoves s n p) := keeps_ite h (keeps_foldl (fun _ _ h' => keeps_ite
    (keeps_setSeq h') h') (keeps_foldl (fun _ _ h' => keeps_dropWaits h') (keeps_setSeqSec h)))

theorem keeps_xlDropCtx {c} (h : Keeps s₀ s) : Keeps s₀ (xlDropCtx s c) := h.update

theorem keeps_removeSignal {ctx c} (h : Keeps s₀ s) : Keeps s₀ (removeSignal s ctx c) := keeps_ite (keeps_abandonEvent h) h

theorem keeps_removeCmd {q c} (h : Keeps s₀ s) : Keeps s₀ (removeCmd s q c) := by
  unfold removeCmd
  split
  · exact h
  · extract_lets -merge +onlyGivenNames w
    split
    · split
      · exact keeps_stopGroup h
      · exact keeps_completeCmd h
    · exact keeps_ite (keeps_stopCopy h) (keeps_ite h (keeps_completeCmd (keeps_removeSignal h)))

theorem keeps_ctxResetEffects {c} (h : Keeps s₀ s) : Keeps s₀ (ctxResetEffects s c) := by
  unfold ctxResetEffects
  extract_lets -merge +onlyGivenNames s1 s1'
  have keeps_s1' : Keeps s₀ s1' := keeps_setCtx h
  extract_lets -merge +onlyGivenNames qs s2
  have keeps_s2 : Keeps s₀ s2 := keeps_foldl (fun _ _ h' => keeps_setRing h') keeps_s1'
  extract_lets -merge +onlyGivenNames s3
  have keeps_s3 : Keeps s₀ s3 := keeps_stopGroups keeps_s2
  extract_lets -merge +onlyGivenNames s4
  have keeps_s4 : Keeps s₀ s4 := by
    unfold s4
    refine keeps_foldl ?_ ?_
    · intro t x kept
      split
      · exact keeps_ite (keeps_failStep kept) kept
      · exact kept
    · exact keeps_s3
  extract_lets -merge +onlyGivenNames s5
  have keeps_s5 : Keeps s₀ s5 := keeps_seqCtxReset keeps_s4
  extract_lets -merge +onlyGivenNames s6
  have keeps_s6 : Keeps s₀ s6 := keeps_dropBlkMoves keeps_s5
  exact keeps_foldl (fun _ _ h' => keeps_foldl (fun _ _ h2 => keeps_ite h2 (keeps_removeCmd h2)) h') (keeps_chRemove (keeps_xlDropCtx
    (keeps_dropLeave keeps_s6)))

theorem keeps_beginReset {r} (h : Keeps s₀ s) : Keeps s₀ (beginReset s r) := by
  unfold beginReset
  split
  · exact h.update
  · extract_lets -merge +onlyGivenNames q s1
    have keeps_s1 : Keeps s₀ s1 := keeps_postLog h
    extract_lets -merge +onlyGivenNames s2
    have keeps_s2 : Keeps s₀ s2 := keeps_ite (keeps_hngCount keeps_s1) keeps_s1
    exact keeps_s2.update

theorem keeps_startCtxReset {c cause by_ cmd part} (h : Keeps s₀ s) : Keeps s₀ (startCtxReset s c cause by_ cmd part) := by
  unfold startCtxReset
  extract_lets -merge +onlyGivenNames x
  split
  · split
    · exact keeps_donePriv h
    · exact h
  · extract_lets -merge +onlyGivenNames s1
    have keeps_s1 : Keeps s₀ s1 := keeps_endWait h
    split
    · exact keeps_donePriv keeps_s1
    · exact keeps_s1
  · exact keeps_ite (keeps_hngCount (keeps_updReset h)) (keeps_updReset h)
  · exact keeps_ctxResetEffects (keeps_beginReset h)

theorem keeps_attemptDone {c num pass} (h : Keeps s₀ s) : Keeps s₀ (attemptDone s c num pass) := by
  unfold attemptDone
  extract_lets -merge +onlyGivenNames x
  split
  · split
    · exact h
    · extract_lets -merge +onlyGivenNames s'
      have keeps_s' : Keeps s₀ s' := keeps_markLantern h
      split
      · exact keeps_setOp keeps_s'
      · split
        · split
          · exact keeps_s'
          · extract_lets -merge +onlyGivenNames q p
            split
            · exact keeps_failTile (keeps_setOp (keeps_checkTile (keeps_checkTile keeps_s')))
            · extract_lets -merge +onlyGivenNames s1
              have keeps_s1 : Keeps s₀ s1 := keeps_bump (keeps_mmaPush (keeps_checkTile (keeps_checkTile keeps_s')))
              exact keeps_ite (keeps_postLog (keeps_setOp keeps_s1)) (keeps_setOp keeps_s1)
        · split
          · exact keeps_setOp keeps_s'
          · extract_lets -merge +onlyGivenNames s1
            have keeps_s1 : Keeps s₀ s1 := keeps_quarantine (keeps_setOp keeps_s')
            exact keeps_startCtxReset (keeps_postLog (keeps_postLog (keeps_failTile keeps_s1)))
  · exact h

theorem keeps_badCopy {n k} (h : Keeps s₀ s) : Keeps s₀ (badCopy s n k).2 := by
  unfold badCopy
  extract_lets -merge +onlyGivenNames x e
  split
  · exact h
  · extract_lets -merge +onlyGivenNames b
    split
    · exact h
    · extract_lets -merge +onlyGivenNames r
      have keeps_r : Keeps s₀ r.2 := by
        unfold r
        refine keeps_foldl_snd ?_ ?_
        · intro q x kept
          extract_lets -merge +onlyGivenNames m
          exact keeps_memCheck kept
        · exact h
      split
      · exact keeps_poisonBlk keeps_r
      · exact keeps_r

theorem keeps_begun {q c st} (h : Keeps s₀ s) : Keeps s₀ (begun s q c st) := keeps_setRing h

theorem keeps_blkGo {n d} (h : Keeps s₀ s) : Keeps s₀ (blkGo s n d) := by
  unfold blkGo
  extract_lets -merge +onlyGivenNames b
  split
  · exact h
  · extract_lets -merge +onlyGivenNames rs chk
    have keeps_chk : Keeps s₀ chk.2 := by
      unfold chk
      split
      · refine keeps_foldl_snd ?_ ?_
        · intro q x kept
          extract_lets -merge +onlyGivenNames m
          exact keeps_memCheck kept
        · exact h
      · exact h
    extract_lets -merge +onlyGivenNames s1
    have keeps_s1 : Keeps s₀ s1 := keeps_setBlk keeps_chk
    split
    · exact keeps_poisonBlk (keeps_setBlk keeps_chk)
    · split
      · exact keeps_xlAsk keeps_s1
      · split
        · exact keeps_failBlk keeps_s1
        · extract_lets -merge +onlyGivenNames s2
          have keeps_s2 : Keeps s₀ s2 := keeps_foldl (fun _ _ h' => keeps_foldl (fun _ _ h2 => keeps_chIssue h2) h') keeps_s1
          exact keeps_chRun keeps_s2

theorem keeps_blkAsk {n d} (h : Keeps s₀ s) : Keeps s₀ (blkAsk s n d) := keeps_ite (keeps_askLeave h) (keeps_blkGo h)

theorem keeps_bootAdvance {n ms} (h : Keeps s₀ s) : Keeps s₀ (bootAdvance n ms s) := by
  induction n generalizing s with
  | zero => exact h
  | succ n ih =>
    simp only [bootAdvance]
    split
    · exact h
    · split
      · exact h
      · split
        · exact keeps_setBoot h
        · exact ih (keeps_startStage h)

theorem keeps_commitFuses (h : Keeps s₀ s) : Keeps s₀ (commitFuses s) := keeps_foldl (fun _ _ h' => keeps_ite ((keeps_setFw h').update) h') h

theorem keeps_endModuleReset (h : Keeps s₀ s) : Keeps s₀ (endModuleReset s) := keeps_foldl (fun _ _ h' => keeps_ite h' (keeps_errRecord h'))
    h.update

theorem keeps_bootDone {ms} (h : Keeps s₀ s) : Keeps s₀ (bootDone s ms) := by
  unfold bootDone
  extract_lets -merge +onlyGivenNames s1
  have keeps_s1 : Keeps s₀ s1 := keeps_ite (keeps_setReg h) h
  extract_lets -merge +onlyGivenNames s2
  have keeps_s2 : Keeps s₀ s2 := keeps_journalPut keeps_s1
  exact keeps_endModuleReset (keeps_ite (keeps_raise (keeps_postLog (keeps_commitFuses ((keeps_setBoot keeps_s2).update)))) (keeps_postLog
    (keeps_commitFuses ((keeps_setBoot keeps_s2).update))))

theorem keeps_bootLost (h : Keeps s₀ s) : Keeps s₀ (bootLost s) := keeps_setBoot h

theorem keeps_objRead {n ctx o len host} (h : Keeps s₀ s) : Keeps s₀ (objRead s n ctx o len host).2 := by
  unfold objRead
  split
  · split
    · rename_i h1 x w t1 eq
      have keeps_t1 : Keeps s₀ t1 := .of_snd eq (keeps_memCheck h)
      exact keeps_t1
    · rename_i h1 x t1 eq
      have keeps_t1 : Keeps s₀ t1 := .of_snd eq (keeps_memCheck h)
      exact keeps_t1
  · split
    · exact h
    · exact keeps_raise h

theorem keeps_bufEntries {q c host k i acc} (h : Keeps s₀ s) : Keeps s₀ (bufEntries s q c host k i acc).2.2 := by
  induction k generalizing i acc with
  | zero => exact h
  | succ k ih =>
    simp only [bufEntries]
    split
    · exact h
    · split
      case h_1 w s1 eq => exact .of_snd eq (keeps_objRead h)
      case h_2 raw _ _ =>
        split
        · exact h
        · exact ih

theorem keeps_refuseCmd {q c w} (h : Keeps s₀ s) : Keeps s₀ (refuseCmd s q c w) := keeps_ite (keeps_startCtxReset (keeps_completeCmd h))
    (keeps_completeCmd h)

theorem keeps_busyCmd {q c off} (h : Keeps s₀ s) : Keeps s₀ (busyCmd s q c off) := keeps_refuseCmd h

theorem keeps_markShort {slot units moor} (h : Keeps s₀ s) : Keeps s₀ (markShort s slot units moor) := by
  unfold markShort
  extract_lets -merge +onlyGivenNames x mark
  have keeps_mark : ∀ u x1 x2, Keeps s₀ u → Keeps s₀ (mark u x1 x2) := by
    intro u x1 x2 keeps_u
    unfold mark
    split
    · exact keeps_u
    · exact keeps_setRing keeps_u
  split
  · exact keeps_mark _ _ _ (keeps_setSeq h)
  · split
    · exact keeps_mark _ _ _ h
    · exact h

theorem keeps_fellBack {r} (h : Keeps s₀ s) : Keeps s₀ (fellBack s r) := by
  unfold fellBack
  extract_lets -merge +onlyGivenNames units
  split
  · split
    · exact h
    · split
      · split
        · exact h
        · exact keeps_setRing h
      · split
        · exact h
        · exact keeps_foldl (fun _ _ h' => keeps_markShort h') h
  · exact keeps_foldl (fun _ _ h' => keeps_ite (keeps_markShort h') h') h
  · exact h

theorem keeps_fallbackRun (h : Keeps s₀ s) : Keeps s₀ (fallbackRun s) := keeps_foldl (fun _ _ h' => keeps_ite h' (keeps_ite h' (keeps_ite
    (keeps_fellBack (keeps_hostWrite (keeps_dropReq h'))) (keeps_reqFail (keeps_raise h'))))) h

theorem keeps_pump {k c} (h : Keeps s₀ s) : Keeps s₀ (pump k s c) := by
  induction k generalizing s with
  | zero => exact h
  | succ k ih =>
    simp only [pump]
    split
    · exact h
    · split
      · exact h
      · split
        case h_1 s1 eq =>
          obtain ⟨p, -, found⟩ := List.exists_of_findSome?_eq_some eq
          split at found
          · exact ih (.of_some found (keeps_advance h))
          · exact nomatch found
        case h_2 => exact h

theorem keeps_pumpCore {c} (h : Keeps s₀ s) : Keeps s₀ (pumpCore s c) := keeps_chRun (keeps_pump h)

theorem keeps_chGo {who} (h : Keeps s₀ s) : Keeps s₀ (chGo s who) := by
  unfold chGo
  extract_lets -merge +onlyGivenNames s1
  have keeps_s1 : Keeps s₀ s1 := keeps_chRun (keeps_fallbackRun h)
  split
  · exact keeps_pumpCore keeps_s1
  · exact keeps_s1

theorem keeps_rekeyEdge {p} (h : Keeps s₀ s) : Keeps s₀ (rekeyEdge s p) := keeps_ite (keeps_chRun (keeps_raise (keeps_foldl (fun _ _ h' =>
    keeps_setLane h') (keeps_setPort h)))) (keeps_setPort h)

theorem keeps_chainEdge (h : Keeps s₀ s) : Keeps s₀ (chainEdge s) := keeps_chRun (keeps_foldl (fun _ _ h' => keeps_rekeyEdge h') h.update)

theorem keeps_chainFwFail {p} (h : Keeps s₀ s) : Keeps s₀ (chainFwFail s p) := keeps_ite h (keeps_ite h.update (keeps_fwRefusedFree h.update))

theorem keeps_chainFwUp {p} (h : Keeps s₀ s) : Keeps s₀ (chainFwUp s p) := keeps_ite (keeps_chainFwGo (keeps_fwActivated h)) h

theorem keeps_charge {n cls ctx energy} (h : Keeps s₀ s) : Keeps s₀ (charge s n cls ctx energy) := keeps_ite (keeps_tndCount h) (keeps_bump
    (keeps_tndCount h))

theorem keeps_reqMove {r m tried reask} (h : Keeps s₀ s) : Keeps s₀ (reqMove s r m tried reask) := keeps_setReq h

theorem keeps_chase {r f} (h : Keeps s₀ s) : Keeps s₀ (chase s r f) := by
  unfold chase
  extract_lets -merge +onlyGivenNames tried dev
  split
  · exact keeps_reqFail h
  · split
    · exact keeps_reqFail h
    · split
      · exact keeps_reqMove h
      · split
        · exact keeps_reqFail h
        · exact keeps_reqMove h

theorem keeps_checkRange {q} (h : Keeps s₀ s) : Keeps s₀ (checkRange s q) := keeps_ite h (keeps_ite (keeps_setRing h) (keeps_ite
    (keeps_setRing h) h))

theorem keeps_satEnter {e st} (h : Keeps s₀ s) : Keeps s₀ (satEnter s e st) := keeps_ite (keeps_sendMsix (keeps_ite (keeps_raise
    (keeps_setSat h)) (keeps_setSat h))) (keeps_ite (keeps_raise (keeps_setSat h)) (keeps_setSat h))

theorem keeps_satCancelNow {e} (h : Keeps s₀ s) : Keeps s₀ (satCancelNow s e) := keeps_ite (keeps_satEnter h) h

theorem keeps_failOneSlot {k e} (h : Keeps s₀ s) : Keeps s₀ (failOneSlot s k e) := keeps_raise (keeps_setSlot (keeps_ite (keeps_satCancelNow h) h))

theorem keeps_slotFail {k e} (h : Keeps s₀ s) : Keeps s₀ (slotFail s k e) := keeps_ite (keeps_failOneSlot (keeps_failOneSlot h))
    (keeps_failOneSlot h)

theorem keeps_checkSlot {k} (h : Keeps s₀ s) : Keeps s₀ (checkSlot s k) := by
  unfold checkSlot
  extract_lets -merge +onlyGivenNames x b
  split
  · exact keeps_slotFail h
  · exact keeps_setSlot h

theorem keeps_chunkRead {n m} (h : Keeps s₀ s) : Keeps s₀ (chunkRead s n m) := by
  unfold chunkRead
  split
  · exact keeps_foldl (fun t _ h' => keeps_ite (keeps_memCorr (h'.sm id (twf_tput 0 t.smChk _ _)))
      (keeps_raise (keeps_memUncorr (h'.sm id (twf_tput 0 t.smChk _ _))))) h
  · exact keeps_foldl (fun t _ h' => keeps_ite (keeps_memCorr (h'.ls id (twf_tput 0 t.lsChk _ _)))
      (keeps_raise (keeps_memUncorr (h'.ls id (twf_tput 0 t.lsChk _ _))))) h

theorem keeps_clearHeld {base ones} (h : Keeps s₀ s) : Keeps s₀ (clearHeld s base ones) := keeps_ite (keeps_ite h.update h) (keeps_ite
    (keeps_ite h.update h) (keeps_ite (keeps_ite h.update h) (keeps_ite (keeps_ite h.update h) (keeps_ite (keeps_ite (keeps_setWatch h) h)
    (keeps_ite (keeps_ite (keeps_setWatch h) h) h)))))

theorem keeps_control {c op legal f} (h : Keeps s₀ s) (keeps_f : ∀ x y, Keeps s₀ (f x y)) : Keeps s₀ (Machine.control s c op legal f) := by
  unfold Machine.control
  split
  · exact h
  · exact keeps_ite (keeps_trapCore (keeps_fresh h)) (keeps_ite (keeps_trapCore h) (keeps_f _ _))

theorem keeps_clmAccess {c op w len store f} (h : Keeps s₀ s) (keeps_f : ∀ x y, Keeps s₀ (f x y)) : Keeps s₀ (clmAccess s c op w len store f)
    := keeps_control h (fun _ _ => keeps_ite (keeps_trapCore h) (keeps_ite h (keeps_f _ _)))

theorem keeps_clmFault {c a len} (h : Keeps s₀ s) : Keeps s₀ (clmFault s c a len).2 := by
  unfold clmFault
  extract_lets -merge +onlyGivenNames x
  split
  · exact h
  · split
    · rename_i x1 g eq x2 w t1 eq1
      have keeps_t1 : Keeps s₀ t1 := .of_snd eq1 (keeps_memCheck h)
      exact keeps_stopGroup keeps_t1
    · rename_i x1 g eq x2 t1 eq1
      have keeps_t1 : Keeps s₀ t1 := .of_snd eq1 (keeps_memCheck h)
      exact keeps_t1

theorem keeps_closeBoost (h : Keeps s₀ s) : Keeps s₀ (closeBoost s) := keeps_ite (keeps_raise h.update) h

theorem keeps_cohCount {i n} (h : Keeps s₀ s) : Keeps s₀ (cohCount s i n) := keeps_bump h

theorem keeps_copyEnd {result} (h : Keeps s₀ s) : Keeps s₀ (copyEnd s result) := keeps_setReg h.update

theorem keeps_copyRows {n src dst len} (h : Keeps s₀ s) : Keeps s₀ (copyRows s n src dst len) := keeps_foldl (fun _ _ h' => keeps_smPut h') h

theorem keeps_countUp (h : Keeps s₀ s) : Keeps s₀ (countUp s) := h.update

theorem keeps_stopBoot (h : Keeps s₀ s) : Keeps s₀ (stopBoot s) := h.update

theorem keeps_cutBoot (h : Keeps s₀ s) : Keeps s₀ (cutBoot s) := keeps_ite h (keeps_stopBoot h)

theorem keeps_deadlineEdge (h : Keeps s₀ s) : Keeps s₀ (deadlineEdge s) := keeps_foldl (fun _ _ h' => keeps_ite h' (keeps_ite (keeps_setGen
    h') (keeps_setGen h'))) h

theorem keeps_delaySend {p} (h : Keeps s₀ s) : Keeps s₀ (delaySend s p) := keeps_ite (keeps_laneSend h) h

theorem keeps_deliver {g c o d host} (h : Keeps s₀ s) : Keeps s₀ (deliver s g c o d host) := by
  unfold deliver
  split
  · exact keeps_failTile (keeps_raise h)
  · split
    · split
      · exact h
      · exact keeps_setOp (keeps_pushNode h)
    · split
      · rename_i x bs eq h1 x1 w t1 eq1
        have keeps_t1 : Keeps s₀ t1 := .of_snd eq1 (keeps_moveWrite h)
        exact keeps_failTile keeps_t1
      · rename_i x bs eq h1 x1 t1 eq1
        have keeps_t1 : Keeps s₀ t1 := .of_snd eq1 (keeps_moveWrite h)
        exact keeps_t1

theorem keeps_dirCorrect {d} (h : Keeps s₀ s) : Keeps s₀ (dirCorrect s d) := keeps_ite h (keeps_raise (keeps_cohCount h.update))

theorem keeps_setDir {d m} (h : Keeps s₀ s) : Keeps s₀ (setDir s d m) := h.update

theorem keeps_dirUncorr {d} (h : Keeps s₀ s) : KeepsSome s₀ (dirUncorr s d) := by
  unfold dirUncorr
  split
  · exact trivial
  · extract_lets -merge +onlyGivenNames s1 s1'
    have keeps_s1' : Keeps s₀ s1' := keeps_setDir h.update
    exact keeps_postLog (keeps_raise (keeps_cohCount keeps_s1'))

theorem keeps_dropPageMoves {n c} (h : Keeps s₀ s) : Keeps s₀ (dropPageMoves s n c) := keeps_setGen h

theorem keeps_endLease {m l} (h : Keeps s₀ s) : Keeps s₀ (endLease s m l) := keeps_foldl (fun _ _ h' => keeps_ite (keeps_reqFail h') h') h

theorem keeps_moorTurn {m new} (h : Keeps s₀ s) : Keeps s₀ (moorTurn s m new) := by
  unfold moorTurn
  extract_lets -merge +onlyGivenNames x s1
  have keeps_s1 : Keeps s₀ s1 := by
    unfold s1
    split
    · exact keeps_endLease h
    · exact h
  exact keeps_setMoor keeps_s1

theorem keeps_discardSector {n} (h : Keeps s₀ s) : Keeps s₀ (discardSector s n) := by
  unfold discardSector
  extract_lets -merge +onlyGivenNames cs s1
  have keeps_s1 : Keeps s₀ s1 := keeps_foldl (fun _ _ h' => keeps_setRing h') h
  extract_lets -merge +onlyGivenNames s1'
  have keeps_s1' : Keeps s₀ s1' := keeps_s1.update
  extract_lets -merge +onlyGivenNames s2
  have keeps_s2 : Keeps s₀ s2 := keeps_foldl (fun _ _ h' => keeps_setWatch (keeps_dropPageMoves (keeps_setCtx h'))) keeps_s1'
  extract_lets -merge +onlyGivenNames s3
  have keeps_s3 : Keeps s₀ s3 := keeps_foldl (fun _ _ h' => keeps_ite (keeps_setSeq h') h') keeps_s2
  extract_lets -merge +onlyGivenNames s4 s4'
  have keeps_s4' : Keeps s₀ s4' := keeps_setSeqSec keeps_s3
  extract_lets -merge +onlyGivenNames s4''
  have keeps_s4'' : Keeps s₀ s4'' := keeps_setReg keeps_s4'
  extract_lets -merge +onlyGivenNames x s5
  have keeps_s5 : Keeps s₀ s5 := keeps_foldl (fun _ _ h' => keeps_ite h' (keeps_moorTurn h')) keeps_s4''
  exact keeps_foldl (fun _ _ h' => keeps_ite h' (keeps_ite (keeps_abandonEvent h') (keeps_writeEvent (keeps_setEvent h')))) keeps_s5

theorem keeps_loadKernel {l host} (h : Keeps s₀ s) : Keeps s₀ (loadKernel s l host).2 := by
  unfold loadKernel
  extract_lets -merge +onlyGivenNames kl
  split
  · exact h
  · split
    · rename_i x eq x1 w t1 eq1
      have keeps_t1 : Keeps s₀ t1 := .of_snd eq1 (keeps_objRead h)
      exact keeps_t1
    · rename_i x eq x1 b0 t1 eq1
      have keeps_t1 : Keeps s₀ t1 := .of_snd eq1 (keeps_objRead h)
      extract_lets -merge +onlyGivenNames ver
      split
      · exact keeps_t1
      · extract_lets -merge +onlyGivenNames total
        split
        · exact keeps_t1
        · split
          · rename_i x2 eq2 x3 eq3 x4 w t2 eq4
            have keeps_t2 : Keeps s₀ t2 := .of_snd eq4 (keeps_objRead keeps_t1)
            exact keeps_t2
          · rename_i x2 eq2 x3 eq3 x4 b01 t2 eq4
            have keeps_t2 : Keeps s₀ t2 := .of_snd eq4 (keeps_objRead keeps_t1)
            split
            · exact keeps_t2
            · split
              · exact keeps_t2
              · split
                · exact keeps_t2
                · split
                  · exact keeps_t2
                  · split
                    · rename_i h1 x5 eq5 h2 x6 eq6 x7 w t3 eq7
                      have keeps_t3 : Keeps s₀ t3 := .of_snd eq7 (keeps_objRead keeps_t2)
                      exact keeps_t3
                    · rename_i h1 x5 eq5 h2 x6 eq6 x7 b02 t3 eq7
                      have keeps_t3 : Keeps s₀ t3 := .of_snd eq7 (keeps_objRead keeps_t2)
                      exact keeps_t3

theorem keeps_rememberBinary {n h2} (h : Keeps s₀ s) : Keeps s₀ (rememberBinary s n h2) := h.update

theorem keeps_launchClm {c const args} (h : Keeps s₀ s) : Keeps s₀ (launchClm s c const args) :=
  h.clm (fun wf => wf_cwrite _ _ _ (wf_cwrite _ _ _ (wf_czero _ _ _ wf))) (twf_filter 0 _ _)

theorem keeps_startGroup {l cores h3 bin args} (h : Keeps s₀ s) : Keeps s₀ (startGroup s l cores h3 bin args) := keeps_foldl (fun _ _ h' =>
    keeps_launchClm (keeps_setCore h')) (keeps_setGroup ((keeps_rememberBinary h).update))

theorem keeps_dispatchCmd {q idx buf cores host} (h : Keeps s₀ s) : Keeps s₀ (dispatchCmd s q idx buf cores host) := by
  unfold dispatchCmd
  split
  · exact h
  · extract_lets -merge +onlyGivenNames r
    split
    · exact h
    · extract_lets -merge +onlyGivenNames e l
      split
      · exact h
      · split
        · rename_i x p eq h1 h2 x1 w t1 eq1
          have keeps_t1 : Keeps s₀ t1 := .of_snd eq1 (keeps_loadKernel h)
          exact keeps_completeCmd keeps_t1
        · rename_i x p eq h1 h2 x1 h3 bin a t1 eq1
          have keeps_t1 : Keeps s₀ t1 := .of_snd eq1 (keeps_loadKernel h)
          exact keeps_ite (keeps_startGroup (keeps_begun keeps_t1)) h

theorem keeps_markSeqEngine {n} (h : Keeps s₀ s) : Keeps s₀ (markSeqEngine s n) := keeps_markWatch h

theorem keeps_dispatchStep {n cores host} (h : Keeps s₀ s) : Keeps s₀ (dispatchStep s n cores host) := by
  unfold dispatchStep
  extract_lets -merge +onlyGivenNames x
  split
  · exact h
  · split
    · exact h
    · extract_lets -merge +onlyGivenNames e ctx
      split
      · exact keeps_ite (keeps_startCtxReset (keeps_failStep h)) (keeps_failStep h)
      · extract_lets -merge +onlyGivenNames l
        split
        · exact h
        · split
          · rename_i x1 p eq h1 x2 o len eq1 h2 x3 w t1 eq2
            have keeps_t1 : Keeps s₀ t1 := .of_snd eq2 (keeps_loadKernel h)
            exact keeps_failStep keeps_t1
          · rename_i x1 p eq h1 x2 o len eq1 h2 x3 h3 bin a t1 eq2
            have keeps_t1 : Keeps s₀ t1 := .of_snd eq2 (keeps_loadKernel h)
            exact keeps_ite (keeps_markSeqEngine (keeps_startGroup (keeps_setSeqSec keeps_t1))) h

theorem keeps_dmkFinish {result resp} (h : Keeps s₀ s) : Keeps s₀ (dmkFinish s result resp) := by
  unfold dmkFinish
  extract_lets -merge +onlyGivenNames s1
  have keeps_s1 : Keeps s₀ s1 := keeps_ite h (keeps_hostWrite h)
  exact keeps_raise (keeps_setReg keeps_s1.update)

theorem keeps_dmkRun {req op f} (h : Keeps s₀ s) (keeps_f : ∀ x, Keeps s₀ (f x).1) : Keeps s₀ (dmkRun s req op f) := by
  unfold dmkRun
  extract_lets -merge +onlyGivenNames len
  split
  · exact h
  · split
    · exact h.update
    · split
      · exact keeps_dmkFinish h
      · extract_lets -merge +onlyGivenNames o
        split
        · exact h
        · split
          · exact keeps_dmkFinish h
          · exact keeps_ite (keeps_f _) (keeps_dmkFinish (keeps_f _))

theorem keeps_unqueue {k q idx} (h : Keeps s₀ s) : Keeps s₀ (unqueue s k q idx) := keeps_setSeq h

theorem keeps_doFork {q c k slot} (h : Keeps s₀ s) : Keeps s₀ (doFork s q c k slot) := by
  unfold doFork
  extract_lets -merge +onlyGivenNames x n l
  split
  · exact h
  · extract_lets -merge +onlyGivenNames tok shared y s1
    have keeps_s1 : Keeps s₀ s1 := keeps_setSeq (keeps_unqueue h)
    extract_lets -merge +onlyGivenNames s2 s2'
    have keeps_s2' : Keeps s₀ s2' := keeps_setSeq keeps_s1
    extract_lets -merge +onlyGivenNames s3
    have keeps_s3 : Keeps s₀ s3 := by
      unfold s3
      refine keeps_foldl ?_ ?_
      · intro t x kept
        split
        · exact keeps_addRef kept
        · exact kept
      · exact keeps_s2'
    exact keeps_completeCmd keeps_s3

theorem keeps_enterFill {k} (h : Keeps s₀ s) : Keeps s₀ (enterFill s k) := by
  unfold enterFill
  extract_lets -merge +onlyGivenNames s1 s1'
  have keeps_s1' : Keeps s₀ s1' := keeps_setRes h
  extract_lets -merge +onlyGivenNames s2
  have keeps_s2 : Keeps s₀ s2 := keeps_ite (keeps_foldl (fun _ _ h' => keeps_ite (keeps_setRes h') h') keeps_s1') keeps_s1'
  exact keeps_askFill keeps_s2

theorem keeps_drainResources {n} (h : Keeps s₀ s) : Keeps s₀ (drainResources s n) := keeps_ite h (keeps_foldl (fun _ _ h' => keeps_ite
    (keeps_enterFill h') h') h)

theorem keeps_zeroExtents {n l} (h : Keeps s₀ s) : Keeps s₀ (zeroExtents s n l) :=
  keeps_foldl (fun t _ h' => h'.sm (wf_czero t.sm _ _) (twf_filter 0 t.smChk _)) h

theorem keeps_dropWaiting {n} (h : Keeps s₀ s) : Keeps s₀ (dropWaiting s n) := by
  unfold dropWaiting
  refine keeps_foldl (fun t m kept => ?_) h
  split
  · exact kept
  · extract_lets g s1
    have keeps_s1 : Keeps s₀ s1 := keeps_setGen kept
    split
    · exact keeps_ite (keeps_setGen (keeps_zeroExtents keeps_s1)) (keeps_zeroExtents keeps_s1)
    · extract_lets x s2
      have keeps_s2 : Keeps s₀ s2 := keeps_setCtx keeps_s1
      exact keeps_s2.ls (wf_czero _ _ _) (twf_filter 0 _ _)

theorem keeps_rehomeEdge (h : Keeps s₀ s) : Keeps s₀ (rehomeEdge s) := keeps_ite h (keeps_raise h.update)

theorem keeps_scrubEdge (h : Keeps s₀ s) : Keeps s₀ (scrubEdge s) := h.update

theorem keeps_watchEdge (h : Keeps s₀ s) : Keeps s₀ (watchEdge s) := by
  unfold watchEdge
  extract_lets -merge +onlyGivenNames stops s1
  have keeps_s1 : Keeps s₀ s1 := by
    unfold s1
    refine keeps_foldl ?_ ?_
    · intro t x kept
      split
      · exact keeps_setWatch kept
      · exact keeps_ite kept (keeps_setWatch kept)
    · exact h
  extract_lets -merge +onlyGivenNames s2
  have keeps_s2 : Keeps s₀ s2 := keeps_foldl (fun _ _ h' => keeps_ite h' (keeps_setWatch h')) keeps_s1
  exact keeps_s2.update

theorem keeps_tndModCount {i k} (h : Keeps s₀ s) : Keeps s₀ (tndModCount s i k) := keeps_bump h

theorem keeps_tndSector {n} (h : Keeps s₀ s) : Keeps s₀ (tndSector s n) := by
  unfold tndSector
  extract_lets -merge +onlyGivenNames x
  split
  · exact h
  · extract_lets -merge +onlyGivenNames t' b rd resident accrues gain c0 ungated spent settle credit pref op learn idle s1
    have keeps_s1 : Keeps s₀ s1 := keeps_setTnd h
    extract_lets -merge +onlyGivenNames s2
    have keeps_s2 : Keeps s₀ s2 := keeps_foldl (fun _ _ h' => keeps_tndCount h') keeps_s1
    exact keeps_ite (keeps_tndCount (keeps_ite (keeps_tndCount keeps_s2) keeps_s2)) (keeps_ite (keeps_tndCount keeps_s2) keeps_s2)

theorem keeps_tndEdge (h : Keeps s₀ s) : Keeps s₀ (tndEdge s) := by
  unfold tndEdge
  extract_lets t r w wr cal s1 s2 s3 s4 s5 avg under least tnd s6 c s7 tnd' emerg s8
  have keeps_s1 : Keeps s₀ s1 := h.update
  have keeps_s2 : Keeps s₀ s2 := keeps_tndModCount (keeps_tndModCount keeps_s1)
  have keeps_s3 : Keeps s₀ s3 := keeps_ite (keeps_tndModCount keeps_s2) keeps_s2
  have keeps_s4 : Keeps s₀ s4 := keeps_ite (keeps_tndModCount keeps_s3) keeps_s3
  have keeps_s5 : Keeps s₀ s5 := keeps_foldl (fun _ _ h' => keeps_tndSector h') keeps_s4
  have keeps_s6 : Keeps s₀ s6 := keeps_s5.update
  have keeps_s7 : Keeps s₀ s7 := keeps_ite (keeps_applyE1 keeps_s6) keeps_s6
  have keeps_s8 : Keeps s₀ s8 := keeps_s7.update
  exact keeps_ite (keeps_closeBoost keeps_s8) keeps_s8

theorem keeps_lightEdge (h : Keeps s₀ s) : Keeps s₀ (lightEdge s) := by
  unfold lightEdge
  extract_lets -merge +onlyGivenNames ks
  split
  · exact h
  · extract_lets -merge +onlyGivenNames homes s1
    have keeps_s1 : Keeps s₀ s1 := keeps_foldl (fun _ _ h' => keeps_setKey (keeps_setRes h')) h
    exact keeps_raise (keeps_rehomeCheck (keeps_foldl (fun _ _ h' => keeps_setGen h') keeps_s1))

theorem keeps_freezeBegin {op} (h : Keeps s₀ s) : Keeps s₀ (freezeBegin s op) := keeps_foldl (fun _ _ h' => keeps_endWait h') (keeps_setFrz h)

theorem keeps_freezeEdge (h : Keeps s₀ s) : Keeps s₀ (freezeEdge s) := by
  unfold freezeEdge
  refine keeps_foldl ?_ ?_
  · intro t x kept
    extract_lets -merge +onlyGivenNames f
    split
    · exact keeps_setFrz kept
    · exact keeps_ite (keeps_setFrz kept) kept
    · split
      · exact keeps_ite kept (keeps_freezeBegin kept)
      · exact kept
    · exact kept
  · exact h

theorem keeps_sendMarkers (h : Keeps s₀ s) : Keeps s₀ (sendMarkers s) := by
  unfold sendMarkers
  extract_lets -merge +onlyGivenNames ps hs hs'
  have keeps_hs' : Keeps s₀ hs'.2 := by
    unfold hs'
    split
    · exact h
    · split
      · exact h
      · exact h
      · exact keeps_fresh h
  exact keeps_foldl (fun _ _ h' => keeps_ite (keeps_emit (keeps_setLane h')) h') keeps_hs'

theorem keeps_edgeUnits (h : Keeps s₀ s) : Keeps s₀ (edgeUnits s) := by
  unfold edgeUnits
  extract_lets -merge +onlyGivenNames s1
  have keeps_s1 : Keeps s₀ s1 := keeps_chainEdge (keeps_rehomeEdge (keeps_scrubEdge (keeps_watchEdge (keeps_tndEdge (keeps_lightEdge h)))))
  extract_lets -merge +onlyGivenNames s2
  have keeps_s2 : Keeps s₀ s2 := keeps_deadlineEdge (keeps_freezeEdge keeps_s1)
  extract_lets -merge +onlyGivenNames s3
  have keeps_s3 : Keeps s₀ s3 := keeps_ite (keeps_foldl (fun _ _ h' => keeps_delaySend h') keeps_s2) keeps_s2
  exact keeps_sendMarkers keeps_s3

theorem keeps_endReset {r} (h : Keeps s₀ s) : Keeps s₀ (endReset s r) := by
  unfold endReset
  extract_lets -merge +onlyGivenNames s0
  have keeps_s0 : Keeps s₀ s0 := h.update
  extract_lets -merge +onlyGivenNames s1 s1'
  have keeps_s1' : Keeps s₀ s1' := keeps_ite keeps_s0.update keeps_s0
  exact keeps_ite keeps_s1' (keeps_foldl (fun _ _ h' => keeps_donePriv h') (keeps_raise (keeps_ite keeps_s1' (keeps_errRecord keeps_s1'))))

theorem keeps_settleSectorReset {n} (h : Keeps s₀ s) : Keeps s₀ (settleSectorReset s n) := by
  unfold settleSectorReset
  split
  · exact h
  · exact keeps_ite h (keeps_endReset h)

theorem keeps_endCtxReset {c} (h : Keeps s₀ s) : Keeps s₀ (endCtxReset s c) := by
  unfold endCtxReset
  split
  · exact h
  · extract_lets -merge +onlyGivenNames s1
    have keeps_s1 : Keeps s₀ s1 := keeps_foldl (fun _ _ h' => keeps_ite h' (keeps_setRing h')) h
    exact keeps_settleSectorReset (keeps_endReset (keeps_setCtx keeps_s1))

theorem keeps_endEngineReset {e} (h : Keeps s₀ s) : Keeps s₀ (endEngineReset s e) := by
  unfold endEngineReset
  split
  · exact h
  · exact keeps_settleSectorReset (keeps_endReset h)

theorem keeps_endFailed {n} (h : Keeps s₀ s) : Keeps s₀ (endFailed s n) := keeps_foldl (fun _ _ h' => keeps_ite (keeps_endRun h') h') h

theorem keeps_enterHoldover {at_} (h : Keeps s₀ s) : Keeps s₀ (enterHoldover s at_) := keeps_raise h.update

theorem keeps_rungOrStuck {rung start} (h : Keeps s₀ s) (keeps_start : ∀ t, Keeps s₀ t → Keeps s₀ (start t)) : Keeps s₀ (rungOrStuck s rung
    start) := keeps_ite (keeps_start _ h) (keeps_raise h.update)

theorem keeps_escalate {r start} (h : Keeps s₀ s) (keeps_start : ∀ t, Keeps s₀ t → Keeps s₀ (start t)) : Keeps s₀ (escalate s r start) :=
    keeps_ite (keeps_start _ (keeps_hngCount (keeps_raise (keeps_updReset (keeps_errRecord h))))) (keeps_rungOrStuck (keeps_updReset h) (fun
    _ h' => h'))

theorem keeps_privCmd {q idx op f} (h : Keeps s₀ s) (keeps_f : ∀ x, Keeps s₀ (f x)) : Keeps s₀ (privCmd s q idx op f) := by
  unfold privCmd
  split
  · exact h
  · split
    · exact h
    · split
      · exact keeps_refuseCmd h
      · exact keeps_ite (keeps_refuseCmd h) (keeps_f _)

theorem keeps_eventSet {q idx k f} (h : Keeps s₀ s) (keeps_f : ∀ x y, Keeps s₀ (f x y)) : Keeps s₀ (eventSet s q idx k f) := keeps_privCmd h
    (fun _ => keeps_ite (keeps_f _ _) h)

theorem keeps_issueTile {c cls op w residueOk} (h : Keeps s₀ s) : Keeps s₀ (issueTile s c cls op w residueOk) := by
  unfold issueTile
  split
  · exact h
  · split
    · exact h
    · split
      · exact keeps_trapCore (keeps_fresh h)
      · split
        · exact keeps_trapCore h
        · extract_lets -merge +onlyGivenNames u o
          split
          · exact keeps_trapTile h
          · exact keeps_ite h (keeps_pumpCore (keeps_setCore h))

theorem answers_execAadd {c w} (h : Keeps s₀ s) : Answers s₀ (execAadd c w s) := .next (keeps_issueTile h)

theorem answers_execAbort {ring idx} (h : Keeps s₀ s) : Answers s₀ (execAbort ring idx s) := by
  unfold execAbort
  refine .next ?_
  split
  · exact h
  · split
    · exact keeps_refuseCmd h
    · exact keeps_completeCmd (keeps_abortSeq h)

theorem answers_execAcas {c w} (h : Keeps s₀ s) : Answers s₀ (execAcas c w s) := .next (keeps_issueTile h)

theorem keeps_rxFrame {l f type} (h : Keeps s₀ s) : KeepsBoth s₀ (rxFrame s l f type) := by
  unfold rxFrame
  extract_lets -merge +onlyGivenNames p
  split
  · exact h
  · extract_lets -merge +onlyGivenNames s1
    have keeps_s1 : Keeps s₀ s1 := keeps_portCount (keeps_portCount h)
    extract_lets -merge +onlyGivenNames req bad
    split
    · exact keeps_portCount keeps_s1
    · exact keeps_s1

theorem keeps_onAnswer {l fr type f} (h : Keeps s₀ s) (keeps_f : ∀ t y, Keeps s₀ t → Keeps s₀ (f t y)) : Keeps s₀ (onAnswer s l fr type f) := by
  unfold onAnswer
  split
  · rename_i x t1 eq
    have keeps_t1 : Keeps s₀ t1 := .of_error eq (keeps_rxFrame h)
    exact keeps_t1
  · rename_i x t1 eq
    have keeps_t1 : Keeps s₀ t1 := .of_ok eq (keeps_rxFrame h)
    split
    · exact keeps_t1
    · exact keeps_chGo (keeps_f _ _ keeps_t1)

theorem answers_execAck {lane f} (h : Keeps s₀ s) : Answers s₀ (execAck lane f s) := .next (keeps_onAnswer h (fun _ _ h' => keeps_dropReq h'))

theorem answers_execAcst {c w} (h : Keeps s₀ s) : Answers s₀ (execAcst c w s) := .next (keeps_issueTile h)

theorem keeps_mctpUnsupported (h : Keeps s₀ s) : Keeps s₀ (mctpUnsupported s) := keeps_emit h

theorem keeps_pldmRun {f} (h : Keeps s₀ s) (keeps_f : ∀ t, Keeps s₀ t → Keeps s₀ (f t)) : Keeps s₀ (pldmRun s f) := keeps_ite (keeps_ite
    (keeps_mctpUnsupported h) h) (keeps_ite h (keeps_f _ h))

theorem keeps_pldmOut {cmd code body} (h : Keeps s₀ s) : Keeps s₀ (pldmOut s cmd code body) := keeps_emit h

theorem keeps_keeperRestart {cause} (h : Keeps s₀ s) : Keeps s₀ (keeperRestart s cause) := h.update

theorem keeps_tryRestart (h : Keeps s₀ s) : Keeps s₀ (tryRestart s) := keeps_ite (keeps_keeperRestart h) h

theorem keeps_setPldm {p} (h : Keeps s₀ s) : Keeps s₀ (setPldm s p) := h.update

theorem keeps_pldmIdle (h : Keeps s₀ s) : Keeps s₀ (pldmIdle s) := h.update

theorem answers_execActivateFirmware (h : Keeps s₀ s) : Answers s₀ (execActivateFirmware s) := .next (keeps_pldmRun h (fun _ h' => keeps_ite
    (keeps_pldmOut h') (keeps_ite (keeps_pldmOut h') (keeps_tryRestart (keeps_pldmOut (keeps_setPldm (keeps_pldmIdle (keeps_foldl (fun _ _ h2
    => keeps_activateComp h2) h'))))))))

theorem answers_execAcz {c w} (h : Keeps s₀ s) : Answers s₀ (execAcz c w s) := .next (keeps_issueTile h)

theorem keeps_retire {c} (h : Keeps s₀ s) : Keeps s₀ (retire s c) := keeps_bump h

theorem keeps_writeSd {c sd x v} (h : Keeps s₀ s) : Keeps s₀ (writeSd s c sd x v) := keeps_retire (keeps_setCore h)

theorem keeps_formA {c op w f} (h : Keeps s₀ s) : Keeps s₀ (formA s c op w f) := keeps_control h (fun _ _ => keeps_writeSd h)

theorem answers_execAdd {c w} (h : Keeps s₀ s) : Answers s₀ (execAdd c w s) := .next (keeps_formA h)

theorem keeps_formI {c op w legal f} (h : Keeps s₀ s) : Keeps s₀ (formI s c op w legal f) := keeps_control h (fun _ _ => keeps_writeSd h)

theorem answers_execAddi {c w} (h : Keeps s₀ s) : Answers s₀ (execAddi c w s) := .next (keeps_formI h)

theorem answers_execAgeingRead {trims} (h : Keeps s₀ s) : Answers s₀ (execAgeingRead trims s) := .next h.update

theorem answers_execAmax {c w} (h : Keeps s₀ s) : Answers s₀ (execAmax c w s) := .next (keeps_issueTile h)

theorem answers_execAnd {c w} (h : Keeps s₀ s) : Answers s₀ (execAnd c w s) := .next (keeps_formA h)

theorem answers_execAndi {c w} (h : Keeps s₀ s) : Answers s₀ (execAndi c w s) := .next (keeps_formI h)

theorem keeps_startSpill {n d} (h : Keeps s₀ s) : Keeps s₀ (startSpill s n d) := by
  unfold startSpill
  extract_lets -merge +onlyGivenNames b place
  clear_value place
  split
  · exact keeps_raiseSeq h
  · exact keeps_blkAsk (keeps_setBlk h)

theorem keeps_spillMore {need k n} (h : Keeps s₀ s) : Keeps s₀ (spillMore need k s n) := by
  induction k generalizing s with
  | zero => exact h
  | succ k ih =>
    unfold spillMore
    split
    · exact h
    · split
      · exact h
      · exact keeps_ite (keeps_startSpill h) (ih (keeps_startSpill h))

theorem keeps_spillPump {n held} (h : Keeps s₀ s) : Keeps s₀ (spillPump s n held) := keeps_ite (keeps_setSeqSec h) (keeps_spillMore
    (keeps_setSeqSec h))

theorem keeps_pullBlock {n d} (h : Keeps s₀ s) : Keeps s₀ (pullBlock s n d) := by
  unfold pullBlock
  extract_lets -merge +onlyGivenNames b
  split
  · exact keeps_spillPump h
  · exact keeps_blkAsk (keeps_setBlk h)

theorem keeps_settlePull {slot} (h : Keeps s₀ s) : Keeps s₀ (settlePull s slot) := by
  unfold settlePull
  extract_lets -merge +onlyGivenNames x
  split
  · exact h
  · split
    · exact keeps_ite (keeps_endRun h) (keeps_setSeq h)
    · exact keeps_setSeq h

theorem keeps_pumpPulls {n} (h : Keeps s₀ s) : Keeps s₀ (pumpPulls s n) := by
  unfold pumpPulls
  refine keeps_foldl ?_ ?_
  · intro t x kept
    extract_lets -merge +onlyGivenNames x'
    split
    · exact kept
    · extract_lets -merge +onlyGivenNames s1
      have keeps_s1 : Keeps s₀ s1 := by
        unfold s1
        refine keeps_foldl ?_ ?_
        · intro t x kept
          split
          · exact keeps_ite (keeps_pullBlock kept) kept
          · exact kept
        · exact kept
      exact keeps_settlePull keeps_s1
  · exact h

theorem keeps_startPull {slot} (h : Keeps s₀ s) : Keeps s₀ (startPull s slot) := by
  unfold startPull
  extract_lets -merge +onlyGivenNames x n s1
  have keeps_s1 : Keeps s₀ s1 := keeps_setSeq h
  extract_lets -merge +onlyGivenNames s2
  have keeps_s2 : Keeps s₀ s2 := by
    unfold s2
    refine keeps_foldl ?_ ?_
    · intro t x kept
      split
      · exact keeps_ite (keeps_chIssue kept) kept
      · exact kept
    · exact keeps_s1
  exact keeps_pumpPulls keeps_s2

theorem keeps_takeTokens {k host} (h : Keeps s₀ s) : Keeps s₀ (takeTokens s k host) := by
  simp only [takeTokens]
  split
  · exact h
  · have read (bad : Option Cond) (n ctx len : Nat) (o : Obj) :
        Keeps s₀ (match bad with | some w => (.error w, s) | none => objRead s n ctx o len host : Except Cond (List Byte) × State).2 := by
      cases bad with
      | some w => exact h
      | none => exact keeps_objRead h
    split
    case h_1 w s1 eq => exact keeps_endRun (.of_snd eq (read _ _ _ _ _))
    case h_2 bs s1 eq =>
      have keeps_s1 : Keeps s₀ s1 := .of_snd eq (read _ _ _ _ _)
      exact keeps_ite (keeps_endRun (keeps_setSeqSec (keeps_setSeq keeps_s1))) (keeps_startPull (keeps_setSeqSec (keeps_setSeq keeps_s1)))

theorem keeps_seqStart {q idx op check go} (h : Keeps s₀ s) (keeps_go : ∀ t y z, Keeps s₀ t → Keeps s₀ (go t y z)) : Keeps s₀ (seqStart s q
    idx op check go) := by
  unfold seqStart
  split
  · exact h
  · split
    · exact h
    · split
      · exact keeps_refuseCmd h
      · extract_lets -merge +onlyGivenNames x
        split
        · exact h
        · split
          · exact keeps_refuseCmd (keeps_unqueue h)
          · exact keeps_ite (keeps_completeCmd (keeps_unqueue h)) (keeps_go _ _ _ h)

theorem keeps_runSeq {k q c} (h : Keeps s₀ s) : Keeps s₀ (runSeq s k q c) := keeps_setSeq (keeps_setRing (keeps_unqueue h))

theorem answers_execAppend {ring idx host} (h : Keeps s₀ s) : Answers s₀ (execAppend ring idx host s) := by
  unfold execAppend
  extract_lets -merge +onlyGivenNames q n
  refine .next ?_
  split
  · exact h
  · split
    · split
      · exact h
      · exact keeps_ite (keeps_takeTokens h) h
    · exact keeps_seqStart h (fun _ _ _ h' => keeps_ite (keeps_takeTokens (keeps_runSeq h')) (keeps_ite (keeps_takeTokens (keeps_askSeq
        (keeps_runSeq h'))) (keeps_askSeq (keeps_runSeq h'))))

theorem answers_execApplyComplete (h : Keeps s₀ s) : Answers s₀ (execApplyComplete s) := .next (keeps_pldmRun h (fun _ h' => keeps_ite
    (keeps_pldmOut h') (keeps_pldmOut h'.update)))

theorem answers_execArbiterAbort {slot} (h : Keeps s₀ s) : Answers s₀ (execArbiterAbort slot s) := by
  unfold execArbiterAbort
  extract_lets -merge +onlyGivenNames k x
  refine .next ?_
  split
  · exact h
  · exact keeps_ite h (keeps_ite (keeps_setSeq h) (keeps_endRun h))

theorem keeps_fqSizeWrite {value} (h : Keeps s₀ s) : Keeps s₀ (fqSizeWrite s value).1 := by
  unfold fqSizeWrite
  extract_lets -merge +onlyGivenNames size
  split
  · exact h
  · split
    · exact keeps_raise h
    · exact keeps_setReg h

theorem keeps_fqPost {w unit prg last} (h : Keeps s₀ s) : Keeps s₀ (fqPost s w unit prg last).2 := by
  unfold fqPost
  extract_lets -merge +onlyGivenNames size shared resv i a
  split
  · exact keeps_raise h
  · split
    · exact h.update
    · extract_lets -merge +onlyGivenNames b s1
      have keeps_s1 : Keeps s₀ s1 := keeps_hostWrite (keeps_hostWrite h)
      extract_lets -merge +onlyGivenNames e s2 s2'
      have keeps_s2' : Keeps s₀ s2' := keeps_raise keeps_s1.update
      extract_lets -merge +onlyGivenNames s3
      have keeps_s3 : Keeps s₀ s3 := keeps_ite (keeps_raise keeps_s2') keeps_s2'
      extract_lets -merge +onlyGivenNames s4
      have keeps_s4 : Keeps s₀ s4 := keeps_bump (keeps_atfCount keeps_s3)
      exact keeps_emit keeps_s4

theorem keeps_setWait {w} (h : Keeps s₀ s) : Keeps s₀ (setWait s w) := h.update

theorem keeps_postUnits {w} (h : Keeps s₀ s) : Keeps s₀ (postUnits s w) := by
  unfold postUnits
  extract_lets -merge +onlyGivenNames n r
  have keeps_r : Keeps s₀ r.2 := by
    unfold r
    refine keeps_foldl_snd ?_ ?_
    · intro q x kept
      extract_lets -merge +onlyGivenNames u
      split
      · extract_lets -merge +onlyGivenNames last q'
        exact keeps_fqPost kept
      · exact kept
    · exact h
  exact keeps_setWait keeps_r

theorem keeps_formGroup {w} (h : Keeps s₀ s) : Keeps s₀ (formGroup s w) := by
  unfold formGroup
  extract_lets -merge +onlyGivenNames us fresh
  split
  · exact keeps_setWait h
  · split
    · exact keeps_setWait h
    · split
      · exact h
      · exact keeps_postUnits (keeps_setWait (keeps_atfCount h.update))

theorem keeps_xlPump (h : Keeps s₀ s) : Keeps s₀ (xlPump s).2 := by
  unfold xlPump
  refine keeps_foldl_snd ?_ ?_
  · intro q x kept
    extract_lets -merge +onlyGivenNames s'
    have keeps_s' : Keeps s₀ s' := kept
    split
    · exact kept
    · extract_lets -merge +onlyGivenNames drop
      have keeps_drop : ∀ u, Keeps s₀ u → Keeps s₀ (drop u) := by
        intro u keeps_u
        unfold drop
        exact keeps_u.update
      split
      · exact kept
      · split
        · exact keeps_drop _ keeps_s'
        · split
          · exact keeps_drop _ keeps_s'
          · extract_lets -merge +onlyGivenNames later
            split
            · exact keeps_postUnits keeps_s'
            · split
              · exact kept
              · exact keeps_formGroup keeps_s'
  · exact h

theorem keeps_xlateFail {who unit reason} (h : Keeps s₀ s) : Keeps s₀ (xlateFail s who unit reason) := keeps_waiterFail (keeps_raise h)

theorem keeps_runCopy {k q idx buf} (h : Keeps s₀ s) : Keeps s₀ (runCopy k s q idx buf) := by
  induction k generalizing s with
  | zero => exact h
  | succ k ih =>
    simp only [runCopy]
    split
    · exact h
    · split
      case h_1 s1 eq =>
        obtain ⟨p, -, found⟩ := List.exists_of_findSome?_eq_some eq
        exact ih (.of_some found (keeps_advPiece h))
      case h_2 =>
        split
        · split
          · exact keeps_stopCopy h
          · exact ih (keeps_setRing h)
        · exact h

theorem keeps_waiterReady {w} (h : Keeps s₀ s) : Keeps s₀ (waiterReady s w) := by
  unfold waiterReady
  split
  · exact keeps_pumpCore (keeps_setOp h)
  · exact keeps_runCopy (keeps_setPiece h)
  · exact keeps_setSeq h
  · exact h

theorem keeps_xlRun (h : Keeps s₀ s) : Keeps s₀ (xlRun s) := keeps_foldl (fun _ _ h' => keeps_waiterReady h') (keeps_foldl (fun _ _ h' =>
    keeps_xlateFail h') (keeps_xlPump h))

theorem answers_execAtfFqDisable {value} (h : Keeps s₀ s) : Answers s₀ (execAtfFqDisable value s) := .next (keeps_ite (keeps_fqSizeWrite h)
    (keeps_ite (keeps_raise h) (keeps_xlRun (keeps_fqSizeWrite ((keeps_setReg h).update)))))

theorem answers_execAtfFqEnable {value} (h : Keeps s₀ s) : Answers s₀ (execAtfFqEnable value s) := by
  have keeps_s1 : Keeps s₀ (fqSizeWrite s value).1 := keeps_fqSizeWrite h
  have keeps_s2 (o : Nat) (v : Word) : Keeps s₀ (setReg (fqSizeWrite s value).1 o v) := keeps_setReg keeps_s1
  rw [execAtfFqEnable]
  exact .next (keeps_ite keeps_s1 (keeps_ite (keeps_raise keeps_s1) (keeps_xlRun ((keeps_s2 _ _).update))))

theorem answers_execAtfFqHead {value} (h : Keeps s₀ s) : Answers s₀ (execAtfFqHead value s) := .next (keeps_ite (keeps_raise h) (keeps_xlRun
    (keeps_fqFree h.update)))

theorem keeps_xlCache {source n pasid unit log r w} (h : Keeps s₀ s) : Keeps s₀ (xlCache s source n pasid unit log r w) := keeps_foldl (fun _
    _ h' => keeps_tlbPut h') h

theorem keeps_xlAnswer {n pasid unit ans} (h : Keeps s₀ s) : Keeps s₀ (xlAnswer s n pasid unit ans).2 := by
  unfold xlAnswer
  refine keeps_foldl_snd ?_ ?_
  · intro q x kept
    split
    · extract_lets -merge +onlyGivenNames upd
      split
      · exact keeps_setWait kept
      · split
        · exact keeps_setWait kept
        · split
          · extract_lets -merge +onlyGivenNames s1
            have keeps_s1 : Keeps s₀ s1 := kept
            extract_lets -merge +onlyGivenNames s1' s1''
            have keeps_s1'' : Keeps s₀ s1'' := keeps_s1.update
            exact keeps_raise keeps_s1''
          · extract_lets -merge +onlyGivenNames s1
            have keeps_s1 : Keeps s₀ s1 := keeps_xlCache kept
            exact keeps_setWait keeps_s1
    · exact kept
  · exact h

theorem answers_execAtsCompletion {sector pasid unit ans} (h : Keeps s₀ s) : Answers s₀ (execAtsCompletion sector pasid unit ans s) := .next
    (keeps_xlRun (keeps_foldl (fun _ _ h' => keeps_xlateFail h') (keeps_xlAnswer h)))

theorem keeps_xlAgain {pasid base len} (h : Keeps s₀ s) : Keeps s₀ (xlAgain s pasid base len) := keeps_foldl (fun _ _ h' => keeps_ite h'
    (keeps_setWait (keeps_foldl (fun _ _ h2 => keeps_atsSend h2) h'))) h.update

theorem answers_execAtsInvalidate {itag pasid base len} (h : Keeps s₀ s) : Answers s₀ (execAtsInvalidate itag pasid base len s) := .next
    (keeps_ite h (keeps_xlAgain h.update))

theorem answers_execAxchg {c w} (h : Keeps s₀ s) : Answers s₀ (execAxchg c w s) := .next (keeps_issueTile h)

theorem answers_execBar {c w} (h : Keeps s₀ s) : Answers s₀ (execBar c w s) := .next (keeps_issueTile h)

theorem answers_execBar2Read {addr len} (h : Keeps s₀ s) : Answers s₀ (execBar2Read addr len s) := by
  unfold execBar2Read
  refine .next ?_
  split
  · exact keeps_emit h
  · split
    · rename_i x n a eq x1 w t1 eq1
      have keeps_t1 : Keeps s₀ t1 := .of_snd eq1 (keeps_memCheck h)
      exact keeps_emit keeps_t1
    · rename_i x n a eq x1 t1 eq1
      have keeps_t1 : Keeps s₀ t1 := .of_snd eq1 (keeps_memCheck h)
      exact keeps_emit keeps_t1

theorem answers_execBar2Write {addr bytes} (h : Keeps s₀ s) : Answers s₀ (execBar2Write addr bytes s) := by
  unfold execBar2Write
  refine .next ?_
  split
  · exact keeps_emit h
  · exact keeps_smPut h

theorem keeps_formB {c op w f} (h : Keeps s₀ s) : Keeps s₀ (formB s c op w f) := keeps_control h (fun _ _ => keeps_retire (keeps_setCore h))

theorem answers_execBeq {c w} (h : Keeps s₀ s) : Answers s₀ (execBeq c w s) := .next (keeps_formB h)

theorem answers_execBge {c w} (h : Keeps s₀ s) : Answers s₀ (execBge c w s) := .next (keeps_formB h)

theorem answers_execBgeu {c w} (h : Keeps s₀ s) : Answers s₀ (execBgeu c w s) := .next (keeps_formB h)

theorem answers_execBlt {c w} (h : Keeps s₀ s) : Answers s₀ (execBlt c w s) := .next (keeps_formB h)

theorem answers_execBltu {c w} (h : Keeps s₀ s) : Answers s₀ (execBltu c w s) := .next (keeps_formB h)

theorem answers_execBne {c w} (h : Keeps s₀ s) : Answers s₀ (execBne c w s) := .next (keeps_formB h)

theorem answers_execBoostClose (h : Keeps s₀ s) : Answers s₀ (execBoostClose s) := .next (keeps_closeBoost h)

theorem answers_execBoostOpen {value} (h : Keeps s₀ s) : Answers s₀ (execBoostOpen value s) := by
  unfold execBoostOpen
  extract_lets -merge +onlyGivenNames s1
  have keeps_s1 : Keeps s₀ s1 := keeps_setReg h
  exact .next (keeps_ite (keeps_tndModCount (keeps_raise ((keeps_setReg keeps_s1).update))) (keeps_raise (keeps_ite keeps_s1 (keeps_setReg
    keeps_s1))))

theorem answers_execBoostWindowEnd (h : Keeps s₀ s) : Answers s₀ (execBoostWindowEnd s) := .next (keeps_closeBoost h)

theorem keeps_takeCollector (h : Keeps s₀ s) : Keeps s₀ (takeCollector s) := keeps_ite h.update (keeps_raise (keeps_postLog h.update))

theorem keeps_putAvail {base i v} (h : Keeps s₀ s) : Keeps s₀ (putAvail s base i v) := keeps_setReg h

theorem keeps_putAvails {base first n f} (h : Keeps s₀ s) : Keeps s₀ (putAvails s base first n f) := keeps_foldl (fun _ _ h' => keeps_putAvail h') h

theorem keeps_lanternOut {n} (h : Keeps s₀ s) : Keeps s₀ (lanternOut s n) := keeps_putAvail (keeps_putAvails h)

theorem keeps_stepEffect {id lvl detail pass} (h : Keeps s₀ s) : Keeps s₀ (stepEffect s id lvl detail pass) := by
  unfold stepEffect
  extract_lets -merge +onlyGivenNames other
  refine keeps_ite h.update (keeps_ite (keeps_takeCollector h.update) (keeps_ite (keeps_ite h.update h.update)
    (keeps_ite (keeps_ite h.update h) (keeps_ite h.update (keeps_ite ?_ (keeps_ite ?_ (keeps_ite ?_ (keeps_ite ?_ (keeps_ite ?_
    (keeps_ite ?_ h))))))))))
  · exact keeps_putAvails (keeps_setReg h)
  · exact keeps_ite h.update (keeps_putAvails (keeps_setReg h))
  · exact keeps_ite (keeps_takeUcode (keeps_putAvail (keeps_putAvails h))) (keeps_lanternOut h)
  · exact keeps_setDir (keeps_ite (keeps_foldl (fun _ _ h' => keeps_lanternOut h') (keeps_putAvails h)) (keeps_putAvails h))
  · exact keeps_ite (keeps_setPort (keeps_putAvails (keeps_putAvail h))) (keeps_putAvails (keeps_putAvail h)).update
  · exact keeps_ite (keeps_setRp h) (keeps_foldl (fun _ _ h' => keeps_portTrain h') (keeps_raise (keeps_setRp h)))

theorem keeps_stepDone {id lvl ms detail pass} (h : Keeps s₀ s) : Keeps s₀ (stepDone s id lvl ms detail pass) := keeps_ite (keeps_bootDone
    (keeps_setBoot (keeps_stepEffect h))) (keeps_ite (keeps_ite (keeps_bootLost (keeps_setBoot (keeps_stepEffect h))) (keeps_bootAdvance
    ((keeps_setBoot (keeps_stepEffect h)).update))) (keeps_bootAdvance (keeps_setBoot (keeps_stepEffect h))))

theorem keeps_stepFailed {id lvl outcome ms detail pass} (h : Keeps s₀ s) : Keeps s₀ (stepFailed s id lvl outcome ms detail pass) :=
    keeps_ite ((keeps_bootLost (keeps_journalPut h)).update) (keeps_ite (keeps_runLevel (keeps_setBoot (keeps_postLog (keeps_journalPut h))))
    (keeps_ite (keeps_bootLost ((keeps_setBoot (keeps_postLog (keeps_journalPut h))).update)) (keeps_ite (keeps_bootFailed (keeps_setBoot
    (keeps_postLog (keeps_journalPut h)))) (keeps_stepDone (keeps_setBoot (keeps_postLog (keeps_journalPut h)))))))

theorem answers_execBootStepEnd {step ok ms detail pass} (h : Keeps s₀ s) : Answers s₀ (execBootStepEnd step ok ms detail pass s) := by
  unfold execBootStepEnd
  refine .next ?_
  split
  · exact h
  · exact keeps_ite (keeps_stepDone (keeps_journalPut h)) (keeps_stepFailed h)

theorem answers_execBootStepTimeout {step ms} (h : Keeps s₀ s) : Answers s₀ (execBootStepTimeout step ms s) := by
  unfold execBootStepTimeout
  refine .next ?_
  split
  · exact h
  · exact keeps_ite h (keeps_stepFailed h)

theorem answers_execBuffer {q idx host} (h : Keeps s₀ s) : Answers s₀ (execBuffer q idx host s) := by
  refine .next ?_
  split
  · exact h
  next c _ =>
    have keeps_s1 (cs : List Cmd) : Keeps s₀ ((bufEntries s q c host (c.f 32 4) 0 []).2.2.setRing q { s.ring q with cmds := cs }) :=
      keeps_setRing (keeps_bufEntries h)
    have keeps_s2 (cs : List Cmd) (bad : List (Nat × Cond)) (empty : Bool) :
        Keeps s₀ (if empty then (match bad with
          | (_, w) :: _ => endCmd ((bufEntries s q c host (c.f 32 4) 0 []).2.2.setRing q { s.ring q with cmds := cs }) q c w.status w.detail
          | [] => (bufEntries s q c host (c.f 32 4) 0 []).2.2.setRing q { s.ring q with cmds := cs })
        else (bufEntries s q c host (c.f 32 4) 0 []).2.2.setRing q { s.ring q with cmds := cs }) := by
      split
      · split
        · exact keeps_endCmd (keeps_s1 cs)
        · exact keeps_s1 cs
      · exact keeps_s1 cs
    exact keeps_ite h (keeps_ite (keeps_startCtxReset (keeps_s2 _ _ _)) (keeps_s2 _ _ _))

theorem answers_execBypass {rp close} (h : Keeps s₀ s) : Answers s₀ (execBypass rp close s) := by
  unfold execBypass
  extract_lets -merge +onlyGivenNames x s1
  have keeps_s1 : Keeps s₀ s1 := keeps_setReg h
  exact .next (keeps_ite keeps_s1 (keeps_setRp keeps_s1))

theorem answers_execBypassMoved {rp} (h : Keeps s₀ s) : Answers s₀ (execBypassMoved rp s) := by
  unfold execBypassMoved
  extract_lets -merge +onlyGivenNames x
  refine .next ?_
  split
  · exact h
  · exact keeps_foldl (fun _ _ h' => keeps_ite (keeps_portTrain h') (keeps_ite h' (keeps_portDown h'))) (keeps_raise (keeps_setRp h))

theorem keeps_imageCut (h : Keeps s₀ s) : Keeps s₀ (imageCut s) := keeps_ite (keeps_setFw h) h

theorem answers_execCancelUpdate (h : Keeps s₀ s) : Answers s₀ (execCancelUpdate s) := .next (keeps_pldmRun h (fun _ h' => keeps_ite
    (keeps_pldmOut h') (keeps_pldmOut (keeps_pldmIdle (keeps_imageCut h')))))

theorem answers_execCancelUpdateComponent (h : Keeps s₀ s) : Answers s₀ (execCancelUpdateComponent s) := .next (keeps_pldmRun h (fun _ h' =>
    keeps_ite (keeps_pldmOut (keeps_setPldm (keeps_imageCut h'))) (keeps_pldmOut h')))

theorem answers_execCapVerOffer {offer} (h : Keeps s₀ s) : Answers s₀ (execCapVerOffer offer s) := by
  unfold execCapVerOffer
  extract_lets -merge +onlyGivenNames v busy one
  exact .next (keeps_ite (keeps_setReg h) (keeps_setReg (keeps_setReg h)))

theorem keeps_spdmAnswer {req body signed} (h : Keeps s₀ s) : Keeps s₀ (spdmAnswer s req body signed) := keeps_ite (keeps_emit h) h

theorem keeps_spdmError (h : Keeps s₀ s) : Keeps s₀ (spdmError s) := keeps_spdmAnswer h

theorem answers_execChallenge {slot nonce} (h : Keeps s₀ s) : Answers s₀ (execChallenge slot nonce s) := .next (keeps_ite (keeps_spdmAnswer
    h) (keeps_spdmError h))

theorem answers_execClose {ring idx} (h : Keeps s₀ s) : Answers s₀ (execClose ring idx s) := by
  unfold execClose
  refine .next ?_
  split
  · exact h
  · split
    · exact keeps_refuseCmd h
    · exact keeps_ite h (keeps_ite (keeps_setSeq (keeps_setRing (keeps_setSeq (keeps_abortSeq h)))) (keeps_freeSlot (keeps_setRing
        (keeps_setSeq (keeps_abortSeq h)))))

theorem answers_execCmpSlotCancel {slot} (h : Keeps s₀ s) : Answers s₀ (execCmpSlotCancel slot s) := by
  unfold execCmpSlotCancel
  extract_lets -merge +onlyGivenNames x c
  refine .next ?_
  split
  · exact keeps_slotFail h
  · exact keeps_slotFail h
  · exact keeps_slotFail h
  · exact keeps_ite (keeps_slotFail h) h
  · exact h

theorem answers_execCmpSubmitGo (h : Keeps s₀ s) : Answers s₀ (execCmpSubmitGo s) := by
  unfold execCmpSubmitGo
  extract_lets -merge +onlyGivenNames free
  refine .next ?_
  split
  · exact keeps_raise h
  · exact (keeps_setSlot h).update

theorem answers_execCoherenceEscalation {refusals} (h : Keeps s₀ s) : Answers s₀ (execCoherenceEscalation refusals s) := .next (keeps_raise
    (keeps_cohCount (keeps_cohCount h)))

theorem keeps_tryStage3 (h : Keeps s₀ s) : Keeps s₀ (tryStage3 s) := keeps_ite (keeps_startStage h) h

theorem keeps_powerClear (h : Keeps s₀ s) : Keeps s₀ (powerClear s) :=
  h.of_memories rfl (fun _ => rfl) (fun _ => rfl) (fun _ => rfl) (fun _ => rfl) (fun _ => rfl) (fun _ => rfl)

theorem answers_execColdBoot (h : Keeps s₀ s) : Answers s₀ (execColdBoot s) := .next (keeps_ite h (keeps_ite (keeps_tryStage3 h.update)
    (keeps_ite (keeps_beginBoot (keeps_powerClear h.update)) h.update)))

theorem answers_execCompkeyEnrol {req a1 a2} (h : Keeps s₀ s) : Answers s₀ (execCompkeyEnrol req a1 a2 s) := by
  unfold execCompkeyEnrol
  refine .next ?_
  refine keeps_dmkRun h ?_
  intro x
  extract_lets -merge +onlyGivenNames put put'
  have keeps_put' : ∀ x0, Keeps s₀ ((put' x0).1) := by
    intro x0
    unfold put'
    exact keeps_raise h.update
  split
  · split
    · exact h
    · exact keeps_put' _
  · split
    · exact h
    · exact keeps_put' _
  · split
    · exact h
    · split
      · exact h
      · split
        · exact h
        · exact keeps_put' _
  · exact h

theorem keeps_flushPba (h : Keeps s₀ s) : Keeps s₀ (flushPba s) := keeps_foldr (fun _ _ h' => keeps_ite (keeps_emit h'.update) h') h

theorem answers_execConfigRequest {req} (h : Keeps s₀ s) : Answers s₀ (execConfigRequest req s) := by
  unfold execConfigRequest
  extract_lets -merge +onlyGivenNames done
  have keeps_done : Keeps s₀ done := keeps_emit h
  refine .next ?_
  split
  · exact keeps_emit h
  · split
    · exact keeps_emit h
    · exact keeps_xlRun keeps_done.update
    · exact keeps_xlRun keeps_done.update
    · exact keeps_done.update
    · exact keeps_flushPba keeps_done.update

theorem keeps_noteCond {q c w} (h : Keeps s₀ s) : Keeps s₀ (noteCond s q c w) := keeps_setRing h

theorem keeps_noteCmds {w p} (h : Keeps s₀ s) : Keeps s₀ (noteCmds s w p) := by
  unfold noteCmds
  refine keeps_foldl ?_ ?_
  · intro t x kept
    refine keeps_foldl ?_ ?_
    · intro t x kept
      split
      · split
        · exact keeps_noteCond kept
        · exact kept
      · exact kept
    · exact kept
  · exact h

theorem answers_execContextWatchExpiry {slot} (h : Keeps s₀ s) : Answers s₀ (execContextWatchExpiry slot s) := by
  unfold execContextWatchExpiry
  extract_lets -merge +onlyGivenNames k w
  refine .next ?_
  split
  · exact h
  · split
    · exact h
    · split
      · exact h
      · extract_lets -merge +onlyGivenNames resetting d s1
        have keeps_s1 : Keeps s₀ s1 := keeps_ite h (keeps_noteCmds h)
        exact keeps_ite (keeps_hngCount (keeps_raise (keeps_setWatch keeps_s1))) (keeps_rungOrStuck (keeps_hngCount (keeps_raise
          (keeps_setWatch keeps_s1))) (fun _ h' => keeps_startCtxReset h'))

theorem keeps_startCopy {q idx buf op} (h : Keeps s₀ s) : Keeps s₀ (startCopy s q idx buf op) := by
  unfold startCopy
  split
  · exact h
  · exact keeps_ite (keeps_runCopy (keeps_begun h)) h

theorem answers_execCopy {q idx buf} (h : Keeps s₀ s) : Answers s₀ (execCopy q idx buf s) := .next (keeps_startCopy h)

theorem keeps_pieceBytes {q c p host} (h : Keeps s₀ s) : Keeps s₀ (pieceBytes s q c p host).2 := by
  unfold pieceBytes
  extract_lets -merge +onlyGivenNames r
  split
  · exact h
  · extract_lets -merge +onlyGivenNames e
    exact keeps_objRead h

theorem keeps_overlapBytes {c p bs} (h : Keeps s₀ s) : Keeps s₀ (overlapBytes s c p bs).2 := by
  simp only [overlapBytes]
  split
  · exact h
  · split
    · exact h
    · split
      · exact h.update
      · exact h

theorem keeps_pieceDone {q idx buf off host} (h : Keeps s₀ s) : Keeps s₀ (pieceDone s q idx buf off host) := by
  unfold pieceDone
  split
  · exact h
  · split
    · exact h
    · extract_lets -merge +onlyGivenNames r ready ready'
      split
      · exact h
      · extract_lets -merge +onlyGivenNames drop
        have keeps_drop : ∀ u x1, Keeps s₀ u → Keeps s₀ (drop u x1) := by
          intro u x1 keeps_u
          unfold drop
          split
          · exact keeps_u
          · extract_lets -merge +onlyGivenNames c2 s1
            have keeps_s1 : Keeps s₀ s1 := keeps_setRing keeps_u
            exact keeps_ite (keeps_ite (keeps_completeCmd (keeps_foldl (fun _ _ h' => keeps_dropWaits h') keeps_s1)) (keeps_setRing
              (keeps_foldl (fun _ _ h' => keeps_dropWaits h') keeps_s1))) (keeps_ite (keeps_completeCmd keeps_s1) (keeps_runCopy keeps_s1))
        extract_lets -merge +onlyGivenNames s0
        have keeps_s0 : Keeps s₀ s0 := keeps_markLantern (keeps_markCtx h)
        extract_lets -merge +onlyGivenNames halt halt'
        have keeps_halt' : ∀ u x1, Keeps s₀ u → Keeps s₀ (halt' u x1) := by
          intro u x1 keeps_u
          unfold halt'
          exact keeps_ite (keeps_raise keeps_u.update) keeps_u
        split
        · rename_i x p eq x1 p1 eq1 h1 x2 w t1 eq2
          have keeps_t1 : Keeps s₀ t1 := .of_snd eq2 (keeps_pieceBytes keeps_s0)
          exact keeps_drop _ _ (keeps_halt' _ _ keeps_t1)
        · rename_i x p eq x1 p1 eq1 h1 x2 b0 t1 eq2
          have keeps_t1 : Keeps s₀ t1 := .of_snd eq2 (keeps_pieceBytes keeps_s0)
          extract_lets -merge +onlyGivenNames b d a k l s2
          have keeps_s2 : Keeps s₀ s2 := keeps_bump (keeps_bump (keeps_overlapBytes keeps_t1))
          exact keeps_ite (keeps_drop _ _ (keeps_smPut (keeps_bump (keeps_bump keeps_s2)))) (keeps_ite (keeps_drop _ _ (keeps_bump
            (keeps_hostWrite (keeps_bump (keeps_bump keeps_s2))))) (keeps_drop _ _ (keeps_raise (keeps_bump (keeps_bump keeps_s2)))))

theorem answers_execCopyPieceComplete {q idx buf off host} (h : Keeps s₀ s) : Answers s₀ (execCopyPieceComplete q idx buf off host s) :=
    .next (keeps_pieceDone h)

theorem answers_execCqHead {q v} (h : Keeps s₀ s) : Answers s₀ (execCqHead q v s) := .next (keeps_ite h (keeps_checkRange (keeps_setRing h)))

theorem answers_execCrashDumpDone {ok} (h : Keeps s₀ s) : Answers s₀ (execCrashDumpDone ok s) := .next (keeps_ite h (keeps_afterDump
    (keeps_raise h.update)))

theorem answers_execCtxActivate {q idx} (h : Keeps s₀ s) : Answers s₀ (execCtxActivate q idx s) := by
  unfold execCtxActivate
  refine .next ?_
  refine keeps_privCmd h ?_
  intro x
  extract_lets -merge +onlyGivenNames n k
  split
  · exact keeps_refuseCmd h
  · split
    · exact keeps_refuseCmd h
    · exact keeps_ite (keeps_busyCmd h) (keeps_ite (keeps_refuseCmd h) (keeps_ite (keeps_admitCtx (keeps_setCtx (keeps_setRing h)))
        (keeps_setCtx (keeps_setRing h))))

theorem answers_execCtxDeactivate {q idx} (h : Keeps s₀ s) : Answers s₀ (execCtxDeactivate q idx s) := by
  unfold execCtxDeactivate
  refine .next ?_
  refine keeps_privCmd h ?_
  intro x
  extract_lets -merge +onlyGivenNames k x'
  split
  · exact keeps_completeCmd (keeps_endWait h)
  · exact keeps_ite (keeps_completeCmd (keeps_setWatch (keeps_clearTlm (keeps_dropPageMoves (keeps_setCtx h))))) (keeps_busyCmd h)
  · exact keeps_busyCmd h

theorem answers_execCtxReset {q idx} (h : Keeps s₀ s) : Answers s₀ (execCtxReset q idx s) := .next (keeps_privCmd h (fun _ =>
    keeps_startCtxReset (keeps_setRing h)))

theorem answers_execCtxResetComplete {ctx} (h : Keeps s₀ s) : Answers s₀ (execCtxResetComplete ctx s) := .next (keeps_ite (keeps_endCtxReset h) h)

theorem answers_execCtxWaitAdmit {sector} (h : Keeps s₀ s) : Answers s₀ (execCtxWaitAdmit sector s) := by
  unfold execCtxWaitAdmit
  refine .next ?_
  split
  · split
    · exact keeps_admitCtx h
    · exact h
  · exact h

theorem keeps_readData {r bs} (h : Keeps s₀ s) : Keeps s₀ (readData s r bs) := by
  unfold readData
  split
  · exact keeps_markLantern (keeps_setOp h)
  · exact keeps_ite (keeps_smPut h) h
  · exact h

theorem answers_execData {lane f} (h : Keeps s₀ s) : Answers s₀ (execData lane f s) := .next (keeps_onAnswer h (fun _ _ h' => keeps_ite
    (keeps_readData (keeps_dropReq h')) h'))

theorem keeps_warmClear (h : Keeps s₀ s) : Keeps s₀ (warmClear s) :=
  h.of_memories rfl (fun _ => rfl) (fun _ => rfl) (fun _ => rfl) (fun _ => rfl) (fun _ => rfl) (fun _ => rfl)

theorem keeps_startModuleReset {r dump} (h : Keeps s₀ s) : Keeps s₀ (startModuleReset s r dump) := by
  unfold startModuleReset
  split
  · exact keeps_hngCount h
  · split
    · split
      · exact keeps_ite h.update h
      · exact h.update
    · extract_lets -merge +onlyGivenNames on s1
      have keeps_s1 : Keeps s₀ s1 := keeps_beginReset h
      extract_lets -merge +onlyGivenNames a s2
      have keeps_s2 : Keeps s₀ s2 := keeps_absorb keeps_s1
      extract_lets -merge +onlyGivenNames s2'
      have keeps_s2' : Keeps s₀ s2' := keeps_warmClear keeps_s2.update
      extract_lets -merge +onlyGivenNames s2''
      have keeps_s2'' : Keeps s₀ s2'' := keeps_ite (keeps_stopBoot keeps_s2') keeps_s2'
      exact keeps_ite ((keeps_updReset keeps_s2'').update) (keeps_ite ((keeps_updReset keeps_s2'').update) (keeps_afterDump keeps_s2''))

theorem answers_execDebugCert {req a1 a2} (h : Keeps s₀ s) : Answers s₀ (execDebugCert req a1 a2 s) := by
  unfold execDebugCert
  refine .next ?_
  refine keeps_dmkRun h ?_
  intro x
  extract_lets -merge +onlyGivenNames f rights
  split
  · exact h
  · split
    · exact h
    · split
      · exact h
      · split
        · exact h
        · split
          · exact h
          · split
            · exact h
            · extract_lets -merge +onlyGivenNames s1 s1'
              have keeps_s1' : Keeps s₀ s1' := h.update
              extract_lets -merge +onlyGivenNames grant
              have keeps_grant : ∀ u, Keeps s₀ u → Keeps s₀ (grant u) := by
                intro u keeps_u
                unfold grant
                exact keeps_raise (keeps_postLog keeps_u.update)
              split
              · extract_lets -merge +onlyGivenNames done
                have keeps_done : Keeps s₀ done := keeps_dmkFinish keeps_s1'
                extract_lets -merge +onlyGivenNames s2
                have keeps_s2 : Keeps s₀ s2 := keeps_grant _ (keeps_startModuleReset keeps_done)
                exact keeps_s2.update
              · extract_lets -merge +onlyGivenNames s2
                have keeps_s2 : Keeps s₀ s2 := keeps_grant _ keeps_s1'
                exact keeps_s2

theorem answers_execDebugRevoke {req a1 a2} (h : Keeps s₀ s) : Answers s₀ (execDebugRevoke req a1 a2 s) := by
  unfold execDebugRevoke
  refine .next ?_
  refine keeps_dmkRun h ?_
  intro x
  split
  · exact h
  · extract_lets -merge +onlyGivenNames d s1 s1'
    have keeps_s1' : Keeps s₀ s1' := h.update
    exact keeps_ite keeps_s1' (keeps_raise keeps_s1')

theorem answers_execDelayReq {port} (h : Keeps s₀ s) : Answers s₀ (execDelayReq port s) := .next (keeps_ite h (keeps_laneSend (keeps_fresh h)))

theorem answers_execDelayResp {port trip turn} (h : Keeps s₀ s) : Answers s₀ (execDelayResp port trip turn s) := .next (keeps_ite h
    (keeps_setPort h))

theorem answers_execDeviceId {id} (h : Keeps s₀ s) : Answers s₀ (execDeviceId id s) := .next (keeps_ite h.update (keeps_ite h.update
    (keeps_foldl (fun _ _ h' => keeps_helloSend h') h.update)))

theorem answers_execDirectoryRebuildDone {die} (h : Keeps s₀ s) : Answers s₀ (execDirectoryRebuildDone die s) := by
  unfold execDirectoryRebuildDone
  refine .next ?_
  split
  · exact h
  · extract_lets -merge +onlyGivenNames s1
    have keeps_s1 : Keeps s₀ s1 := keeps_dirCorrect h
    split
    · rename_i h1 x t1 eq
      have keeps_t1 : Keeps s₀ t1 := .of_some eq (keeps_dirUncorr keeps_s1)
      exact keeps_t1
    · exact keeps_raise (keeps_setDir keeps_s1)

theorem answers_execDivu {c w} (h : Keeps s₀ s) : Answers s₀ (execDivu c w s) := .next (keeps_formA h)

theorem answers_execDoorbellTail {q v} (h : Keeps s₀ s) : Answers s₀ (execDoorbellTail q v s) := .next (keeps_ite h (keeps_checkRange
    (keeps_setRing h)))

theorem keeps_stopStep {n w} (h : Keeps s₀ s) : Keeps s₀ (stopStep s n w) := by
  unfold stopStep
  extract_lets -merge +onlyGivenNames x
  split
  · exact h
  · exact keeps_ite (keeps_setSeqSec h) (keeps_failStep h)

theorem keeps_retireOld {n} (h : Keeps s₀ s) : Keeps s₀ (retireOld s n).1 := by
  unfold retireOld
  extract_lets -merge +onlyGivenNames s1
  have keeps_s1 : Keeps s₀ s1 := by
    unfold s1
    refine keeps_foldl ?_ ?_
    · intro t x kept
      refine keeps_foldl ?_ ?_
      · intro t x kept
        split
        · split
          · exact keeps_noteCond kept
          · exact kept
        · exact kept
      · exact kept
    · exact h
  extract_lets -merge +onlyGivenNames cs
  split
  · extract_lets -merge +onlyGivenNames c s2
    have keeps_s2 : Keeps s₀ s2 := keeps_stopStep keeps_s1
    extract_lets -merge +onlyGivenNames s3
    have keeps_s3 : Keeps s₀ s3 := keeps_stopGroups keeps_s2
    exact keeps_s3
  · exact keeps_s1

theorem answers_execDrainDeadline {sector} (h : Keeps s₀ s) : Answers s₀ (execDrainDeadline sector s) := by
  unfold execDrainDeadline
  extract_lets -merge +onlyGivenNames n g
  refine .next ?_
  split
  · exact h
  · extract_lets -merge +onlyGivenNames s0
    have keeps_s0 : Keeps s₀ s0 := keeps_setGen h
    extract_lets -merge +onlyGivenNames k room
    split
    · exact keeps_s0
    · extract_lets -merge +onlyGivenNames r s2
      have keeps_s2 : Keeps s₀ s2 := keeps_dropWaiting (keeps_retireOld keeps_s0)
      extract_lets -merge +onlyGivenNames cs s3
      have keeps_s3 : Keeps s₀ s3 := keeps_foldl (fun _ _ h' => keeps_startCtxReset h') keeps_s2
      exact keeps_drainResources (keeps_raise (keeps_setGen keeps_s3))

theorem answers_execDroopRecovery {die} (h : Keeps s₀ s) : Answers s₀ (execDroopRecovery die s) := .next h.update

theorem answers_execDumpCopy {value} (h : Keeps s₀ s) : Answers s₀ (execDumpCopy value s) := .next (keeps_ite h (keeps_ite (keeps_copyEnd
    (keeps_setReg h)) (keeps_ite (keeps_copyEnd (keeps_setReg h)) ((keeps_setReg h).update))))

theorem answers_execDumpCopyDone {ok} (h : Keeps s₀ s) : Answers s₀ (execDumpCopyDone ok s) := .next (keeps_ite h (keeps_ite (keeps_copyEnd
    h) (keeps_copyEnd (keeps_hostWrite h))))

theorem answers_execEmergencyEscalate (h : Keeps s₀ s) : Answers s₀ (execEmergencyEscalate s) := by
  unfold execEmergencyEscalate
  extract_lets -merge +onlyGivenNames e
  exact .next (keeps_ite (keeps_setEmerg h) h)

theorem answers_execEmergencyRelease (h : Keeps s₀ s) : Answers s₀ (execEmergencyRelease s) := by
  unfold execEmergencyRelease
  extract_lets -merge +onlyGivenNames e
  exact .next (keeps_ite (keeps_setEmerg h) h)

theorem answers_execEngineResetComplete {engine} (h : Keeps s₀ s) : Answers s₀ (execEngineResetComplete engine s) := .next (keeps_ite
    (keeps_endEngineReset h) h)

theorem keeps_noteStep {n w} (h : Keeps s₀ s) : Keeps s₀ (noteStep s n w) := by
  unfold noteStep
  extract_lets -merge +onlyGivenNames x
  split
  · exact h
  · exact keeps_setSeqSec h

theorem keeps_lanternResetEffects {n} (h : Keeps s₀ s) : Keeps s₀ (lanternResetEffects s n) := by
  unfold lanternResetEffects
  extract_lets -merge +onlyGivenNames mine ks s1
  have keeps_s1 : Keeps s₀ s1 := keeps_stopGroups h
  extract_lets -merge +onlyGivenNames s2
  have keeps_s2 : Keeps s₀ s2 := keeps_foldl (fun _ _ h' => keeps_setCore (keeps_foldl (fun _ _ h2 => keeps_dropWaits h2) h')) keeps_s1
  extract_lets -merge +onlyGivenNames s3
  have keeps_s3 : Keeps s₀ s3 := keeps_foldl (fun _ _ h' => keeps_settleGroup h') keeps_s2
  refine keeps_foldl ?_ ?_
  · intro t x kept
    refine keeps_foldl ?_ ?_
    · intro t x kept
      split
      · split
        · exact kept
        · exact keeps_stopCopy kept
      · exact kept
    · exact kept
  · exact keeps_s3

theorem keeps_seqResetEffects {n} (h : Keeps s₀ s) : Keeps s₀ (seqResetEffects s n) := by
  unfold seqResetEffects
  extract_lets -merge +onlyGivenNames s1
  have keeps_s1 : Keeps s₀ s1 := keeps_dropBlkMoves h
  split
  · exact keeps_s1
  · extract_lets -merge +onlyGivenNames w
    split
    · extract_lets -merge +onlyGivenNames s2
      have keeps_s2 : Keeps s₀ s2 := keeps_stopStep keeps_s1
      refine keeps_foldl ?_ ?_
      · intro t x kept
        split
        · exact keeps_ite (keeps_stopGroup kept) kept
        · exact kept
      · exact keeps_s2
    · exact keeps_failStep keeps_s1

theorem keeps_freezeReset {n} (h : Keeps s₀ s) : Keeps s₀ (freezeReset s n) := by
  unfold freezeReset
  extract_lets -merge +onlyGivenNames f head
  have keeps_head : ∀ x0, Keeps s₀ (head x0) := by
    intro x0
    unfold head
    exact keeps_ite h (keeps_smPut h)
  split
  · exact h
  · exact keeps_setFrz (keeps_head _)
  · exact keeps_ite (keeps_setFrz (keeps_head _)) (keeps_setFrz h)
  · exact keeps_setFrz (keeps_head _)

theorem keeps_startEngineReset {e cause by_ ctx part} (h : Keeps s₀ s) : Keeps s₀ (startEngineReset s e cause by_ ctx part) := by
  unfold startEngineReset
  split
  · exact keeps_ite (keeps_hngCount h) h
  · extract_lets -merge +onlyGivenNames n r s1
    have keeps_s1 : Keeps s₀ s1 := keeps_beginReset h
    extract_lets -merge +onlyGivenNames s2
    have keeps_s2 : Keeps s₀ s2 := keeps_ite (keeps_lanternResetEffects keeps_s1) (keeps_seqResetEffects keeps_s1)
    exact keeps_ite keeps_s2 (keeps_freezeReset keeps_s2)

theorem answers_execEngineWatchExpiry {engine} (h : Keeps s₀ s) : Answers s₀ (execEngineWatchExpiry engine s) := by
  unfold execEngineWatchExpiry
  extract_lets -merge +onlyGivenNames e
  refine .next ?_
  split
  · exact h
  · extract_lets -merge +onlyGivenNames w s1 s1'
    have keeps_s1' : Keeps s₀ s1' := keeps_noteCmds h
    extract_lets -merge +onlyGivenNames s1''
    have keeps_s1'' : Keeps s₀ s1'' := keeps_ite (keeps_foldl (fun _ _ h' => keeps_ite (keeps_noteStep h') h') keeps_s1') (keeps_noteStep h)
    exact keeps_rungOrStuck (keeps_hngCount (keeps_raise (keeps_setWatch keeps_s1''))) (fun _ h' => keeps_startEngineReset h')

theorem answers_execError {lane f} (h : Keeps s₀ s) : Answers s₀ (execError lane f s) := by
  unfold execError
  refine .next ?_
  refine keeps_onAnswer h ?_
  intro t y keeps_t
  split
  · exact keeps_setReq keeps_t
  · split
    · extract_lets -merge +onlyGivenNames s1
      have keeps_s1 : Keeps s₀ s1 := keeps_memUncorr keeps_t
      extract_lets -merge +onlyGivenNames s2
      have keeps_s2 : Keeps s₀ s2 := by
        unfold s2
        split
        · split
          · exact keeps_ite (keeps_haltStream keeps_s1) keeps_s1
          · exact keeps_s1
        · exact keeps_s1
      exact keeps_reqFail keeps_s2
    · exact keeps_reqFail keeps_t

theorem answers_execEsig {c w} (h : Keeps s₀ s) : Answers s₀ (execEsig c w s) := .next (keeps_issueTile h)

theorem answers_execEventInit {q idx} (h : Keeps s₀ s) : Answers s₀ (execEventInit q idx s) := .next (keeps_privCmd h (fun _ => keeps_ite
    (keeps_busyCmd h) (keeps_completeCmd (keeps_writeEvent (keeps_setEvent h)))))

theorem answers_execEventSetAbandon {q idx} (h : Keeps s₀ s) : Answers s₀ (execEventSetAbandon q idx s) := .next (keeps_eventSet h (fun _ _
    => keeps_completeCmd (keeps_abandonEvent h)))

theorem answers_execEventSetFree {q idx} (h : Keeps s₀ s) : Answers s₀ (execEventSetFree q idx s) := .next (keeps_eventSet h (fun _ _ =>
    keeps_ite (keeps_busyCmd h) (keeps_completeCmd (keeps_writeEvent (keeps_setEvent h)))))

theorem answers_execEventSetSignal {q idx} (h : Keeps s₀ s) : Answers s₀ (execEventSetSignal q idx s) := .next (keeps_eventSet h (fun _ _ =>
    keeps_completeCmd (keeps_signalEvent h)))

theorem answers_execEwait {c w} (h : Keeps s₀ s) : Answers s₀ (execEwait c w s) := .next (keeps_issueTile h)

theorem answers_execExit {c w} (h : Keeps s₀ s) : Answers s₀ (execExit c w s) := .next (keeps_control h (fun _ _ => keeps_settleGroup
    (keeps_retire (keeps_setCore h))))

theorem keeps_readFallback {r} (h : Keeps s₀ s) : Keeps s₀ (readFallback s r) := by
  unfold readFallback
  extract_lets -merge +onlyGivenNames h'
  split
  · exact keeps_setOp h
  · exact keeps_setBlk h
  · exact h

theorem answers_execFallbackHere {lane f} (h : Keeps s₀ s) : Answers s₀ (execFallbackHere lane f s) := .next (keeps_onAnswer h (fun _ _ h' =>
    keeps_ite h' (keeps_ite (keeps_reqFail h') (keeps_readFallback (keeps_fellBack (keeps_dropReq h'))))))

theorem answers_execFill {q idx buf} (h : Keeps s₀ s) : Answers s₀ (execFill q idx buf s) := .next (keeps_startCopy h)

theorem keeps_filled {k} (h : Keeps s₀ s) : Keeps s₀ (filled s k) := keeps_ite (keeps_setRes h) (keeps_raise (keeps_setKey (keeps_setRes h)))

theorem keeps_tagWalk {n d} (h : Keeps s₀ s) : Keeps s₀ (tagWalk s n d) := keeps_foldl (fun _ _ h' => keeps_ite (keeps_bump h') (keeps_ite h'
    (keeps_foldl (fun _ _ h2 => keeps_startCtxReset h2) (keeps_postLog (keeps_raise h'))))) h.update

theorem keeps_walkWay {n w} (h : Keeps s₀ s) : Keeps s₀ (walkWay s n w) := by
  unfold walkWay
  exact (keeps_tagWalk h.update).update

theorem keeps_fillRes {k} (h : Keeps s₀ s) : Keeps s₀ (fillRes s k) := by
  unfold fillRes
  extract_lets -merge +onlyGivenNames clmZero
  have keeps_clmZero : ∀ t c, Keeps s₀ t → Keeps s₀ (clmZero t c) := fun t _ kept => kept.clm (wf_czero t.clm _ _) (twf_filter 0 t.clmChk _)
  split
  · exact keeps_takeUcode (keeps_foldl (fun t _ h' => keeps_ite h' (keeps_clmZero t _ h')) h).update
  · split
    · exact keeps_clmZero _ _ h
    · exact keeps_ite h (keeps_ite (keeps_walkWay h) (keeps_setLane h))

theorem answers_execFillComplete {res} (h : Keeps s₀ s) : Answers s₀ (execFillComplete res s) := by
  unfold execFillComplete
  extract_lets -merge +onlyGivenNames k r
  exact .next (keeps_ite h (keeps_ite (keeps_askFill h) (keeps_ite h (keeps_ite (keeps_foldl (fun _ _ h' => keeps_ite (keeps_filled h') h')
    (keeps_filled (keeps_fillRes h))) (keeps_filled (keeps_fillRes h))))))

theorem answers_execFinalWriteDiscard {src stream seq} (h : Keeps s₀ s) : Answers s₀ (execFinalWriteDiscard src stream seq s) := by
  unfold execFinalWriteDiscard
  extract_lets -merge +onlyGivenNames k r
  refine .next ?_
  split
  · exact h
  · exact keeps_postLog (keeps_raise (keeps_cohCount h.update))

theorem answers_execFlashFrame {payload start} (h : Keeps s₀ s) : Answers s₀ (execFlashFrame payload start s) := by
  unfold execFlashFrame
  refine .next ?_
  split
  · exact h
  · split
    · exact keeps_raise h.update
    · extract_lets -merge +onlyGivenNames f num per new
      split
      · exact keeps_ite h (keeps_raise (keeps_enterHoldover h.update))
      · split
        · exact h
        · split
          · exact h.update
          · exact keeps_ite h.update h.update

theorem keeps_rampMove (h : Keeps s₀ s) : Keeps s₀ (rampMove s) := by
  unfold rampMove
  split
  · exact h
  · exact h.update

theorem keeps_tndTick (h : Keeps s₀ s) : Keeps s₀ (tndTick s) := keeps_ite ((keeps_rampMove h).update) (keeps_rampMove h)

theorem keeps_lightLost {e st} (h : Keeps s₀ s) : Keeps s₀ (lightLost s e st) := by
  unfold lightLost
  split
  · exact h
  · exact keeps_slotFail h

theorem keeps_lightSlot {k} (h : Keeps s₀ s) : Keeps s₀ (lightSlot s k) := by
  unfold lightSlot
  extract_lets -merge +onlyGivenNames x
  split
  · exact h
  · split
    · exact h
    · split
      · exact keeps_slotFail h
      · exact keeps_raise (keeps_setSlot (keeps_setSlot ((keeps_applyLight h).update)))

theorem keeps_powerStep {op} (h : Keeps s₀ s) : Keeps s₀ (powerStep s op) := h.update

theorem keeps_freezeAct {op} (h : Keeps s₀ s) : Keeps s₀ (freezeAct s op) := keeps_ite h (keeps_ite (keeps_setFrz h) (keeps_freezeBegin h))

theorem keeps_imagePut {n first off bs} (h : Keeps s₀ s) : Keeps s₀ (imagePut s n first off bs) := keeps_ite h (keeps_smPut h)

theorem keeps_imageState {n first st err} (h : Keeps s₀ s) : Keeps s₀ (imageState s n first st err) := keeps_setFrz (keeps_imagePut h)

theorem keeps_thawAct {op} (h : Keeps s₀ s) : Keeps s₀ (thawAct s op) := by
  unfold thawAct
  extract_lets -merge +onlyGivenNames n mode f
  split
  · split
    · exact keeps_setFrz (keeps_imageState h)
    · exact keeps_setFrz h
    · exact h
  · exact keeps_ite (keeps_ite h (keeps_setFrz (keeps_imagePut h))) (keeps_ite (keeps_ite (keeps_setFrz (keeps_discardSector h)) h) h)

theorem keeps_lapWarn {k} (h : Keeps s₀ s) : Keeps s₀ (lapWarn s k) := keeps_ite (keeps_raise h.update) h

theorem keeps_scrubReport {op} (h : Keeps s₀ s) : Keeps s₀ (scrubReport s op) := by
  unfold scrubReport
  extract_lets -merge +onlyGivenNames ks s1
  have keeps_s1 : Keeps s₀ s1 := keeps_foldl (fun _ _ h' => keeps_ite (keeps_ite (keeps_setScrub (keeps_lapWarn (keeps_setScrub h')))
    (keeps_lapWarn (keeps_setScrub h'))) (keeps_setScrub h')) h
  exact keeps_raise keeps_s1.update

theorem keeps_keySend {p epoch} (h : Keeps s₀ s) : Keeps s₀ (keySend s p epoch) := keeps_emit h

theorem keeps_rekeyStart {p} (h : Keeps s₀ s) : Keeps s₀ (rekeyStart s p) := keeps_ite (keeps_keySend (keeps_setPort h)) h

theorem keeps_runAction {e x} (h : Keeps s₀ s) : Keeps s₀ (runAction s e x) := by
  unfold runAction
  split
  · split
    · exact keeps_lightSlot h
    · exact h
  · exact keeps_powerStep h
  · exact keeps_freezeAct h
  · exact keeps_thawAct h
  · exact keeps_scrubReport h
  · exact keeps_rekeyStart h
  · exact h

theorem keeps_issueEntry {e} (h : Keeps s₀ s) : Keeps s₀ (issueEntry s e) := keeps_ite h (keeps_ite (keeps_lightLost (keeps_satEnter h))
    (keeps_runAction (keeps_satEnter h)))

theorem keeps_snapshot (h : Keeps s₀ s) : Keeps s₀ (snapshot s) := h.update

theorem keeps_issueTick (h : Keeps s₀ s) : Keeps s₀ (issueTick s) := keeps_foldl (fun _ _ h' => keeps_issueEntry h') (keeps_ite
    (keeps_snapshot h) h)

theorem keeps_tickTo {t} (h : Keeps s₀ s) : Keeps s₀ (tickTo s t) := by
  unfold tickTo
  extract_lets -merge +onlyGivenNames s1 s1'
  have keeps_s1' : Keeps s₀ s1' := h.update
  extract_lets -merge +onlyGivenNames s2
  have keeps_s2 : Keeps s₀ s2 := keeps_ite (keeps_tndTick keeps_s1') keeps_s1'
  extract_lets -merge +onlyGivenNames s3
  have keeps_s3 : Keeps s₀ s3 := keeps_ite (keeps_foldl (fun _ _ h' => keeps_helloSend h') keeps_s2) keeps_s2
  exact keeps_issueTick keeps_s3

theorem keeps_reselect {at_} (h : Keeps s₀ s) : Keeps s₀ (reselect s at_) := keeps_ite (keeps_enterHoldover h.update) h.update

theorem keeps_tablesCommit (h : Keeps s₀ s) : Keeps s₀ (tablesCommit s) := keeps_ite (keeps_fwActivated h.update) h

theorem keeps_flashCommit (h : Keeps s₀ s) : Keeps s₀ (flashCommit s) := keeps_tablesCommit h.update

theorem keeps_flashEdge {at_ f} (h : Keeps s₀ s) (keeps_f : ∀ t, Keeps s₀ t → Keeps s₀ (f t)) : Keeps s₀ (flashEdge s at_ f) := by
  unfold flashEdge
  extract_lets -merge +onlyGivenNames s1
  have keeps_s1 : Keeps s₀ s1 := keeps_foldl (fun _ _ h' => keeps_tickTo h') h
  exact keeps_tickTo (keeps_edgeUnits (keeps_reselect (keeps_flashCommit ((keeps_f _ keeps_s1).update))))

theorem keeps_reject (h : Keeps s₀ s) : Keeps s₀ (reject s) := keeps_raise h.update

theorem keeps_missEntries (h : Keeps s₀ s) : Keeps s₀ (missEntries s) := keeps_foldl (fun _ _ h' => keeps_lightLost (keeps_satEnter h')) h

theorem keeps_stepCount {num} (h : Keeps s₀ s) : Keeps s₀ (stepCount s num) := keeps_missEntries (keeps_raise h.update)

theorem keeps_takeLock {x at_ src port hops free} (h : Keeps s₀ s) : Keeps s₀ (takeLock s x at_ src port hops free) := by
  unfold takeLock
  refine keeps_flashEdge h ?_
  intro t keeps_t
  extract_lets -merge +onlyGivenNames num s1
  have keeps_s1 : Keeps s₀ s1 := keeps_ite (keeps_countUp keeps_t) (keeps_stepCount keeps_t)
  exact keeps_raise keeps_s1.update

theorem answers_execFlashMarker {port number offset freeRun hops at_} (h : Keeps s₀ s) : Answers s₀ (execFlashMarker port number offset
    freeRun hops at_ s) := by
  unfold execFlashMarker
  extract_lets -merge +onlyGivenNames p t' free f
  refine .next ?_
  split
  · exact h
  · split
    · exact keeps_ite h (keeps_ite (keeps_flashEdge h (fun _ h' => keeps_countUp h'.update)) (keeps_reject h))
    · split
      · exact keeps_acquireMarker h
      · split
        · exact h
        · split
          · exact keeps_takeLock h
          · exact keeps_reject h
          · exact keeps_acquireMarker (keeps_reject (keeps_abandonLock h))

theorem keeps_notePulse {at_} (h : Keeps s₀ s) : Keeps s₀ (notePulse s at_) := h.update

theorem answers_execFlashPulse {at_} (h : Keeps s₀ s) : Answers s₀ (execFlashPulse at_ s) := by
  unfold execFlashPulse
  refine .next ?_
  split
  · exact h
  · extract_lets -merge +onlyGivenNames s1
    have keeps_s1 : Keeps s₀ s1 := keeps_notePulse h
    extract_lets -merge +onlyGivenNames f
    split
    · split
      · exact keeps_takeLock keeps_s1
      · exact keeps_reject keeps_s1
      · exact keeps_reject (keeps_abandonLock keeps_s1)
    · exact keeps_ite (keeps_ite (keeps_flashEdge keeps_s1 (fun _ h' => keeps_countUp h'.update)) (keeps_reject keeps_s1)) keeps_s1

theorem answers_execFlywheelEdge (h : Keeps s₀ s) : Answers s₀ (execFlywheelEdge s) := by
  unfold execFlywheelEdge
  extract_lets -merge +onlyGivenNames p
  refine .next ?_
  split
  · exact h
  · extract_lets -merge +onlyGivenNames now
    refine keeps_flashEdge h ?_
    intro t keeps_t
    extract_lets -merge +onlyGivenNames f s1
    have keeps_s1 : Keeps s₀ s1 := keeps_countUp keeps_t.update
    split
    · exact keeps_s1
    · split
      · exact keeps_enterHoldover keeps_s1
      · exact keeps_s1.update

theorem answers_execFork {ring idx slot} (h : Keeps s₀ s) : Answers s₀ (execFork ring idx slot s) := by
  unfold execFork
  extract_lets -merge +onlyGivenNames q n b
  refine .next ?_
  split
  · exact h
  · split
    · split
      · exact h
      · exact keeps_ite h (keeps_ite (keeps_startPull h) (keeps_doFork h))
    · exact keeps_seqStart h (fun _ _ _ h' => keeps_ite (keeps_startPull (keeps_setSeq (keeps_setRing h'))) (keeps_doFork h'))

theorem keeps_satArmNow {e host} (h : Keeps s₀ s) : Keeps s₀ (satArmNow s e host) := keeps_ite h (keeps_ite (keeps_satEnter h) (keeps_ite
    (keeps_satEnter h) (keeps_satEnter h)))

theorem keeps_satArmUnit {owner action when_ op tick fleet} (h : Keeps s₀ s) : KeepsPair s₀ (satArmUnit s owner action when_ op tick fleet) := by
  unfold satArmUnit
  split
  · exact trivial
  · extract_lets -merge +onlyGivenNames s1
    have keeps_s1 : Keeps s₀ s1 := keeps_setSat h
    exact keeps_satArmNow keeps_s1

theorem answers_execFrameCounterLimit {lane} (h : Keeps s₀ s) : Answers s₀ (execFrameCounterLimit lane s) := by
  unfold execFrameCounterLimit
  extract_lets -merge +onlyGivenNames x p s1
  have keeps_s1 : Keeps s₀ s1 := keeps_setLane h
  extract_lets -merge +onlyGivenNames s1'
  have keeps_s1' : Keeps s₀ s1' := by
    unfold s1'
    split
    · split
      · rename_i h1 x1 fst t1 eq
        have keeps_t1 : Keeps s₀ t1 := .of_pair eq (keeps_satArmUnit keeps_s1)
        exact keeps_t1
      · exact keeps_rekeyStart (keeps_raise keeps_s1)
    · exact h
  exact .next (keeps_ite (keeps_raise (keeps_setLane keeps_s1')) keeps_s1')

theorem answers_execFreezeDeadline {sector} (h : Keeps s₀ s) : Answers s₀ (execFreezeDeadline sector s) := by
  unfold execFreezeDeadline
  extract_lets -merge +onlyGivenNames n f
  exact .next (keeps_ite h (keeps_setFrz (keeps_imageState h)))

theorem answers_execFunctionLevelReset (h : Keeps s₀ s) : Answers s₀ (execFunctionLevelReset s) := .next (keeps_ite h (keeps_startModuleReset h))

theorem keeps_startWaiting (h : Keeps s₀ s) : Keeps s₀ (startWaiting s) := by
  unfold startWaiting
  split
  · exact h
  · exact keeps_startModuleReset h.update

theorem answers_execFuseProgrammingDone (h : Keeps s₀ s) : Answers s₀ (execFuseProgrammingDone s) := by
  unfold execFuseProgrammingDone
  refine .next ?_
  split
  · exact h
  · extract_lets -merge +onlyGivenNames from_ d s1 s1'
    have keeps_s1' : Keeps s₀ s1' := h.update
    extract_lets -merge +onlyGivenNames s2
    have keeps_s2 : Keeps s₀ s2 := keeps_postLog (keeps_dmkFinish keeps_s1')
    split
    · exact keeps_ite (keeps_startWaiting keeps_s2) (keeps_startModuleReset keeps_s2.update)
    · exact keeps_startModuleReset keeps_s2

theorem keeps_kprFinish {via result resp} (h : Keeps s₀ s) : Keeps s₀ (kprFinish s via result resp) := by
  unfold kprFinish
  split
  · exact keeps_emit h
  · extract_lets -merge +onlyGivenNames s1
    have keeps_s1 : Keeps s₀ s1 := keeps_ite h (keeps_hostWrite h)
    exact keeps_raise (keeps_setReg keeps_s1.update)

theorem keeps_kprRun {via req op f} (h : Keeps s₀ s) (keeps_f : ∀ x, Keeps s₀ (f x).1) : Keeps s₀ (kprRun s via req op f) := by
  unfold kprRun
  extract_lets -merge +onlyGivenNames len
  split
  · exact keeps_ite (keeps_mctpUnsupported h) h
  · split
    · exact keeps_ite (keeps_kprFinish h) h
    · split
      · exact keeps_ite (keeps_kprFinish h) h
      · extract_lets -merge +onlyGivenNames o
        split
        · exact h
        · split
          · exact keeps_kprFinish h
          · exact keeps_kprFinish (keeps_f _)

theorem answers_execFwStatus {via req} (h : Keeps s₀ s) : Answers s₀ (execFwStatus via req s) := by
  unfold execFwStatus
  refine .next ?_
  refine keeps_kprRun h ?_
  intro x
  split <;> exact h

theorem keeps_startGenerate {q idx pre} (h : Keeps s₀ s) : Keeps s₀ (startGenerate s q idx pre) := by
  unfold startGenerate
  split
  · exact h
  · split
    · exact h
    · refine keeps_seqStart h ?_
      intro t y z keeps_t
      extract_lets -merge +onlyGivenNames s1
      have keeps_s1 : Keeps s₀ s1 := keeps_runSeq keeps_t
      extract_lets -merge +onlyGivenNames s2 s2'
      have keeps_s2' : Keeps s₀ s2' := keeps_ite (keeps_setSeq keeps_s1) keeps_s1
      exact keeps_startPull (keeps_ite (keeps_setSeq keeps_s2') keeps_s2')

theorem answers_execGenerate {ring idx} (h : Keeps s₀ s) : Answers s₀ (execGenerate ring idx s) := .next (keeps_startGenerate h)

theorem answers_execGeneratePrefetch {ring idx} (h : Keeps s₀ s) : Answers s₀ (execGeneratePrefetch ring idx s) := .next (keeps_startGenerate h)

theorem answers_execGenerationDrained {sector} (h : Keeps s₀ s) : Answers s₀ (execGenerationDrained sector s) := by
  unfold execGenerationDrained
  extract_lets -merge +onlyGivenNames n g
  exact .next (keeps_ite (keeps_drainResources (keeps_raise (keeps_setGen (keeps_zeroExtents h)))) h)

theorem answers_execGetCapabilities (h : Keeps s₀ s) : Answers s₀ (execGetCapabilities s) := .next (keeps_spdmAnswer h)

theorem answers_execGetCertificate {slot off len} (h : Keeps s₀ s) : Answers s₀ (execGetCertificate slot off len s) := .next (keeps_ite
    (keeps_spdmAnswer h) (keeps_spdmError h))

theorem answers_execGetDigests (h : Keeps s₀ s) : Answers s₀ (execGetDigests s) := .next (keeps_spdmAnswer h)

theorem answers_execGetFirmwareParameters (h : Keeps s₀ s) : Answers s₀ (execGetFirmwareParameters s) := .next (keeps_pldmRun h (fun _ h' =>
    keeps_pldmOut h'))

theorem answers_execGetMeasurements {index nonce} (h : Keeps s₀ s) : Answers s₀ (execGetMeasurements index nonce s) := by
  unfold execGetMeasurements
  extract_lets -merge +onlyGivenNames ids blocks
  exact .next (keeps_ite (keeps_spdmError h) (keeps_spdmAnswer h))

theorem answers_execGetState {req a1 a2} (h : Keeps s₀ s) : Answers s₀ (execGetState req a1 a2 s) := by
  unfold execGetState
  refine .next ?_
  refine keeps_dmkRun h ?_
  intro x
  split <;> exact h

theorem answers_execGetStatus (h : Keeps s₀ s) : Answers s₀ (execGetStatus s) := .next (keeps_pldmRun h (fun _ h' => keeps_pldmOut h'))

theorem answers_execGetVersion (h : Keeps s₀ s) : Answers s₀ (execGetVersion s) := .next (keeps_spdmAnswer h)

theorem keeps_setQueue {acct q} (h : Keeps s₀ s) : Keeps s₀ (setQueue s acct q) := h.update

theorem answers_execGrantTimeout {account index} (h : Keeps s₀ s) : Answers s₀ (execGrantTimeout account index s) := by
  unfold execGrantTimeout
  extract_lets -merge +onlyGivenNames q
  refine .next ?_
  split
  · exact h
  · split
    · exact h
    · extract_lets -merge +onlyGivenNames s1
      have keeps_s1 : Keeps s₀ s1 := keeps_raise (keeps_ite h (keeps_tndCount h))
      extract_lets -merge +onlyGivenNames again
      have keeps_again : Keeps s₀ again := keeps_setQueue keeps_s1
      split
      · exact keeps_again.update
      · exact keeps_again.update
      · exact keeps_again
      · exact keeps_again
      · exact keeps_waiterFail (keeps_setQueue keeps_s1)
      · exact keeps_waiterFail (keeps_setQueue keeps_s1)
      · exact keeps_waiterFail (keeps_setQueue keeps_s1)
      · exact keeps_waiterFail (keeps_setQueue keeps_s1)

theorem keeps_forward {l f} (h : Keeps s₀ s) : KeepsSome s₀ (forward s l f) := by
  unfold forward
  extract_lets -merge +onlyGivenNames p q
  split
  · exact trivial
  · extract_lets -merge +onlyGivenNames o
    exact keeps_portCount (keeps_portCount (keeps_laneSend h))

theorem answers_execHello {lane f} (h : Keeps s₀ s) : Answers s₀ (execHello lane f s) := .next (keeps_ite h (keeps_ite (keeps_raise h.update)
    (keeps_chRun (keeps_getD (keeps_forward (keeps_ite h.update (keeps_raise h.update))) (keeps_ite h.update (keeps_raise h.update))))))

theorem keeps_hngWritten {rung target dump} (h : Keeps s₀ s) : Keeps s₀ (hngWritten s rung target dump) := keeps_setReg h

theorem keeps_resetRefused (h : Keeps s₀ s) : Keeps s₀ (resetRefused s) := keeps_raise h

theorem keeps_hngRequest {rung target sector ok start} (h : Keeps s₀ s) (keeps_start : ∀ t, Keeps s₀ t → Keeps s₀ (start t)) : Keeps s₀
    (hngRequest s rung target sector ok start) := keeps_ite (keeps_resetRefused (keeps_hngWritten h)) (keeps_ite (keeps_hngCount
    (keeps_hngWritten h)) (keeps_ite (keeps_start _ ((keeps_hngWritten h).update)) ((keeps_start _ ((keeps_hngWritten h).update)).update)))

theorem answers_execHngResetContext {target} (h : Keeps s₀ s) : Answers s₀ (execHngResetContext target s) := by
  unfold execHngResetContext
  extract_lets -merge +onlyGivenNames c
  exact .next (keeps_hngRequest h (fun _ h' => keeps_startCtxReset h'))

theorem answers_execHngResetEngine {target} (h : Keeps s₀ s) : Answers s₀ (execHngResetEngine target s) := by
  unfold execHngResetEngine
  extract_lets -merge +onlyGivenNames e
  exact .next (keeps_hngRequest h (fun _ h' => keeps_startEngineReset h'))

theorem keeps_hngModule {rung dump} (h : Keeps s₀ s) : Keeps s₀ (hngModule s rung dump) := keeps_ite ((keeps_startModuleReset
    (keeps_hngWritten h)).update) (keeps_startModuleReset (keeps_hngWritten h))

theorem answers_execHngResetModule {dump} (h : Keeps s₀ s) : Answers s₀ (execHngResetModule dump s) := .next (keeps_hngModule h)

theorem answers_execHngResetPowerCycle {dump} (h : Keeps s₀ s) : Answers s₀ (execHngResetPowerCycle dump s) := .next (keeps_hngModule h)

theorem keeps_startSectorReset {n cause by_ engine ctx} (h : Keeps s₀ s) : Keeps s₀ (startSectorReset s n cause by_ engine ctx) := by
  unfold startSectorReset
  split
  · exact h
  · extract_lets -merge +onlyGivenNames cs r s0
    have keeps_s0 : Keeps s₀ s0 := keeps_beginReset h
    extract_lets -merge +onlyGivenNames a s1
    have keeps_s1 : Keeps s₀ s1 := keeps_updReset (keeps_absorb keeps_s0)
    extract_lets -merge +onlyGivenNames s2
    have keeps_s2 : Keeps s₀ s2 := keeps_foldl (fun _ _ h' => keeps_startCtxReset h') keeps_s1
    exact keeps_freezeReset (keeps_foldl (fun _ _ h' => keeps_startEngineReset h') keeps_s2)

theorem answers_execHngResetSector {target} (h : Keeps s₀ s) : Answers s₀ (execHngResetSector target s) := by
  unfold execHngResetSector
  extract_lets -merge +onlyGivenNames n
  exact .next (keeps_hngRequest h (fun _ h' => keeps_startSectorReset h'))

theorem answers_execHoldoverEdge (h : Keeps s₀ s) : Answers s₀ (execHoldoverEdge s) := by
  unfold execHoldoverEdge
  extract_lets -merge +onlyGivenNames now
  exact .next (keeps_ite h (keeps_flashEdge h (fun _ h' => keeps_countUp h'.update)))

theorem answers_execHoldoverTimeout {at_} (h : Keeps s₀ s) : Answers s₀ (execHoldoverTimeout at_ s) := .next (keeps_ite (keeps_raise h.update) h)

theorem keeps_saveMeta {n} (h : Keeps s₀ s) : Keeps s₀ (saveMeta s n) := by
  unfold saveMeta
  refine keeps_ite h (h.sm (fun wf => ?_) id)
  exact wf_foldl (fun _ _ => wf_cwrite _ _ _) (wf_foldl (fun _ _ => wf_cwrite _ _ _) wf)

theorem answers_execImageWriteDone {sector} (h : Keeps s₀ s) : Answers s₀ (execImageWriteDone sector s) := by
  unfold execImageWriteDone
  extract_lets -merge +onlyGivenNames n f
  refine .next ?_
  split
  · exact h
  · extract_lets -merge +onlyGivenNames s1
    have keeps_s1 : Keeps s₀ s1 := keeps_saveMeta h
    extract_lets -merge +onlyGivenNames p err s2
    have keeps_s2 : Keeps s₀ s2 := keeps_ite (keeps_imagePut (keeps_imagePut keeps_s1)) keeps_s1
    exact keeps_postLog (keeps_setFrz (keeps_imagePut keeps_s2))

theorem keeps_limitE1 {cause} (h : Keeps s₀ s) : Keeps s₀ (limitE1 s cause) := keeps_closeBoost ((keeps_applyE1 h).update)

theorem answers_execInputOvercurrent (h : Keeps s₀ s) : Answers s₀ (execInputOvercurrent s) := .next (keeps_limitE1 h)

theorem answers_execInvalidateCompletion {itag} (h : Keeps s₀ s) : Answers s₀ (execInvalidateCompletion itag s) := by
  unfold execInvalidateCompletion
  refine .next ?_
  split
  · exact h
  · exact keeps_ite h (keeps_atfCount (keeps_emit h.update))

theorem answers_execJal {c w} (h : Keeps s₀ s) : Answers s₀ (execJal c w s) := .next (keeps_control h (fun _ _ => keeps_retire (keeps_setCore h)))

theorem answers_execJalr {c w} (h : Keeps s₀ s) : Answers s₀ (execJalr c w s) := .next (keeps_control h (fun _ _ => keeps_retire (keeps_setCore h)))

theorem keeps_nvmFails (h : Keeps s₀ s) : Keeps s₀ (nvmFails s).1 := keeps_raise h

theorem answers_execJournalRead {via req} (h : Keeps s₀ s) : Answers s₀ (execJournalRead via req s) := by
  unfold execJournalRead
  refine .next ?_
  refine keeps_kprRun h ?_
  intro x
  split
  · exact h
  · split
    · exact keeps_nvmFails h
    · extract_lets -merge +onlyGivenNames rs
      exact h

theorem answers_execJournalRetry {via req} (h : Keeps s₀ s) : Answers s₀ (execJournalRetry via req s) := by
  unfold execJournalRetry
  refine .next ?_
  refine keeps_kprRun h ?_
  intro x
  extract_lets -merge +onlyGivenNames mask flags
  split
  · exact h
  · split
    · exact keeps_nvmFails h
    · exact h.update

theorem answers_execKeeperConsole (h : Keeps s₀ s) : Answers s₀ (execKeeperConsole s) := .next (keeps_ite (keeps_ite (keeps_mctpUnsupported
    h) h) (keeps_ite h (keeps_ite (keeps_emit h) (keeps_mctpUnsupported h))))

theorem keeps_retakeStep {x} (h : Keeps s₀ s) : Keeps s₀ (retakeStep s x) := keeps_ite h (keeps_ite (keeps_runLevel h) (keeps_ite
    (keeps_bootFailed h) (keeps_runLevel h)))

theorem answers_execKeeperRestartDone (h : Keeps s₀ s) : Answers s₀ (execKeeperRestartDone s) := by
  unfold execKeeperRestartDone
  refine .next ?_
  split
  · exact h
  · extract_lets -merge +onlyGivenNames cause slot st s1 s1'
    have keeps_s1' : Keeps s₀ s1' := keeps_pldmIdle h.update
    extract_lets -merge +onlyGivenNames s2
    have keeps_s2 : Keeps s₀ s2 := keeps_takeCollector keeps_s1'
    extract_lets -merge +onlyGivenNames s3
    have keeps_s3 : Keeps s₀ s3 := keeps_raise (keeps_postLog keeps_s2)
    extract_lets -merge +onlyGivenNames s4
    have keeps_s4 : Keeps s₀ s4 := keeps_ite (keeps_fwActivated keeps_s3) (keeps_ite (keeps_foldl (fun _ _ h' => keeps_retakeStep h')
      keeps_s3) keeps_s3)
    exact keeps_startWaiting keeps_s4

theorem answers_execKeeperWatchdog (h : Keeps s₀ s) : Answers s₀ (execKeeperWatchdog s) := .next (keeps_ite h (keeps_keeperRestart (keeps_ite
    (keeps_foldl (fun _ _ h' => keeps_journalPut h') h) h)))

theorem keeps_laneUpNow {l} (h : Keeps s₀ s) : Keeps s₀ (laneUpNow s l) := keeps_foldl (fun _ _ h' => keeps_emit h') (keeps_setLane h)

theorem keeps_portUp {p k} (h : Keeps s₀ s) : Keeps s₀ (portUp s p k) := by
  unfold portUp
  extract_lets -merge +onlyGivenNames x s1
  have keeps_s1 : Keeps s₀ s1 := keeps_setPort h
  extract_lets -merge +onlyGivenNames s2
  have keeps_s2 : Keeps s₀ s2 := keeps_setPortSt keeps_s1
  extract_lets -merge +onlyGivenNames s3
  have keeps_s3 : Keeps s₀ s3 := keeps_foldl (fun _ _ h' => keeps_ite (keeps_laneUpNow (keeps_setLane h')) (keeps_setLane h')) keeps_s2
  exact keeps_chRun (keeps_helloSend (keeps_delaySend keeps_s3))

theorem answers_execKey {port k} (h : Keeps s₀ s) : Answers s₀ (execKey port k s) := by
  unfold execKey
  extract_lets -merge +onlyGivenNames x fail
  have keeps_fail : ∀ u, Keeps s₀ u → Keeps s₀ (fail u) := by
    intro u keeps_u
    unfold fail
    exact keeps_postLog (keeps_raise (keeps_portDown keeps_u))
  exact .next (keeps_ite (keeps_ite (keeps_fail _ h) (keeps_ite (keeps_portDown h) (keeps_chainFwUp (keeps_portUp h)))) (keeps_ite (keeps_ite
    (keeps_fail _ h) (keeps_ite (keeps_setPort h) (keeps_ite (keeps_keySend (keeps_setPort h)) h))) h))

theorem answers_execKvgather {c w} (h : Keeps s₀ s) : Answers s₀ (execKvgather c w s) := .next (keeps_issueTile h)

theorem answers_execKvput {c w} (h : Keeps s₀ s) : Answers s₀ (execKvput c w s) := .next (keeps_issueTile h)

theorem answers_execLadfin {c w} (h : Keeps s₀ s) : Answers s₀ (execLadfin c w s) := .next (keeps_issueTile h)

theorem keeps_laneLost {l retrain} (h : Keeps s₀ s) : Keeps s₀ (laneLost s l retrain) := keeps_ite (keeps_portTrain (keeps_setLane h))
    (keeps_chRun (keeps_setLane h))

theorem answers_execLaneDown {lane} (h : Keeps s₀ s) : Answers s₀ (execLaneDown lane s) := .next (keeps_ite (keeps_laneLost h) h)

theorem answers_execLaneUp {lane} (h : Keeps s₀ s) : Answers s₀ (execLaneUp lane s) := .next (keeps_ite (keeps_chRun (keeps_laneUpNow h)) h)

theorem answers_execLaunch {q idx buf} (h : Keeps s₀ s) : Answers s₀ (execLaunch q idx buf s) := by
  unfold execLaunch
  refine .next ?_
  split
  · exact h
  · exact keeps_ite h (keeps_ite (keeps_completeCmd h) (keeps_setRing h))

theorem answers_execLaunchDispatch {launch cores host} (h : Keeps s₀ s) : Answers s₀ (execLaunchDispatch launch cores host s) := by
  unfold execLaunchDispatch
  refine .next ?_
  split
  · exact keeps_dispatchCmd h
  · exact keeps_dispatchStep h

theorem keeps_loadClm {c op w len} (h : Keeps s₀ s) : Keeps s₀ (loadClm s c op w len) := keeps_clmAccess h (fun _ _ => keeps_ite
    (keeps_clmFault h) (keeps_writeSd (keeps_clmFault h)))

theorem answers_execLb {c w} (h : Keeps s₀ s) : Answers s₀ (execLb c w s) := .next (keeps_loadClm h)

theorem answers_execLcSetDigests {req a1 a2} (h : Keeps s₀ s) : Answers s₀ (execLcSetDigests req a1 a2 s) := by
  unfold execLcSetDigests
  refine .next ?_
  refine keeps_dmkRun h ?_
  intro x
  extract_lets -merge +onlyGivenNames f a c za zc
  split
  · exact h
  · split
    · exact h
    · split
      · exact h
      · exact h.update

theorem answers_execLcTransition {req vin vsb} (h : Keeps s₀ s) : Answers s₀ (execLcTransition req vin vsb s) := by
  unfold execLcTransition
  refine .next ?_
  refine keeps_dmkRun h ?_
  intro x
  extract_lets -merge +onlyGivenNames target
  split
  · exact h
  · split
    · exact h
    · split
      · exact h
      · exact h
      · split
        · extract_lets -merge +onlyGivenNames s1 s1'
          have keeps_s1' : Keeps s₀ s1' := h.update
          exact keeps_raise (keeps_postLog keeps_s1')
        · split
          · exact h
          · split
            · exact h
            · exact h.update

theorem answers_execLd {c w} (h : Keeps s₀ s) : Answers s₀ (execLd c w s) := .next (keeps_loadClm h)

theorem answers_execLease {mooring value} (h : Keeps s₀ s) : Answers s₀ (execLease mooring value s) := by
  unfold execLease
  extract_lets -merge +onlyGivenNames m x gen exp
  exact .next (keeps_ite (keeps_raise h) (keeps_ite (keeps_moorTurn h) (keeps_ite (keeps_moorTurn h) (keeps_ite (keeps_setMoor h)
    (keeps_raise h)))))

theorem answers_execLeaseExpiry {mooring} (h : Keeps s₀ s) : Answers s₀ (execLeaseExpiry mooring s) := by
  unfold execLeaseExpiry
  extract_lets -merge +onlyGivenNames x
  exact .next (keeps_ite (keeps_raise (keeps_setMoor h)) h)

theorem answers_execLeaseGraceEnd {mooring} (h : Keeps s₀ s) : Answers s₀ (execLeaseGraceEnd mooring s) := by
  unfold execLeaseGraceEnd
  extract_lets -merge +onlyGivenNames x s1
  have keeps_s1 : Keeps s₀ s1 := by
    unfold s1
    split
    · exact keeps_ite h (keeps_setMoor (keeps_endLease h))
    · exact h
  exact .next (keeps_chRun (keeps_ite (keeps_endLease keeps_s1) keeps_s1))

theorem answers_execLevelPublish {channel peak served} (h : Keeps s₀ s) : Answers s₀ (execLevelPublish channel peak served s) := by
  unfold execLevelPublish
  extract_lets -merge +onlyGivenNames high level win tot all r owner overs s1 s1'
  have keeps_s1' : Keeps s₀ s1' := h.update
  extract_lets -merge +onlyGivenNames s2
  have keeps_s2 : Keeps s₀ s2 := keeps_foldl (fun _ _ h' => keeps_bump h') keeps_s1'
  exact .next (keeps_ite (keeps_bump keeps_s2) keeps_s2)

theorem answers_execLfence {c w} (h : Keeps s₀ s) : Answers s₀ (execLfence c w s) := .next (keeps_issueTile h)

theorem answers_execLinkAck {lane lseq} (h : Keeps s₀ s) : Answers s₀ (execLinkAck lane lseq s) := by
  unfold execLinkAck
  extract_lets -merge +onlyGivenNames x
  exact .next (keeps_ite (keeps_setLane h) h)

theorem answers_execLinkNak {lane lseq} (h : Keeps s₀ s) : Answers s₀ (execLinkNak lane lseq s) := by
  unfold execLinkNak
  extract_lets -merge +onlyGivenNames x
  refine .next ?_
  split
  · exact h
  · extract_lets -merge +onlyGivenNames again s1
    have keeps_s1 : Keeps s₀ s1 := keeps_setLane h
    exact keeps_ite (keeps_laneLost (keeps_foldl (fun _ _ h' => keeps_portCount (keeps_emit h')) keeps_s1)) (keeps_foldl (fun _ _ h' =>
      keeps_portCount (keeps_emit h')) keeps_s1)

theorem answers_execLlAuthoriseDone {slot} (h : Keeps s₀ s) : Answers s₀ (execLlAuthoriseDone slot s) := by
  unfold execLlAuthoriseDone
  extract_lets -merge +onlyGivenNames x
  refine .next ?_
  split
  · exact h
  · split
    · exact keeps_slotFail h
    · split
      · exact keeps_slotFail h
      · rename_i h1 x1 eq x2 d t1 eq1
        have keeps_t1 : Keeps s₀ t1 := .of_pair eq1 (keeps_satArmUnit h)
        exact keeps_ite (keeps_slotFail keeps_t1) (keeps_ite (keeps_checkSlot (keeps_setSlot keeps_t1)) (keeps_setSlot keeps_t1))

theorem answers_execLlCheckDone {slot} (h : Keeps s₀ s) : Answers s₀ (execLlCheckDone slot s) := by
  unfold execLlCheckDone
  extract_lets -merge +onlyGivenNames x
  exact .next (keeps_ite h (keeps_ite (keeps_setSlot h) (keeps_checkSlot h)))

theorem answers_execLlFetchDone {slot bytes} (h : Keeps s₀ s) : Answers s₀ (execLlFetchDone slot bytes s) := by
  unfold execLlFetchDone
  extract_lets -merge +onlyGivenNames x
  refine .next ?_
  split
  · exact h
  · split
    · exact keeps_setSlot h
    · split
      · exact keeps_slotFail h
      · exact keeps_setSlot h

theorem answers_execLockWindowExpiry {at_} (h : Keeps s₀ s) : Answers s₀ (execLockWindowExpiry at_ s) := by
  unfold execLockWindowExpiry
  refine .next ?_
  split
  · exact h
  · exact keeps_ite (keeps_abandonLock h) h

theorem answers_execLogErase {via req} (h : Keeps s₀ s) : Answers s₀ (execLogErase via req s) := by
  unfold execLogErase
  refine .next ?_
  refine keeps_kprRun h ?_
  intro x
  split
  · exact h
  · split
    · exact h
    · split
      · exact keeps_nvmFails h
      · exact h.update

theorem answers_execLogFlush {via req} (h : Keeps s₀ s) : Answers s₀ (execLogFlush via req s) := by
  unfold execLogFlush
  refine .next ?_
  refine keeps_kprRun h ?_
  intro x
  split
  · exact h
  · extract_lets -merge +onlyGivenNames s1
    have keeps_s1 : Keeps s₀ s1 := keeps_startFlush h
    split
    · exact keeps_nvmFails h
    · exact keeps_s1

theorem keeps_wearWrite (h : Keeps s₀ s) : Keeps s₀ (wearWrite s) := h.update

theorem answers_execLogFlushDone (h : Keeps s₀ s) : Answers s₀ (execLogFlushDone s) := by
  unfold execLogFlushDone
  refine .next ?_
  split
  · exact h
  · exact keeps_ite (keeps_startFlush (keeps_wearWrite h.update)) (keeps_ite ((keeps_wearWrite h.update).update) (keeps_tryRestart (keeps_ite
      (keeps_requestCycle (keeps_wearWrite h.update)) (keeps_wearWrite h.update))))

theorem answers_execLogRead {via req} (h : Keeps s₀ s) : Answers s₀ (execLogRead via req s) := by
  unfold execLogRead
  refine .next ?_
  refine keeps_kprRun h ?_
  intro x
  extract_lets -merge +onlyGivenNames from_ most filter
  split
  · exact h
  · extract_lets -merge +onlyGivenNames all seen es next out
    exact h

theorem answers_execLw {c w} (h : Keeps s₀ s) : Answers s₀ (execLw c w s) := .next (keeps_loadClm h)

theorem answers_execMctpControl (h : Keeps s₀ s) : Answers s₀ (execMctpControl s) := .next (keeps_ite (keeps_ite h (keeps_emit h)) (keeps_ite
    (keeps_emit h) h))

theorem answers_execMemBwShare {sector value} (h : Keeps s₀ s) : Answers s₀ (execMemBwShare sector value s) := by
  unfold execMemBwShare
  extract_lets -merge +onlyGivenNames v
  exact .next (keeps_ite h (keeps_ite (keeps_raise h) (keeps_setReg h)))

theorem answers_execMemCohTestForce {value} (h : Keeps s₀ s) : Answers s₀ (execMemCohTestForce value s) := .next (keeps_ite h (keeps_foldl
    (fun _ _ h' => keeps_ite (keeps_ite (keeps_setDir h') h') (keeps_ite (keeps_setDir h') h')) (keeps_setReg h)))

theorem answers_execMemScrubCtl {value} (h : Keeps s₀ s) : Answers s₀ (execMemScrubCtl value s) := by
  unfold execMemScrubCtl
  extract_lets -merge +onlyGivenNames s1
  have keeps_s1 : Keeps s₀ s1 := keeps_setReg h
  exact .next (keeps_foldl (fun _ _ h' => keeps_ite (keeps_dropLeave (keeps_setScrub h')) h') keeps_s1)

theorem answers_execMma {c w residueOk} (h : Keeps s₀ s) : Answers s₀ (execMma c w residueOk s) := .next (keeps_issueTile h)

theorem answers_execMovk {c w} (h : Keeps s₀ s) : Answers s₀ (execMovk c w s) := .next (keeps_control h (fun _ _ => keeps_writeSd h))

theorem answers_execMovz {c w} (h : Keeps s₀ s) : Answers s₀ (execMovz c w s) := .next (keeps_control h (fun _ _ => keeps_writeSd h))

theorem answers_execMul {c w} (h : Keeps s₀ s) : Answers s₀ (execMul c w s) := .next (keeps_formA h)

theorem answers_execMulhu {c w} (h : Keeps s₀ s) : Answers s₀ (execMulhu c w s) := .next (keeps_formA h)

theorem answers_execNegotiateAlgorithms (h : Keeps s₀ s) : Answers s₀ (execNegotiateAlgorithms s) := .next (keeps_spdmAnswer h)

theorem answers_execNop {q idx buf} (h : Keeps s₀ s) : Answers s₀ (execNop q idx buf s) := by
  unfold execNop
  refine .next ?_
  split
  · exact h
  · split
    · exact keeps_refuseCmd h
    · exact keeps_completeCmd h

theorem answers_execOldKeyDiscard {port} (h : Keeps s₀ s) : Answers s₀ (execOldKeyDiscard port s) := by
  unfold execOldKeyDiscard
  extract_lets -merge +onlyGivenNames x
  refine .next ?_
  split
  · exact keeps_ite (keeps_setPort h) h
  · exact h

theorem answers_execOpOverride {via req} (h : Keeps s₀ s) : Answers s₀ (execOpOverride via req s) := by
  unfold execOpOverride
  refine .next ?_
  refine keeps_kprRun h ?_
  intro x
  extract_lets -merge +onlyGivenNames ops
  split
  · exact h
  · split
    · exact h
    · exact h.update

theorem answers_execOpen {ring idx slot} (h : Keeps s₀ s) : Answers s₀ (execOpen ring idx slot s) := by
  unfold execOpen
  refine .next ?_
  split
  · exact h
  · extract_lets -merge +onlyGivenNames q n b
    split
    · exact keeps_refuseCmd h
    · exact keeps_ite h (keeps_completeCmd (keeps_setSeq h))

theorem answers_execOr {c w} (h : Keeps s₀ s) : Answers s₀ (execOr c w s) := .next (keeps_formA h)

theorem answers_execOri {c w} (h : Keeps s₀ s) : Answers s₀ (execOri c w s) := .next (keeps_formI h)

theorem answers_execPassComponentTable {components} (h : Keeps s₀ s) : Answers s₀ (execPassComponentTable components s) := .next
    (keeps_pldmRun h (fun _ h' => keeps_ite (keeps_pldmOut h') (keeps_pldmOut h'.update)))

theorem answers_execPaybackEnd (h : Keeps s₀ s) : Answers s₀ (execPaybackEnd s) := .next (keeps_ite h.update h)

theorem answers_execPhaseTick (h : Keeps s₀ s) : Answers s₀ (execPhaseTick s) := .next (keeps_ite (keeps_tickTo h) h)

theorem answers_execPortDisable {port disable} (h : Keeps s₀ s) : Answers s₀ (execPortDisable port disable s) := by
  unfold execPortDisable
  extract_lets -merge +onlyGivenNames off s1
  have keeps_s1 : Keeps s₀ s1 := keeps_setReg h
  exact .next (keeps_ite keeps_s1 (keeps_ite (keeps_portDown keeps_s1) (keeps_ite (keeps_portTrain keeps_s1) keeps_s1)))

theorem answers_execPortTrainingDone {port lanes} (h : Keeps s₀ s) : Answers s₀ (execPortTrainingDone port lanes s) := by
  unfold execPortTrainingDone
  extract_lets -merge +onlyGivenNames x
  exact .next (keeps_ite h (keeps_ite (keeps_keySend (keeps_setPortSt (keeps_setPort h))) (keeps_chainFwFail h)))

theorem answers_execPowerCycleTimeout (h : Keeps s₀ s) : Answers s₀ (execPowerCycleTimeout s) := .next (keeps_ite h (keeps_postLog
    (keeps_raise ((keeps_updReset h).update))))

theorem keeps_fusesCut {stage} (h : Keeps s₀ s) : Keeps s₀ (fusesCut s stage) := by
  unfold fusesCut
  split
  · exact h
  · exact h.update

theorem answers_execPowerFail {vin vsb stage} (h : Keeps s₀ s) : Answers s₀ (execPowerFail vin vsb stage s) := by
  unfold execPowerFail
  extract_lets -merge +onlyGivenNames vinLost vsbLost
  refine .next ?_
  split
  · exact h
  · extract_lets -merge +onlyGivenNames s1
    have keeps_s1 : Keeps s₀ s1 := keeps_fusesCut h
    extract_lets -merge +onlyGivenNames s2
    have keeps_s2 : Keeps s₀ s2 := keeps_ite (keeps_startFlush (keeps_postLog keeps_s1)) keeps_s1
    extract_lets -merge +onlyGivenNames s3
    have keeps_s3 : Keeps s₀ s3 := keeps_cutBoot (keeps_powerClear keeps_s2)
    exact keeps_ite ((keeps_imageCut (keeps_stopBoot keeps_s3.update)).update) keeps_s3.update

theorem answers_execPrefetch {lane f} (h : Keeps s₀ s) : Answers s₀ (execPrefetch lane f s) := by
  unfold execPrefetch
  refine .next ?_
  split
  · rename_i x t1 eq
    have keeps_t1 : Keeps s₀ t1 := .of_error eq (keeps_rxFrame h)
    exact keeps_t1
  · rename_i x t1 eq
    have keeps_t1 : Keeps s₀ t1 := .of_ok eq (keeps_rxFrame h)
    exact keeps_t1

theorem keeps_groupFail {g reason} (h : Keeps s₀ s) : Keeps s₀ (groupFail s g reason) := keeps_foldl (fun _ _ h' => keeps_xlateFail
    (keeps_xlDrop h')) h

theorem answers_execPrgResponse {prg code} (h : Keeps s₀ s) : Answers s₀ (execPrgResponse prg code s) := by
  unfold execPrgResponse
  extract_lets -merge +onlyGivenNames g
  refine .next ?_
  split
  · exact h
  · split
    · extract_lets -merge +onlyGivenNames s1 s1'
      have keeps_s1' : Keeps s₀ s1' := keeps_answerFq h.update
      extract_lets -merge +onlyGivenNames s2
      have keeps_s2 : Keeps s₀ s2 := keeps_foldl (fun _ _ h' => keeps_setWait (keeps_foldl (fun _ _ h2 => keeps_atsSend h2) h')) keeps_s1'
      exact keeps_xlRun keeps_s2
    · exact keeps_xlRun (keeps_groupFail (keeps_answerFq h.update))
    · exact keeps_xlRun (keeps_foldl (fun _ _ h' => keeps_groupFail h') (keeps_raise (keeps_answerFq h.update)))

theorem answers_execPriResume (h : Keeps s₀ s) : Answers s₀ (execPriResume s) := .next (keeps_ite (keeps_xlRun h.update) h)

theorem answers_execPrivRingDisable {sector} (h : Keeps s₀ s) : Answers s₀ (execPrivRingDisable sector s) := by
  unfold execPrivRingDisable
  extract_lets -merge +onlyGivenNames n
  refine .next ?_
  split
  · exact h
  · extract_lets -merge +onlyGivenNames s1
    have keeps_s1 : Keeps s₀ s1 := h.update
    split
    · exact keeps_s1
    · exact keeps_setRing keeps_s1

theorem answers_execPrivRingEnable {sector} (h : Keeps s₀ s) : Answers s₀ (execPrivRingEnable sector s) := .next (keeps_ite h (keeps_ite
    h.update (((keeps_setRing h).update).update)))

theorem keeps_pullDone {n d} (h : Keeps s₀ s) : Keeps s₀ (pullDone s n d) := by
  unfold pullDone
  extract_lets -merge +onlyGivenNames b units slots s1
  have keeps_s1 : Keeps s₀ s1 := keeps_ite (keeps_foldl (fun _ _ h' => keeps_markShort h') h) h
  extract_lets -merge +onlyGivenNames s2
  have keeps_s2 : Keeps s₀ s2 := keeps_setBlk keeps_s1
  extract_lets -merge +onlyGivenNames s3
  have keeps_s3 : Keeps s₀ s3 := keeps_foldl (fun _ _ h' => keeps_settlePull h') (keeps_seqCount (keeps_markCtx (keeps_markSeqEngine keeps_s2)))
  exact keeps_pumpPulls keeps_s3

theorem answers_execPullComplete {sector desc host} (h : Keeps s₀ s) : Answers s₀ (execPullComplete sector desc host s) := by
  unfold execPullComplete
  extract_lets -merge +onlyGivenNames n b
  refine .next ?_
  split
  · exact h
  · extract_lets -merge +onlyGivenNames ps
    split
    · exact keeps_failBlk (keeps_raise h)
    · exact keeps_pullDone (keeps_foldl (fun _ _ h' => keeps_smPut h') h)

theorem answers_execQueryDeviceIdentifiers (h : Keeps s₀ s) : Answers s₀ (execQueryDeviceIdentifiers s) := .next (keeps_pldmRun h (fun _ h'
    => keeps_pldmOut h'))

theorem answers_execRailOvercurrent {rail} (h : Keeps s₀ s) : Answers s₀ (execRailOvercurrent rail s) := .next (keeps_limitE1 h)

theorem answers_execRampDeadline (h : Keeps s₀ s) : Answers s₀ (execRampDeadline s) := by
  unfold execRampDeadline
  extract_lets -merge +onlyGivenNames avg
  exact .next (keeps_ite h (keeps_raise h.update))

theorem keeps_seqNote {f} (h : Keeps s₀ s) : Keeps s₀ (seqNote s f) := keeps_ite (keeps_setSeqIn h) (keeps_setSeqIn h)

theorem keeps_seqDone {f} (h : Keeps s₀ s) : Keeps s₀ (seqDone s f) := keeps_setSeqIn h

theorem keeps_landWrite {l f} (h : Keeps s₀ s) : Keeps s₀ (landWrite s l f) := by
  unfold landWrite
  split
  · exact keeps_answer h
  · exact keeps_answer (keeps_seqDone (keeps_smPut h))

theorem keeps_landHeld {i k} (h : Keeps s₀ s) : Keeps s₀ (landHeld i s k) := by
  induction i generalizing s with
  | zero => exact h
  | succ i ih =>
    simp only [landHeld]
    split
    · exact h
    · exact ih (keeps_landWrite (keeps_setSeqIn h))

theorem keeps_landMore {f} (h : Keeps s₀ s) : Keeps s₀ (landMore s f) := keeps_landHeld h

theorem answers_execRead {lane f} (h : Keeps s₀ s) : Answers s₀ (execRead lane f s) := by
  unfold execRead
  refine .next ?_
  split
  · rename_i x t1 eq
    have keeps_t1 : Keeps s₀ t1 := .of_error eq (keeps_rxFrame h)
    exact keeps_t1
  · rename_i x t1 eq
    have keeps_t1 : Keeps s₀ t1 := .of_ok eq (keeps_rxFrame h)
    extract_lets -merge +onlyGivenNames len
    split
    · exact h
    · extract_lets -merge +onlyGivenNames s2
      have keeps_s2 : Keeps s₀ s2 := keeps_seqNote keeps_t1
      split
      · exact keeps_answer keeps_s2
      · split
        · rename_i h1 x1 l path eq1 x2 w t2 eq2
          have keeps_t2 : Keeps s₀ t2 := .of_snd eq2 (keeps_memCheck keeps_s2)
          exact keeps_landMore (keeps_answer (keeps_seqDone keeps_t2))
        · rename_i h1 x1 l path eq1 x2 t2 eq2
          have keeps_t2 : Keeps s₀ t2 := .of_snd eq2 (keeps_memCheck keeps_s2)
          exact keeps_landMore (keeps_answer (keeps_seqDone keeps_t2))

theorem keeps_placeRoom {n} (h : Keeps s₀ s) : Keeps s₀ (placeRoom s n) := by
  unfold placeRoom
  refine keeps_foldl ?_ ?_
  · intro t x kept
    split
    · exact kept
    · extract_lets -merge +onlyGivenNames g upd
      have keeps_upd : ∀ x0, Keeps s₀ (upd x0) := by
        intro x0
        unfold upd
        exact keeps_setGen kept
      split
      · exact keeps_ite (keeps_ite (keeps_ite (keeps_setGen (keeps_upd _)) (keeps_upd _)) (keeps_upd _)) kept
      · split
        · exact keeps_upd _
        · exact kept
  · exact h

theorem keeps_moveDone {n m} (h : Keeps s₀ s) : Keeps s₀ (moveDone s n m) := by
  unfold moveDone
  extract_lets -merge +onlyGivenNames g s1
  have keeps_s1 : Keeps s₀ s1 := keeps_setGen h
  extract_lets -merge +onlyGivenNames s2
  have keeps_s2 : Keeps s₀ s2 := by
    unfold s2
    split
    · exact keeps_setCtx keeps_s1
    · exact keeps_s1
  exact keeps_drainResources (keeps_placeRoom keeps_s2)

theorem answers_execRebindChunkMove {sector} (h : Keeps s₀ s) : Answers s₀ (execRebindChunkMove sector s) := by
  unfold execRebindChunkMove
  extract_lets -merge +onlyGivenNames n s0
  have keeps_s0 : Keeps s₀ s0 := keeps_placeRoom h
  extract_lets -merge +onlyGivenNames g
  refine .next ?_
  split
  · exact keeps_s0
  · exact keeps_ite (keeps_ite keeps_s0 (keeps_askRebind (keeps_setGen keeps_s0))) (keeps_ite (keeps_moveDone ((keeps_setGen (keeps_chunkRead
      keeps_s0)).update)) ((keeps_setGen (keeps_chunkRead keeps_s0)).update))

theorem answers_execRecomputeAttemptDone {c num pass} (h : Keeps s₀ s) : Answers s₀ (execRecomputeAttemptDone c num pass s) := by
  unfold execRecomputeAttemptDone
  extract_lets -merge +onlyGivenNames s1
  have keeps_s1 : Keeps s₀ s1 := keeps_attemptDone h
  exact .next (keeps_ite (keeps_recheckLaunches keeps_s1) keeps_s1)

theorem answers_execRefuse {lane f} (h : Keeps s₀ s) : Answers s₀ (execRefuse lane f s) := .next (keeps_onAnswer h (fun _ _ h' => keeps_chase h'))

theorem keeps_msixWrite {base mask new} (h : Keeps s₀ s) : Keeps s₀ (msixWrite s base mask new) := keeps_flushPba h.update

theorem keeps_satWriteErr (h : Keeps s₀ s) : Keeps s₀ (satWriteErr s) := keeps_raise h

theorem keeps_satWrite {base mask new} (h : Keeps s₀ s) : Keeps s₀ (satWrite s base mask new) := by
  unfold satWrite
  extract_lets -merge +onlyGivenNames e r x
  split
  · exact h
  · split
    · exact keeps_satWriteErr h
    · extract_lets -merge +onlyGivenNames y y' y''
      exact keeps_ite h (keeps_ite (keeps_satWriteErr h) (keeps_setSat h))

theorem keeps_moorWrite {base mask new} (h : Keeps s₀ s) : Keeps s₀ (moorWrite s base mask new) := by
  unfold moorWrite
  extract_lets -merge +onlyGivenNames m r x
  exact keeps_ite h (keeps_ite (keeps_raise h) (keeps_ite (keeps_setMoor h) (keeps_ite (keeps_setMoor h) h)))

theorem answers_execRegisterWrite {off size value} (h : Keeps s₀ s) : Answers s₀ (execRegisterWrite off size value s) := by
  unfold execRegisterWrite
  refine .next ?_
  split
  · exact keeps_emit h
  · split
    · exact keeps_msixWrite h
    · split
      · exact h
      · exact keeps_ite h (keeps_ite (keeps_satWrite h) (keeps_ite (keeps_moorWrite h) (keeps_ite (keeps_raise h) (keeps_ite h
          (keeps_clearHeld (keeps_setReg h))))))

theorem answers_execRehomeWalkDone {sector lines} (h : Keeps s₀ s) : Answers s₀ (execRehomeWalkDone sector lines s) := by
  unfold execRehomeWalkDone
  refine .next ?_
  split
  · exact h
  · extract_lets -merge +onlyGivenNames s1
    have keeps_s1 : Keeps s₀ s1 := keeps_foldl (fun _ _ h' => keeps_getD (keeps_dirUncorr (keeps_dirCorrect (keeps_tagWalk h')))
      (keeps_dirCorrect (keeps_tagWalk h'))) h
    exact keeps_cohCount keeps_s1.update

theorem answers_execRelayForward {lane f} (h : Keeps s₀ s) : Answers s₀ (execRelayForward lane f s) := by
  unfold execRelayForward
  refine .next ?_
  split
  · exact h
  · split
    · rename_i h1 x t1 eq
      have keeps_t1 : Keeps s₀ t1 := .of_some eq (keeps_forward h)
      exact keeps_t1
    · exact keeps_ite (keeps_laneOriginate (keeps_portCount h)) (keeps_portCount h)

theorem answers_execRelease {lane f} (h : Keeps s₀ s) : Answers s₀ (execRelease lane f s) := by
  unfold execRelease
  refine .next ?_
  split
  · rename_i x t1 eq
    have keeps_t1 : Keeps s₀ t1 := .of_error eq (keeps_rxFrame h)
    exact keeps_t1
  · rename_i x t1 eq
    have keeps_t1 : Keeps s₀ t1 := .of_ok eq (keeps_rxFrame h)
    exact keeps_landMore (keeps_answer (keeps_seqDone (keeps_seqNote keeps_t1)))

theorem answers_execRemu {c w} (h : Keeps s₀ s) : Answers s₀ (execRemu c w s) := .next (keeps_formA h)

theorem answers_execRequestDrainComplete {sector} (h : Keeps s₀ s) : Answers s₀ (execRequestDrainComplete sector s) := by
  unfold execRequestDrainComplete
  extract_lets -merge +onlyGivenNames n g
  exact .next (keeps_ite (keeps_drainResources (keeps_setGen h)) h)

theorem answers_execRequestFirmwareData {data} (h : Keeps s₀ s) : Answers s₀ (execRequestFirmwareData data s) := .next (keeps_pldmRun h (fun
    _ h' => keeps_ite (keeps_pldmOut h') (keeps_ite (keeps_pldmOut h') (keeps_pldmOut (keeps_setFw h')))))

theorem answers_execRequestUpdate (h : Keeps s₀ s) : Answers s₀ (execRequestUpdate s) := .next (keeps_pldmRun h (fun _ h' => keeps_ite
    (keeps_pldmOut h') (keeps_ite (keeps_pldmOut h') (keeps_pldmOut (keeps_setPldm (keeps_pldmIdle h'))))))

theorem answers_execReserveAutoUpdate {p99} (h : Keeps s₀ s) : Answers s₀ (execReserveAutoUpdate p99 s) := .next (keeps_ite h (keeps_setReg
    h.update))

theorem answers_execResetEscalation {rung target} (h : Keeps s₀ s) : Answers s₀ (execResetEscalation rung target s) := by
  unfold execResetEscalation
  refine .next ?_
  split
  · exact h
  · exact keeps_ite h (keeps_escalate h (fun _ h' => keeps_ite (keeps_foldl (fun _ _ h2 => keeps_startEngineReset h2) h') (keeps_ite
      (keeps_startSectorReset h') (keeps_startModuleReset h'))))

theorem answers_execResetNAssert (h : Keeps s₀ s) : Answers s₀ (execResetNAssert s) := .next (keeps_ite h (keeps_ite h.update
    (keeps_startFlush (keeps_cutBoot (keeps_powerClear h.update)))))

theorem answers_execRespTimeout {req} (h : Keeps s₀ s) : Answers s₀ (execRespTimeout req s) := by
  unfold execRespTimeout
  refine .next ?_
  split
  · exact h
  · exact keeps_ite h (keeps_ite (keeps_chGo (keeps_reqFail h)) (keeps_chGo (keeps_setReq h)))

theorem keeps_restoreExtents {n im} (h : Keeps s₀ s) : Keeps s₀ (restoreExtents s n im) := by
  unfold restoreExtents
  extract_lets o s1
  have keeps_s1 : Keeps s₀ s1 := keeps_foldl (fun _ _ h' => keeps_smPut h') h
  exact keeps_foldl (fun t _ h' => keeps_ite (h'.sm id (twf_tput 0 t.smChk _ _)) h') keeps_s1

theorem keeps_restoreCtx {n r d data} (h : Keeps s₀ s) : Keeps s₀ (restoreCtx s n r d data) := by
  unfold restoreCtx
  split
  · exact h
  · extract_lets c cnt f x s1 s2
    have keeps_s1 : Keeps s₀ s1 := keeps_epochUp (keeps_clearTlm (keeps_setCtx h))
    have keeps_s2 : Keeps s₀ s2 := keeps_s1.ls (fun wf => wf_cwrite _ _ _ (wf_czero _ _ _ wf)) (twf_filter 0 _ _)
    exact keeps_setWatch (keeps_setReg keeps_s2)

theorem keeps_restoreCtxs {n im host} (h : Keeps s₀ s) : Keeps s₀ (restoreCtxs s n im host) :=
  keeps_foldl_fst (fun _ _ h' => (keeps_restoreCtx h').ls id (twf_foldl fun _ _ => twf_foldl fun _ _ => twf_tput 0 _ _ _)) h

theorem keeps_restoreEvents {im} (h : Keeps s₀ s) : Keeps s₀ (restoreEvents s im) := keeps_foldl (fun _ _ h' => keeps_writeEvent
    (keeps_setEvent h')) h

theorem keeps_restoreRings {n im} (h : Keeps s₀ s) : Keeps s₀ (restoreRings s n im) := keeps_foldl (fun _ _ h' => keeps_setRing h') h

theorem keeps_loadMeta {n} (h : Keeps s₀ s) : Keeps s₀ (loadMeta s n) := keeps_foldl (fun _ _ h' => keeps_setSeq h') (keeps_setSeqSec h)

theorem keeps_restoreSeq {n b host} (h : Keeps s₀ s) : Keeps s₀ (restoreSeq s n b host) := by
  unfold restoreSeq
  extract_lets -merge +onlyGivenNames f k es idxOf run sec u x s1
  have keeps_s1 : Keeps s₀ s1 := keeps_foldl (fun _ _ h' => keeps_setRing h') (keeps_setSeq h)
  extract_lets -merge +onlyGivenNames s2
  have keeps_s2 : Keeps s₀ s2 := keeps_setSeqSec keeps_s1
  clear_value u
  split
  · exact keeps_s2
  · split
    · exact keeps_ite (keeps_setSeq keeps_s2) keeps_s2
    · split
      · extract_lets -merge +onlyGivenNames g o
        split
        · rename_i x1 r h1 h2 x2 w t1 eq
          have keeps_t1 : Keeps s₀ t1 := .of_snd eq (keeps_objRead keeps_s2)
          exact keeps_endRun keeps_t1
        · rename_i x1 r h1 h2 x2 b0 t1 eq
          have keeps_t1 : Keeps s₀ t1 := .of_snd eq (keeps_objRead keeps_s2)
          exact keeps_setSeq keeps_t1
      · exact keeps_s2

theorem keeps_restoreRest {n im} (h : Keeps s₀ s) : Keeps s₀ (restoreRest s n im) := keeps_foldl (fun _ _ h' => keeps_setMoor h')
    (keeps_setSeqSec h)

theorem keeps_readProgram {n c} (h : Keeps s₀ s) : Keeps s₀ (readProgram s n c).2 := by
  unfold readProgram
  extract_lets -merge +onlyGivenNames a rd
  split
  · exact h
  · extract_lets -merge +onlyGivenNames h' count
    split
    · exact h
    · split
      · rename_i h1 h2 x w t1 eq
        have keeps_t1 : Keeps s₀ t1 := .of_snd eq (keeps_memCheck h)
        exact keeps_t1
      · rename_i h1 h2 x t1 eq
        have keeps_t1 : Keeps s₀ t1 := .of_snd eq (keeps_memCheck h)
        extract_lets -merge +onlyGivenNames es x' ok
        split <;> exact keeps_t1

theorem keeps_schedOn {n} (h : Keeps s₀ s) : Keeps s₀ (schedOn s n) := by
  unfold schedOn
  split
  · exact h
  · extract_lets -merge +onlyGivenNames v p0
    have keeps_p0 : Keeps s₀ p0.2 := by
      unfold p0
      split
      · exact keeps_readProgram h
      · exact h
    extract_lets -merge +onlyGivenNames p1
    have keeps_p1 : Keeps s₀ p1.2 := by
      unfold p1
      split
      · exact keeps_readProgram keeps_p0
      · exact keeps_p0
    exact keeps_ite (keeps_raiseSeq (keeps_setSeqSec keeps_p1)) (keeps_setReg (keeps_setSeqSec keeps_p1))

theorem answers_execRestoreDone {sector host} (h : Keeps s₀ s) : Answers s₀ (execRestoreDone sector host s) := by
  unfold execRestoreDone
  extract_lets -merge +onlyGivenNames n f
  refine .next ?_
  split
  · exact h
  · extract_lets -merge +onlyGivenNames len fits im err ends
    have keeps_ends : ∀ u x1, Keeps s₀ u → Keeps s₀ (ends u x1) := by
      intro u x1 keeps_u
      unfold ends
      exact keeps_setFrz (keeps_imageState keeps_u)
    split
    · exact keeps_ends _ _ h
    · extract_lets -merge +onlyGivenNames v s1
      have keeps_s1 : Keeps s₀ s1 := keeps_foldl (fun _ _ h' => keeps_setReg h') h
      extract_lets -merge +onlyGivenNames s2
      have keeps_s2 : Keeps s₀ s2 := keeps_restoreExtents (keeps_restoreCtxs keeps_s1)
      extract_lets -merge +onlyGivenNames s3
      have keeps_s3 : Keeps s₀ s3 := keeps_restoreEvents (keeps_restoreRings keeps_s2)
      extract_lets -merge +onlyGivenNames s4
      have keeps_s4 : Keeps s₀ s4 := keeps_loadMeta (keeps_foldl (fun _ _ h' => keeps_restoreSeq h') keeps_s3)
      extract_lets -merge +onlyGivenNames s5
      have keeps_s5 : Keeps s₀ s5 := keeps_restoreRest keeps_s4
      exact keeps_ends _ _ (keeps_ite (keeps_schedOn keeps_s5) keeps_s5)

theorem answers_execRetrain {port} (h : Keeps s₀ s) : Answers s₀ (execRetrain port s) := by
  unfold execRetrain
  extract_lets -merge +onlyGivenNames x
  exact .next (keeps_ite h (keeps_setPort (keeps_portTrain h)))

theorem answers_execRingCreate {q idx} (h : Keeps s₀ s) : Answers s₀ (execRingCreate q idx s) := .next (keeps_privCmd h (fun _ => keeps_ite
    (keeps_busyCmd h) (keeps_ite (keeps_refuseCmd h) (keeps_ite (keeps_refuseCmd h) (keeps_completeCmd (keeps_setRing h))))))

theorem answers_execRingDestroy {q idx} (h : Keeps s₀ s) : Answers s₀ (execRingDestroy q idx s) := .next (keeps_privCmd h (fun _ =>
    keeps_setRing (keeps_setRing h)))

theorem keeps_flushHeld {q} (h : Keeps s₀ s) : Keeps s₀ (flushHeld s q) := keeps_foldl (fun _ _ h' => keeps_writeRecord h') (keeps_setRing h)

theorem answers_execRingDestroyComplete {q} (h : Keeps s₀ s) : Answers s₀ (execRingDestroyComplete q s) := .next (keeps_ite h (keeps_ite
    (keeps_flushHeld h) (keeps_foldl (fun _ _ h' => keeps_donePriv h') (keeps_setRing (keeps_flushHeld h)))))

theorem keeps_queueSeq {q c} (h : Keeps s₀ s) : Keeps s₀ (queueSeq s q c) := keeps_ite (keeps_ite (keeps_setSeq h) h) h

theorem keeps_takeCmd {q c} (h : Keeps s₀ s) : Keeps s₀ (takeCmd s q c) := by
  unfold takeCmd
  extract_lets -merge +onlyGivenNames r s1
  have keeps_s1 : Keeps s₀ s1 := keeps_setRing h
  split
  · exact keeps_ite keeps_s1 (keeps_refuseCmd keeps_s1)
  · split
    · exact keeps_refuseCmd keeps_s1
    · exact keeps_queueSeq keeps_s1

theorem keeps_fetchOne {q host} (h : Keeps s₀ s) : Keeps s₀ (fetchOne s q host) := by
  unfold fetchOne
  extract_lets -merge +onlyGivenNames r
  split
  · exact keeps_ite (keeps_setRing h) h
  · exact keeps_ite (keeps_completeCmd (keeps_removeSignal (keeps_setRing (keeps_setRing h)))) (keeps_takeCmd (keeps_setRing h))

theorem keeps_fetchRing {n q host} (h : Keeps s₀ s) : Keeps s₀ (fetchRing n s q host) := by
  induction n generalizing s with
  | zero => exact h
  | succ n ih => exact keeps_ite (ih (keeps_fetchOne h)) h

theorem answers_execRingFetch {q host} (h : Keeps s₀ s) : Answers s₀ (execRingFetch q host s) := .next (keeps_fetchRing h)

theorem answers_execRingResume {q idx} (h : Keeps s₀ s) : Answers s₀ (execRingResume q idx s) := .next (keeps_privCmd h (fun _ =>
    keeps_completeCmd (keeps_checkRange (keeps_flushHeld (keeps_setRing h)))))

theorem answers_execRouteEntryExpiry {port device} (h : Keeps s₀ s) : Answers s₀ (execRouteEntryExpiry port device s) := by
  unfold execRouteEntryExpiry
  extract_lets -merge +onlyGivenNames k e
  exact .next (keeps_ite (keeps_chRun (keeps_raise h.update)) h)

theorem answers_execSample {c w} (h : Keeps s₀ s) : Answers s₀ (execSample c w s) := .next (keeps_issueTile h)

theorem answers_execSatArm {entry} (h : Keeps s₀ s) : Answers s₀ (execSatArm entry s) := .next (keeps_ite (keeps_satArmNow h) (keeps_satWriteErr h))

theorem answers_execSatCancel {entry} (h : Keeps s₀ s) : Answers s₀ (execSatCancel entry s) := .next (keeps_ite (keeps_satCancelNow h)
    (keeps_satWriteErr h))

theorem answers_execSatClear {entry} (h : Keeps s₀ s) : Answers s₀ (execSatClear entry s) := .next (keeps_ite (keeps_satEnter h) (keeps_ite h
    (keeps_satWriteErr h)))

theorem keeps_storeClm {c op w len} (h : Keeps s₀ s) : Keeps s₀ (storeClm s c op w len) :=
  keeps_clmAccess h (fun _ _ => keeps_retire (keeps_setCore (h.clm (wf_cwrite _ _ _) (twf_filter 0 _ _))))

theorem answers_execSb {c w} (h : Keeps s₀ s) : Answers s₀ (execSb c w s) := .next (keeps_storeClm h)

theorem answers_execSchedDisable {sector} (h : Keeps s₀ s) : Answers s₀ (execSchedDisable sector s) := .next (keeps_ite h (keeps_setReg
    (keeps_setSeqSec h)))

theorem answers_execSchedEnable {sector} (h : Keeps s₀ s) : Answers s₀ (execSchedEnable sector s) := .next (keeps_schedOn h)

theorem twf_lostLines {t : Tbl Nat} (fix lost : Tbl Nat) (wf : twf 0 t = true) :
    twf 0 (t.filterMap (fun p => if fix.contains p then none else if lost.contains p then some (p.1, 3) else some p)) = true := by
  refine twfFrom_filterMap (fun p q eq => ?_) t 0 wf
  split at eq
  · exact nomatch eq
  · split at eq <;> obtain rfl := Option.some.inj eq
    · exact ⟨rfl, fun _ => three_ne_zero⟩
    · exact ⟨rfl, id⟩

theorem keeps_scrubLine {k line} (h : Keeps s₀ s) : Keeps s₀ (scrubLine s k line) := by
  simp only [scrubLine]
  split
  · split
    · exact h
    · split
      · exact keeps_bump (keeps_memCorr (h.sm id (twf_tput 0 s.smChk _ _)))
      · exact keeps_postLog (keeps_postLog (keeps_raise (keeps_memCapture (h.sm id (twf_tput 0 s.smChk _ _)))))
  · split
    · exact h
    · have keeps_fixed (fix lost : Tbl Nat) (l n : Nat) (addr : BitVec 64) : Keeps s₀ (fix.foldl (fun s p =>
          memCorr s 3 l n (addr + BitVec.ofNat 64 (p.1 % 64))) { s with lsChk := s.lsChk.filterMap (fun p =>
            if fix.contains p then none else if lost.contains p then some (p.1, 3) else some p) }) :=
        keeps_foldl (fun _ _ h' => keeps_memCorr h') (h.ls id (twf_lostLines fix lost))
      split
      · exact keeps_ite (keeps_fixed _ _ _ _ _) (keeps_bump (keeps_fixed _ _ _ _ _))
      · refine keeps_postLog (keeps_postLog (keeps_raise (keeps_foldl (fun _ _ h' => keeps_memCapture h') ?_)))
        exact keeps_ite (keeps_fixed _ _ _ _ _) (keeps_bump (keeps_fixed _ _ _ _ _))

theorem answers_execScrubRead {mem line} (h : Keeps s₀ s) : Answers s₀ (execScrubRead mem line s) := by
  unfold execScrubRead
  extract_lets -merge +onlyGivenNames k
  refine .next ?_
  split
  · exact h
  · extract_lets -merge +onlyGivenNames x
    split
    · exact keeps_ite h (keeps_askLeave (keeps_setScrub h))
    · extract_lets -merge +onlyGivenNames x0 s1
      have keeps_s1 : Keeps s₀ s1 := by
        unfold s1
        split
        · exact keeps_scrubLine h
        · exact h
      exact keeps_ite (keeps_lapWarn (keeps_setScrub (keeps_ite (keeps_bump keeps_s1) keeps_s1))) (keeps_setScrub (keeps_ite (keeps_bump
        keeps_s1) keeps_s1))

theorem answers_execSd {c w} (h : Keeps s₀ s) : Answers s₀ (execSd c w s) := .next (keeps_storeClm h)

theorem keeps_pauseRing {q} (h : Keeps s₀ s) : Keeps s₀ (pauseRing s q) := by
  unfold pauseRing
  extract_lets -merge +onlyGivenNames r gone gone'
  clear_value gone'
  split
  · exact h
  · exact keeps_foldl (fun _ _ h' => keeps_ite (keeps_setSeq h') h') (keeps_setRing h)

theorem answers_execSectorFrozen {sector} (h : Keeps s₀ s) : Answers s₀ (execSectorFrozen sector s) := by
  unfold execSectorFrozen
  extract_lets -merge +onlyGivenNames n f
  refine .next ?_
  split
  · exact h
  · extract_lets -merge +onlyGivenNames s1
    have keeps_s1 : Keeps s₀ s1 := keeps_setFrz h
    extract_lets -merge +onlyGivenNames s2
    have keeps_s2 : Keeps s₀ s2 := keeps_foldl (fun _ _ h' => keeps_pauseRing h') keeps_s1
    exact keeps_imagePut (keeps_imagePut (keeps_foldl (fun _ _ h' => keeps_ite (keeps_setSeq h') h') keeps_s2))

theorem answers_execSensorRead {via req} (h : Keeps s₀ s) : Answers s₀ (execSensorRead via req s) := by
  unfold execSensorRead
  refine .next ?_
  refine keeps_kprRun h ?_
  intro x
  split
  · exact h
  · extract_lets -merge +onlyGivenNames sites ageing cool
    exact h

theorem keeps_siteSample {sites i} (h : Keeps s₀ s) : Keeps s₀ (siteSample sites s i) := keeps_ite (keeps_setReg h) (keeps_ite (keeps_raise
    (keeps_postLog (keeps_setReg h.update))) (keeps_ite (keeps_ite (keeps_raise (keeps_setReg (keeps_setReg h))) (keeps_postLog ((keeps_raise
    (keeps_setReg (keeps_setReg h))).update))) (keeps_ite ((keeps_setReg h).update) (keeps_setReg h))))

theorem keeps_thermTrip {i v} (h : Keeps s₀ s) : Keeps s₀ (thermTrip s i v) := keeps_ite h (keeps_postLog h.update)

theorem answers_execSensorSample {r} (h : Keeps s₀ s) : Answers s₀ (execSensorSample r s) := by
  unfold execSensorSample
  extract_lets -merge +onlyGivenNames s1 s1'
  have keeps_s1' : Keeps s₀ s1' := h.update
  extract_lets -merge +onlyGivenNames s2
  have keeps_s2 : Keeps s₀ s2 := keeps_foldl (fun _ _ h' => keeps_siteSample h') keeps_s1'
  extract_lets -merge +onlyGivenNames s2'
  have keeps_s2' : Keeps s₀ s2' := keeps_ite (keeps_setReg keeps_s2) keeps_s1'
  extract_lets -merge +onlyGivenNames hot s3
  have keeps_s3 : Keeps s₀ s3 := keeps_ite (keeps_closeBoost keeps_s2') keeps_s2'
  extract_lets -merge +onlyGivenNames s4
  have keeps_s4 : Keeps s₀ s4 := keeps_ite (keeps_limitE1 keeps_s3) keeps_s3
  refine .next ?_
  split
  · exact keeps_thermTrip keeps_s4
  · exact keeps_s4

theorem answers_execSeqConfigWrite {off size value} (h : Keeps s₀ s) : Answers s₀ (execSeqConfigWrite off size value s) := by
  unfold execSeqConfigWrite
  refine .next ?_
  split
  · exact keeps_emit h
  · extract_lets -merge +onlyGivenNames n r
    split
    · exact h
    · extract_lets -merge +onlyGivenNames idle spills ok
      split
      · exact keeps_raiseSeq h
      · split
        · exact h
        · exact keeps_setReg h

theorem answers_execSeqRecordExpiry {src stream} (h : Keeps s₀ s) : Answers s₀ (execSeqRecordExpiry src stream s) := by
  unfold execSeqRecordExpiry
  extract_lets -merge +onlyGivenNames k
  exact .next (keeps_ite (keeps_setSeqIn h) h)

theorem answers_execSetTables {q idx} (h : Keeps s₀ s) : Answers s₀ (execSetTables q idx s) := .next (keeps_privCmd h (fun _ => keeps_ite
    (keeps_busyCmd h) (keeps_completeCmd h.update)))

theorem keeps_spillToHost {n d} (h : Keeps s₀ s) : Keeps s₀ (spillToHost s n d) := by
  unfold spillToHost
  extract_lets -merge +onlyGivenNames b s1
  have keeps_s1 : Keeps s₀ s1 := keeps_dropWaits h
  split
  · exact keeps_failSpill keeps_s1
  · exact keeps_blkGo (keeps_setBlk keeps_s1)

theorem answers_execShortfall {lane f} (h : Keeps s₀ s) : Answers s₀ (execShortfall lane f s) := by
  unfold execShortfall
  refine .next ?_
  refine keeps_onAnswer h ?_
  intro t y keeps_t
  split
  · exact keeps_t
  · split
    · exact keeps_spillToHost (keeps_dropReq keeps_t)
    · exact keeps_ite (keeps_reqFail keeps_t) (keeps_setReq keeps_t)

theorem answers_execSignal {q idx buf} (h : Keeps s₀ s) : Answers s₀ (execSignal q idx buf s) := by
  unfold execSignal
  refine .next ?_
  split
  · exact h
  · extract_lets -merge +onlyGivenNames r
    split
    · exact h
    · extract_lets -merge +onlyGivenNames e s1
      have keeps_s1 : Keeps s₀ s1 := keeps_signalEvent h
      exact keeps_completeCmd (keeps_ite (keeps_ite keeps_s1 (keeps_abandonEvent keeps_s1)) h)

theorem answers_execSll {c w} (h : Keeps s₀ s) : Answers s₀ (execSll c w s) := .next (keeps_formA h)

theorem answers_execSlli {c w} (h : Keeps s₀ s) : Answers s₀ (execSlli c w s) := .next (keeps_formI h)

theorem answers_execSlt {c w} (h : Keeps s₀ s) : Answers s₀ (execSlt c w s) := .next (keeps_formA h)

theorem answers_execSlti {c w} (h : Keeps s₀ s) : Answers s₀ (execSlti c w s) := .next (keeps_formI h)

theorem answers_execSltu {c w} (h : Keeps s₀ s) : Answers s₀ (execSltu c w s) := .next (keeps_formA h)

theorem keeps_spillDone {n d} (h : Keeps s₀ s) : Keeps s₀ (spillDone s n d) := keeps_pumpPulls (keeps_spillPump (keeps_seqCount
    (keeps_markSeqEngine (keeps_setBlk h))))

theorem answers_execSpillComplete {sector desc a2} (h : Keeps s₀ s) : Answers s₀ (execSpillComplete sector desc a2 s) := .next (keeps_ite h
    (keeps_ite (keeps_spillDone h) (keeps_ite (keeps_spillDone (keeps_foldl (fun _ _ h' => keeps_hostWrite h') h)) (keeps_failBlk
    (keeps_raise h)))))

theorem answers_execSpr {c w} (h : Keeps s₀ s) : Answers s₀ (execSpr c w s) := by
  unfold execSpr
  refine .next ?_
  refine keeps_control h ?_
  intro x y
  split
  · exact keeps_trapCore h
  · exact keeps_writeSd (keeps_ite (keeps_fresh h) h)

theorem answers_execSqinfo {c w} (h : Keeps s₀ s) : Answers s₀ (execSqinfo c w s) := .next (keeps_issueTile h)

theorem answers_execSra {c w} (h : Keeps s₀ s) : Answers s₀ (execSra c w s) := .next (keeps_formA h)

theorem answers_execSrai {c w} (h : Keeps s₀ s) : Answers s₀ (execSrai c w s) := .next (keeps_formI h)

theorem answers_execSrl {c w} (h : Keeps s₀ s) : Answers s₀ (execSrl c w s) := .next (keeps_formA h)

theorem answers_execSrli {c w} (h : Keeps s₀ s) : Answers s₀ (execSrli c w s) := .next (keeps_formI h)

theorem keeps_standbyClear (h : Keeps s₀ s) : Keeps s₀ (standbyClear s) := by
  unfold standbyClear
  exact (keeps_powerClear h).update

theorem answers_execStandbyBoot {straps resetN} (h : Keeps s₀ s) : Answers s₀ (execStandbyBoot straps resetN s) := by
  unfold execStandbyBoot
  refine .next ?_
  split
  · exact h
  · extract_lets -merge +onlyGivenNames s1
    have keeps_s1 : Keeps s₀ s1 := keeps_standbyClear h
    extract_lets -merge +onlyGivenNames s2 s2' s2''
    have keeps_s2'' : Keeps s₀ s2'' := keeps_s1.update
    extract_lets -merge +onlyGivenNames s3
    have keeps_s3 : Keeps s₀ s3 := by
      unfold s3
      split
      · exact keeps_ite keeps_s2'' (keeps_raise (keeps_postLog keeps_s2''))
      · exact keeps_s2''
    exact keeps_beginBoot keeps_s3

theorem keeps_pullReady {n} (h : Keeps s₀ s) : Keeps s₀ (pullReady s n) := keeps_foldl (fun _ _ h' => keeps_ite (keeps_startPull h') h') h

theorem keeps_hostDrafts {k host} (h : Keeps s₀ s) : Keeps s₀ (hostDrafts s k host).2 := by
  unfold hostDrafts
  extract_lets -merge +onlyGivenNames x
  split
  · exact h
  · extract_lets -merge +onlyGivenNames f n o stop bound want hd ask
    have keeps_stop : ∀ t w, Keeps s₀ t → Keeps s₀ (stop t w).2 := fun _ _ kept => keeps_endRun kept
    have keeps_ask : Keeps s₀ ask.2 := by
      unfold ask
      split
      · exact keeps_askSeq h
      · exact h
    split
    · exact keeps_ask
    · extract_lets -merge +onlyGivenNames src s1
      have keeps_s1 : Keeps s₀ s1 := keeps_setSeq keeps_ask
      split
      · exact keeps_stop _ _ keeps_s1
      · split
        case h_1 w s2 eq => exact keeps_stop _ _ (.of_snd eq (keeps_objRead keeps_s1))
        case h_2 b s2 eq =>
          have keeps_s2 : Keeps s₀ s2 := .of_snd eq (keeps_objRead keeps_s1)
          extract_lets -merge +onlyGivenNames s3 m
          have keeps_s3 : Keeps s₀ s3 := keeps_ite (keeps_epochUp keeps_s2) keeps_s2
          split
          · exact keeps_s3
          · extract_lets -merge +onlyGivenNames at_
            split
            · exact keeps_stop _ _ keeps_s3
            · split
              case h_1 w s4 eq => exact keeps_stop _ _ (.of_snd eq (keeps_objRead keeps_s3))
              case h_2 b s4 eq => exact .of_snd eq (keeps_objRead keeps_s3)

theorem keeps_rowDrafts {k host} (h : Keeps s₀ s) : Keeps s₀ (rowDrafts s k host).2 := by
  unfold rowDrafts
  extract_lets -merge +onlyGivenNames x
  split
  · exact h
  · extract_lets -merge +onlyGivenNames bound
    split
    · split
      · exact h
      · exact keeps_hostDrafts h
    · split
      · exact h
      · extract_lets -merge +onlyGivenNames l
        split <;> exact h
    · exact h
    · exact h

theorem keepsPair_foldl {α β : Type} {f : Option (β × State) → α → Option (β × State)} {l : List α} {o : Option (β × State)}
    (each : ∀ p x, KeepsPair s₀ p → KeepsPair s₀ (f p x)) (h : KeepsPair s₀ o) : KeepsPair s₀ (l.foldl f o) := by
  induction l generalizing o with
  | nil => exact h
  | cons x l ih => exact ih (each o x h)

theorem keeps_giveBlocks {n slot c len} (h : Keeps s₀ s) : KeepsPair s₀ (giveBlocks s n slot c len) := by
  unfold giveBlocks
  refine keepsPair_foldl (fun p e kept => ?_) h
  split
  · trivial
  · extract_lets q
    split
    · split
      · trivial
      case h_2 d s1 eq => exact keeps_seqCount (keeps_setSeq (.of_pair eq (keeps_allocBlk kept)))
    · extract_lets old
      split
      · exact kept
      · split
        · trivial
        case h_2 d s1 eq => exact keeps_seqCount (keeps_dropRef (keeps_setSeq (keeps_copyRows (.of_pair eq (keeps_allocBlk kept)))))

theorem keeps_writeTokens {n ctx rows} (h : Keeps s₀ s) : Keeps s₀ (writeTokens s n ctx rows) := keeps_spaceWrite (keeps_spaceWrite h)

theorem keeps_admitRow {f n k kind len drafts buffer forced} (h : Keeps s₀ f.st) :
    Keeps s₀ (admitRow f n k kind len drafts buffer forced).st := by
  simp only [admitRow]
  split
  · exact keeps_badCopy h
  · split
    case h_1 => exact keeps_badCopy h
    case h_2 given s1 eq => exact keeps_setSeq (.of_pair eq (keeps_giveBlocks (keeps_badCopy h)))

theorem keeps_addCont {host n draft maxRows limit f k} (h : Keeps s₀ f.st) : Keeps s₀ (addCont host n draft maxRows limit f k).st := by
  simp only [addCont]
  split
  · split
    case h_1 l s1 eq =>
      have keeps_s1 : Keeps s₀ s1 := .of_snd eq (keeps_rowDrafts h)
      split <;> split
      · exact keeps_admitRow keeps_s1
      · exact keeps_s1
      · exact keeps_admitRow keeps_s1
      · exact keeps_s1
    case h_2 d s1 _ eq => exact .of_snd eq (keeps_rowDrafts h)
  · split
    · split
      · exact h
      · split
        · exact keeps_startPull h
        · split
          · exact keeps_admitRow h
          · exact h
    · exact h

theorem keeps_addPre {n maxRows budget chunk f k} (h : Keeps s₀ f.st) : Keeps s₀ (addPre n maxRows budget chunk f k).st := by
  simp only [addPre]
  split
  · exact h
  · exact keeps_admitRow h

theorem keeps_form {α : Type} {f : Form → α → Form} {l : List α} {p : Form} (each : ∀ q x, Keeps s₀ q.st → Keeps s₀ (f q x).st) (h : Keeps s₀
    p.st) :
    Keeps s₀ (l.foldl f p).st := by
  induction l generalizing p with
  | nil => exact h
  | cons x l ih => exact ih (each p x h)

theorem keeps_formClass {n cls host} (h : Keeps s₀ s) : Keeps s₀ (formClass s n cls host).st := by
  unfold formClass
  extract_lets f0 draft r maxRows budget chunk keep pre limit f1
  split
  · exact h
  · have keeps_f1 : Keeps s₀ f1.st := keeps_form (fun _ _ h' => keeps_addCont h') h
    exact keeps_form (fun _ _ h' => keeps_addPre h') keeps_f1

theorem answers_execStepBatchForm {sector host} (h : Keeps s₀ s) : Answers s₀ (execStepBatchForm sector host s) := by
  rw [execStepBatchForm]
  refine .next ?_
  extract_lets -merge +onlyGivenNames n x
  split
  · exact h
  · extract_lets s1 c1 f1 f2 p cls f s2 sec last s3' s3
    have keeps_s1 : Keeps s₀ s1 := keeps_pullReady (keeps_endFailed h)
    have keeps_f1 : Keeps s₀ f1.st := keeps_formClass keeps_s1
    have keeps_f : Keeps s₀ f.st := by
      unfold f p f2
      split
      · exact keeps_formClass keeps_f1
      · exact keeps_f1
    have keeps_s2 : Keeps s₀ s2 := keeps_ite (keeps_seqCount (keeps_raiseSeq keeps_f)) keeps_f
    have keeps_s3 : Keeps s₀ s3 := keeps_ite keeps_s2 (keeps_markSeqEngine (keeps_setSeqSec (keeps_writeTokens keeps_s2)))
    exact keeps_spillPump (keeps_setSeqSec keeps_s3)

theorem answers_execStreamSeqRestart {stream dst} (h : Keeps s₀ s) : Answers s₀ (execStreamSeqRestart stream dst s) := by
  unfold execStreamSeqRestart
  extract_lets -merge +onlyGivenNames k busy
  exact .next (keeps_ite h.update h)

theorem answers_execSub {c w} (h : Keeps s₀ s) : Answers s₀ (execSub c w s) := .next (keeps_formA h)

theorem answers_execSw {c w} (h : Keeps s₀ s) : Answers s₀ (execSw c w s) := .next (keeps_storeClm h)

theorem answers_execTake (h : Keeps s₀ s) : Answers s₀ (execTake s) := .next h.update

theorem answers_execTapInstruction {instr} (h : Keeps s₀ s) : Answers s₀ (execTapInstruction instr s) := by
  unfold execTapInstruction
  extract_lets -merge +onlyGivenNames sel
  exact .next h.update

theorem answers_execTcopy {c w} (h : Keeps s₀ s) : Answers s₀ (execTcopy c w s) := .next (keeps_issueTile h)

theorem keeps_waiterGranted {who} (h : Keeps s₀ s) : Keeps s₀ (waiterGranted s who) := by
  unfold waiterGranted
  split
  · exact keeps_pumpCore (keeps_setOp h)
  · exact keeps_runCopy (keeps_setPiece h)
  · exact keeps_blkGo h
  · exact keeps_setRes h
  · exact h.update
  · exact keeps_setGen h
  · exact h

theorem answers_execTenderGrant {account} (h : Keeps s₀ s) : Answers s₀ (execTenderGrant account s) := by
  unfold execTenderGrant
  refine .next ?_
  split
  · exact h
  · split
    · exact h
    · extract_lets -merge +onlyGivenNames s1
      have keeps_s1 : Keeps s₀ s1 := keeps_setQueue h
      extract_lets -merge +onlyGivenNames s2 s2'
      have keeps_s2' : Keeps s₀ s2' := keeps_tndCount (keeps_setTnd keeps_s1)
      extract_lets -merge +onlyGivenNames s2''
      have keeps_s2'' : Keeps s₀ s2'' := keeps_ite keeps_s1 (keeps_ite (keeps_charge keeps_s2') (keeps_tndCount keeps_s2'))
      exact keeps_waiterGranted keeps_s2''

theorem answers_execThermTripRelease (h : Keeps s₀ s) : Answers s₀ (execThermTripRelease s) := .next (keeps_ite h.update h)

theorem keeps_pumpGroup {k} (h : Keeps s₀ s) : Keeps s₀ (pumpGroup s k) := by
  unfold pumpGroup
  split
  · exact h
  · exact keeps_foldl (fun _ _ h' => keeps_pumpCore h') h

theorem keeps_finishOp {c o} (h : Keeps s₀ s) : Keeps s₀ (finishOp s c o) := by
  unfold finishOp
  extract_lets -merge +onlyGivenNames x
  split
  · exact keeps_dropOp h
  · extract_lets -merge +onlyGivenNames s1
    have keeps_s1 : Keeps s₀ s1 := keeps_markLantern (keeps_markCtx (keeps_acquireDone h))
    exact keeps_ite (keeps_settleGroup (keeps_dropOp keeps_s1)) (keeps_settleGroup (keeps_pumpGroup (keeps_dropOp keeps_s1)))

theorem keeps_syncDone {g c o pre} (h : Keeps s₀ s) : KeepsSome s₀ (syncDone s g c o pre) := by
  unfold syncDone
  extract_lets -merge +onlyGivenNames x host landed e ev
  split
  · split
    · exact h
    · exact trivial
  · split
    · exact trivial
    · split
      · split
        · exact keeps_signalEvent h
        · exact keeps_failTile h
      · exact keeps_setGroup h
  · split
    · extract_lets -merge +onlyGivenNames v
      split
      · exact keeps_failTile h
      · split
        · exact h
        · split
          · exact keeps_failTile h
          · exact trivial
    · split
      · exact h
      · exact trivial
  · extract_lets -merge +onlyGivenNames m
    split
    · split
      · exact trivial
      · exact h
    · split
      · exact trivial
      · exact h

theorem keeps_tileDone {c num host} (h : Keeps s₀ s) : Keeps s₀ (tileDone s c num host) := by
  unfold tileDone
  extract_lets -merge +onlyGivenNames x
  split
  · exact h
  · split
    · exact h
    · split
      · exact keeps_finishOp h
      · split
        · exact keeps_dropOp h
        · extract_lets -merge +onlyGivenNames done
          have keeps_done : ∀ u, Keeps s₀ u → Keeps s₀ (done u) := by
            intro u keeps_u
            unfold done
            split
            · exact keeps_u
            · exact keeps_finishOp keeps_u
          split
          · exact h
          · split
            · exact h
            · split
              · split
                · exact h
                · rename_i x1 pre o eq h1 h2 x2 g eq1 h3 h4 h5 x3 t1 eq2
                  have keeps_t1 : Keeps s₀ t1 := .of_some eq2 (keeps_syncDone h)
                  exact keeps_done _ keeps_t1
              · extract_lets -merge +onlyGivenNames sent
                have keeps_sent : ∀ u, Keeps s₀ u → Keeps s₀ (sent u) := by
                  intro u keeps_u
                  unfold sent
                  exact keeps_ite keeps_u (keeps_done _ keeps_u)
                split
                · exact keeps_ite (keeps_ite (keeps_sent _ (keeps_chRun (keeps_deliver h))) h) (keeps_sent _ h)
                · exact keeps_sent _ h

theorem answers_execTileInstructionComplete {c num host} (h : Keeps s₀ s) : Answers s₀ (execTileInstructionComplete c num host s) := .next
    (keeps_tileDone h)

theorem answers_execTld {c w} (h : Keeps s₀ s) : Answers s₀ (execTld c w s) := .next (keeps_clmAccess h (fun _ _ => keeps_ite (keeps_clmFault
    h) (keeps_retire (keeps_setCore (keeps_clmFault h)))))

theorem answers_execTndSchedCancel (h : Keeps s₀ s) : Answers s₀ (execTndSchedCancel s) := .next (keeps_ite h (keeps_satCancelNow h))

theorem answers_execTndSchedGo {value} (h : Keeps s₀ s) : Answers s₀ (execTndSchedGo value s) := by
  unfold execTndSchedGo
  extract_lets -merge +onlyGivenNames v s1
  have keeps_s1 : Keeps s₀ s1 := keeps_setReg h
  refine .next ?_
  split
  · rename_i x fst t1 eq
    have keeps_t1 : Keeps s₀ t1 := .of_pair eq (keeps_satArmUnit keeps_s1)
    exact keeps_t1.update
  · exact keeps_raise keeps_s1.update

theorem answers_execTpf {c w} (h : Keeps s₀ s) : Answers s₀ (execTpf c w s) := .next (keeps_issueTile h)

theorem answers_execTransferComplete (h : Keeps s₀ s) : Answers s₀ (execTransferComplete s) := .next (keeps_pldmRun h (fun _ h' => keeps_ite
    (keeps_pldmOut h') (keeps_pldmOut (keeps_setPldm h'))))

theorem keeps_fetchUncorr {c x g} (h : Keeps s₀ s) : Keeps s₀ (fetchUncorr s c x g) := by
  unfold fetchUncorr
  exact keeps_startCtxReset (keeps_stopGroup (keeps_raise (keeps_memUncorr h)))

theorem answers_execTrap {c fetched} (h : Keeps s₀ s) : Answers s₀ (execTrap c fetched s) := by
  unfold execTrap
  refine .next ?_
  split
  · exact h
  · split
    · exact keeps_trapCore (keeps_fresh h)
    · split
      · exact keeps_fetchUncorr h
      · exact keeps_ite (keeps_trapCore (keeps_fresh h)) h
      · exact keeps_ite (keeps_ite (keeps_trapCore h) (keeps_trapCore h)) (keeps_ite (keeps_trapCore h) (keeps_ite (keeps_trapCore h) h))

theorem answers_execTred {c w} (h : Keeps s₀ s) : Answers s₀ (execTred c w s) := .next (keeps_issueTile h)

theorem answers_execTsetb {c w} (h : Keeps s₀ s) : Answers s₀ (execTsetb c w s) := .next (keeps_control h (fun _ _ => keeps_ite
    (keeps_trapCore h) (keeps_retire (keeps_setCore h))))

theorem answers_execTwait {c w} (h : Keeps s₀ s) : Answers s₀ (execTwait c w s) := by
  unfold execTwait
  refine .next ?_
  refine keeps_control h ?_
  intro x y
  split
  · exact keeps_trapCore h
  · exact keeps_ite (keeps_retire (keeps_setCore h)) h

theorem answers_execUnreachable {lane f} (h : Keeps s₀ s) : Answers s₀ (execUnreachable lane f s) := by
  unfold execUnreachable
  refine .next ?_
  split
  · rename_i x t1 eq
    have keeps_t1 : Keeps s₀ t1 := .of_error eq (keeps_rxFrame h)
    exact keeps_t1
  · rename_i x t1 eq
    have keeps_t1 : Keeps s₀ t1 := .of_ok eq (keeps_rxFrame h)
    split
    · exact keeps_t1
    · exact keeps_chGo (keeps_reqFail keeps_t1)

theorem answers_execUpdateComponent {component} (h : Keeps s₀ s) : Answers s₀ (execUpdateComponent component s) := .next (keeps_pldmRun h
    (fun _ h' => keeps_ite (keeps_pldmOut h') (keeps_ite (keeps_pldmOut h') (keeps_pldmOut ((keeps_setFw h').update)))))

theorem answers_execVadd {c w} (h : Keeps s₀ s) : Answers s₀ (execVadd c w s) := .next (keeps_issueTile h)

theorem answers_execVbias {c w} (h : Keeps s₀ s) : Answers s₀ (execVbias c w s) := .next (keeps_issueTile h)

theorem answers_execVcvt {c w} (h : Keeps s₀ s) : Answers s₀ (execVcvt c w s) := .next (keeps_issueTile h)

theorem answers_execVddDroop {die} (h : Keeps s₀ s) : Answers s₀ (execVddDroop die s) := .next (keeps_ite h (keeps_raise (keeps_tndModCount
    h.update)))

theorem answers_execVerifyComplete (h : Keeps s₀ s) : Answers s₀ (execVerifyComplete s) := .next (keeps_pldmRun h (fun _ h' => keeps_ite
    (keeps_pldmOut h') (keeps_ite (keeps_pldmOut (keeps_setPldm h')) (keeps_pldmOut (keeps_setPldm (keeps_fwRefused h'))))))

theorem answers_execVexp {c w} (h : Keeps s₀ s) : Answers s₀ (execVexp c w s) := .next (keeps_issueTile h)

theorem answers_execVfma {c w} (h : Keeps s₀ s) : Answers s₀ (execVfma c w s) := .next (keeps_issueTile h)

theorem answers_execVinApplied {volts} (h : Keeps s₀ s) : Answers s₀ (execVinApplied volts s) := by
  unfold execVinApplied
  extract_lets -merge +onlyGivenNames gone s1 s1'
  have keeps_s1' : Keeps s₀ s1' := h.update
  exact .next (keeps_ite (keeps_tryStage3 keeps_s1') (keeps_ite (keeps_beginBoot (keeps_powerClear keeps_s1')) keeps_s1'))

theorem answers_execVlog {c w} (h : Keeps s₀ s) : Answers s₀ (execVlog c w s) := .next (keeps_issueTile h)

theorem answers_execVmax {c w} (h : Keeps s₀ s) : Answers s₀ (execVmax c w s) := .next (keeps_issueTile h)

theorem answers_execVmin {c w} (h : Keeps s₀ s) : Answers s₀ (execVmin c w s) := .next (keeps_issueTile h)

theorem answers_execVmul {c w} (h : Keeps s₀ s) : Answers s₀ (execVmul c w s) := .next (keeps_issueTile h)

theorem answers_execVrcp {c w} (h : Keeps s₀ s) : Answers s₀ (execVrcp c w s) := .next (keeps_issueTile h)

theorem answers_execVrmax {c w} (h : Keeps s₀ s) : Answers s₀ (execVrmax c w s) := .next (keeps_issueTile h)

theorem answers_execVrsum {c w} (h : Keeps s₀ s) : Answers s₀ (execVrsum c w s) := .next (keeps_issueTile h)

theorem answers_execVscale {c w} (h : Keeps s₀ s) : Answers s₀ (execVscale c w s) := .next (keeps_issueTile h)

theorem answers_execVsmx {c w} (h : Keeps s₀ s) : Answers s₀ (execVsmx c w s) := .next (keeps_issueTile h)

theorem answers_execVsub {c w} (h : Keeps s₀ s) : Answers s₀ (execVsub c w s) := .next (keeps_issueTile h)

theorem answers_execVtopk {c w} (h : Keeps s₀ s) : Answers s₀ (execVtopk c w s) := .next (keeps_issueTile h)

theorem answers_execVtopp {c w} (h : Keeps s₀ s) : Answers s₀ (execVtopp c w s) := .next (keeps_issueTile h)

theorem answers_execWait {q idx buf} (h : Keeps s₀ s) : Answers s₀ (execWait q idx buf s) := by
  unfold execWait
  refine .next ?_
  split
  · exact h
  · exact keeps_settleWait (keeps_setRing h)

theorem answers_execWarmBootTimeout (h : Keeps s₀ s) : Answers s₀ (execWarmBootTimeout s) := by
  unfold execWarmBootTimeout
  refine .next ?_
  split
  · exact h
  · exact keeps_ite h (keeps_escalate h (fun _ h' => keeps_startModuleReset h'))

theorem answers_execWearRecordWrite (h : Keeps s₀ s) : Answers s₀ (execWearRecordWrite s) := .next (keeps_ite (keeps_wearWrite h) h)

theorem answers_execWearSpent {die} (h : Keeps s₀ s) : Answers s₀ (execWearSpent die s) := .next (keeps_ite h (keeps_raise ((keeps_closeBoost
    h).update)))

theorem answers_execWithdraw {lane f} (h : Keeps s₀ s) : Answers s₀ (execWithdraw lane f s) := by
  unfold execWithdraw
  refine .next ?_
  split
  · rename_i x t1 eq
    have keeps_t1 : Keeps s₀ t1 := .of_error eq (keeps_rxFrame h)
    exact keeps_t1
  · rename_i x t1 eq
    have keeps_t1 : Keeps s₀ t1 := .of_ok eq (keeps_rxFrame h)
    extract_lets -merge +onlyGivenNames k r
    split
    · exact keeps_answer (keeps_seqDone keeps_t1)
    · exact keeps_landMore (keeps_answer (keeps_seqDone (keeps_postLog (keeps_raise (keeps_bump (keeps_setSeqIn keeps_t1))))))

theorem answers_execWrite {lane f} (h : Keeps s₀ s) : Answers s₀ (execWrite lane f s) := by
  unfold execWrite
  refine .next ?_
  split
  · rename_i x t1 eq
    have keeps_t1 : Keeps s₀ t1 := .of_error eq (keeps_rxFrame h)
    exact keeps_t1
  · rename_i x t1 eq
    have keeps_t1 : Keeps s₀ t1 := .of_ok eq (keeps_rxFrame h)
    exact keeps_ite h (keeps_ite (keeps_answer (keeps_seqNote keeps_t1)) (keeps_ite (keeps_ite (keeps_seqNote keeps_t1) (keeps_bump
      (keeps_setSeqIn (keeps_seqNote keeps_t1)))) (keeps_landMore (keeps_landWrite (keeps_seqNote keeps_t1)))))

theorem answers_execXor {c w} (h : Keeps s₀ s) : Answers s₀ (execXor c w s) := .next (keeps_formA h)

theorem answers_execXori {c w} (h : Keeps s₀ s) : Answers s₀ (execXori c w s) := .next (keeps_formI h)

/-! ### A step -/

theorem answers_exec (i : Instr) (h : Keeps s₀ s) : Answers s₀ (exec i s) := by
  cases i with
  | registerWrite => exact answers_execRegisterWrite h
  | configRequest => exact answers_execConfigRequest h
  | capVerOffer => exact answers_execCapVerOffer h
  | flashPulse => exact answers_execFlashPulse h
  | flashFrame => exact answers_execFlashFrame h
  | lockWindowExpiry => exact answers_execLockWindowExpiry h
  | flywheelEdge => exact answers_execFlywheelEdge h
  | holdoverEdge => exact answers_execHoldoverEdge h
  | holdoverTimeout => exact answers_execHoldoverTimeout h
  | phaseTick => exact answers_execPhaseTick h
  | satArm => exact answers_execSatArm h
  | satCancel => exact answers_execSatCancel h
  | satClear => exact answers_execSatClear h
  | take => exact answers_execTake h
  | flashMarker => exact answers_execFlashMarker h
  | cmpSubmitGo => exact answers_execCmpSubmitGo h
  | llFetchDone => exact answers_execLlFetchDone h
  | llCheckDone => exact answers_execLlCheckDone h
  | llAuthoriseDone => exact answers_execLlAuthoriseDone h
  | cmpSlotCancel => exact answers_execCmpSlotCancel h
  | rebindChunkMove => exact answers_execRebindChunkMove h
  | requestDrainComplete => exact answers_execRequestDrainComplete h
  | generationDrained => exact answers_execGenerationDrained h
  | fillComplete => exact answers_execFillComplete h
  | drainDeadline => exact answers_execDrainDeadline h
  | launchDispatch => exact answers_execLaunchDispatch h
  | add => exact answers_execAdd h
  | sub => exact answers_execSub h
  | and_ => exact answers_execAnd h
  | or_ => exact answers_execOr h
  | xor_ => exact answers_execXor h
  | sll => exact answers_execSll h
  | srl => exact answers_execSrl h
  | sra => exact answers_execSra h
  | slt => exact answers_execSlt h
  | sltu => exact answers_execSltu h
  | mul => exact answers_execMul h
  | mulhu => exact answers_execMulhu h
  | divu => exact answers_execDivu h
  | remu => exact answers_execRemu h
  | addi => exact answers_execAddi h
  | andi => exact answers_execAndi h
  | ori => exact answers_execOri h
  | xori => exact answers_execXori h
  | slli => exact answers_execSlli h
  | srli => exact answers_execSrli h
  | srai => exact answers_execSrai h
  | slti => exact answers_execSlti h
  | movz => exact answers_execMovz h
  | movk => exact answers_execMovk h
  | ld => exact answers_execLd h
  | lw => exact answers_execLw h
  | lb => exact answers_execLb h
  | sd => exact answers_execSd h
  | sw => exact answers_execSw h
  | sb => exact answers_execSb h
  | beq => exact answers_execBeq h
  | bne => exact answers_execBne h
  | blt => exact answers_execBlt h
  | bge => exact answers_execBge h
  | bltu => exact answers_execBltu h
  | bgeu => exact answers_execBgeu h
  | jal => exact answers_execJal h
  | jalr => exact answers_execJalr h
  | spr => exact answers_execSpr h
  | tld => exact answers_execTld h
  | tsetb => exact answers_execTsetb h
  | twait => exact answers_execTwait h
  | exit => exact answers_execExit h
  | trap => exact answers_execTrap h
  | acz => exact answers_execAcz h
  | mma => exact answers_execMma h
  | tred => exact answers_execTred h
  | ladfin => exact answers_execLadfin h
  | acst => exact answers_execAcst h
  | vadd => exact answers_execVadd h
  | vsub => exact answers_execVsub h
  | vmul => exact answers_execVmul h
  | vfma => exact answers_execVfma h
  | vmax => exact answers_execVmax h
  | vmin => exact answers_execVmin h
  | vscale => exact answers_execVscale h
  | vbias => exact answers_execVbias h
  | vexp => exact answers_execVexp h
  | vlog => exact answers_execVlog h
  | vrcp => exact answers_execVrcp h
  | vcvt => exact answers_execVcvt h
  | vrmax => exact answers_execVrmax h
  | vrsum => exact answers_execVrsum h
  | vsmx => exact answers_execVsmx h
  | vtopk => exact answers_execVtopk h
  | vtopp => exact answers_execVtopp h
  | tcopy => exact answers_execTcopy h
  | tpf => exact answers_execTpf h
  | aadd => exact answers_execAadd h
  | amax => exact answers_execAmax h
  | acas => exact answers_execAcas h
  | axchg => exact answers_execAxchg h
  | bar => exact answers_execBar h
  | esig => exact answers_execEsig h
  | ewait => exact answers_execEwait h
  | lfence => exact answers_execLfence h
  | sqinfo => exact answers_execSqinfo h
  | kvgather => exact answers_execKvgather h
  | kvput => exact answers_execKvput h
  | sample => exact answers_execSample h
  | tileInstructionComplete => exact answers_execTileInstructionComplete h
  | recomputeAttemptDone => exact answers_execRecomputeAttemptDone h
  | open_ => exact answers_execOpen h
  | append => exact answers_execAppend h
  | generate => exact answers_execGenerate h
  | generatePrefetch => exact answers_execGeneratePrefetch h
  | fork => exact answers_execFork h
  | abort => exact answers_execAbort h
  | close => exact answers_execClose h
  | stepBatchForm => exact answers_execStepBatchForm h
  | arbiterAbort => exact answers_execArbiterAbort h
  | spillComplete sector desc host => exact answers_execSpillComplete (a2 := host) h
  | pullComplete => exact answers_execPullComplete h
  | schedEnable => exact answers_execSchedEnable h
  | schedDisable => exact answers_execSchedDisable h
  | seqConfigWrite => exact answers_execSeqConfigWrite h
  | functionLevelReset => exact answers_execFunctionLevelReset h
  | bar2Read => exact answers_execBar2Read h
  | bar2Write => exact answers_execBar2Write h
  | doorbellTail => exact answers_execDoorbellTail h
  | cqHead => exact answers_execCqHead h
  | ringFetch => exact answers_execRingFetch h
  | privRingEnable => exact answers_execPrivRingEnable h
  | privRingDisable => exact answers_execPrivRingDisable h
  | nop => exact answers_execNop h
  | launch => exact answers_execLaunch h
  | buffer => exact answers_execBuffer h
  | signal => exact answers_execSignal h
  | wait => exact answers_execWait h
  | copy => exact answers_execCopy h
  | fill => exact answers_execFill h
  | copyPieceComplete => exact answers_execCopyPieceComplete h
  | setTables => exact answers_execSetTables h
  | ctxActivate => exact answers_execCtxActivate h
  | ctxWaitAdmit => exact answers_execCtxWaitAdmit h
  | ctxDeactivate => exact answers_execCtxDeactivate h
  | ctxReset => exact answers_execCtxReset h
  | ctxResetComplete => exact answers_execCtxResetComplete h
  | ringCreate => exact answers_execRingCreate h
  | ringDestroy => exact answers_execRingDestroy h
  | ringDestroyComplete => exact answers_execRingDestroyComplete h
  | ringResume => exact answers_execRingResume h
  | eventInit => exact answers_execEventInit h
  | eventSetSignal => exact answers_execEventSetSignal h
  | eventSetAbandon => exact answers_execEventSetAbandon h
  | eventSetFree => exact answers_execEventSetFree h
  | atsCompletion => exact answers_execAtsCompletion h
  | atsInvalidate => exact answers_execAtsInvalidate h
  | invalidateCompletion => exact answers_execInvalidateCompletion h
  | prgResponse => exact answers_execPrgResponse h
  | atfFqHead => exact answers_execAtfFqHead h
  | atfFqEnable => exact answers_execAtfFqEnable h
  | atfFqDisable => exact answers_execAtfFqDisable h
  | priResume => exact answers_execPriResume h
  | finalWriteDiscard => exact answers_execFinalWriteDiscard h
  | directoryRebuildDone => exact answers_execDirectoryRebuildDone h
  | coherenceEscalation => exact answers_execCoherenceEscalation h
  | rehomeWalkDone => exact answers_execRehomeWalkDone h
  | memCohTestForce => exact answers_execMemCohTestForce h
  | scrubRead => exact answers_execScrubRead h
  | levelPublish => exact answers_execLevelPublish h
  | memBwShare => exact answers_execMemBwShare h
  | memScrubCtl => exact answers_execMemScrubCtl h
  | write => exact answers_execWrite h
  | read => exact answers_execRead h
  | prefetch => exact answers_execPrefetch h
  | release => exact answers_execRelease h
  | withdraw => exact answers_execWithdraw h
  | ack => exact answers_execAck h
  | data => exact answers_execData h
  | refuse => exact answers_execRefuse h
  | shortfall => exact answers_execShortfall h
  | fallbackHere => exact answers_execFallbackHere h
  | error => exact answers_execError h
  | unreachable => exact answers_execUnreachable h
  | hello => exact answers_execHello h
  | delayReq => exact answers_execDelayReq h
  | delayResp => exact answers_execDelayResp h
  | key => exact answers_execKey h
  | relayForward => exact answers_execRelayForward h
  | linkNak => exact answers_execLinkNak h
  | linkAck => exact answers_execLinkAck h
  | respTimeout => exact answers_execRespTimeout h
  | seqRecordExpiry => exact answers_execSeqRecordExpiry h
  | streamSeqRestart => exact answers_execStreamSeqRestart h
  | routeEntryExpiry => exact answers_execRouteEntryExpiry h
  | portTrainingDone => exact answers_execPortTrainingDone h
  | laneDown => exact answers_execLaneDown h
  | frameCounterLimit => exact answers_execFrameCounterLimit h
  | oldKeyDiscard => exact answers_execOldKeyDiscard h
  | bypass => exact answers_execBypass h
  | bypassMoved => exact answers_execBypassMoved h
  | lease => exact answers_execLease h
  | leaseExpiry => exact answers_execLeaseExpiry h
  | leaseGraceEnd => exact answers_execLeaseGraceEnd h
  | deviceId => exact answers_execDeviceId h
  | portDisable => exact answers_execPortDisable h
  | retrain => exact answers_execRetrain h
  | tenderGrant => exact answers_execTenderGrant h
  | grantTimeout => exact answers_execGrantTimeout h
  | reserveAutoUpdate => exact answers_execReserveAutoUpdate h
  | rampDeadline => exact answers_execRampDeadline h
  | tndSchedGo => exact answers_execTndSchedGo h
  | tndSchedCancel => exact answers_execTndSchedCancel h
  | boostOpen => exact answers_execBoostOpen h
  | boostClose => exact answers_execBoostClose h
  | boostWindowEnd => exact answers_execBoostWindowEnd h
  | paybackEnd => exact answers_execPaybackEnd h
  | wearSpent => exact answers_execWearSpent h
  | ageingRead => exact answers_execAgeingRead h
  | vddDroop => exact answers_execVddDroop h
  | railOvercurrent => exact answers_execRailOvercurrent h
  | inputOvercurrent => exact answers_execInputOvercurrent h
  | emergencyEscalate => exact answers_execEmergencyEscalate h
  | emergencyRelease => exact answers_execEmergencyRelease h
  | sensorSample => exact answers_execSensorSample h
  | getState req vin vsb => exact answers_execGetState (a1 := vin) (a2 := vsb) h
  | lcTransition => exact answers_execLcTransition h
  | fuseProgrammingDone => exact answers_execFuseProgrammingDone h
  | lcSetDigests req vin vsb => exact answers_execLcSetDigests (a1 := vin) (a2 := vsb) h
  | compkeyEnrol req vin vsb => exact answers_execCompkeyEnrol (a1 := vin) (a2 := vsb) h
  | debugCert req vin vsb => exact answers_execDebugCert (a1 := vin) (a2 := vsb) h
  | debugRevoke req vin vsb => exact answers_execDebugRevoke (a1 := vin) (a2 := vsb) h
  | getVersion => exact answers_execGetVersion h
  | getCapabilities => exact answers_execGetCapabilities h
  | negotiateAlgorithms => exact answers_execNegotiateAlgorithms h
  | getDigests => exact answers_execGetDigests h
  | getCertificate => exact answers_execGetCertificate h
  | challenge => exact answers_execChallenge h
  | getMeasurements => exact answers_execGetMeasurements h
  | sectorFrozen => exact answers_execSectorFrozen h
  | freezeDeadline => exact answers_execFreezeDeadline h
  | imageWriteDone => exact answers_execImageWriteDone h
  | restoreDone => exact answers_execRestoreDone h
  | standbyBoot => exact answers_execStandbyBoot h
  | coldBoot => exact answers_execColdBoot h
  | resetNAssert => exact answers_execResetNAssert h
  | vinApplied => exact answers_execVinApplied h
  | bootStepEnd => exact answers_execBootStepEnd h
  | bootStepTimeout => exact answers_execBootStepTimeout h
  | wearRecordWrite => exact answers_execWearRecordWrite h
  | powerFail => exact answers_execPowerFail h
  | logFlushDone => exact answers_execLogFlushDone h
  | logRead => exact answers_execLogRead h
  | logFlush => exact answers_execLogFlush h
  | logErase => exact answers_execLogErase h
  | journalRead => exact answers_execJournalRead h
  | journalRetry => exact answers_execJournalRetry h
  | sensorRead => exact answers_execSensorRead h
  | opOverride => exact answers_execOpOverride h
  | fwStatus => exact answers_execFwStatus h
  | queryDeviceIdentifiers => exact answers_execQueryDeviceIdentifiers h
  | getFirmwareParameters => exact answers_execGetFirmwareParameters h
  | getStatus => exact answers_execGetStatus h
  | requestUpdate => exact answers_execRequestUpdate h
  | passComponentTable => exact answers_execPassComponentTable h
  | updateComponent => exact answers_execUpdateComponent h
  | requestFirmwareData => exact answers_execRequestFirmwareData h
  | transferComplete => exact answers_execTransferComplete h
  | verifyComplete => exact answers_execVerifyComplete h
  | applyComplete => exact answers_execApplyComplete h
  | activateFirmware => exact answers_execActivateFirmware h
  | cancelUpdateComponent => exact answers_execCancelUpdateComponent h
  | cancelUpdate => exact answers_execCancelUpdate h
  | keeperRestartDone => exact answers_execKeeperRestartDone h
  | keeperWatchdog => exact answers_execKeeperWatchdog h
  | mctpControl => exact answers_execMctpControl h
  | keeperConsole => exact answers_execKeeperConsole h
  | contextWatchExpiry => exact answers_execContextWatchExpiry h
  | engineWatchExpiry => exact answers_execEngineWatchExpiry h
  | hngResetContext => exact answers_execHngResetContext h
  | hngResetEngine => exact answers_execHngResetEngine h
  | hngResetSector => exact answers_execHngResetSector h
  | hngResetModule => exact answers_execHngResetModule h
  | hngResetPowerCycle => exact answers_execHngResetPowerCycle h
  | engineResetComplete => exact answers_execEngineResetComplete h
  | resetEscalation => exact answers_execResetEscalation h
  | warmBootTimeout => exact answers_execWarmBootTimeout h
  | powerCycleTimeout => exact answers_execPowerCycleTimeout h
  | crashDumpDone => exact answers_execCrashDumpDone h
  | dumpCopy => exact answers_execDumpCopy h
  | dumpCopyDone => exact answers_execDumpCopyDone h
  | thermTripRelease => exact answers_execThermTripRelease h
  | tapInstruction => exact answers_execTapInstruction h
  | laneUp => exact answers_execLaneUp h
  | droopRecovery => exact answers_execDroopRecovery h

/-- A step answers a next state: the queue is what was behind the front command, and canonical memories stay canonical. -/
theorem step_answers (s : State) : ∃ t, step s = .next t ∧ t.pending = s.pending.tail ∧ (memoriesWf s = true → memoriesWf t = true) := by
  rw [step]
  cases queue : s.pending with
  | nil => exact ⟨s, rfl, queue, id⟩
  | cons c rest =>
    obtain ⟨t, next, kept⟩ := answers_exec c (keeps_refl { s with pending := rest })
    exact ⟨t, next, kept.queue, kept.memories⟩

/-- Settles O58: every function that writes a memory writes it with an operation that keeps the canonical form. -/
theorem memoriesStayCanonical : Obligations.MemoriesStayCanonical := by
  unfold Obligations.MemoriesStayCanonical
  intro s t wf eq
  obtain ⟨u, next, -, kept⟩ := step_answers s
  obtain rfl : u = t := by simpa [next] using eq
  exact kept wf

/-- Settles O59: no function changes the queue, and every command answers a next state. -/
theorem queueKept : Obligations.QueueKept := by
  unfold Obligations.QueueKept
  refine ⟨fun s => ?_, fun s t eq => ?_⟩
  · obtain ⟨u, next, -⟩ := step_answers s
    exact ⟨u, next⟩
  · obtain ⟨u, next, queue, -⟩ := step_answers s
    obtain rfl : u = t := by simpa [next] using eq
    exact queue

end Sys2Proof.Proofs

/-!
SUPPORT. An update of one part of the state leaves every other part (the frame of each update).
-/
namespace Sys2Proof.Proofs
open Sys2Proof.Machine Sys2Proof.Laws

theorem update_regs (s : State) (v : Tbl (BitVec 64)) : SameBut [.regs] s { s with regs := v } := by
  intro p hp
  cases p with
  | regs => simp at hp
  | _ => rfl

theorem update_free (s : State) (v : Nat) : SameBut [.free] s { s with free := v } := by
  intro p hp
  cases p with
  | free => simp at hp
  | _ => rfl

theorem update_out (s : State) (v : List Out) : SameBut [.out] s { s with out := v } := by
  intro p hp
  cases p with
  | out => simp at hp
  | _ => rfl

theorem update_flash (s : State) (v : Flash) : SameBut [.flash] s { s with flash := v } := by
  intro p hp
  cases p with
  | flash => simp at hp
  | _ => rfl

theorem update_sat (s : State) (v : Tbl Sat) : SameBut [.sat] s { s with sat := v } := by
  intro p hp
  cases p with
  | sat => simp at hp
  | _ => rfl

theorem update_ll (s : State) (v : Loader) : SameBut [.ll] s { s with ll := v } := by
  intro p hp
  cases p with
  | ll => simp at hp
  | _ => rfl

theorem update_sectors (s : State) (v : Tbl Sector) : SameBut [.sectors] s { s with sectors := v } := by
  intro p hp
  cases p with
  | sectors => simp at hp
  | _ => rfl

theorem update_res (s : State) (v : Tbl Res) : SameBut [.res] s { s with res := v } := by
  intro p hp
  cases p with
  | res => simp at hp
  | _ => rfl

theorem update_gens (s : State) (v : Tbl Gens) : SameBut [.gens] s { s with gens := v } := by
  intro p hp
  cases p with
  | gens => simp at hp
  | _ => rfl

theorem update_rb (s : State) (v : Rebind) : SameBut [.rb] s { s with rb := v } := by
  intro p hp
  cases p with
  | rb => simp at hp
  | _ => rfl

theorem update_rings (s : State) (v : Tbl Ring) : SameBut [.rings] s { s with rings := v } := by
  intro p hp
  cases p with
  | rings => simp at hp
  | _ => rfl

theorem update_ctxs (s : State) (v : Tbl Ctx) : SameBut [.ctxs] s { s with ctxs := v } := by
  intro p hp
  cases p with
  | ctxs => simp at hp
  | _ => rfl

theorem update_events (s : State) (v : Tbl Event) : SameBut [.events] s { s with events := v } := by
  intro p hp
  cases p with
  | events => simp at hp
  | _ => rfl

theorem update_tables (s : State) (v : Option Tables) : SameBut [.tables] s { s with tables := v } := by
  intro p hp
  cases p with
  | tables => simp at hp
  | _ => rfl

theorem update_groups (s : State) (v : Tbl (Option Machine.Group)) : SameBut [.groups] s { s with groups := v } := by
  intro p hp
  cases p with
  | groups => simp at hp
  | _ => rfl

theorem update_seqs (s : State) (v : Tbl Seq) : SameBut [.seqs] s { s with seqs := v } := by
  intro p hp
  cases p with
  | seqs => simp at hp
  | _ => rfl

theorem update_seqSecs (s : State) (v : Tbl SeqSec) : SameBut [.seqSecs] s { s with seqSecs := v } := by
  intro p hp
  cases p with
  | seqSecs => simp at hp
  | _ => rfl

theorem update_pci (s : State) (v : PciCfg) : SameBut [.pci] s { s with pci := v } := by
  intro p hp
  cases p with
  | pci => simp at hp
  | _ => rfl

theorem update_ctr (s : State) (v : Tbl (BitVec 64)) : SameBut [.ctr] s { s with ctr := v } := by
  intro p hp
  cases p with
  | ctr => simp at hp
  | _ => rfl

theorem update_shadow (s : State) (v : Tbl (BitVec 64)) : SameBut [.shadow] s { s with shadow := v } := by
  intro p hp
  cases p with
  | shadow => simp at hp
  | _ => rfl

theorem update_resets (s : State) (v : List RunReset) : SameBut [.resets] s { s with resets := v } := by
  intro p hp
  cases p with
  | resets => simp at hp
  | _ => rfl

theorem update_sm (s : State) (v : List Host.Cell) : SameBut [.sm] s { s with sm := v } := by
  intro p hp
  cases p with
  | sm => simp at hp
  | _ => rfl

theorem update_xl (s : State) (v : Xlate) : SameBut [.xl] s { s with xl := v } := by
  intro p hp
  cases p with
  | xl => simp at hp
  | _ => rfl

theorem update_mem (s : State) (v : Mem) : SameBut [.mem] s { s with mem := v } := by
  intro p hp
  cases p with
  | mem => simp at hp
  | _ => rfl

theorem update_chn (s : State) (v : Chain) : SameBut [.chn] s { s with chn := v } := by
  intro p hp
  cases p with
  | chn => simp at hp
  | _ => rfl

theorem update_tnd (s : State) (v : Tender) : SameBut [.tnd] s { s with tnd := v } := by
  intro p hp
  cases p with
  | tnd => simp at hp
  | _ => rfl

theorem update_dmk (s : State) (v : Daymark) : SameBut [.dmk] s { s with dmk := v } := by
  intro p hp
  cases p with
  | dmk => simp at hp
  | _ => rfl

theorem update_frz (s : State) (v : Tbl Frz) : SameBut [.frz] s { s with frz := v } := by
  intro p hp
  cases p with
  | frz => simp at hp
  | _ => rfl

theorem update_kpr (s : State) (v : Keeper) : SameBut [.kpr] s { s with kpr := v } := by
  intro p hp
  cases p with
  | kpr => simp at hp
  | _ => rfl

theorem update_hng (s : State) (v : Hang) : SameBut [.hng] s { s with hng := v } := by
  intro p hp
  cases p with
  | hng => simp at hp
  | _ => rfl

theorem update_pins (s : State) (v : Pins) : SameBut [.pins] s { s with pins := v } := by
  intro p hp
  cases p with
  | pins => simp at hp
  | _ => rfl

end Sys2Proof.Proofs

/-!
SUPPORT. Moves, atomics and synchronisation of a core (R144 to R152): writes of memory whose lines are all clean, the start of each instruction,
and the obligation MovesAndSync.
-/
namespace Sys2Proof.Proofs
open Sys2Proof.Machine Sys2Proof.Laws

theorem leBytes_leNat (bs : List Byte) : leBytes bs.length (leNat bs) = bs := by
  induction bs with
  | nil => rfl
  | cons b r ih =>
    have low : BitVec.ofNat 8 (leNat (b :: r)) = b := by
      apply BitVec.eq_of_toNat_eq
      rw [leNat, BitVec.toNat_ofNat]
      omega
    have high : leNat (b :: r) / 256 = leNat r := by rw [leNat]; omega
    rw [List.length_cons, leBytes, low, high, ih]

theorem leNat_lt (bs : List Byte) : leNat bs < 256 ^ bs.length := by
  induction bs with
  | nil => simp [leNat]
  | cons b r ih =>
    rw [leNat, List.length_cons, Nat.pow_succ']
    omega

/-! ### Writes of clean memory (R352) -/

/-- The parts that a write of memory may change. -/
abbrev memParts : List Part := [.clm, .clmChk, .ls, .lsChk, .sm, .smChk]

theorem smPut_of_clean {s : State} (clean : s.smChk = []) (n a : Nat) (bs : List Byte) : smPut s n a bs = { s with sm := cwrite s.sm (smKey n a) bs } := by
  simp only [smPut, clean, List.filter_nil, List.foldl_nil, smWritten, List.filterMap_nil]

theorem spaceWrite_of_clean {s : State} (clean : Clean s) (g : Group) (c space a : Nat) (bs : List Byte) :
    spaceWrite s g c space a bs =
      if space = 0 then { s with clm := cwrite s.clm (clmKey c a) bs }
      else if space = 1 then { s with ls := cwrite s.ls (lsKey g.ctx a) bs }
      else { s with sm := cwrite s.sm (smKey g.sector a) bs } := by
  obtain ⟨clm, ls, sm⟩ := clean
  rw [spaceWrite, smPut_of_clean sm, clm, ls]
  simp only [byteWritten, List.filter_nil]

theorem spaceWrite_sameBut {s : State} (clean : Clean s) (g : Group) (c space a : Nat) (bs : List Byte) :
    SameBut memParts s (spaceWrite s g c space a bs) := by
  rw [spaceWrite_of_clean clean]
  intro p hp
  split
  · cases p <;> first | rfl | simp at hp
  · split <;> (cases p <;> first | rfl | simp at hp)

theorem spaceWrite_clean {s : State} (clean : Clean s) (g : Group) (c space a : Nat) (bs : List Byte) : Clean (spaceWrite s g c space a bs) := by
  rw [spaceWrite_of_clean clean]
  split
  · exact clean
  · split <;> exact clean

/-- Two states hold the same data in their memories. -/
def SameData (s t : State) : Prop := t.clm = s.clm ∧ t.ls = s.ls ∧ t.sm = s.sm

theorem sameData_of_sameBut {s t : State} {ps : List Part} (same : SameBut ps s t) (out : ∀ p ∈ [Part.clm, .ls, .sm], p ∉ ps) : SameData s t :=
  ⟨same .clm (out _ (by simp)), same .ls (out _ (by simp)), same .sm (out _ (by simp))⟩

theorem spaceWrite_sameData {s t : State} (clean : Clean s) (clean' : Clean t) (data : SameData s t) (g : Group) (c space a : Nat) (bs : List Byte) :
    SameData (spaceWrite s g c space a bs) (spaceWrite t g c space a bs) := by
  obtain ⟨clm, ls, sm⟩ := data
  rw [spaceWrite_of_clean clean, spaceWrite_of_clean clean', clm, ls, sm]
  split
  · exact ⟨rfl, rfl, rfl⟩
  · split <;> exact ⟨rfl, rfl, rfl⟩

/-- A run of writes of clean memory. -/
def writesOf (s : State) (g : Group) (c space : Nat) (l : List (Nat × List Byte)) : State :=
  l.foldl (fun s p => spaceWrite s g c space p.1 p.2) s

theorem writesOf_of_clean {s t : State} (clean : Clean s) (clean' : Clean t) (data : SameData s t) (g : Group) (c space : Nat)
    (l : List (Nat × List Byte)) : SameData (writesOf s g c space l) (writesOf t g c space l) ∧ SameBut memParts t (writesOf t g c space l) := by
  induction l generalizing s t with
  | nil => exact ⟨data, same_refl t _⟩
  | cons p l ih =>
    obtain ⟨data', same⟩ := ih (spaceWrite_clean clean g c space p.1 p.2) (spaceWrite_clean clean' g c space p.1 p.2)
      (spaceWrite_sameData clean clean' data g c space p.1 p.2)
    exact ⟨data', same_mono (same_trans (spaceWrite_sameBut clean' g c space p.1 p.2) same) (by simp)⟩

theorem tileWrite_eq (s : State) (g : Group) (c : Nat) (d : Desc) (bs : List (List Byte)) :
    tileWrite s g c d bs = writesOf s g c d.space ((d.ranges.zip bs).map (fun p => (p.1.1, p.2))) := by
  rw [tileWrite, writesOf, List.foldl_map]

/-! ### Counters and the queue's one instruction -/

theorem dmaCount_sameBut (s : State) (c : Nat) (g : Group) (write : Bool) (space n : Nat) : SameBut [.ctr] s (dmaCount s c g write space n) := by
  have two := same_trans (bump_sameBut s (0x201000 + 0x10000 * (c / 12) + 8 * (5 + if write then 1 else 0)) n)
    (bump_sameBut _ (tlmWord (s.ctx g.ctx).slot (6 + if write then 1 else 0)) n)
  rw [dmaCount]
  split
  · exact same_mono (same_trans two (bump_sameBut _ _ _)) (by simp)
  · exact same_mono two (by simp)

/-- The one instruction of a core's queue is changed by its number. -/
theorem setOp_of_after {s : State} {c : Nat} {x : Core} {o : TileOp} (self : s.core c = x.after o) (f : TileOp → TileOp) :
    setOp s c o.num f = s.setCore c { x.after o with q := [f { o with started := true }] } := by
  simp [setOp, self, Core.after]


/-! ### The start of a move -/

theorem startEff_move {s : State} {g : Group} {c : Nat} {o : TileOp} (cls : o.cls = 2) : startEff s g c o = moveEff s g c o := by
  simp only [startEff, cls]

/-- The sides of a move pass the checks at its start: each may be reached, and none traps. -/
def SidesPass (s : State) (g : Group) (o : TileOp) : Prop :=
  (o.source.toList ++ o.dest.toList).filterMap (tileTrap s g) = [] ∧ (o.source.toList ++ o.dest.toList).filterMap (tileUnreachable s) = []

theorem sidesPass_setCore {s : State} {g : Group} {o : TileOp} (pass : SidesPass s g o) (c : Nat) (x : Core) : SidesPass (s.setCore c x) g o := pass

theorem tileUnreachable_near (s : State) {d : Desc} (near : d.space ≠ 4) : tileUnreachable s d = none := by
  simp [tileUnreachable, near]

section Moves
variable {s : State} {g : Group} {c : Nat} {o : TileOp} (pass : SidesPass s g o)
include pass

theorem moveEff_prefetch (op : o.op = 1) :
    moveEff s g c o = .go (if o.db.space = 4 then (chainIssue s g c o 3 ((chainParts o.db).map (fun p => (p, [])))).2 else s) := by
  obtain ⟨traps, reach⟩ := pass
  simp only [moveEff, traps, reach, List.head?_nil, op, if_true]
  split <;> rfl

theorem moveEff_atomic (op : o.op ≠ 1) (atomic : o.isAtomic = true) (clean : Clean s) :
    moveEff s g c o =
      let old := BitVec.ofNat 64 (leNat (spaceRead s g c o.da.space o.da.base 8))
      let s3 := spaceWrite (clmPut s c o.db.base (leBytes 8 old.toNat)) g c o.da.space o.da.base (leBytes 8 (atomicNew o.op old o.sx o.sy).toNat)
      .go (setOp (dmaCount (dmaCount s3 c g false o.da.space 8) c g true o.da.space 8) c o.num (fun o => { o with wrote := true })) := by
  obtain ⟨traps, reach⟩ := pass
  simp only [moveEff, traps, reach, List.head?_nil, if_neg op, atomic, if_true, checkTile_of_clean clean]

theorem moveEff_remote (op : o.op ≠ 1) (atomic : o.isAtomic = false) (space : o.db.space = 4) :
    moveEff s g c o =
      let q := chainIssue (dmaCount s c g false 4 o.db.bytes) g c o 2 ((chainParts o.db).map (fun p => (p, [])))
      .go (setOp q.2 c o.num (fun o => { o with remote := q.1 })) := by
  obtain ⟨traps, reach⟩ := pass
  simp only [moveEff, traps, reach, List.head?_nil, if_neg op, atomic, Bool.false_eq_true, if_false, space, show 3 ≤ 4 by decide, if_true]

theorem moveEff_copy (op : o.op ≠ 1) (atomic : o.isAtomic = false) (space : o.db.space ≤ 2) (clean : Clean s) {t : State}
    (write : moveWrite (if o.da.space = 0 && o.db.space = 0 then s else dmaCount s c g false o.db.space o.db.bytes) g c o (tileBytes s g c o.db) =
      (none, t)) : moveEff s g c o = .go t := by
  obtain ⟨traps, reach⟩ := pass
  simp only [moveEff, traps, reach, List.head?_nil, if_neg op, atomic, Bool.false_eq_true, if_false, show ¬ 3 ≤ o.db.space by omega,
    checkTile_of_clean clean, write]

end Moves

theorem clean_of_sameBut {s t : State} {ps : List Part} (clean : Clean s) (same : SameBut ps s t)
    (out : ∀ p ∈ [Part.clmChk, .lsChk, .smChk], p ∉ ps) : Clean t := by
  obtain ⟨clm, ls, sm⟩ := clean
  exact ⟨(same .clmChk (out _ (by simp))).trans clm, (same .lsChk (out _ (by simp))).trans ls, (same .smChk (out _ (by simp))).trans sm⟩

/-- The counters of one side of a TCOPY: a copy inside core-local memory counts nothing (Table 5-14). -/
def sideCount (s : State) (c : Nat) (g : Group) (o : TileOp) (write : Bool) (d : Desc) : State :=
  if o.da.space = 0 && o.db.space = 0 then s else dmaCount s c g write d.space d.bytes

theorem sideCount_sameBut (s : State) (c : Nat) (g : Group) (o : TileOp) (write : Bool) (d : Desc) : SameBut [.ctr] s (sideCount s c g o write d) := by
  rw [sideCount]
  split
  · exact same_refl s _
  · exact dmaCount_sameBut _ _ _ _ _ _

/-- The core once its one instruction has made its write. -/
def wrote (x : Core) (o : TileOp) : Core := { x.after o with q := [{ o with started := true, wrote := true }] }

theorem setOp_wrote {t : State} {c : Nat} {x : Core} {o : TileOp} (self : t.core c = x.after o) :
    setOp t c o.num (fun o => { o with wrote := true }) = t.setCore c (wrote x o) := setOp_of_after self _

/-- A state that differs from the one at the start outside the cores holds the core as it was left. -/
theorem core_of_sameBut {s t : State} {c : Nat} {y : Core} {ps : List Part} (same : SameBut ps (s.setCore c y) t) (out : Part.cores ∉ ps) :
    t.core c = y := by
  rw [core_congr (same .cores out), setCore_same]

theorem moveWrite_near {s : State} {g : Group} {c : Nat} {o : TileOp} (near : o.da.space ≤ 2) (bs : List (List Byte)) :
    moveWrite s g c o bs = (none, tileWrite (setOp (sideCount s c g o true o.da) c o.num (fun o => { o with wrote := true })) g c o.da bs) := by
  simp only [moveWrite, near, if_true, sideCount]

section Moves
variable {s : State} {c : Nat} {x : Core} {g : Group} {w : BitVec 64} {op : Nat} {o : TileOp}

/-- A move whose effect is a change of counters, the mark that it wrote, and writes of clean memory. -/
theorem answer_of_writes (starts : TileStarts s c x g w 2 op o) (residue : o.residueOk = true) {i : Instr}
    (answer : exec i s = .next (issueTile s c 2 op w)) {u t : State} {ps qs : List Part} (marked : SameBut ps (s.setCore c (x.after o)) u)
    (written : SameBut qs (u.setCore c (wrote x o)) t) (cores : Part.cores ∉ qs) (chn : Part.chn ∉ ps ++ qs) (outside : Part.cores ∉ ps)
    (effect : moveEff (s.setCore c (x.after o)) g c o = .go t) :
    exec i s = .next t ∧ t.core c = wrote x o ∧ (∀ d, d ≠ c → t.core d = s.core d) ∧ SameBut (.cores :: (ps ++ qs)) s t := by
  refine answer_of_starts_core starts answer residue ((startEff_move (cls_of_starts starts)).trans effect) (core_of_sameBut written cores)
    (fun d hd => ?_) (by simp [wrote]) ?_ chn
  · rw [core_congr (written .cores cores), setCore_other _ _ _ _ hd, core_congr (marked .cores outside)]
  · exact same_mono (same_trans (same_trans marked (setCore_sameBut u c _)) written) (by simp; tauto)

theorem answer_copy (starts : TileStarts s c x g w 2 0 o) (residue : o.residueOk = true) {i : Instr} (answer : exec i s = .next (issueTile s c 2 0 w))
    (da : o.da.space ≤ 2) (db : o.db.space ≤ 2) (pass : SidesPass s g o) :
    let m := tileWrite s g c o.da (o.db.ranges.map (fun r => spaceRead s g c o.db.space r.1 r.2))
    ∃ t, exec i s = .next t ∧ t.core c = wrote x o ∧ (∀ d, d ≠ c → t.core d = s.core d) ∧ SameData m t ∧
      SameBut (.cores :: ([.ctr, .ctr] ++ memParts)) s t := by
  intro m
  have op := op_of_starts starts
  have clean := clean_of_starts starts (x.after o)
  let u := sideCount (sideCount (s.setCore c (x.after o)) c g o false o.db) c g o true o.da
  have counted : SameBut [.ctr, .ctr] (s.setCore c (x.after o)) u := same_trans (sideCount_sameBut _ _ _ _ _ _) (sideCount_sameBut _ _ _ _ _ _)
  have clean' : Clean (u.setCore c (wrote x o)) := clean_of_sameBut clean (same_trans counted (setCore_sameBut u c _)) (by simp)
  have data : SameData s (u.setCore c (wrote x o)) :=
    sameData_of_sameBut (same_trans (same_trans (setCore_sameBut s c (x.after o)) counted) (setCore_sameBut u c _)) (by simp)
  obtain ⟨written, same⟩ := writesOf_of_clean (clean_of_starts starts (s.core c)) clean' (s := s) data g c o.da.space
    ((o.da.ranges.zip (o.db.ranges.map (fun r => spaceRead s g c o.db.space r.1 r.2))).map (fun p => (p.1.1, p.2)))
  rw [← tileWrite_eq, ← tileWrite_eq] at written
  rw [← tileWrite_eq] at same
  have effect : moveEff (s.setCore c (x.after o)) g c o =
      .go (tileWrite (u.setCore c (wrote x o)) g c o.da (o.db.ranges.map (fun r => spaceRead s g c o.db.space r.1 r.2))) := by
    refine moveEff_copy (sidesPass_setCore pass c _) (by simp [op]) (by simp [TileOp.isAtomic, op]) db clean ?_
    rw [moveWrite_near da, ← setOp_wrote (core_of_sameBut counted (by simp))]
    rfl
  obtain ⟨next, self, others, kept⟩ := answer_of_writes starts residue answer counted same (by simp) (by simp) (by simp) effect
  exact ⟨_, next, self, others, written, kept⟩

theorem answer_hint (starts : TileStarts s c x g w 2 1 o) (residue : o.residueOk = true) {i : Instr} (answer : exec i s = .next (issueTile s c 2 1 w))
    (db : o.db.space = 2) (pass : SidesPass s g o) :
    ∃ t, exec i s = .next t ∧ t.core c = x.after o ∧ (∀ d, d ≠ c → t.core d = s.core d) ∧ SameBut [.cores] s t := by
  have effect : moveEff (s.setCore c (x.after o)) g c o = .go (s.setCore c (x.after o)) := by
    rw [moveEff_prefetch (sidesPass_setCore pass c _) (op_of_starts starts), if_neg (by omega)]
  exact ⟨_, answer_of_starts starts answer residue ((startEff_move (cls_of_starts starts)).trans effect) (same_refl _ []) (by simp) (by simp)⟩

theorem atomicOk_of_starts (starts : TileStarts s c x g w 2 op o) (atomic : 2 ≤ op) : atomicOk o.da o.db = true := by
  obtain ⟨⟨-, -, -, -, -, -, -, passes⟩, -⟩ := id starts
  have cls := cls_of_starts starts
  have opIs := op_of_starts starts
  rw [issueTrap] at passes
  split at passes
  · exact nomatch passes
  · split at passes
    · exact nomatch passes
    · split at passes
      · exact nomatch passes
      · next desc =>
        obtain ⟨k, rfl⟩ : ∃ k, op = k + 2 := ⟨op - 2, by omega⟩
        simp only [descOk, cls, opIs, Bool.not_eq_true, Bool.not_eq_false', Bool.and_eq_true] at desc
        exact desc.2

/-- An atomic reads eight bytes, puts them into core-local memory, and writes the new value back. -/
theorem answer_atomic (starts : TileStarts s c x g w 2 op o) (residue : o.residueOk = true) {i : Instr}
    (answer : exec i s = .next (issueTile s c 2 op w)) (atomic : 2 ≤ op) (trap : tileTrap s g o.da = none) :
    let old := spaceRead s g c o.da.space o.da.base 8
    let m := spaceWrite s g c o.da.space o.da.base (leBytes 8 (atomicNew op (BitVec.ofNat 64 (leNat old)) o.sx o.sy).toNat)
    ∃ t, exec i s = .next t ∧ t.core c = wrote x o ∧ (∀ d, d ≠ c → t.core d = s.core d) ∧ t.clm = cwrite s.clm (clmKey c o.db.base) old ∧
      t.ls = m.ls ∧ t.sm = m.sm ∧ SameBut (.cores :: ((([.clm, .clmChk] ++ memParts) ++ ([.ctr] ++ [.ctr])) ++ [])) s t := by
  intro old m
  have op' := op_of_starts starts
  have cls := cls_of_starts starts
  have ok := atomicOk_of_starts starts atomic
  simp only [atomicOk, Bool.and_eq_true, Bool.or_eq_true, beq_iff_eq] at ok
  obtain ⟨⟨⟨⟨-, space⟩, -⟩, -⟩, -⟩ := ok
  have pass : SidesPass s g o := by
    have sides : o.source.toList ++ o.dest.toList = [o.da, o.da] := by
      have ne : o.da.space ≠ 0 := by omega
      have notMove : ¬ op ≤ 1 ∧ op ≠ 0 := by omega
      simp [TileOp.source, TileOp.dest, TileOp.isAtomic, cls, op', atomic, ne, notMove]
    rw [SidesPass, sides]
    simp [trap, tileUnreachable_near s (show o.da.space ≠ 4 by omega)]
  have clean := clean_of_starts starts (x.after o)
  let v := clmPut (s.setCore c (x.after o)) c o.db.base old
  have put : SameBut [.clm, .clmChk] (s.setCore c (x.after o)) v := clmPut_sameBut _ _ _ _
  have cleanPut : Clean v := by
    obtain ⟨clm, ls, sm⟩ := clean
    refine ⟨?_, ls, sm⟩
    rw [show v.clmChk = byteWritten (s.setCore c (x.after o)).clmChk _ _ from rfl, clm]
    rfl
  let bs := leBytes 8 (atomicNew op (BitVec.ofNat 64 (leNat old)) o.sx o.sy).toNat
  let u := dmaCount (dmaCount (spaceWrite v g c o.da.space o.da.base bs) c g false o.da.space 8) c g true o.da.space 8
  have counted : SameBut ([.ctr] ++ [.ctr]) (spaceWrite v g c o.da.space o.da.base bs) u :=
    same_trans (dmaCount_sameBut _ _ _ _ _ _) (dmaCount_sameBut _ _ _ _ _ _)
  have marked := same_trans (same_trans put (spaceWrite_sameBut cleanPut g c o.da.space o.da.base bs)) counted
  have oldBytes : leBytes 8 (BitVec.ofNat 64 (leNat old)).toNat = old := by
    have len : old.length = 8 := by
      simp only [old, spaceRead]
      (repeat' split) <;> exact length_cread _ _ _
    have lt := leNat_lt old
    rw [len] at lt
    rw [BitVec.toNat_ofNat, Nat.mod_eq_of_lt (by simpa using lt), ← len, leBytes_leNat]
  have effect : moveEff (s.setCore c (x.after o)) g c o = .go (u.setCore c (wrote x o)) := by
    rw [moveEff_atomic (sidesPass_setCore pass c _) (by omega) (by simp [TileOp.isAtomic, cls, op', atomic]) clean,
      ← setOp_wrote (core_of_sameBut marked (by simp))]
    have read : spaceRead (s.setCore c (x.after o)) g c o.da.space o.da.base 8 = old := rfl
    simp only [op', read, oldBytes] <;> rfl
  obtain ⟨next, self, others, kept⟩ := answer_of_writes starts residue answer marked (same_refl _ []) (by simp) (by simp) (by simp) effect
  have clm : u.clm = _ := counted .clm (by simp)
  have ls : u.ls = _ := counted .ls (by simp)
  have sm : u.sm = _ := counted .sm (by simp)
  have cleanS := clean_of_starts starts (s.core c)
  rw [spaceWrite_of_clean cleanPut] at clm ls sm
  refine ⟨_, next, self, others, clm.trans ?_, ls.trans ?_, sm.trans ?_, kept⟩
  · rw [if_neg (by omega)]
    split <;> rfl
  · rw [show m.ls = _ from congrArg State.ls (spaceWrite_of_clean (s := s) cleanS g c _ _ _)]
    rcases space with h | h <;> simp [h] <;> rfl
  · rw [show m.sm = _ from congrArg State.sm (spaceWrite_of_clean (s := s) cleanS g c _ _ _)]
    rcases space with h | h <;> simp [h] <;> rfl

end Moves

/-! ### Requests to Chain (R144, R148, R379) -/

theorem chainIssue_sameBut (s : State) (g : Group) (c : Nat) (o : TileOp) (type : Nat) (ps : List ((Nat × Nat) × List Byte)) :
    SameBut [.chn] s (chainIssue s g c o type ps).2 := by
  have issued (l : List ((Nat × Nat) × List Byte)) (acc : List Nat × State) : SameBut [.chn] acc.2 (l.foldl (fun acc p =>
      (acc.1 ++ [acc.2.chn.nextReq], chIssue acc.2 (.tile c o.num) g.sector g.ctx type (p.1.1 / 2 ^ 47) (streamOf c o) (p.1.1 % 2 ^ 47) p.1.2 p.2
        (type == 1 && tFINAL o.word))) acc).2 := by
    induction l generalizing acc with
    | nil => exact same_refl _ _
    | cons p l ih =>
      have one : SameBut [.chn] acc.2 (chIssue acc.2 (.tile c o.num) g.sector g.ctx type (p.1.1 / 2 ^ 47) (streamOf c o) (p.1.1 % 2 ^ 47) p.1.2 p.2
          (type == 1 && tFINAL o.word)) := by
        intro q hq
        cases q with
        | chn => simp at hq
        | _ => rfl
      exact same_mono (same_trans one (ih _)) (by simp)
  exact issued ps ([], s)

section Requests
variable {s : State} {c : Nat} {x : Core} {g : Group} {w : BitVec 64} {op : Nat} {o : TileOp} (starts : TileStarts s c x g w 2 op o)
  (residue : o.residueOk = true)
include starts residue

theorem issue_of_move {t : State} (effect : moveEff (s.setCore c (x.after o)) g c o = .go t) (started : ∀ p ∈ (t.core c).q, p.started = true) :
    issueTile s c 2 op w = chRun t := by
  rw [← issueTile_of_starts starts ((startEff_move (cls_of_starts starts)).trans effect) started, residue]

theorem issue_prefetch (op_ : op = 1) (pass : SidesPass s g o) (db : o.db.space = 4) :
    issueTile s c 2 op w = chRun (chainIssue (s.setCore c (x.after o)) g c o 3 ((chainParts o.db).map (fun p => (p, [])))).2 := by
  refine issue_of_move starts residue ?_ ?_
  · rw [moveEff_prefetch (sidesPass_setCore pass c _) ((op_of_starts starts).trans op_), if_pos db]
  · rw [core_of_sameBut (chainIssue_sameBut _ _ _ _ _ _) (by simp)]
    simp [Core.after]

theorem issue_remote (op_ : op = 0) (pass : SidesPass s g o) (db : o.db.space = 4) :
    issueTile s c 2 op w =
      let q := chainIssue (dmaCount (s.setCore c (x.after o)) c g false 4 o.db.bytes) g c o 2 ((chainParts o.db).map (fun p => (p, [])))
      chRun (setOp q.2 c o.num (fun o => { o with remote := q.1 })) := by
  have opIs := (op_of_starts starts).trans op_
  refine issue_of_move starts residue (moveEff_remote (sidesPass_setCore pass c _) (by simp [opIs]) (by simp [TileOp.isAtomic, opIs]) db) ?_
  rw [setOp_of_after (core_of_sameBut (same_trans (dmaCount_sameBut _ _ _ _ _ _) (chainIssue_sameBut _ _ _ _ _ _)) (by simp)), setCore_same]
  simp

theorem issue_write (op_ : op = 0) (pass : SidesPass s g o) (db : o.db.space = 0) (da : o.da.space = 4) :
    issueTile s c 2 op w =
      let s2 := setOp (dmaCount (dmaCount (s.setCore c (x.after o)) c g false 0 o.db.bytes) c g true 4 o.da.bytes) c o.num
        (fun o => { o with wrote := true })
      chRun (chainIssue s2 g c o 1 (cutParts o.da (o.db.ranges.map (fun r => spaceRead s g c 0 r.1 r.2)))).2 := by
  have opIs := (op_of_starts starts).trans op_
  have counted := same_trans (dmaCount_sameBut (s.setCore c (x.after o)) c g false 0 o.db.bytes) (dmaCount_sameBut _ c g true 4 o.da.bytes)
  refine issue_of_move starts residue (moveEff_copy (sidesPass_setCore pass c _) (by simp [opIs]) (by simp [TileOp.isAtomic, opIs]) (by omega)
    (clean_of_starts starts _) ?_) ?_
  · simp only [moveWrite, da, db, show ¬ (4 : Nat) ≤ 2 by decide, show ¬ (4 : Nat) = 3 by decide, show ¬ (4 : Nat) = 0 by decide, decide_false,
      Bool.false_and, Bool.false_eq_true, if_false, tileBytes] <;> rfl
  · rw [core_congr (chainIssue_sameBut _ _ _ _ _ _ .cores (by simp)), setOp_wrote (core_of_sameBut counted (by simp)), setCore_same]
    simp [wrote]

end Requests

/-! ### Synchronisation (R150 to R152) -/

/-- The core once it has arrived at a barrier for the `n`-th time. -/
def arrived (x : Core) (o : TileOp) (n : Nat) : Core := { x.after o with q := [{ o with started := true, arrival := n }] }

section Sync
variable {s : State} {c : Nat} {x : Core} {g : Group} {w : BitVec 64} {op : Nat} {o : TileOp} (starts : TileStarts s c x g w 3 op o)
  (residue : o.residueOk = true)
include starts residue

theorem answer_bar (op_ : op = 0) {i : Instr} (answer : exec i s = .next (issueTile s c 3 op w)) :
    let k := arrivalKey (tImm w % 16) x.logical
    let n := tget 0 g.arrivals k + 1
    ∃ t, exec i s = .next t ∧ t.core c = arrived x o n ∧ (∀ d, d ≠ c → t.core d = s.core d) ∧
      t.group x.group = some { g with arrivals := tput 0 g.arrivals k n } ∧ (∀ j, j ≠ x.group → t.group j = s.group j) ∧
      SameBut [.cores, .groups] s t := by
  intro k n
  let u := (s.setCore c (x.after o)).setGroup x.group (some { g with arrivals := tput 0 g.arrivals k n })
  have same : SameBut [.groups] (s.setCore c (x.after o)) u := update_groups _ _
  have effect : startEff (s.setCore c (x.after o)) g c o = .go (u.setCore c (arrived x o n)) := by
    simp only [startEff, cls_of_starts starts, (op_of_starts starts).trans op_, if_true, barEff, word_of_starts starts, setCore_same]
    have marked : setOp u c o.num (fun o => { o with arrival := n }) = u.setCore c (arrived x o n) :=
      setOp_of_after (core_of_sameBut same (by simp)) _
    rw [← marked]
    rfl
  obtain ⟨next, self, others, kept⟩ := answer_of_starts_core starts (y := arrived x o n) (ps := [.groups]) answer residue effect (setCore_same _ _ _)
    (fun d hd => by rw [setCore_other _ _ _ _ hd, core_congr (same .cores (by simp))]) (by simp [arrived])
    (same_mono (same_trans same (setCore_sameBut u c _)) (by simp)) (by simp)
  have groups (j : Nat) : (u.setCore c (arrived x o n)).group j = u.group j := rfl
  refine ⟨_, next, self, others, ?_, fun j hj => ?_, kept⟩
  · rw [groups]
    exact setGroup_same _ _ _
  · rw [groups]
    exact setGroup_other _ _ _ _ hj

theorem answer_wait (op_ : op ≠ 0) {i : Instr} (answer : exec i s = .next (issueTile s c 3 op w)) :
    ∃ t, exec i s = .next t ∧ t.core c = x.after o ∧ (∀ d, d ≠ c → t.core d = s.core d) ∧ SameBut [.cores] s t := by
  have effect : startEff (s.setCore c (x.after o)) g c o = .go (s.setCore c (x.after o)) := by
    simp only [startEff, cls_of_starts starts, op_of_starts starts, if_neg op_]
  exact ⟨_, answer_of_starts starts answer residue effect (same_refl _ []) (by simp) (by simp)⟩

end Sync


theorem sides_of_copy {s : State} {c : Nat} {x : Core} {g : Group} {w : BitVec 64} {o : TileOp} (starts : TileStarts s c x g w 2 0 o) {d : Desc}
    (side : d ∈ o.source.toList ++ o.dest.toList) : d = o.da ∨ d = o.db := by
  have op := op_of_starts starts
  have cls := cls_of_starts starts
  by_cases da : o.da.space = 0 <;> by_cases db : o.db.space = 0 <;> simp [TileOp.source, TileOp.dest, cls, op, da, db] at side <;>
    tauto

theorem sides_of_hint {s : State} {c : Nat} {x : Core} {g : Group} {w : BitVec 64} {o : TileOp} (starts : TileStarts s c x g w 2 1 o)
    (db : o.db.space = 2) : o.source.toList ++ o.dest.toList = [o.db] := by
  simp [TileOp.source, TileOp.dest, TileOp.isAtomic, cls_of_starts starts, op_of_starts starts, db]

/-- Settles O9: the start of each move and each synchronisation instruction, by the rule of its effect. -/
theorem movesAndSync : Obligations.MovesAndSync := by
  unfold Obligations.MovesAndSync
  refine ⟨fun s c w x g o residue => ⟨fun starts da db traps => ?_, fun starts db trap => ?_, ?_⟩,
    fun s c w x g o residue => ⟨fun starts => answer_bar starts residue rfl (i := .bar c w) rfl, ?_⟩,
    fun s c w x g o residue traps reach => ⟨fun starts db => ?_, fun starts db => ?_, fun starts db da => ?_⟩⟩
  · have pass : SidesPass s g o := by
      refine ⟨traps, List.filterMap_eq_nil_iff.2 fun d hd => tileUnreachable_near s ?_⟩
      rcases sides_of_copy starts hd with rfl | rfl <;> omega
    obtain ⟨t, next, self, others, ⟨clm, ls, sm⟩, same⟩ := answer_copy starts residue (i := .tcopy c w) rfl da db pass
    exact ⟨t, next, self, others, clm, ls, sm, same_mono same (by simp)⟩
  · have pass : SidesPass s g o := by
      rw [SidesPass, sides_of_hint starts db]
      simp [trap, tileUnreachable_near s (show o.db.space ≠ 4 by omega)]
    exact answer_hint starts residue (i := .tpf c w) rfl db pass
  · simp only [List.forall_mem_cons, List.not_mem_nil, IsEmpty.forall_iff, implies_true, and_true]
    have row (i : Instr) (op : Nat) (new : BitVec 64 → BitVec 64) (answer : exec i s = .next (issueTile s c.val 2 op w)) (atomic : 2 ≤ op)
        (value : ∀ old, atomicNew op old o.sx o.sy = new old) (starts : TileStarts s c.val x g w 2 op o) (trap : tileTrap s g o.da = none) :
        let old := spaceRead s g c.val o.da.space o.da.base 8
        let m := spaceWrite s g c.val o.da.space o.da.base (leBytes 8 (new (BitVec.ofNat 64 (leNat old))).toNat)
        ∃ t, exec i s = .next t ∧ t.core c.val = { x.after o with q := [{ o with started := true, wrote := true }] } ∧
          (∀ d, d ≠ c.val → t.core d = s.core d) ∧ t.clm = cwrite s.clm (clmKey c.val o.db.base) old ∧ t.ls = m.ls ∧ t.sm = m.sm ∧
          SameBut [.cores, .clm, .clmChk, .ls, .lsChk, .sm, .smChk, .ctr] s t := by
      obtain ⟨t, next, self, others, clm, ls, sm, same⟩ := answer_atomic starts residue answer atomic trap
      rw [value] at ls sm
      exact ⟨t, next, self, others, clm, ls, sm, same_mono same (by simp)⟩
    exact ⟨row (.aadd c w) 2 (fun old => old + o.sx) rfl (by decide) fun _ => rfl,
      row (.amax c w) 3 (fun old => if old.toNat < o.sx.toNat then o.sx else old) rfl (by decide) fun _ => rfl,
      row (.acas c w) 4 (fun old => if old = o.sy then o.sx else old) rfl (by decide) fun _ => rfl,
      row (.axchg c w) 5 (fun _ => o.sx) rfl (by decide) fun _ => rfl⟩
  · simp only [List.forall_mem_cons, List.not_mem_nil, IsEmpty.forall_iff, implies_true, and_true]
    exact ⟨fun starts => answer_wait starts residue (by decide) (i := .esig c w) rfl,
      fun starts => answer_wait starts residue (by decide) (i := .ewait c w) rfl, fun starts => answer_wait starts residue (by decide) (i := .lfence c w) rfl⟩
  · exact congrArg Host.Outcome.next (issue_prefetch starts residue rfl ⟨traps, reach⟩ db)
  · exact congrArg Host.Outcome.next (issue_remote starts residue rfl ⟨traps, reach⟩ db)
  · exact congrArg Host.Outcome.next (issue_write starts residue rfl ⟨traps, reach⟩ db da)

end Sys2Proof.Proofs

/-!
SUPPORT. The sequence unit of a core (R153, R222, R234, R242 to R249): the start of each of its instructions, and the obligation SequenceUnit.
-/
namespace Sys2Proof.Proofs
open Sys2Proof.Machine Sys2Proof.Laws

section Sequences
variable {s : State} {c : Nat} {x : Core} {g : Group} {w : BitVec 64} {op : Nat} {o : TileOp} {r : Row}

theorem startEff_sequence {s : State} {g : Group} {c : Nat} {o : TileOp} (cls : o.cls = 4) : startEff s g c o = seqEff s g c o := by
  simp only [startEff, cls]

/-- The record of SQINFO (Table 5-12). -/
def infoRecord (s : State) (n : Nat) (r : Row) : List Byte :=
  leBytes 8 (s.seq r.slot).c ++ leBytes 4 (s.seq r.slot).c ++ leBytes 4 r.len ++ leBytes 2 r.slot ++
    leBytes 1 (s.sector n).kvLog ++ leBytes 1 r.kind ++ List.replicate 12 0

theorem length_infoRecord (s : State) (n : Nat) (r : Row) : (infoRecord s n r).length = 32 := by simp [infoRecord]

theorem seqEff_info (row : batchRow s g o.sx = some r) (op : o.op = 0) :
    seqEff s g c o = .go (clmRows s c (o.da.ranges.zipIdx.map (fun p =>
      (p.1.1, sub (infoRecord s g.sector r) (p.2 * o.da.rowLen) (min p.1.2 (32 - p.2 * o.da.rowLen)))))) := by
  simp only [seqEff, row, op, clmRows, List.foldl_map, infoRecord]

/-- The record fills the one row of 32 bytes; nothing is left for the rows of scales. -/
theorem clmAfter_info (m : List Host.Cell) (c : Nat) {d : Desc} (rows : d.rows = 1) (len : d.rowLen = 32) {bs : List Byte} (full : bs.length = 32) :
    clmAfter m c (d.ranges.zipIdx.map (fun p => (p.1.1, sub bs (p.2 * d.rowLen) (min p.1.2 (32 - p.2 * d.rowLen))))) =
      cwrite m (clmKey c d.base) bs := by
  have none_ (l : List ((Nat × Nat) × Nat)) (later : ∀ p ∈ l, 1 ≤ p.2) (m : List Host.Cell) :
      clmAfter m c (l.map (fun p => (p.1.1, sub bs (p.2 * 32) (min p.1.2 (32 - p.2 * 32))))) = m := by
    induction l with
    | nil => rfl
    | cons p l ih =>
      have p_ := later p List.mem_cons_self
      have empty : min p.1.2 (32 - p.2 * 32) = 0 := by omega
      rw [List.map_cons, clmAfter, List.foldl_cons, empty]
      exact ih fun q hq => later q (List.mem_cons_of_mem _ hq)
  have first : sub bs 0 32 = bs := by
    rw [← full]
    exact List.ext_getElem (by simp [sub]) fun i _ h => by simp [sub, h]
  simp only [Desc.ranges, rows, len, List.range_one, List.map_cons, List.map_nil, List.singleton_append, List.zipIdx_cons, Nat.zero_mul, Nat.add_zero,
    Nat.sub_zero, Nat.min_self, Nat.zero_add, first]
  rw [clmAfter, List.foldl_cons]
  refine none_ _ (fun p hp => ?_) _
  exact List.le_snd_of_mem_zipIdx hp

theorem seqEff_gather (row : batchRow s g o.sx = some r) (op : o.op = 1) (trap : tileTrap s g o.da = none) (clean : Clean s) :
    seqEff s g c o = .go (writesOf s g c o.da.space ((List.range (kvCount o)).map (fun i => (o.da.base + i * o.da.rowStride,
      spaceRead s g c 2 (kvAddr s g.sector r (kvFirst o + i) (kvLayer o) (kvHalf o)) (kvE s g.sector))))) := by
  simp only [seqEff, row, op, trap, if_true]
  rw [List.foldl_fixed' (fun p => by simp only [memCheck_of_cleanState clean])]
  simp only [writesOf, List.foldl_map]

theorem seqEff_put (row : batchRow s g o.sx = some r) (op : o.op = 2) (trap : tileTrap s g o.db = none) (clean : Clean s) :
    seqEff s g c o = .go (writesOf s g c 2 ((List.range (kvCount o)).map (fun i => 
      (kvAddr s g.sector r (kvFirst o + i) (kvLayer o) (kvHalf o), spaceRead s g c o.db.space (o.db.base + i * o.db.rowStride) (kvE s g.sector))))) := by
  simp only [seqEff, row, op, trap, checkTile_of_clean clean, writesOf, List.foldl_map, show (2 = 1) = False by simp, if_false]

theorem seqEff_sample (row : batchRow s g o.sx = some r) (op : o.op = 3) (trap : tileTrap s g o.da = none) (clean : Clean s)
    (may : mayTake (s.seq r.slot) r = true) (vocab : r.vocab = none ∨ r.vocab = some (o.da.rows * o.da.cols)) :
    let r1 := takeSample (s.seq r.slot) r ((s.seq r.slot).reservedBy.map (fun k => (s.seq k).pendingTok))
      ((List.range (o.da.rows * o.da.cols)).map (fun i => o.da.f32 (spaceRead s g c o.da.space) (i / o.da.cols) (i % o.da.cols)))
    seqEff s g c o = .go (clmPut (setRow (decision s r1).2 g.sector o.sx.toNat r1) c o.db.base (decision s r1).1) := by
  have known : (r.vocab.isSome && r.vocab != some (o.da.rows * o.da.cols)) = false := by
    rcases vocab with h | h <;> simp [h]
  simp only [seqEff, row, op, trap, checkTile_of_clean clean, may, known, Bool.not_true, Bool.false_eq_true, if_false]

/-- Entries written to Sector memory alone. -/
theorem writesOf_sector {s : State} (clean : s.smChk = []) (g : Group) (c : Nat) (l : List (Nat × List Byte)) :
    writesOf s g c 2 l = { s with sm := l.foldl (fun m p => cwrite m (smKey g.sector p.1) p.2) s.sm } := by
  induction l generalizing s with
  | nil => rfl
  | cons p l ih =>
    have one : spaceWrite s g c 2 p.1 p.2 = { s with sm := cwrite s.sm (smKey g.sector p.1) p.2 } := smPut_of_clean clean _ _ _
    rw [writesOf, List.foldl_cons, one]
    exact ih clean

theorem setRow_of_step {s : State} {n : Nat} {p : Step} (step : (s.seqSec n).step = some p) (i : Nat) (r : Row) :
    setRow s n i r = s.setSeqSec n { s.seqSec n with step := some { p with rows := p.rows.set i r } } := by
  simp only [setRow, step]

theorem decision_snd (s : State) (r : Row) : (decision s r).2 = { s with free := s.free + 31 } := rfl

section Starts
variable (starts : TileStarts s c x g w 4 op o) (residue : o.residueOk = true) (row : batchRow s g o.sx = some r)
include starts residue row

theorem answer_info (op_ : op = 0) (rows : o.da.rows = 1) (len : o.da.rowLen = 32) {i : Instr} (answer : exec i s = .next (issueTile s c 4 op w)) :
    ∃ t, exec i s = .next t ∧ t.core c = x.after o ∧ (∀ d, d ≠ c → t.core d = s.core d) ∧
      t.clm = cwrite s.clm (clmKey c o.da.base) (infoRecord s g.sector r) ∧ SameBut [.cores, .clm, .clmChk] s t := by
  have effect := (startEff_sequence (s := s.setCore c (x.after o)) (g := g) (c := c) (cls_of_starts starts)).trans
    (seqEff_info (r := r) row ((op_of_starts starts).trans op_))
  obtain ⟨next, self, others, same⟩ := answer_of_starts starts answer residue effect (clmRows_sameBut _ _ _) (by simp) (by simp)
  refine ⟨_, next, self, others, ?_, same⟩
  rw [clmRows_clm]
  exact clmAfter_info _ _ rows len (length_infoRecord _ _ _)

theorem answer_gather (op_ : op = 1) (trap : tileTrap s g o.da = none) {i : Instr} (answer : exec i s = .next (issueTile s c 4 op w)) :
    let m := (List.range (kvCount o)).foldl (fun m i => spaceWrite m g c o.da.space (o.da.base + i * o.da.rowStride)
      (cread s.sm (smKey g.sector (kvAddr s g.sector r (kvFirst o + i) (kvLayer o) (kvHalf o))) (kvE s g.sector))) s
    ∃ t, exec i s = .next t ∧ t.core c = x.after o ∧ (∀ d, d ≠ c → t.core d = s.core d) ∧ SameData m t ∧ SameBut (.cores :: memParts) s t := by
  intro m
  have clean := clean_of_starts starts (x.after o)
  have cleanS : Clean s := clean_of_starts starts (s.core c)
  have effect := (startEff_sequence (s := s.setCore c (x.after o)) (g := g) (c := c) (cls_of_starts starts)).trans
    (seqEff_gather (r := r) row ((op_of_starts starts).trans op_) trap clean)
  obtain ⟨data, same⟩ := writesOf_of_clean cleanS clean ⟨rfl, rfl, rfl⟩ g c o.da.space ((List.range (kvCount o)).map (fun i =>
    (o.da.base + i * o.da.rowStride, spaceRead s g c 2 (kvAddr s g.sector r (kvFirst o + i) (kvLayer o) (kvHalf o)) (kvE s g.sector))))
  obtain ⟨next, self, others, kept⟩ := answer_of_starts starts answer residue effect same (by simp) (by simp)
  refine ⟨_, next, self, others, ?_, kept⟩
  rw [writesOf, List.foldl_map] at data
  exact data

theorem answer_put (op_ : op = 2) (trap : tileTrap s g o.db = none) {i : Instr} (answer : exec i s = .next (issueTile s c 4 op w)) :
    ∃ t, exec i s = .next t ∧ t.core c = x.after o ∧ (∀ d, d ≠ c → t.core d = s.core d) ∧
      t.sm = (List.range (kvCount o)).foldl (fun m i => cwrite m (smKey g.sector (kvAddr s g.sector r (kvFirst o + i) (kvLayer o) (kvHalf o)))
        (spaceRead s g c o.db.space (o.db.base + i * o.db.rowStride) (kvE s g.sector))) s.sm ∧ SameBut [.cores, .sm] s t := by
  have clean := clean_of_starts starts (x.after o)
  have effect := (startEff_sequence (s := s.setCore c (x.after o)) (g := g) (c := c) (cls_of_starts starts)).trans
    (seqEff_put (r := r) row ((op_of_starts starts).trans op_) trap clean)
  obtain ⟨-, -, cleanSm⟩ := clean
  rw [writesOf_sector cleanSm, List.foldl_map] at effect
  obtain ⟨next, self, others, same⟩ := answer_of_starts starts answer residue effect (update_sm _ _) (by simp) (by simp)
  exact ⟨_, next, self, others, rfl, same⟩

theorem answer_sample (op_ : op = 3) (trap : tileTrap s g o.da = none) (may : mayTake (s.seq r.slot) r = true)
    (vocab : r.vocab = none ∨ r.vocab = some (o.da.rows * o.da.cols)) {p : Step} (step : (s.seqSec g.sector).step = some p)
    {i : Instr} (answer : exec i s = .next (issueTile s c 4 op w)) :
    let r1 := takeSample (s.seq r.slot) r ((s.seq r.slot).reservedBy.map (fun k => (s.seq k).pendingTok))
      ((List.range (o.da.rows * o.da.cols)).map (fun i => o.da.f32 (spaceRead s g c o.da.space) (i / o.da.cols) (i % o.da.cols)))
    ∃ t, exec i s = .next t ∧ t.core c = x.after o ∧ (∀ d, d ≠ c → t.core d = s.core d) ∧
      t.seqSec g.sector = { s.seqSec g.sector with step := some { p with rows := p.rows.set o.sx.toNat r1 } } ∧
      (∀ k, k ≠ g.sector → t.seqSec k = s.seqSec k) ∧ t.free = s.free + 31 ∧ t.clm = cwrite s.clm (clmKey c o.db.base) (decision s r1).1 ∧
      SameBut [.cores, .free, .seqSecs, .clm, .clmChk] s t := by
  intro r1
  have effect : startEff (s.setCore c (x.after o)) g c o =
      .go (clmPut (setRow (decision (s.setCore c (x.after o)) r1).2 g.sector o.sx.toNat r1) c o.db.base
        (decision (s.setCore c (x.after o)) r1).1) :=
    (startEff_sequence (cls_of_starts starts)).trans
      (seqEff_sample (r := r) row ((op_of_starts starts).trans op_) trap (clean_of_starts starts _) may vocab)
  have step' : ((decision (s.setCore c (x.after o)) r1).2.seqSec g.sector).step = some p := step
  rw [setRow_of_step step', decision_snd, show (decision (s.setCore c (x.after o)) r1).1 = (decision s r1).1 from rfl] at effect
  generalize (decision s r1).1 = bytes at effect ⊢
  obtain ⟨next, self, others, same⟩ := answer_of_starts starts answer residue effect
    (same_trans (update_free _ (s.free + 31)) (same_trans (update_seqSecs _ _) (clmPut_sameBut _ c _ _))) (by simp) (by simp)
  exact ⟨_, next, self, others, setSeqSec_same { s.setCore c (x.after o) with free := s.free + 31 } _ _,
    fun k hk => setSeqSec_other { s.setCore c (x.after o) with free := s.free + 31 } _ _ k hk, rfl, rfl, same⟩

end Starts

end Sequences

/-- Settles O10: the start of each instruction of the sequence unit, by the rule of its effect. -/
theorem sequenceUnit : Obligations.SequenceUnit := by
  unfold Obligations.SequenceUnit
  intro s c w x g o r residue row n q e entry
  refine ⟨fun starts rows len => ?_, fun starts trap => ?_, fun starts trap => ?_, fun starts trap may vocab p step => ?_⟩
  · exact answer_info starts residue row rfl rows len (i := .sqinfo c w) rfl
  · obtain ⟨t, next, self, others, ⟨clm, ls, sm⟩, same⟩ := answer_gather starts residue row rfl trap (i := .kvgather c w) rfl
    exact ⟨t, next, self, others, clm, ls, sm, same⟩
  · obtain ⟨t, next, self, others, sm, same⟩ := answer_put starts residue row rfl trap (i := .kvput c w) rfl
    exact ⟨t, next, self, others, sm, same_mono same (by simp)⟩
  · obtain ⟨t, next, self, others, sec, secs, free, clm, same⟩ := answer_sample starts residue row rfl trap may vocab step (i := .sample c w) rfl
    exact ⟨t, next, self, others, sec, secs, free, clm, same_mono same (by simp)⟩

end Sys2Proof.Proofs

/-!
SUPPORT. Locking of the Flash unit (R42 to R50): the windows, one equation for each way a pulse, a frame or a marker is answered, and the obligations
FlashLocking and ScheduledActions.
-/
namespace Sys2Proof.Proofs
open Sys2Proof.Machine Sys2Proof.Laws

/-! ### Windows and rejections (R46) -/

theorem window_eq_one {grid p at_ : Nat} (low : 100 * grid + 99 * p ≤ 100 * at_) (high : 100 * at_ ≤ 100 * grid + 101 * p) :
    window grid p at_ = 1 := by
  rw [window, if_neg (by omega), if_pos high]

theorem window_eq_zero {grid p at_ : Nat} (early : 100 * at_ < 100 * grid + 99 * p) : window grid p at_ = 0 := if_pos early

theorem window_eq_two {grid p at_ : Nat} (late : 100 * grid + 101 * p < 100 * at_) : window grid p at_ = 2 := by
  rw [window, if_neg (by omega), if_neg (by omega)]

theorem window_ne_one {grid p at_ : Nat} (out : 100 * at_ < 100 * grid + 99 * p ∨ 100 * grid + 101 * p < 100 * at_) :
    window grid p at_ ≠ 1 := by
  rcases out with early | late
  · simp [window_eq_zero early]
  · simp [window_eq_two late]

/-- What a raise over a changed Flash unit leaves. -/
theorem raise_flash_sameBut (s : State) (f : Flash) (off i : Nat) :
    SameBut [.flash, .regs, .out, .pci] s (raise { s with flash := f } off i) :=
  same_trans (update_flash s f) (raise_same _ off i)

theorem reject_flash (s : State) : (reject s).flash = { s.flash with rejects := min (s.flash.rejects + 1) 65535 } := raise_flash _ _ _

theorem evSet_reject (s : State) : evSet (reject s) evFLS 6 = true := evSet_raise_self _ evFLS 6 (by decide)

theorem reject_sameBut (s : State) : SameBut [.flash, .regs, .out, .pci] s (reject s) := raise_flash_sameBut s _ evFLS 6

/-! ### Pulses (R44 to R46) -/

section Pulse
variable {s : State} {at_ : Nat}

theorem notePulse_sameBut (s : State) (at_ : Nat) : SameBut [.flash] s (notePulse s at_) := update_flash s _

theorem flashPulse_unused (unused : usesFlashIn s = false) : exec (.flashPulse at_) s = .next s := by
  show execFlashPulse at_ s = _
  rw [execFlashPulse, unused]
  rfl

/-- The pending lock that judges the pulse (R45). -/
theorem notePulse_pend {x : PendLock} (pend : s.flash.pend = some x) (port : x.port = none) :
    (notePulse s at_).flash.pend.filter (fun x => x.port.isNone) = some x := by
  show s.flash.pend.filter _ = _
  simp [pend, port]

variable (used : usesFlashIn s = true)
include used

/-- Without a pending lock on FLASH_IN, a unit that is not locked to it measures the pulse. -/
theorem flashPulse_measured (none_ : s.flash.pend.filter (fun x => x.port.isNone) = none)
    (unlocked : ¬ (s.flash.st = .locked ∧ s.flash.src = .flashIn)) : exec (.flashPulse at_) s = .next (notePulse s at_) := by
  have pend : (notePulse s at_).flash.pend.filter (fun x => x.port.isNone) = none := none_
  have cond : ((notePulse s at_).flash.st = .locked && (notePulse s at_).flash.src = .flashIn) = false := by
    rw [Bool.and_eq_false_iff, decide_eq_false_iff_not, decide_eq_false_iff_not]
    exact not_and_or.1 unlocked
  show execFlashPulse at_ s = _
  simp only [execFlashPulse, used, Bool.not_true, Bool.false_eq_true, if_false, pend, cond]

theorem flashPulse_locked (none_ : s.flash.pend.filter (fun x => x.port.isNone) = none) (st : s.flash.st = .locked)
    (src : s.flash.src = .flashIn) : exec (.flashPulse at_) s = .next (if window s.flash.grid s.flash.est at_ = 1 then
      flashEdge (notePulse s at_) at_ (fun u => countUp { u with flash := acceptGap u.flash at_ }) else reject (notePulse s at_)) := by
  have pend : (notePulse s at_).flash.pend.filter (fun x => x.port.isNone) = none := none_
  have cond : ((notePulse s at_).flash.st = .locked && (notePulse s at_).flash.src = .flashIn) = true := by
    rw [Bool.and_eq_true, decide_eq_true_eq, decide_eq_true_eq]
    exact ⟨st, src⟩
  show execFlashPulse at_ s = _
  simp only [execFlashPulse, used, Bool.not_true, Bool.false_eq_true, if_false, pend, cond, if_true] <;> rfl

section Pending
variable {x : PendLock} (pend : s.flash.pend = some x) (port : x.port = none)
include pend port

theorem flashPulse_taken (inside : window x.base (x.p s.flash.est) at_ = 1) :
    exec (.flashPulse at_) s = .next (takeLock (notePulse s at_) x at_ .flashIn 0 0 false) := by
  have pend' := notePulse_pend (at_ := at_) pend port
  have inside' : window x.base (x.p (notePulse s at_).flash.est) at_ = 1 := inside
  show execFlashPulse at_ s = _
  simp only [execFlashPulse, used, Bool.not_true, Bool.false_eq_true, if_false, pend', inside']

theorem flashPulse_early (early : window x.base (x.p s.flash.est) at_ = 0) :
    exec (.flashPulse at_) s = .next (reject (notePulse s at_)) := by
  have pend' := notePulse_pend (at_ := at_) pend port
  have early' : window x.base (x.p (notePulse s at_).flash.est) at_ = 0 := early
  show execFlashPulse at_ s = _
  simp only [execFlashPulse, used, Bool.not_true, Bool.false_eq_true, if_false, pend', early']

theorem flashPulse_late (late : window x.base (x.p s.flash.est) at_ = 2) :
    exec (.flashPulse at_) s = .next (reject (abandonLock (notePulse s at_))) := by
  have pend' := notePulse_pend (at_ := at_) pend port
  have late' : window x.base (x.p (notePulse s at_).flash.est) at_ = 2 := late
  show execFlashPulse at_ s = _
  simp only [execFlashPulse, used, Bool.not_true, Bool.false_eq_true, if_false, pend', late']

end Pending

end Pulse

/-- A rejected pulse, whether it is measured first or gives a pending lock up. -/
theorem rejected_of_next {s m t : State} (next : t = reject m) (same : SameBut [.flash] s m) (count : m.flash.rejects = s.flash.rejects) :
    t.flash.rejects = min (s.flash.rejects + 1) 65535 ∧ evSet t evFLS 6 = true ∧ SameBut [.flash, .regs, .out, .pci] s t := by
  subst next
  refine ⟨?_, evSet_reject m, same_mono (same_trans same (reject_sameBut m)) (by simp)⟩
  rw [reject_flash, ← count]

/-! ### Frames (R42 to R48) -/

section Frame
variable {s : State} {b : List Byte} {start : Nat} (used : usesFlashIn s = true)
include used

theorem flashFrame_invalid (invalid : frameValid s b start = false) : exec (.flashFrame b start) s =
    .next (raise { s with flash := { s.flash with frameErrs := min (s.flash.frameErrs + 1) 65535 } } evFLS 5) := by
  show execFlashFrame b start s = _
  simp only [execFlashFrame, used, invalid, Bool.not_true, Bool.not_false, Bool.false_eq_true, if_false, if_true] <;> rfl

variable (valid : frameValid s b start = true)
include valid

theorem flashFrame_locked (st : s.flash.st = .locked) (src : s.flash.src = .flashIn) : exec (.flashFrame b start) s =
    .next (if fieldAt b 10 2 = s.flash.code then s else raise (enterHoldover { s with flash := { s.flash with
      held := some { num := fieldAt b 2 8, period := fieldAt b 10 2, gaps := [] } } } (start + 15200)) evFLS 4) := by
  show execFlashFrame b start s = _
  simp only [execFlashFrame, used, valid, st, src, Bool.not_true, Bool.false_eq_true, if_false, decide_true, Bool.and_self, if_true]

/-- Outside a lock to FLASH_IN, and with no pending lock, the frame is held, or makes a pair with the one held (R44). -/
theorem flashFrame_unlocked (unlocked : ¬ (s.flash.st = .locked ∧ s.flash.src = .flashIn)) (pend : s.flash.pend = none) :
    exec (.flashFrame b start) s = .next (match s.flash.held with
      | none => { s with flash := { s.flash with held := some { num := fieldAt b 2 8, period := fieldAt b 10 2, gaps := [] } } }
      | some h => if framesMatch h (fieldAt b 2 8) (fieldAt b 10 2) then
          { s with flash := { s.flash with
            held := none
            pend := some { num := fieldAt b 2 8 + 1, period := fieldAt b 10 2, seed := (h.gaps.reverse).take 16, base := s.flash.lastPulse.getD 0 } } }
        else { s with flash := { s.flash with held := some { num := fieldAt b 2 8, period := fieldAt b 10 2, gaps := [] } } }) := by
  have cond : (s.flash.st = .locked && s.flash.src = .flashIn) = false := by
    rw [Bool.and_eq_false_iff, decide_eq_false_iff_not, decide_eq_false_iff_not]
    exact not_and_or.1 unlocked
  show execFlashFrame b start s = _
  simp only [execFlashFrame, used, valid, cond, pend, Option.any_none, Bool.not_true, Bool.false_eq_true, if_false] <;> rfl

end Frame

theorem enterHoldover_flash (s : State) (at_ : Nat) : (enterHoldover s at_).flash =
    { setFreeRun s.flash true with st := .holdover, src := .none, port := 0, hops := 0, flywheel := 0, holdAt := at_,
                                   losses := min (s.flash.losses + 1) 65535 } := raise_flash _ _ _

theorem enterHoldover_sameBut (s : State) (at_ : Nat) : SameBut [.flash, .regs, .out, .pci] s (enterHoldover s at_) :=
  raise_flash_sameBut s _ evFLS 1

/-! ### Markers (R49, R50) -/

section Marker
variable {s : State} {port : Fin 16} {number : BitVec 64} {offset : Nat} {freeRun : Bool} {hops at_ : Nat}

theorem flashMarker_ignored (ignored : (s.port port.val).st ≠ .up ∨ markerPort s ≠ some port.val) :
    exec (.flashMarker port number offset freeRun hops at_) s = .next s := by
  have cond : ((s.port port.val).st != .up || markerPort s != some port.val) = true := by
    rw [Bool.or_eq_true, bne_iff_ne, bne_iff_ne]
    exact ignored
  show execFlashMarker port number offset freeRun hops at_ s = _
  simp only [execFlashMarker, cond, if_true]

variable (up : (s.port port.val).st = .up) (mine : markerPort s = some port.val)
include up mine

/-- In a unit locked to the port, with no pending lock, the marker is judged by its window (R46). -/
theorem flashMarker_locked (st : s.flash.st = .locked) (src : s.flash.src = .chain) (port_ : s.flash.port = port.val) (pend : s.flash.pend = none) :
    let t0 := at_ - offset - (s.port port.val).delay
    exec (.flashMarker port number offset freeRun hops at_) s = .next (if window s.flash.grid s.flash.est t0 = 1 then
      flashEdge s t0 (fun u =>
        countUp { u with flash := acceptGap { setFreeRun u.flash (freeRun || decide (7 < hops)) with hops := min 15 hops } t0 })
      else reject s) := by
  intro t0
  have ignored : ((s.port port.val).st != .up || markerPort s != some port.val) = false := by simp [up, mine]
  have awaited (grid : Nat) : edgeAwaited s grid = false := by rw [edgeAwaited, pend]
  show execFlashMarker port number offset freeRun hops at_ s = _
  simp only [execFlashMarker, ignored, awaited, st, src, port_, decide_true, Bool.and_self, Bool.false_eq_true, if_false, if_true] <;> rfl

theorem flashMarker_acquires (unlocked : s.flash.st ≠ .locked) (pend : s.flash.pend = none) :
    exec (.flashMarker port number offset freeRun hops at_) s =
      .next (acquireMarker s port.val number.toNat (at_ - offset - (s.port port.val).delay)) := by
  have ignored : ((s.port port.val).st != .up || markerPort s != some port.val) = false := by simp [up, mine]
  show execFlashMarker port number offset freeRun hops at_ s = _
  simp only [execFlashMarker, ignored, pend, unlocked, decide_false, Bool.false_and, Bool.false_eq_true, if_false]

end Marker

theorem acquireMarker_of_none (s : State) (p num at_ : Nat) (none_ : s.flash.heldMk = none) :
    acquireMarker s p num at_ = { s with flash := { s.flash with heldMk := some { port := p, num := num, at_ := at_, pair := none } } } := by
  simp only [acquireMarker, none_, Option.bind_none]

/-- A marker that pairs with the one held starts a pending lock in an unlocked unit (R44, R49). -/
theorem acquireMarker_of_pair (s : State) (p num at_ : Nat) {h : HeldMarker} (unlocked : s.flash.st ≠ .locked) (held : s.flash.heldMk = some h)
    (port : h.port = p) (next : h.num + 1 = num) (low : 247500 ≤ at_ - h.at_) (high : at_ - h.at_ ≤ 16160000) :
    acquireMarker s p num at_ = { s with flash := { s.flash with
      heldMk := none, pend := some { num := num + 1, period := s.flash.code, seed := [at_ - h.at_], base := at_, port := some p } } } := by
  simp only [acquireMarker, held, Option.bind_some, port, next, low, high, unlocked, decide_true, decide_false, Bool.and_self, Bool.false_and,
    Bool.false_eq_true, if_true, if_false]

/-! ### Scheduled actions (R55 to R59) -/

/-- What the entry `e` of the table enters, and what raising and signalling it may change (R56). -/
def EntryEnters (s t : State) (e : Nat) (st : SatSt) : Prop :=
  t.satEntry e = entered s (s.satEntry e) st ∧ (∀ d, d ≠ e → t.satEntry d = s.satEntry d) ∧ SameBut [.sat, .regs, .out, .pci] s t

theorem entryEnters_setSat (s : State) (e : Nat) (st : SatSt) : EntryEnters s (s.setSat e (entered s (s.satEntry e) st)) e st :=
  ⟨setSat_same _ _ _, fun d hd => setSat_other _ _ _ d hd, same_mono (setSat_sameBut _ _ _) (by simp)⟩

theorem EntryEnters.of_sat {s t u : State} {e : Nat} {st : SatSt} (enters : EntryEnters s t e st) (sat : u.sat = t.sat)
    (same : SameBut [.regs, .out, .pci] t u) : EntryEnters s u e st := by
  obtain ⟨self, others, kept⟩ := enters
  have entries (d : Nat) : u.satEntry d = t.satEntry d := by rw [State.satEntry, State.satEntry, sat]
  exact ⟨(entries e).trans self, fun d hd => (entries d).trans (others d hd), same_mono (same_trans kept same) (by simp)⟩

/-- The Flash interrupt that an entry may ask for. -/
theorem entryEnters_signalled {s t : State} {e : Nat} {st : SatSt} (enters : EntryEnters s t e st) (b : Bool) (v : Nat) :
    EntryEnters s (if b then sendMsix t v else t) e st := by
  cases b
  · exact enters
  · exact enters.of_sat (sendMsix_same t v .sat (by simp)) (same_mono (sendMsix_same t v) (by simp))

theorem satEnter_enters (s : State) (e : Nat) (st : SatSt) : EntryEnters s (satEnter s e st) e st := by
  have raised : EntryEnters s (if st.terminal && st != .done && st != .cancelled then
      raise (s.setSat e (entered s (s.satEntry e) st)) evFLS 7 else s.setSat e (entered s (s.satEntry e) st)) e st := by
    split
    · exact (entryEnters_setSat s e st).of_sat (raise_sat _ _ _) (raise_same _ _ _)
    · exact entryEnters_setSat s e st
  exact entryEnters_signalled raised _ _

theorem evSet_congr {s t : State} (regs : t.regs = s.regs) (off i : Nat) : evSet t off i = evSet s off i := by
  rw [evSet, evSet, evBits, evBits, regs]

/-- INVALID and LATE set SAT_MISSED (R56). -/
theorem evSet_satEnter (s : State) (e : Nat) {st : SatSt} (missed : (st.terminal && st != .done && st != .cancelled) = true) :
    evSet (satEnter s e st) evFLS 7 = true := by
  have raised := evSet_raise_self (s.setSat e (entered s (s.satEntry e) st)) evFLS 7 (by decide)
  simp only [satEnter, missed, if_true]
  split
  · exact (evSet_congr (sendMsix_same _ _ .regs (by simp)) evFLS 7).trans raised
  · exact raised

section Arm
variable {s : State} {e : Fin 256} (host : e.val < 224) (idle : (s.satEntry e.val).st ≠ .armed)
include host

theorem satArm_of_armed (armed : (s.satEntry e.val).st = .armed) : exec (.satArm e) s = .next s := by
  show execSatArm e s = _
  rw [execSatArm, if_pos host, satArmNow, if_pos armed]

theorem satCancel_of_host : exec (.satCancel e) s = .next (satCancelNow s e.val) := by
  show execSatCancel e s = _
  rw [execSatCancel, if_pos host]

theorem satClear_of_armed (armed : (s.satEntry e.val).st = .armed) : exec (.satClear e) s = .next s := by
  have running : (s.satEntry e.val).st.terminal = false := by rw [armed]; rfl
  show execSatClear e s = _
  rw [execSatClear, running, if_pos host]
  rfl

include idle

theorem satArm_of_invalid (bad : satOperandOk (s.satEntry e.val).action (s.satEntry e.val).op.toNat = false ∨ (s.satEntry e.val).action = 1) :
    exec (.satArm e) s = .next (satEnter s e.val .invalid) := by
  have invalid : (!satOperandOk (s.satEntry e.val).action (s.satEntry e.val).op.toNat || (true && (s.satEntry e.val).action == 1)) = true := by
    simpa using bad
  show execSatArm e s = _
  rw [execSatArm, if_pos host]
  simp only [satArmNow, idle, invalid, if_false, if_true]

/-- A valid entry is LATE where its time has passed, and ARMED elsewhere (R57). -/
theorem satArm_of_valid (operand : satOperandOk (s.satEntry e.val).action (s.satEntry e.val).op.toNat = true) (action : (s.satEntry e.val).action ≠ 1) :
    exec (.satArm e) s = .next (satEnter s e.val (if satPast s (s.satEntry e.val) then .late else .armed)) := by
  have valid : (!satOperandOk (s.satEntry e.val).action (s.satEntry e.val).op.toNat || (true && (s.satEntry e.val).action == 1)) = false := by
    simp [operand, action]
  show execSatArm e s = _
  rw [execSatArm, if_pos host]
  simp only [satArmNow, idle, valid, if_false, Bool.false_eq_true]
  split <;> rfl

end Arm

theorem satClear_of_terminal {s : State} {e : Fin 256} (terminal : (s.satEntry e.val).st.terminal = true) :
    exec (.satClear e) s = .next (satEnter s e.val .empty) := by
  show execSatClear e s = _
  rw [execSatClear, if_pos terminal]

theorem terminal_of_ne {st : SatSt} (empty : st ≠ .empty) (armed : st ≠ .armed) : st.terminal = true := by
  cases st with
  | empty => exact absurd rfl empty
  | armed => exact absurd rfl armed
  | _ => rfl

/-! ### The obligations -/

/-- Settles O14: pulses, frames and markers, a case for each way they are judged (R42 to R50). -/
theorem flashLocking : Obligations.FlashLocking := by
  unfold Obligations.FlashLocking
  refine ⟨fun s at_ => ⟨flashPulse_unused, fun used none_ => ⟨fun unlocked => ?_, fun st src low high => ?_, fun st src out => ?_⟩,
      fun used x pend port => ⟨fun low high => ?_, fun early => ?_, fun late => ?_⟩⟩,
    fun s b start used => ⟨fun invalid => ?_, fun valid st src same => ?_, fun valid st src other => ?_, fun valid unlocked pend held => ?_,
      fun valid unlocked pend h held match_ => ?_⟩,
    fun s port number offset freeRun hops at_ => ⟨flashMarker_ignored, fun up mine => ⟨fun st src port_ pend low high => ?_,
      fun st src port_ pend out => ?_, fun unlocked pend held => ?_, fun unlocked pend h held port_ next low high => ?_⟩⟩⟩
  · exact ⟨flashPulse_measured used none_ unlocked, rfl, notePulse_sameBut s at_⟩
  · rw [flashPulse_locked used none_ st src, if_pos (window_eq_one low high)]
  · have flash := reject_flash (notePulse s at_)
    rw [flashPulse_locked used none_ st src, if_neg (window_ne_one out)]
    exact ⟨_, rfl, rejected_of_next rfl (notePulse_sameBut s at_) rfl, by rw [flash]; rfl, by rw [flash]; rfl⟩
  · exact flashPulse_taken used pend port (window_eq_one low high)
  · refine ⟨_, flashPulse_early used pend port (window_eq_zero early), rejected_of_next rfl (notePulse_sameBut s at_) rfl, ?_⟩
    rw [reject_flash]
    exact pend
  · have same : SameBut [.flash] s (abandonLock (notePulse s at_)) :=
      same_mono (same_trans (notePulse_sameBut s at_) (update_flash (notePulse s at_) _)) (by simp)
    refine ⟨_, flashPulse_late used pend port (window_eq_two late), rejected_of_next rfl same rfl, ?_, ?_⟩ <;> rw [reject_flash] <;> rfl
  · exact ⟨_, flashFrame_invalid used invalid, raise_flash _ _ _, evSet_raise_self _ evFLS 5 (by decide), raise_flash_sameBut s _ evFLS 5⟩
  · rw [flashFrame_locked used valid st src, if_pos same]
  · have flash (at_ : Nat) (held : Option HeldFrame) : (raise (enterHoldover { s with flash := { s.flash with held := held } } at_) evFLS 4).flash = _ :=
      (raise_flash _ _ _).trans (enterHoldover_flash _ _)
    rw [flashFrame_locked used valid st src, if_neg other]
    refine ⟨_, rfl, ?_, ?_, ?_, ?_, ?_, ?_, evSet_raise_self _ evFLS 4 (by decide),
      same_mono (same_trans (update_flash s _) (same_trans (enterHoldover_sameBut _ _) (raise_same _ _ _))) (by simp)⟩ <;>
      rw [flash] <;> rfl
  · rw [flashFrame_unlocked used valid unlocked pend]
    rcases held with none_ | ⟨h, held, differ⟩
    · rw [none_]
    · simp only [held, differ, Bool.false_eq_true, if_false]
  · rw [flashFrame_unlocked used valid unlocked pend]
    simp only [held, match_, if_true]
    exact ⟨_, rfl, rfl, ⟨_, rfl, rfl, rfl, rfl, rfl⟩, update_flash s _⟩
  · rw [flashMarker_locked up mine st src port_ pend, if_pos (window_eq_one low high)]
  · rw [flashMarker_locked up mine st src port_ pend, if_neg (window_ne_one out)]
    exact ⟨_, rfl, reject_flash s, evSet_reject s, reject_sameBut s⟩
  · rw [flashMarker_acquires up mine unlocked pend, acquireMarker_of_none s _ _ _ held]
  · rw [flashMarker_acquires up mine unlocked pend, acquireMarker_of_pair s _ _ _ unlocked held port_ next low high]

/-- Settles O16: what arming, cancelling and clearing make of an entry, through the entering of its state (R55 to R59). -/
theorem scheduledActions : Obligations.ScheduledActions := by
  unfold Obligations.ScheduledActions
  intro s e x entered
  have done {i : Instr} {st : SatSt} (next : exec i s = .next (satEnter s e.val st)) : ∃ t, exec i s = .next t ∧ entered t st :=
    ⟨_, next, satEnter_enters s e.val st⟩
  refine ⟨fun host idle bad => ?_, fun host idle operand action past => ?_, fun host idle operand action later => ?_,
    fun host armed => satArm_of_armed host armed, fun host armed => ?_, fun host idle => ?_, fun empty armed => ?_,
    fun armed host => satClear_of_armed host armed, fun unit => ?_⟩
  · exact ⟨_, satArm_of_invalid host idle bad, satEnter_enters s e.val _, evSet_satEnter s e.val rfl⟩
  · have next := satArm_of_valid host idle operand action
    rw [if_pos past] at next
    exact ⟨_, next, satEnter_enters s e.val _, evSet_satEnter s e.val rfl⟩
  · have next := satArm_of_valid host idle operand action
    rw [if_neg (by rw [later]; decide)] at next
    refine ⟨_, next, satEnter_enters s e.val _, ?_⟩
    rw [satEnter_armed]
    exact setSat_sameBut _ _ _
  · exact done ((satCancel_of_host host).trans (by rw [satCancelNow, if_pos armed]))
  · rw [satCancel_of_host host, satCancelNow_of_not_armed _ _ idle]
  · exact done (satClear_of_terminal (terminal_of_ne empty armed))
  · have refused : ¬ e.val < 224 := by omega
    rw [List.forall_mem_cons, List.forall_mem_singleton]
    refine ⟨refused_of_raise (ev := evFLS) (i := 8) (by decide) ?_, refused_of_raise (ev := evFLS) (i := 8) (by decide) ?_⟩
    · show execSatArm e s = _
      rw [execSatArm, if_neg refused, satWriteErr]
    · show execSatCancel e s = _
      rw [execSatCancel, if_neg refused, satWriteErr]

end Sys2Proof.Proofs

/-!
SUPPORT. The frames of the keyed updates of the state, of the marks of progress (R494) and of what goes out, and what only reads a part.
-/
namespace Sys2Proof.Proofs
open Sys2Proof.Machine Sys2Proof.Laws

/-- A fold whose elements each leave the start as it is. -/
theorem foldl_fixed_of_mem {α β : Type _} {f : α → β → α} {a : α} {l : List β} (fixed : ∀ b ∈ l, f a b = a) : l.foldl f a = a := by
  induction l with
  | nil => rfl
  | cons b l ih =>
    rw [List.foldl_cons, fixed b (List.mem_cons_self ..)]
    exact ih fun c hc => fixed c (List.mem_cons_of_mem _ hc)

section Frames
variable (s : State)

theorem setRing_sameBut (q : Nat) (x : Ring) : SameBut [.rings] s (s.setRing q x) := update_rings s _
theorem setCtx_sameBut (c : Nat) (x : Ctx) : SameBut [.ctxs] s (s.setCtx c x) := update_ctxs s _
theorem setEvent_sameBut (e : Nat) (x : Event) : SameBut [.events] s (s.setEvent e x) := update_events s _
theorem setSector_sameBut (n : Nat) (x : Sector) : SameBut [.sectors] s (s.setSector n x) := update_sectors s _
theorem setGroup_sameBut (g : Nat) (x : Option Machine.Group) : SameBut [.groups] s (s.setGroup g x) := update_groups s _
theorem setSeq_sameBut (n : Nat) (x : Seq) : SameBut [.seqs] s (s.setSeq n x) := update_seqs s _
theorem setSeqSec_sameBut (n : Nat) (x : SeqSec) : SameBut [.seqSecs] s (s.setSeqSec n x) := update_seqSecs s _
theorem setRes_sameBut (r : Nat) (x : Res) : SameBut [.res] s (s.setRes r x) := update_res s _
theorem setGen_sameBut (n : Nat) (x : Gens) : SameBut [.gens] s (s.setGen n x) := update_gens s _
theorem setWatch_sameBut (k : Nat) (x : Watch) : SameBut [.hng] s (s.setWatch k x) := update_hng s _
theorem setFrz_sameBut (n : Nat) (x : Frz) : SameBut [.frz] s (s.setFrz n x) := update_frz s _
theorem setTnd_sameBut (n : Nat) (x : Tnd) : SameBut [.tnd] s (s.setTnd n x) := update_tnd s _
theorem setPort_sameBut (p : Nat) (x : Port) : SameBut [.chn] s (s.setPort p x) := update_chn s _
theorem setLane_sameBut (l : Nat) (x : Lane) : SameBut [.chn] s (s.setLane l x) := update_chn s _
theorem hostWrite_sameBut (pasid : Option Nat) (addr : Nat) (bytes : List Byte) (final : Bool) :
    SameBut [.out] s (hostWrite s pasid addr bytes final) := update_out s _

/-! ### Marks of progress (R494) -/

theorem markWatch_sameBut (k : Nat) : SameBut [.hng] s (markWatch s k) := setWatch_sameBut s k _
theorem markLantern_sameBut (n : Nat) : SameBut [.hng] s (markLantern s n) := markWatch_sameBut s _
theorem markSeqEngine_sameBut (n : Nat) : SameBut [.hng] s (markSeqEngine s n) := markWatch_sameBut s _

theorem markCtx_sameBut (c : Nat) : SameBut [.hng] s (markCtx s c) := by
  unfold markCtx
  split
  · exact same_refl s _
  · exact markWatch_sameBut s _

theorem seqCount_sameBut (n i k : Nat) : SameBut [.ctr] s (seqCount s n i k) := bump_sameBut s _ k

end Frames

theorem seqSec_congr {s t : State} (same : t.seqSecs = s.seqSecs) (n : Nat) : t.seqSec n = s.seqSec n := by
  rw [State.seqSec, State.seqSec, same]

end Sys2Proof.Proofs

/-!
SUPPORT. Spills and pulls of KV blocks (R224 to R226): what their ends leave where nothing else is to spill or to pull, and the obligation BlockMoves.
-/
namespace Sys2Proof.Proofs
open Sys2Proof.Machine Sys2Proof.Laws

theorem setBlk_blk (s : State) (n d : Nat) (b : Blk) : (s.setBlk n d b).blk n d = b := by
  rw [State.blk, State.setBlk, setSeqSec_same]
  exact tget_tput_same _ _ _ _

theorem setBlk_blk_other (s : State) (n d : Nat) (b : Blk) {e : Nat} (other : e ≠ d) : (s.setBlk n d b).blk n e = s.blk n e := by
  rw [State.blk, State.setBlk, setSeqSec_same]
  exact tget_tput_other _ _ _ _ _ _ other

theorem setBlk_sameBut (s : State) (n d : Nat) (b : Blk) : SameBut [.seqSecs] s (s.setBlk n d b) := setSeqSec_sameBut s n _

theorem blk_of_seqSecs {s t : State} (same : t.seqSecs = s.seqSecs) (n d : Nat) : t.blk n d = s.blk n d := by
  rw [State.blk, State.blk, State.seqSec, State.seqSec, same]

/-- Clearing SPILLING leaves the blocks. -/
theorem setSpilling_blk (s : State) (n e : Nat) : (s.setSeqSec n { s.seqSec n with spilling := false }).blk n e = s.blk n e := by
  rw [State.blk, setSeqSec_same]
  rfl

/-- With LOW and HIGH zero and no row held, nothing is to spill. -/
theorem spillPump_of_zero {s : State} {n : Nat} (zero : bits (spillReg s n) 15 0 = 0) :
    spillPump s n false = s.setSeqSec n { s.seqSec n with spilling := false } := by
  have low : bits (spillReg s n) 7 0 = 0 := by simp only [bits] at zero ⊢; omega
  have high : bits (spillReg s n) 15 8 = 0 := by simp only [bits] at zero ⊢; omega
  simp only [spillPump, low, high, Nat.zero_mul, Nat.not_lt_zero, decide_false, Bool.and_false, Bool.or_self, Bool.not_false, if_true]

/-- Where no sequence pulls, nothing is to pull. -/
theorem pumpPulls_of_none {s : State} (n : Nat) (idle : ∀ p ∈ s.seqs, (s.seq p.1).st ≠ .pulling) : pumpPulls s n = s := by
  refine foldl_fixed_of_mem fun p hp => ?_
  simp [idle p hp]

/-! ### Spills (R225) -/

/-- The state whose spilled block has been counted. -/
def spilled (s : State) (n d : Nat) : State :=
  seqCount (markSeqEngine (s.setBlk n d { s.blk n d with st := .spilled, begun := false }) n) n (if (s.blk n d).hostTier then 8 else 7) 1

theorem spillDone_eq (s : State) (n d : Nat) : spillDone s n d = pumpPulls (spillPump (spilled s n d) n false) n := rfl

theorem spilled_counted (s : State) (n d : Nat) :
    SameBut [.hng, .ctr] (s.setBlk n d { s.blk n d with st := .spilled, begun := false }) (spilled s n d) :=
  same_trans (markSeqEngine_sameBut _ n) (seqCount_sameBut _ n _ 1)

/-- Nothing else to spill or to pull: only SPILLING is cleared. -/
theorem pumps_of_idle {s : State} {n : Nat} (zero : bits (spillReg s n) 15 0 = 0) (idle : ∀ p ∈ s.seqs, (s.seq p.1).st ≠ .pulling) :
    pumpPulls (spillPump s n false) n = s.setSeqSec n { s.seqSec n with spilling := false } := by
  rw [spillPump_of_zero zero]
  exact pumpPulls_of_none n idle

/-- A spill that ends where nothing else is to spill or to pull. -/
theorem spillDone_of_idle {s : State} {n : Nat} (d : Nat) (zero : bits (spillReg s n) 15 0 = 0) (idle : ∀ p ∈ s.seqs, (s.seq p.1).st ≠ .pulling) :
    let t := spillDone s n d
    t.blk n d = { s.blk n d with st := .spilled, begun := false } ∧ (∀ e, e ≠ d → t.blk n e = s.blk n e) ∧ t.out = s.out ∧
      SameBut [.seqSecs, .ctr, .hng] s t := by
  rw [spillDone_eq]
  have counted := spilled_counted s n d
  have blks (e : Nat) := blk_of_seqSecs (counted .seqSecs (by simp)) n e
  have same : SameBut [.seqSecs, .hng, .ctr] s (spilled s n d) := same_trans (setBlk_sameBut s n d _) counted
  generalize spilled s n d = u at counted blks same
  have regs : u.regs = s.regs := same .regs (by simp)
  have seqs : u.seqs = s.seqs := same .seqs (by simp)
  rw [pumps_of_idle (s := u) (by rwa [spillReg, seqReg, regs]) (by simpa only [State.seq, seqs] using idle)]
  exact ⟨(setSpilling_blk u n d).trans ((blks d).trans (setBlk_blk s n d _)),
    fun e he => (setSpilling_blk u n e).trans ((blks e).trans (setBlk_blk_other s n d _ he)), same .out (by simp),
    same_mono (same_trans same (setSeqSec_sameBut u n _)) (by simp)⟩

/-- The writes of a spill's rows to its slot, newest first. -/
theorem foldl_hostWrite (pasid : State → Option Nat) (data : State → Nat × Nat → List Byte) (addr : Nat × Nat → Nat)
    (pasid_ : ∀ (s : State) v, pasid { s with out := v } = pasid s) (data_ : ∀ (s : State) v, data { s with out := v } = data s)
    (l : List (Nat × Nat)) (s : State) :
    l.foldl (fun s r => hostWrite s (pasid s) (addr r) (data s r) false) s =
      { s with out := (l.map (fun r => Out.hostWrite (pasid s) (addr r) (data s r) false)).reverse ++ s.out } := by
  induction l generalizing s with
  | nil => rfl
  | cons r l ih =>
    rw [List.foldl_cons, ih]
    simp only [hostWrite, State.emit, pasid_, data_, List.map_cons, List.reverse_cons, List.append_assoc, List.singleton_append]

section Spill
variable {s : State} {n : Fin 16} {d : Nat} {host : HostView}

theorem spillComplete_of_other (other : (s.blk n.val d).st ≠ .spilling ∨ blkWaits s n.val d = true) :
    exec (.spillComplete n d host) s = .next s := by
  have cond : ((s.blk n.val d).st != .spilling || blkWaits s n.val d) = true := by simpa using other
  show execSpillComplete n d host s = _
  simp only [execSpillComplete, cond, if_true]

variable (st : (s.blk n.val d).st = .spilling) (still : blkWaits s n.val d = false)
include st still

theorem spillComplete_of_pool (pool : (s.blk n.val d).hostTier = false) :
    exec (.spillComplete n d host) s = .next (spillDone s n.val d) := by
  show execSpillComplete n d host s = _
  simp only [execSpillComplete, st, still, pool, bne_self_eq_false, Bool.or_self, Bool.false_eq_true, if_false, Bool.not_false, if_true]

/-- To the host tier, where host memory takes every page. -/
theorem spillComplete_of_host (tier : (s.blk n.val d).hostTier = true) (pages : s.env.badPages = []) :
    exec (.spillComplete n d host) s = .next (spillDone { s with
      out := ((blkRanges s n.val (s.blk n.val d)).map (fun r => Out.hostWrite (s.ctx (stepCtx s n.val 0)).pasid (slotAddr s n.val (s.blk n.val d) + r.1)
        (cread s.sm (smKey n.val (frameAddr s n.val (s.blk n.val d) + r.1)) r.2) false)).reverse ++ s.out } n.val d) := by
  have takes (l : List Nat) : l.all (hostWriteOk s) = true := by simp [hostWriteOk, pages]
  have writes := foldl_hostWrite (fun u => (u.ctx (stepCtx u n.val 0)).pasid)
    (fun u r => cread u.sm (smKey n.val (frameAddr u n.val (s.blk n.val d) + r.1)) r.2) (fun r => slotAddr s n.val (s.blk n.val d) + r.1)
    (fun _ _ => rfl) (fun _ _ => rfl) (blkRanges s n.val (s.blk n.val d)) s
  show execSpillComplete n d host s = _
  simp only [execSpillComplete, st, still, tier, bne_self_eq_false, Bool.or_self, Bool.false_eq_true, if_false, Bool.not_true, takes, if_true, writes]

end Spill

/-! ### Pulls (R226) -/

/-- A pull that ends where no sequence pulls. -/
theorem pullDone_of_idle {s : State} {n : Nat} (d : Nat) (direct : (s.blk n d).fallback = false) (idle : ∀ p ∈ s.seqs, (s.seq p.1).st ≠ .pulling) :
    let t := pullDone s n d
    t.blk n d = { s.blk n d with st := .resident, begun := false, hostTier := false, fallback := false, fb := [] } ∧
      t.sm = s.sm ∧ SameBut [.seqSecs, .ctr, .hng] s t := by
  let b : Blk := { s.blk n d with st := .resident, begun := false, hostTier := false, fallback := false, fb := [] }
  let u := seqCount (markCtx (markSeqEngine (s.setBlk n d b) n) (s.blk n d).ctx) n 9 1
  have slots : (slotsNaming s n d).filter (fun i => (s.seq i).st == .pulling) = [] := by
    rw [List.filter_eq_nil_iff]
    intro i hi
    obtain ⟨p, hp, rfl⟩ := List.mem_map.1 hi
    simpa using idle p (List.mem_filter.1 hp).1
  have same : SameBut [.seqSecs, .ctr, .hng] s u :=
    same_mono (same_trans (setBlk_sameBut s n d b) (same_trans (markSeqEngine_sameBut _ n)
      (same_trans (markCtx_sameBut _ (s.blk n d).ctx) (seqCount_sameBut _ n 9 1)))) (by simp)
  have seqs : u.seqs = s.seqs := same .seqs (by simp)
  have whole : pullDone s n d = u := by
    simp only [pullDone, slots, direct, Bool.and_false, Bool.false_eq_true, if_false, List.foldl_nil]
    refine pumpPulls_of_none n ?_
    show ∀ p ∈ u.seqs, (u.seq p.1).st ≠ .pulling
    simpa only [State.seq, seqs] using idle
  have marked : SameBut [.hng, .ctr] (s.setBlk n d b) u :=
    same_mono (same_trans (markSeqEngine_sameBut _ n) (same_trans (markCtx_sameBut _ (s.blk n d).ctx) (seqCount_sameBut _ n 9 1))) (by simp)
  intro t
  rw [show t = u from whole]
  exact ⟨(blk_of_seqSecs (marked .seqSecs (by simp)) n d).trans (setBlk_blk s n d b), same .sm (by simp), same⟩

/-- Rows written to Sector memory whose lines hold no error. -/
theorem foldl_smPut_of_clean {α : Type} (n : Nat) (addr : State → α → Nat) (data : α → List Byte) (addr_ : ∀ (s : State) v, addr { s with sm := v } = addr s)
    (l : List α) {s : State} (clean : s.smChk = []) :
    l.foldl (fun s p => smPut s n (addr s p) (data p)) s =
      { s with sm := l.foldl (fun m p => cwrite m (smKey n (addr s p)) (data p)) s.sm } := by
  induction l generalizing s with
  | nil => rfl
  | cons p l ih =>
    rw [List.foldl_cons, smPut_of_clean clean, ih (s := { s with sm := cwrite s.sm (smKey n (addr s p)) (data p) }) clean, List.foldl_cons]
    simp only [addr_]

section Pull
variable {s : State} {n : Fin 16} {d : Nat} {host : HostView}

theorem pullComplete_of_other (other : (s.blk n.val d).st ≠ .pulling ∨ blkWaits s n.val d = true) :
    exec (.pullComplete n d host) s = .next s := by
  have cond : ((s.blk n.val d).st != .pulling || blkWaits s n.val d) = true := by simpa using other
  show execPullComplete n d host s = _
  simp only [execPullComplete, cond, if_true]

theorem pullComplete_of_host (st : (s.blk n.val d).st = .pulling) (still : blkWaits s n.val d = false) (clean : s.smChk = [])
    (given : ∀ p ∈ pullParts s n.val (s.blk n.val d), hostRead host p.2.1 p.2.2 ≠ none) :
    exec (.pullComplete n d host) s = .next (pullDone { s with sm := ((pullParts s n.val (s.blk n.val d)).foldl
      (fun m p => cwrite m (smKey n.val (frameAddr s n.val (s.blk n.val d) + p.1)) ((hostRead host p.2.1 p.2.2).getD [])) s.sm) } n.val d) := by
  have found : (pullParts s n.val (s.blk n.val d)).find? (fun p => (hostRead host p.2.1 p.2.2).isNone) = none := by
    rw [List.find?_eq_none]
    intro p hp
    simpa using given p hp
  have writes := foldl_smPut_of_clean n.val (fun u (p : Nat × Nat × Nat) => frameAddr u n.val (s.blk n.val d) + p.1)
    (fun p => (hostRead host p.2.1 p.2.2).getD []) (fun _ _ => rfl) (pullParts s n.val (s.blk n.val d)) clean
  show execPullComplete n d host s = _
  simp only [execPullComplete, st, still, bne_self_eq_false, Bool.or_self, Bool.false_eq_true, if_false, found, writes]

end Pull

/-! ### The obligation -/

/-- Settles O24: the ends of a spill and of a pull, each through what is done once nothing of the block's move is outstanding (R224 to R226). -/
theorem blockMoves : Obligations.BlockMoves := by
  unfold Obligations.BlockMoves
  intro s n d host b zero _ idle
  refine ⟨fun st still pool => ?_, fun st still tier pages => ?_, spillComplete_of_other, fun st still _ direct clean given => ?_,
    pullComplete_of_other⟩
  · obtain ⟨self, others, -, same⟩ := spillDone_of_idle d zero idle
    exact ⟨_, spillComplete_of_pool st still pool, self, others, same⟩
  · have done (w : List Out) := spillDone_of_idle (s := { s with out := w }) d zero idle
    exact ⟨_, spillComplete_of_host st still tier pages, (done _).1, (done _).2.2.1, same_mono (same_trans (update_out s _) (done _).2.2.2) (by simp)⟩
  · have done (w : List Host.Cell) := pullDone_of_idle (s := { s with sm := w }) (n := n.val) d direct idle
    exact ⟨_, pullComplete_of_host st still clean given, (done _).1, (done _).2.1, same_mono (same_trans (update_sm s _) (done _).2.2) (by simp)⟩

end Sys2Proof.Proofs

/-!
SUPPORT. The configuration of the step scheduler (R230): enabling, disabling, a write of a configuration register, and the obligation SchedulerConfig.
-/
namespace Sys2Proof.Proofs
open Sys2Proof.Machine Sys2Proof.Laws

theorem bit_setBits_63 (x : Word) (v : Nat) : bit (setBits x 63 63 v).toNat 63 = (v % 2 == 1) := by
  have lt := x.isLt
  have field : bits (setBits x 63 63 v).toNat 63 63 = v % 2 := by
    simp only [bits, setBits, BitVec.toNat_ofNat]
    omega
  rw [bit, field]

theorem evSet_raiseSeq_self (s : State) (n : Nat) {i : Nat} (h : i < 64) : evSet (raiseSeq s n i) evSEQ i = true := evSet_raise_self _ evSEQ i h

theorem setReg_seqSec (s : State) (off : Nat) (v : Word) (n : Nat) : (setReg s off v).seqSec n = s.seqSec n := rfl

/-! ### ENABLE and DISABLE -/

section Enable
variable {s : State} {n : Fin 16}

theorem schedEnable_of_enabled (on : (s.seqSec n.val).enabled = true) : exec (.schedEnable n) s = .next s := by
  show execSchedEnable n s = _
  simp only [execSchedEnable, schedOn, on, Bool.or_true, if_true]

theorem schedDisable_eq (exist : (s.sector n.val).exists_ = true) : exec (.schedDisable n) s =
    .next (setReg (s.setSeqSec n.val { s.seqSec n.val with enabled := false }) (schedOff n.val)
      (setBits (regNow s (schedOff n.val)) 63 63 0)) := by
  show execSchedDisable n s = _
  simp only [execSchedDisable, exist, Bool.not_true, Bool.false_eq_true, if_false] <;> rfl

variable (exist : (s.sector n.val).exists_ = true) (off : (s.seqSec n.val).enabled = false) (noSecond : bit (stepReg s n.val 1) 63 = false)
include exist off noSecond

/-- With the first program alone, which is read, and no error of the configuration (R230). -/
theorem schedEnable_of_good {l : List Launch} (first : bit (stepReg s n.val 0) 63 = true) (read : readProgram s n.val 0 = (some l, s))
    (good : cfgErr s n.val true = 0) (some_ : l ≠ []) : exec (.schedEnable n) s =
      .next (setReg (s.setSeqSec n.val { s.seqSec n.val with cfgErr := 0, enabled := true, program := [(0, l)] }) (schedOff n.val)
        (setBits (regNow s (schedOff n.val)) 63 63 1)) := by
  have program : tput [] (tput [] [] 0 l) 1 [] = [(0, l)] := by simp [tput, tins, some_]
  show execSchedEnable n s = _
  simp only [execSchedEnable, schedOn, exist, off, first, noSecond, read, good, program, Bool.not_true, Bool.or_self, Bool.false_eq_true, if_false,
    if_true, Option.isSome_some, Bool.not_false, Bool.true_or, Bool.and_self, bne_self_eq_false, Option.getD_some, Option.getD_none] <;> rfl

theorem schedEnable_of_bad {e : Nat} (noFirst : bit (stepReg s n.val 0) 63 = false) (bad : cfgErr s n.val false = e) (error : e ≠ 0) :
    exec (.schedEnable n) s = .next (raiseSeq (s.setSeqSec n.val { s.seqSec n.val with cfgErr := e }) n.val 1) := by
  have error' : (e != 0) = true := by simpa using error
  show execSchedEnable n s = _
  simp only [execSchedEnable, schedOn, exist, off, noFirst, noSecond, bad, error', Bool.not_true, Bool.or_self, Bool.false_eq_true, if_false,
    if_true, Option.isSome_none, Bool.false_and]

end Enable

/-! ### A write of SEQ_SEC_POOL -/

theorem regFind_seqPool (n : Fin 16) : regFind (0xB1008 + 0x100 * n.val) = some ⟨0xb1008, 0x100, 16, 0, 1, false, 0x3fffffffffff, 0, 0⟩ := by
  revert n
  decide

/-- A full write of it takes all of its 46 bits. -/
theorem seqPool_write (old : Nat) (v : Word) :
    (BitVec.ofNat 64 (RegRow.write ⟨0xb1008, 0x100, 16, 0, 1, false, 0x3fffffffffff, 0, 0⟩ old (2 ^ 64 - 1) v.toNat)).toNat % 2 ^ 46 =
      v.toNat % 2 ^ 46 := by
  apply Nat.eq_of_testBit_eq
  intro i
  rw [BitVec.toNat_ofNat, Nat.testBit_mod_two_pow, Nat.testBit_mod_two_pow, Nat.testBit_mod_two_pow,
    testBit_write _ _ _ _ _ (by simp), Nat.testBit_two_pow_sub_one]
  by_cases inside : i < 46
  · have writable : Nat.testBit 0x3fffffffffff i = true := by
      rw [show 0x3fffffffffff = 2 ^ 46 - 1 from rfl, Nat.testBit_two_pow_sub_one, decide_eq_true inside]
    have low : i < 64 := by omega
    simp only [writable, low, inside, decide_true, Bool.and_self, Bool.true_and, if_true]
  · simp only [inside, decide_false, Bool.false_and]

section Write
variable {s : State} {n : Fin 16} (exist : (s.sector n.val).exists_ = true) (v : Word)
include exist

/-- A write of SEQ_SEC_POOL is taken while the scheduler is disabled and no sequence is open (R230). -/
theorem seqConfigWrite_pool : exec (.seqConfigWrite (0xB1008 + 0x100 * n.val) 8 v) s =
    .next (if !(s.seqSec n.val).enabled && openSeqs s n.val == 0 then
      setReg s (0xB1008 + 0x100 * n.val) (BitVec.ofNat 64 (RegRow.write ⟨0xb1008, 0x100, 16, 0, 1, false, 0x3fffffffffff, 0, 0⟩
        (regNow s (0xB1008 + 0x100 * n.val)).toNat (2 ^ 64 - 1) v.toNat))
      else raiseSeq s n.val 0) := by
  have lt := n.isLt
  have span := wrSpan_word (0xB1008 + 0x100 * n.val) v (by simp [inBlock]; omega) (by omega)
  have sector : (0xB1008 + 0x100 * n.val - 0xB1000) / 0x100 = n.val := by omega
  have field : (0xB1008 + 0x100 * n.val - 0xB1000) % 0x100 = 8 := by omega
  have inside : ¬ 0xB1008 + 0x100 * n.val < 0xB1000 := by omega
  have some_ : ¬ 16 ≤ n.val := by omega
  have known : [0, 8, 0x10, 0x18, 0x20, 0x28, 0x38, 0x40].contains 8 = true := by decide
  show execSeqConfigWrite _ 8 v s = _
  simp only [execSeqConfigWrite, span, sector, field, inside, some_, exist, known, decide_false, Bool.not_true, Bool.or_self, Bool.false_eq_true,
    if_false, regFind_seqPool, show 8 ≤ 0x10 from by decide, if_true]
  cases !(s.seqSec n.val).enabled && openSeqs s n.val == 0 <;> rfl

end Write

/-! ### The obligation -/

/-- Settles O25: the configuration of a Sector's scheduler (R230). -/
theorem schedulerConfig : Obligations.SchedulerConfig := by
  unfold Obligations.SchedulerConfig
  intro s n exist
  refine ⟨fun l off first noSecond read good some_ => ?_, fun e off noFirst noSecond bad error => ?_, schedEnable_of_enabled, ?_,
    fun v => ⟨fun off idle => ?_, fun busy => ?_⟩⟩
  · exact ⟨_, schedEnable_of_good exist off noSecond first read good some_, by rw [setReg_seqSec, setSeqSec_same],
      by rw [regNow_setReg_same, bit_setBits_63]; rfl, fun k hk => by rw [setReg_seqSec, setSeqSec_other s _ _ _ hk],
      same_trans (setSeqSec_sameBut s _ _) (setReg_same _ _ _)⟩
  · refine ⟨_, schedEnable_of_bad exist off noSecond noFirst bad error, ?_, evSet_raiseSeq_self _ _ (by decide),
      same_trans (setSeqSec_sameBut s _ _) (raiseSeq_same _ _ _)⟩
    rw [seqSec_congr (raiseSeq_seqSecs _ _ _), setSeqSec_same]
  · exact ⟨_, schedDisable_eq exist, by rw [setReg_seqSec, setSeqSec_same], by rw [regNow_setReg_same, bit_setBits_63]; rfl,
      fun k hk => by rw [setReg_seqSec, setSeqSec_other s _ _ _ hk], same_trans (setSeqSec_sameBut s _ _) (setReg_same _ _ _)⟩
  · have next := seqConfigWrite_pool exist v
    rw [if_pos (by simp [off, idle])] at next
    exact ⟨_, next, by rw [regNow_setReg_same, seqPool_write], fun b hb => regNow_setReg_other _ _ _ _ hb, setReg_same _ _ _⟩
  · have next := seqConfigWrite_pool exist v
    rw [if_neg (by rcases busy with on | open_ <;> simp [*])] at next
    exact ⟨_, next, evSet_raiseSeq_self _ _ (by decide), raiseSeq_same _ _ _⟩

end Sys2Proof.Proofs

/-!
SUPPORT. Batches of a Sector's step (R218 to R220, R236, R251): the bounds that formation keeps, the commit of a step of one decode row, and the
obligation Batches.
-/
namespace Sys2Proof.Proofs
open Sys2Proof.Machine Sys2Proof.Laws

/-! ### Bounds of a batch (R220) -/

/-- A batch keeps to `maxRows` rows and `budget` tokens, and counts the tokens of its rows. -/
structure Bounded (maxRows budget : Nat) (f : Form) : Prop where
  rows : f.rows.length ≤ maxRows
  tokens : f.tokens ≤ budget
  counted : f.tokens = (f.rows.map (·.len)).foldl (· + ·) 0

section Bounds
variable {maxRows budget : Nat} {f : Form}

/-- The state of a batch is apart from its bounds. -/
theorem Bounded.of_state (bounded : Bounded maxRows budget f) (s : State) : Bounded maxRows budget { f with st := s } := ⟨bounded.1, bounded.2, bounded.3⟩

theorem admitRow_bounded (bounded : Bounded maxRows budget f) {len : Nat} (row : f.rows.length < maxRows) (fits : f.tokens + len ≤ budget)
    (n k kind : Nat) (drafts : List Nat) (buffer : Option Nat) (forced : Bool) :
    Bounded maxRows budget (admitRow f n k kind len drafts buffer forced) := by
  obtain ⟨rows, tokens, counted⟩ := bounded
  unfold admitRow
  dsimp only
  split
  · exact ⟨rows, tokens, counted⟩
  · split
    · exact ⟨rows, tokens, counted⟩
    · refine ⟨?_, fits, ?_⟩
      · rw [List.length_append]
        exact row
      · rw [List.map_append, List.foldl_append, ← counted]
        rfl

theorem addPre_bounded (bounded : Bounded maxRows budget f) (n chunk k : Nat) : Bounded maxRows budget (addPre n maxRows budget chunk f k) := by
  unfold addPre
  dsimp only
  split
  · exact bounded
  next go =>
    rw [Bool.not_eq_true, Bool.or_eq_false_iff, decide_eq_false_iff_not, decide_eq_false_iff_not, Nat.not_le] at go
    obtain ⟨-, row⟩ := go
    exact admitRow_bounded bounded row (by have := bounded.tokens; omega) _ _ _ _ _ _

theorem addCont_bounded (bounded : Bounded maxRows budget f) {limit : Nat} (within : limit ≤ budget) (host : HostView) (n : Nat) (draft : Bool) (k : Nat) :
    Bounded maxRows budget (addCont host n draft maxRows limit f k) := by
  have taken (s : State) (kind len : Nat) (drafts : List Nat) (buffer : Option Nat) (forced : Bool)
      (fits : (decide (f.rows.length < maxRows) && decide (f.tokens + len ≤ limit)) = true) :
      Bounded maxRows budget (admitRow { f with st := s } n k kind len drafts buffer forced) := by
    rw [Bool.and_eq_true, decide_eq_true_eq, decide_eq_true_eq] at fits
    exact admitRow_bounded (bounded.of_state s) fits.1 (Nat.le_trans fits.2 within) _ _ _ _ _ _
  unfold addCont
  dsimp only
  split
  · split
    · split
      · split
        next fits => exact taken _ _ _ _ _ _ fits
        · exact bounded.of_state _
      · split
        next fits => exact taken _ _ _ _ _ _ fits
        · exact bounded.of_state _
    · exact bounded.of_state _
  · split
    · split
      · exact bounded
      · split
        · exact bounded.of_state _
        · split
          next fits => exact taken f.st _ _ _ _ _ fits
          · exact bounded
    · exact bounded

theorem foldl_bounded {add : Form → Nat → Form} (keeps : ∀ f k, Bounded maxRows budget f → Bounded maxRows budget (add f k)) (l : List Nat)
    (bounded : Bounded maxRows budget f) : Bounded maxRows budget (l.foldl add f) := by
  induction l generalizing f with
  | nil => exact bounded
  | cons k l ih => exact ih (keeps f k bounded)

end Bounds

theorem atLeast1_eq (x : Nat) : atLeast1 x = max 1 x := by
  unfold atLeast1
  split <;> omega

theorem formClass_bounded (s : State) (n cls : Nat) (host : HostView) :
    Bounded (max 1 (bits (schedReg s n) 59 48)) (max 1 (bits (schedReg s n) 47 32)) (formClass s n cls host) := by
  have empty : Bounded (max 1 (bits (schedReg s n) 59 48)) (max 1 (bits (schedReg s n) 47 32)) ⟨[], 0, false, s⟩ :=
    ⟨Nat.zero_le _, Nat.zero_le _, rfl⟩
  unfold formClass
  dsimp only
  split
  · exact empty
  · rw [atLeast1_eq, atLeast1_eq]
    refine foldl_bounded (fun f k h => addPre_bounded h _ _ k) _ (foldl_bounded (fun f k h => addCont_bounded h ?_ _ _ _ k) _ empty)
    split <;> omega

/-! ### The start of a step (R218) -/

section Form
variable {s : State} {n : Fin 16} {host : HostView}

theorem stepBatchForm_of_idle (idle : (s.seqSec n.val).enabled = false ∨ (s.seqSec n.val).step ≠ none ∨ workRuns s n.val = false) :
    exec (.stepBatchForm n host) s = .next s := by
  have cond : (!(s.seqSec n.val).enabled || (s.seqSec n.val).step.isSome || !workRuns s n.val ||
      s.resets.any (fun r => r.rung == 2 && r.target == 16 + n.val)) = true := by
    rcases idle with off | running | stopped
    · simp [off]
    · simp [Option.isSome_iff_ne_none.2 running]
    · simp [stopped]
  show execStepBatchForm n host s = _
  simp only [execStepBatchForm, cond, if_true]

/-- The class whose turn it is has rows, and none is held. -/
theorem stepBatchForm_of_rows (on : (s.seqSec n.val).enabled = true) (none_ : (s.seqSec n.val).step = none) (runs : workRuns s n.val = true)
    (calm : s.resets = []) {f : Machine.Form}
    (form : formClass (pullReady (endFailed s n.val) n.val) n.val (1 - (s.seqSec n.val).lastCls) host = f) (some_ : f.rows ≠ []) (free : f.held = false) :
    let cls := 1 - (s.seqSec n.val).lastCls
    let u := writeTokens f.st n.val (stepCtx f.st n.val cls) f.rows
    let sec := f.st.seqSec n.val
    let last := ((f.rows.filter (fun r => r.kind != 0)).getLast?).map (·.slot + 1)
    let v := markSeqEngine (u.setSeqSec n.val { sec with
      step := some { cls := cls, rows := f.rows, tag := (f.st.gen n.val).curTag }, bufs := sec.bufs ++ f.rows.filterMap (·.buffer)
      lastRow := match last with | some k => tput 0 sec.lastRow cls k | none => sec.lastRow }) n.val
    exec (.stepBatchForm n host) s = .next (spillPump (v.setSeqSec n.val { v.seqSec n.val with held := false }) n.val false) := by
  have cond : (!(s.seqSec n.val).enabled || (s.seqSec n.val).step.isSome || !workRuns s n.val ||
      s.resets.any (fun r => r.rung == 2 && r.target == 16 + n.val)) = false := by
    simp [on, none_, runs, calm]
  have rows : f.rows.isEmpty = false := by simpa using some_
  show execStepBatchForm n host s = _
  simp only [execStepBatchForm, cond, Bool.false_eq_true, if_false, form, rows, free] <;> rfl

end Form

/-! ### The commit of a step (R251) -/

theorem mem_tins {α : Type} {t : Tbl α} {k : Nat} {v : α} {p : Nat × α} (h : p ∈ tins t k v) : p ∈ t ∨ p = (k, v) := by
  induction t with
  | nil => exact .inr (List.mem_singleton.1 h)
  | cons q t ih =>
    obtain ⟨a, w⟩ := q
    simp only [tins] at h
    split at h
    · exact (List.mem_cons.1 h).symm
    · split at h
      · rcases List.mem_cons.1 h with h | h
        · exact .inr h
        · exact .inl (List.mem_cons_of_mem _ h)
      · rcases List.mem_cons.1 h with h | h
        · exact .inl (h ▸ List.mem_cons_self ..)
        · exact (ih h).imp_left (List.mem_cons_of_mem _)

theorem mem_tput {α : Type} [DecidableEq α] {d : α} {t : Tbl α} {k : Nat} {v : α} {p : Nat × α} (h : p ∈ tput d t k v) : p ∈ t ∨ p = (k, v) := by
  unfold tput at h
  split at h
  · exact .inl (List.mem_filter.1 h).1
  · exact mem_tins h

/-- Between the record of a commit of Sector `n` and its end: sequence `k` holds `y` and every other what it held, no draft sequence is reserved by
`k`, the Sector's step is `p`, and `out` has gone out. -/
structure Committing (s t : State) (n k : Nat) (y : Seq) (p : Option Step) (out : List Out) : Prop where
  self : t.seq k = y
  others : ∀ j, j ≠ k → t.seq j = s.seq j
  unreserved : ∀ q ∈ t.seqs, q.2.reservedBy ≠ some k
  step : (t.seqSec n).step = p
  commit : (t.seqSec n).commit.step = (s.seqSec n).commit.step + 1
  out : t.out = out
  same : SameBut [.seqs, .seqSecs, .out, .ctr] s t

section Committing
variable {s t : State} {n k : Nat} {y : Seq} {p : Option Step} {out : List Out}

theorem Committing.setSeq (c : Committing s t n k y p out) {z : Seq} (free : z.reservedBy = none) : Committing s (t.setSeq k z) n k z p out := by
  obtain ⟨-, others, unreserved, step, commit, out, same⟩ := c
  refine ⟨setSeq_same _ _ _, fun j hj => (setSeq_other _ _ _ j hj).trans (others j hj), fun q hq => ?_, step, commit, out,
    same_mono (same_trans same (setSeq_sameBut t k z)) (by simp)⟩
  rcases mem_tput hq with hq | rfl
  · exact unreserved q hq
  · simp [free]

/-- A Sector record whose step and commit are those asked for. -/
theorem Committing.setSeqSec (c : Committing s t n k y p out) {x : SeqSec} {r : Option Step} (step : x.step = r)
    (commit : x.commit = (t.seqSec n).commit) : Committing s (t.setSeqSec n x) n k y r out := by
  obtain ⟨self, others, unreserved, -, recorded, out, same⟩ := c
  exact ⟨self, others, unreserved, by rw [setSeqSec_same, step], by rw [setSeqSec_same, commit, recorded], out,
    same_mono (same_trans same (setSeqSec_sameBut t n x)) (by simp)⟩

theorem Committing.counted (c : Committing s t n k y p out) {u : State} (counts : SameBut [.ctr] t u) : Committing s u n k y p out := by
  obtain ⟨self, others, unreserved, step, commit, out, same⟩ := c
  have seqs : u.seqs = t.seqs := counts .seqs (by simp)
  have seq (j : Nat) : u.seq j = t.seq j := by rw [State.seq, State.seq, seqs]
  have sec := seqSec_congr (counts .seqSecs (by simp)) n
  exact ⟨(seq k).trans self, fun j hj => (seq j).trans (others j hj), by rwa [seqs], by rw [sec, step], by rw [sec, commit],
    (counts .out (by simp)).trans out, same_mono (same_trans same counts) (by simp)⟩

theorem Committing.hostWrite (c : Committing s t n k y p out) (pasid : Option Nat) (addr : Nat) (bytes : List Byte) (final : Bool) :
    Committing s (Machine.hostWrite t pasid addr bytes final) n k y p (.hostWrite pasid addr bytes final :: out) :=
  ⟨c.self, c.others, c.unreserved, c.step, c.commit, congrArg _ c.out, same_mono (same_trans c.same (hostWrite_sameBut t _ _ _ _)) (by simp)⟩

/-- No draft sequence is reserved, so none is reset (R241). -/
theorem Committing.resetDraft (c : Committing s t n k y p out) : Machine.resetDraft t k = t := by
  have none_ : t.seqs.find? (fun p => p.2.reservedBy == some k) = none := by
    rw [List.find?_eq_none]
    intro q hq
    simpa using c.unreserved q hq
  simp only [Machine.resetDraft, none_]

/-- The row leaves the step with work remaining (R251, step 5). -/
theorem Committing.leaveStep (c : Committing s t n k y p out) (st : y.st = .inStep) (run : y.run.isSome = true) (free : y.reservedBy = none) :
    Committing s (Machine.leaveStep t k) n k { y with st := .ready, windowLen := 0 } p out := by
  have whole : Machine.leaveStep t k = t.setSeq k { y with st := .ready, windowLen := 0 } := by
    simp only [Machine.leaveStep, c.self, st, run, if_true, if_neg (show SeqSt.inStep ≠ SeqSt.closing by decide)]
  rw [whole]
  exact c.setSeq free

/-- One token of a decode row is posted in host memory, and nothing ends the command (R212). -/
theorem Committing.postRow (c : Committing s t n k y p out) {r : Row} {u : SeqRun} {tok : Nat} (slot : r.slot = k) (toks : r.toks = [tok])
    (run : y.run = some u) (op : u.opcode = 0x42) (space : fieldAt u.raw 32 1 = 3) (aborted : u.aborted = false) (conds : u.conds = [])
    (goes : tok ∉ y.stops) (more : u.posted + 1 < fieldAt u.raw 20 4) (room : y.t < y.maxTokens) (free : y.reservedBy = none) :
    Committing s (Machine.postRow t n r 1) n k { y with run := some { u with posted := u.posted + 1 } } p
      (.hostWrite (t.ctx y.ctx).pasid (fieldAt u.raw 24 8) (leBytes 4 (u.posted + 1) ++ leBytes 2 0 ++ leBytes 1 0 ++ leBytes 1 0) true ::
        .hostWrite (t.ctx y.ctx).pasid (fieldAt u.raw 24 8 + 8 + 4 * u.posted) (leBytes 4 tok) false :: out) := by
  let w := Machine.hostWrite t (t.ctx y.ctx).pasid (fieldAt u.raw 24 8 + 8 + 4 * u.posted) (leBytes 4 tok) false
  have written : Committing s (w.setSeq k { y with run := some { u with posted := u.posted + 1 } }) n k _ p _ := (c.hostWrite _ _ _ _).setSeq free
  have self : w.seq k = y := c.self
  have stop : ([tok].any fun t => y.stops.contains t) = false := by simpa using goes
  have whole : Machine.postRow t n r 1 = Machine.hostWrite (w.setSeq k { y with run := some { u with posted := u.posted + 1 } })
      (t.ctx y.ctx).pasid (fieldAt u.raw 24 8) (leBytes 4 (u.posted + 1) ++ leBytes 2 0 ++ leBytes 1 0 ++ leBytes 1 0) true := by
    simp only [Machine.postRow, slot, c.self, run, op, if_neg (show ¬ 0x42 = 0x41 by decide), toks, List.take_succ_cons, List.take_zero, List.map_cons,
      List.map_nil, List.foldr_cons, List.foldr_nil, List.append_nil, List.length_singleton, writeSpace, space, if_neg (show ¬ 3 = 2 by decide),
      aborted, stop, conds, List.isEmpty_nil, Nat.not_le.2 more, Nat.not_le.2 room, Bool.false_eq_true, if_false, if_true, writeProgress]
    rw [show (Machine.hostWrite t (t.ctx y.ctx).pasid (fieldAt u.raw 24 8 + 8 + 4 * u.posted) (leBytes 4 tok) false).seq k = y from self, setSeq_same]
    rfl
  rw [whole]
  exact written.hostWrite _ _ _ _

end Committing

/-- The sequence once one more token of it is committed (R251). -/
def oneMore (q : Seq) (tok : Nat) : Seq :=
  { q with c := q.c + 1, t := q.t + 1, pendingTok := tok, text := tput 0 (q.text.filter (fun e => q.c + 1 ≤ e.1)) (q.t + 1 - 1) tok }

theorem capRow_single {q : Seq} {r : Row} {tok : Nat} (kind : r.kind = 1) (a : r.a = 1) (toks : r.toks = [tok]) (goes : tok ∉ q.stops) :
    capRow q r = 1 := by
  simp [capRow, kind, toks, a, goes]

theorem commitStep_single {s : State} {n : Nat} {p : Step} {r : Row} {u : SeqRun} {tok : Nat}
    (step : (s.seqSec n).step = some p) (rows : p.rows = [r]) (kind : r.kind = 1) (a : r.a = 1) (toks : r.toks = [tok]) (given : r.given = [])
    (buffer : r.buffer = none) (heads : r.heads = []) (table : (s.seq r.slot).table = [])
    (run : (s.seq r.slot).run = some u) (aborted : u.aborted = false) (conds : u.conds = []) (reserved : (s.seq r.slot).reservedBy = none)
    (unreserved : ∀ q ∈ s.seqs, q.2.reservedBy ≠ some r.slot) (goes : tok ∉ (s.seq r.slot).stops) :
    ∃ (w : State) (drafts : List (Nat × Nat)), Committing s w n r.slot { oneMore (s.seq r.slot) tok with stash := [], drafts := drafts, reservedBy := none } none s.out ∧
      commitStep s n = leaveStep (postRow w n r 1) r.slot := by
  have cap (q : Seq) (h : q.stops = (s.seq r.slot).stops) : capRow q r = 1 := capRow_single kind a toks (h ▸ goes)
  unfold commitStep
  extract_lets x
  rw [step]
  dsimp -zeta only
  extract_lets -merge +onlyGivenNames rec_ dead live s1 s2 s3 s4 s5 counted pre cnt s6 y7 s7
  rename_i out use
  have live_ : live = [r] := by
    simp only [live, out, rows, run, Option.map_some, aborted, conds, List.isEmpty_nil, Bool.not_true, Bool.or_self, Option.getD_some,
      Option.isNone_some, Bool.false_and, List.filter_cons, Bool.not_false, if_true, List.filter_nil]
  have dead_ : dead = [] := by
    simp only [dead, out, rows, run, Option.map_some, aborted, conds, List.isEmpty_nil, Bool.not_true, Bool.or_self, Option.getD_some,
      Option.isNone_some, Bool.false_and, List.filter_cons, Bool.false_eq_true, if_false, List.filter_nil]
  have c1 : Committing s s1 n r.slot (s.seq r.slot) (some p) s.out :=
    ⟨rfl, fun _ _ => rfl, unreserved, by rw [setSeqSec_same], by rw [setSeqSec_same], rfl, same_mono (setSeqSec_sameBut s n _) (by simp)⟩
  have c2 : Committing s s2 n r.slot (oneMore (s.seq r.slot) tok) (some p) s.out := by
    have eq : s2 = s1.setSeq r.slot (oneMore (s.seq r.slot) tok) := by
      simp only [s2, live_, List.foldl_cons, List.foldl_nil, kind, c1.self, cap _ rfl, toks]
      rfl
    rw [eq]
    exact c1.setSeq reserved
  have cap1 : capRow (s1.seq r.slot) r = 1 := cap _ (congrArg Seq.stops c1.self)
  clear_value s2
  have c4 : Committing s s4 n r.slot (oneMore (s.seq r.slot) tok) (some p) s.out := by
    have eq3 : s3 = s2 := by
      simp only [s3, live_, List.foldl_cons, List.foldl_nil, copyProv, buffer]
    have eq : s4 = s2.setSeqSec n (s2.seqSec n) := by
      simp only [s4, eq3, live_, use, List.foldl_cons, List.foldl_nil, given, c2.self, oneMore, table]
    rw [eq]
    exact c2.setSeqSec c2.step rfl
  have eq5 : s5 = s4 := by simp only [s5, dead_, List.foldl_nil]
  have c6 : Committing s s6 n r.slot (oneMore (s.seq r.slot) tok) (some p) s.out := by
    rw [show s6 = cnt s4 from congrArg cnt eq5]
    clear_value s4
    refine c4.counted ?_
    simp only [cnt, live_, List.foldl_cons, List.foldl_nil, kind]
    exact same_mono (same_trans (same_trans (same_trans (seqCount_sameBut _ n 1 1) (seqCount_sameBut _ n 2 _))
      (same_trans (seqCount_sameBut _ n 3 _) (seqCount_sameBut _ n 4 _))) (bump_sameBut _ _ _)) (by simp)
  clear_value s6
  have c7 : Committing s s7 n r.slot (oneMore (s.seq r.slot) tok) none s.out := c6.setSeqSec rfl rfl
  clear_value s7 s1
  let z : Seq := { oneMore (s.seq r.slot) tok with
    stash := [], drafts := (s.seq r.slot).drafts.filter (fun d => (s.seq r.slot).t + 1 ≤ d.1), reservedBy := none }
  have c8 : Committing s (s7.setSeq r.slot z) n r.slot z none s.out := c7.setSeq rfl
  refine ⟨s7.setSeq r.slot z, _, c8, ?_⟩
  have running : (oneMore (s.seq r.slot) tok).run.isSome = true := by rw [oneMore, run]; rfl
  have free : (oneMore (s.seq r.slot) tok).reservedBy = none := reserved
  have kept : resetDraft (s7.setSeq r.slot z) r.slot = s7.setSeq r.slot z := c8.resetDraft
  simp only [live_, dead_, List.foldl_cons, List.foldl_nil, c7.self, cap1, kind, heads, free, running, List.zipIdx_nil, List.map_nil,
    show ((1 : Nat) != 0) = true from rfl, Bool.and_self, if_true, if_neg (show ¬ (1 : Nat) = 2 by decide)]
  exact congrArg (fun w => leaveStep (postRow w n r 1) r.slot) kept

/-! ### The obligation -/

/-- Settles O26: the formation of a batch, its bounds, and the commit of a step of one decode row (R212, R218, R220, R236, R251). -/
theorem batches : Obligations.Batches := by
  unfold Obligations.Batches
  refine ⟨fun s n host => ⟨fun on none_ runs calm some_ free => stepBatchForm_of_rows on none_ runs calm rfl some_ free, stepBatchForm_of_idle⟩,
    fun s n cls host => ?_, ?_⟩
  · obtain ⟨rows, tokens, counted⟩ := formClass_bounded s n cls host
    exact ⟨rows, tokens, counted⟩
  · intro s n p r u tok q x step rows kind a toks given buffer heads table st sector run op aborted conds reserved unreserved listed goes more room space
    have unreserved' : ∀ j ∈ s.seqs, j.2.reservedBy ≠ some r.slot := fun j hj => by
      rw [listed j hj]
      exact unreserved j hj
    obtain ⟨w, drafts, begun, whole⟩ := commitStep_single step rows kind a toks given buffer heads table run aborted conds reserved unreserved' goes
    have ctxs : w.ctxs = s.ctxs := begun.same .ctxs (by simp)
    have ended := (begun.postRow rfl toks run op space aborted conds goes more room rfl).leaveStep st rfl rfl
    intro t
    rw [show t = _ from whole]
    obtain ⟨self, others, -, step, commit, out, same⟩ := ended
    refine ⟨by rw [self]; rfl, by rw [self]; rfl, by rw [self]; rfl, by rw [self], by rw [self], others, by rw [step], commit, ?_, same⟩
    rw [out, State.ctx, State.ctx, ctxs]
    rfl

end Sys2Proof.Proofs

/-!
SUPPORT. Rings (R262, R271 to R276, R291): doorbells, the fetch of an entry, the end of a DESTROYING ring, privileged rings, and the obligation Rings.
-/
namespace Sys2Proof.Proofs
open Sys2Proof.Machine Sys2Proof.Laws

/-! ### One ring changes -/

/-- Ring `q` is now `x`, and nothing else has changed. -/
def RingIs (s t : State) (q : Nat) (x : Ring) : Prop := t.ring q = x ∧ (∀ k, k ≠ q → t.ring k = s.ring k) ∧ SameBut [.rings] s t

theorem setRing_is (s : State) (q : Nat) (x : Ring) : RingIs s (s.setRing q x) q x :=
  ⟨setRing_same _ _ _, fun k hk => setRing_other _ _ _ k hk, setRing_sameBut _ _ _⟩

theorem RingIs.setRing {s t : State} {q : Nat} {x : Ring} (is : RingIs s t q x) (y : Ring) : RingIs s (t.setRing q y) q y := by
  obtain ⟨-, others, same⟩ := is
  exact ⟨setRing_same _ _ _, fun k hk => (setRing_other _ _ _ k hk).trans (others k hk), same_mono (same_trans same (setRing_sameBut _ _ _)) (by simp)⟩

/-! ### Doorbells (R271, R272, R274) -/

/-- What the range check makes of a ring (R274). -/
def ranged (r : Ring) : Ring :=
  if r.st != .enabled then r
  else if 2 ^ r.sqLog < (r.tail - r.head).toNat then { r with st := .stopped, error := 1 }
  else if 2 ^ r.cqLog < (r.cqTail - r.cqHead).toNat then { r with st := .stopped, error := 2 }
  else r

theorem checkRange_is {s t : State} {q : Nat} {x : Ring} (is : RingIs s t q x) : RingIs s (checkRange t q) q (ranged x) := by
  have self : t.ring q = x := is.1
  simp only [checkRange, ranged, self]
  split
  · exact is
  · split
    · exact is.setRing _
    · split
      · exact is.setRing _
      · exact is

section Doorbell
variable {s : State} {q : Fin 4096} {v : BitVec 32}

theorem doorbells_of_free (free : (s.ring q.val).st = .free) : exec (.doorbellTail q v) s = .next s ∧ exec (.cqHead q v) s = .next s := by
  constructor
  · show execDoorbellTail q v s = _
    simp only [execDoorbellTail, free, if_true]
  · show execCqHead q v s = _
    simp only [execCqHead, free, if_true]

variable (used : (s.ring q.val).st ≠ .free) {x : Ring}
include used

theorem doorbellTail_is (checked : ranged { s.ring q.val with tail := v } = x) : ∃ t, exec (.doorbellTail q v) s = .next t ∧ RingIs s t q.val x := by
  have next : exec (.doorbellTail q v) s = .next (checkRange (s.setRing q.val { s.ring q.val with tail := v }) q.val) := by
    show execDoorbellTail q v s = _
    simp only [execDoorbellTail, used, if_false]
  exact ⟨_, next, checked ▸ checkRange_is (setRing_is s _ _)⟩

theorem cqHead_is (checked : ranged { s.ring q.val with cqHead := v } = x) : ∃ t, exec (.cqHead q v) s = .next t ∧ RingIs s t q.val x := by
  have next : exec (.cqHead q v) s = .next (checkRange (s.setRing q.val { s.ring q.val with cqHead := v }) q.val) := by
    show execCqHead q v s = _
    simp only [execCqHead, used, if_false]
  exact ⟨_, next, checked ▸ checkRange_is (setRing_is s _ _)⟩

end Doorbell

theorem ranged_of_other {r : Ring} (other : r.st ≠ .enabled) : ranged r = r := if_pos (by simpa using other)

section Ranged
variable {r : Ring} (on : r.st = .enabled)
include on

theorem ranged_of_within (sq : (r.tail - r.head).toNat ≤ 2 ^ r.sqLog) (cq : (r.cqTail - r.cqHead).toNat ≤ 2 ^ r.cqLog) : ranged r = r := by
  rw [ranged, if_neg (by simp [on]), if_neg (Nat.not_lt.2 sq), if_neg (Nat.not_lt.2 cq)]

theorem ranged_of_tail (sq : 2 ^ r.sqLog < (r.tail - r.head).toNat) : ranged r = { r with st := .stopped, error := 1 } := by
  rw [ranged, if_neg (by simp [on]), if_pos sq]

theorem ranged_of_cqHead (sq : (r.tail - r.head).toNat ≤ 2 ^ r.sqLog) (cq : 2 ^ r.cqLog < (r.cqTail - r.cqHead).toNat) :
    ranged r = { r with st := .stopped, error := 2 } := by
  rw [ranged, if_neg (by simp [on]), if_neg (Nat.not_lt.2 sq), if_pos cq]

end Ranged

/-! ### What the fetch check reads of a ring (R291) -/

/-- Two rings look the same to a check: their kind, Sector, context and state. -/
def RingAlike (r x : Ring) : Prop := x.kind = r.kind ∧ x.sector = r.sector ∧ x.ctx = r.ctx ∧ x.st = r.st

section Alike
variable {s : State} {q : Nat} {x : Ring} (alike : RingAlike (s.ring q) x) (c : Cmd)
include alike

theorem setRing_alike (k : Nat) : RingAlike (s.ring k) ((s.setRing q x).ring k) := by
  by_cases h : k = q
  · rw [h, setRing_same]
    exact alike
  · rw [setRing_other _ _ _ _ h]
    exact ⟨rfl, rfl, rfl, rfl⟩

theorem fieldChecks_setRing : fieldChecks (s.setRing q x) q c = fieldChecks s q c := by
  obtain ⟨-, sector, -, -⟩ := setRing_alike alike q
  obtain ⟨-, sector', -, st'⟩ := setRing_alike alike (c.f 16 2)
  simp only [fieldChecks, sector, sector', st'] <;> rfl

theorem sectorErr_setRing : sectorErr (s.setRing q x) q c = sectorErr s q c := by
  obtain ⟨-, sector, -, -⟩ := setRing_alike alike q
  obtain ⟨-, sector', -, st'⟩ := setRing_alike alike (c.f 16 2)
  simp only [sectorErr, sector, sector', st'] <;> rfl

theorem handleErr_setRing (off rights first len : Nat) : handleErr (s.setRing q x) q c off rights first len = handleErr s q c off rights first len := by
  obtain ⟨-, sector, ctx, -⟩ := setRing_alike alike q
  simp only [handleErr, sector, ctx] <;> rfl

theorem eventErr_setRing : eventErr (s.setRing q x) q c = eventErr s q c := by
  obtain ⟨-, -, ctx, -⟩ := setRing_alike alike q
  simp only [eventErr, ctx] <;> rfl

theorem fetchErr_setRing : fetchErr (s.setRing q x) q c = fetchErr s q c := by
  obtain ⟨kind, -, ctx, -⟩ := setRing_alike alike q
  simp only [fetchErr, kind, ctx, fieldChecks_setRing alike, sectorErr_setRing alike, handleErr_setRing alike, eventErr_setRing alike] <;> rfl

theorem launchFetchErr_setRing : launchFetchErr (s.setRing q x) q c = launchFetchErr s q c := by
  obtain ⟨-, sector, -, -⟩ := setRing_alike alike q
  simp only [launchFetchErr, kernelHeader, sector] <;> rfl

end Alike

/-! ### Fetches (R272, R274) -/

theorem mayFetch_of_idle {s : State} {q : Nat} (idle : (s.ring q).head = (s.ring q).tail ∨ (s.ring q).freeRecs ≤ (s.ring q).outstanding ∨
    (s.ring q).st = .stopped ∨ (s.ring q).st = .free) : mayFetch s q = false := by
  rcases idle with empty | full | stopped | free
  · simp [mayFetch, empty]
  · simp [mayFetch, Nat.not_lt.2 full]
  · simp [mayFetch, stopped]
  · simp [mayFetch, free]

theorem fetchRing_of_idle {s : State} {q : Nat} (idle : mayFetch s q = false) (n : Nat) (host : HostView) : fetchRing n s q host = s := by
  cases n with
  | zero => rfl
  | succ n => rw [fetchRing, idle]; rfl

section Fetch
variable {s : State} {q : Fin 4096} {host : HostView}

theorem ringFetch_of_idle (idle : mayFetch s q.val = false) : exec (.ringFetch q host) s = .next s :=
  congrArg Host.Outcome.next (fetchRing_of_idle idle 65536 host)

/-- A fetch after which the ring is to fetch nothing more. -/
theorem ringFetch_once (may : mayFetch s q.val = true) (idle : mayFetch (fetchOne s q.val host) q.val = false) :
    exec (.ringFetch q host) s = .next (fetchOne s q.val host) := by
  have once (n : Nat) : fetchRing (n + 1) s q.val host = fetchOne s q.val host := by
    rw [fetchRing, may, if_pos rfl, fetchRing_of_idle idle]
  exact congrArg Host.Outcome.next (once 65535)

theorem fetchOne_of_refused (st : (s.ring q.val).st = .enabled)
    (refused : hostRead host ((s.ring q.val).sqBase + (s.ring q.val).head.toNat % 2 ^ (s.ring q.val).sqLog * 64) 64 = none) :
    fetchOne s q.val host = s.setRing q.val { s.ring q.val with st := .stopped, error := 3 } := by
  simp only [fetchOne, refused, st, if_true]

theorem queueSeq_of_plain {c : Cmd} (kind : (s.ring q.val).kind = 0 ∨ (s.ring q.val).kind = 2) (passes : fetchErr s q.val c = none) (t : State) :
    queueSeq t q.val c = t := by
  have accepted : opcodeOk (s.ring q.val).kind c.opcode c.buf.isSome = true := by
    by_contra refused
    rw [Bool.not_eq_true] at refused
    rw [fetchErr, refused] at passes
    rcases kind with h | h <;> simp [h, cv] at passes
  have plain : c.opcode ≤ 0x11 := by
    rcases kind with h | h <;> simp [h, opcodeOk] at accepted <;> omega
  have other : ¬ (0x41 ≤ c.opcode ∧ c.opcode ≤ 0x43) := by omega
  simp [queueSeq, other]

/-- A command of a command or copy ring that passes its check joins the ring. -/
theorem takeCmd_of_passing {c : Cmd} (kind : (s.ring q.val).kind = 0 ∨ (s.ring q.val).kind = 2) (passes : fetchErr s q.val c = none)
    (launches : launchFetchErr s q.val c = none) :
    takeCmd s q.val c = s.setRing q.val { s.ring q.val with cmds := (s.ring q.val).cmds ++ [c] } := by
  have alike : RingAlike (s.ring q.val) { s.ring q.val with cmds := (s.ring q.val).cmds ++ [c] } := ⟨rfl, rfl, rfl, rfl⟩
  have command : ¬ (s.ring q.val).kind = 3 := by
    rcases kind with h | h <;> simp [h]
  simp only [takeCmd, command, if_false, fetchErr_setRing alike, launchFetchErr_setRing alike, passes, launches, Option.or_none]
  exact queueSeq_of_plain kind passes _

/-- The entry fetched, where no reset has marked the ring, joins the ring's commands once it passes its check. -/
theorem fetchOne_of_given {raw : List Byte}
    (given : hostRead host ((s.ring q.val).sqBase + (s.ring q.val).head.toNat % 2 ^ (s.ring q.val).sqLog * 64) 64 = some raw)
    (mark : (s.ring q.val).mark = none) (kind : (s.ring q.val).kind = 0 ∨ (s.ring q.val).kind = 2) {c : Cmd}
    (cmd : c = { idx := (s.ring q.val).head, raw := raw, rd := fetchReads s { idx := (s.ring q.val).head, raw := raw } host })
    (passes : fetchErr s q.val c = none) (launches : launchFetchErr s q.val c = none) :
    RingIs s (fetchOne s q.val host) q.val { s.ring q.val with head := (s.ring q.val).head + 1, cmds := (s.ring q.val).cmds ++ [c] } := by
  let x : Ring := { s.ring q.val with head := (s.ring q.val).head + 1 }
  have unmarked : { s.ring q.val with head := (s.ring q.val).head + 1, mark := none } = x := by
    simp only [x, mark]
  have alike : RingAlike (s.ring q.val) x := ⟨rfl, rfl, rfl, rfl⟩
  have self : (s.setRing q.val x).ring q.val = x := setRing_same _ _ _
  have takes := takeCmd_of_passing (s := s.setRing q.val x) (q := q) (c := c) (by rwa [self]) ((fetchErr_setRing alike c).trans passes)
    ((launchFetchErr_setRing alike c).trans launches)
  have whole : fetchOne s q.val host = takeCmd (s.setRing q.val x) q.val c := by
    simp only [fetchOne, given, mark, Option.isSome_none, Bool.false_and, Bool.false_eq_true, if_false, cmd, unmarked]
  rw [whole, takes, self]
  exact (setRing_is s q.val x).setRing _

end Fetch

/-! ### The end of a DESTROYING ring (R275) -/

section Destroy
variable {s : State} {q : Fin 4096}

theorem ringDestroyComplete_of_other (other : (s.ring q.val).st ≠ .destroying) : exec (.ringDestroyComplete q) s = .next s := by
  have cond : ((s.ring q.val).st != .destroying) = true := by simpa using other
  show execRingDestroyComplete q s = _
  simp only [execRingDestroyComplete, cond, if_true]

theorem flushHeld_of_none (none_ : (s.ring q.val).heldRecs = []) : flushHeld s q.val = s.setRing q.val (s.ring q.val) := by
  rw [flushHeld, none_, List.foldl_nil, ← none_]

variable (st : (s.ring q.val).st = .destroying) (none_ : (s.ring q.val).heldRecs = [])
include st none_

theorem ringDestroyComplete_of_left (left : (s.ring q.val).cmds ≠ []) :
    exec (.ringDestroyComplete q) s = .next (s.setRing q.val (s.ring q.val)) := by
  have some_ : ringEmpty (s.ring q.val) = false := by simp [ringEmpty, left]
  show execRingDestroyComplete q s = _
  simp only [execRingDestroyComplete, st, flushHeld_of_none none_, setRing_same, some_, bne_self_eq_false, Bool.false_eq_true, if_false, Bool.not_false,
    Bool.true_or, if_true]

theorem ringDestroyComplete_of_done (empty : (s.ring q.val).cmds = []) (nobody : (s.ring q.val).destroyers = [])
    (calm : (s.ring q.val).kind = 3 ∨ (s.ctx (s.ring q.val).ctx).st ≠ .resetting) :
    exec (.ringDestroyComplete q) s = .next ((s.setRing q.val (s.ring q.val)).setRing q.val {}) := by
  have done : ringEmpty (s.ring q.val) = true := by simp [ringEmpty, empty, none_]
  have below : ((s.ring q.val).kind != 3 && ((s.setRing q.val (s.ring q.val)).ctx (s.ring q.val).ctx).st == .resetting) = false := by
    rcases calm with h | h
    · simp [h]
    · simp only [Bool.and_eq_false_iff, beq_eq_false_iff_ne]
      exact .inr h
  show execRingDestroyComplete q s = _
  simp only [execRingDestroyComplete, st, flushHeld_of_none none_, setRing_same, done, below, nobody, bne_self_eq_false, Bool.false_eq_true, if_false,
    Bool.not_true, Bool.false_and, Bool.or_self, List.foldl_nil]

end Destroy

/-! ### Privileged rings (R262, R275, R276) -/

/-- A host-written register takes what `f` makes of it. -/
def withReg (s : State) (off : Nat) (f : Word → Word) : State := { s with regs := tmod 0 s.regs off f }

theorem withReg_sameBut (s : State) (off : Nat) (f : Word → Word) : SameBut [.regs] s (withReg s off f) := update_regs s _

theorem withReg_ring (s : State) (off : Nat) (f : Word → Word) (q : Nat) : (withReg s off f).ring q = s.ring q := rfl

theorem regAt_withReg_same (s : State) (off : Nat) (f : Word → Word) : regAt (withReg s off f) off = (f (tget 0 s.regs off)).toNat :=
  congrArg BitVec.toNat (tget_tmod_same (0 : Word) s.regs off f)

theorem regAt_withReg_other (s : State) (off : Nat) (f : Word → Word) {o : Nat} (other : o ≠ off) : regAt (withReg s off f) o = regAt s o :=
  congrArg BitVec.toNat (tget_tput_other (0 : Word) 0 s.regs off _ o other)

theorem regAt_setRing (s : State) (q : Nat) (x : Ring) (o : Nat) : regAt (s.setRing q x) o = regAt s o := rfl

theorem bits_setBits_63_56 (x : Word) {v : Nat} (small : v < 256) : bits (setBits x 63 56 v).toNat 63 56 = v := by
  have lt := x.isLt
  simp only [bits, setBits, BitVec.toNat_ofNat]
  omega

/-- The ring that the registers of a Sector name (R276). -/
def privCreated (s : State) (n : Nat) : Ring :=
  let ctl := regAt s (secReg n 0x10)
  { st := .enabled, kind := 3, sector := n, sqLog := bits ctl 4 0, cqLog := bits ctl 12 8, vector := bits ctl 42 32
    sqBase := regAt s (secReg n 0) / 4096 * 4096, cqBase := regAt s (secReg n 8) / 4096 * 4096 }

/-- The lowest code of PRIV_ERR that applies (R276); 0 for none. -/
def privErr (s : State) (n : Nat) : Nat :=
  let ctl := regAt s (secReg n 0x10)
  if !hifAgreed s then 1 else if (s.ring (bits ctl 27 16)).st != .free then 2
  else if (s.sector n).qRings ≤ sectorRings s n then 3
  else if bits ctl 4 0 < 6 || 16 < bits ctl 4 0 || bits ctl 12 8 < 6 || 16 < bits ctl 12 8 || !vectorOk (bits ctl 42 32) then 4 else 0

/-- A privileged ring may be created from the registers of its Sector. -/
def PrivGood (s : State) (n : Nat) : Prop :=
  let ctl := regAt s (secReg n 0x10)
  hifAgreed s = true ∧ (s.ring (bits ctl 27 16)).st = .free ∧ sectorRings s n < (s.sector n).qRings ∧
    6 ≤ bits ctl 4 0 ∧ bits ctl 4 0 ≤ 16 ∧ 6 ≤ bits ctl 12 8 ∧ bits ctl 12 8 ≤ 16 ∧ vectorOk (bits ctl 42 32) = true

theorem privErr_le (s : State) (n : Nat) : privErr s n ≤ 4 := by
  unfold privErr
  dsimp only
  split_ifs <;> omega

theorem privErr_eq_zero_iff (s : State) (n : Nat) : privErr s n = 0 ↔ PrivGood s n := by
  unfold privErr PrivGood
  dsimp only
  split_ifs with host used full range
  · simp only [false_iff, not_and]
    intro agreed
    simp [agreed] at host
  · simp only [bne_iff_ne] at used
    simp [used]
  · simp [Nat.not_lt.2 full]
  · simp only [Bool.or_eq_true, decide_eq_true_eq, Bool.not_eq_true'] at range
    simp only [false_iff, not_and, Bool.not_eq_true]
    intro _ _ _ _ _ _ _
    rcases range with (((h | h) | h) | h) | h
    · omega
    · omega
    · omega
    · omega
    · exact h
  · simp only [Bool.not_eq_true', Bool.not_eq_false] at host
    simp only [bne_iff_ne, ne_eq, not_not] at used
    simp only [Bool.or_eq_true, decide_eq_true_eq, Bool.not_eq_true', not_or, Nat.not_lt, Bool.not_eq_false] at range
    obtain ⟨⟨⟨⟨sqLow, sqHigh⟩, cqLow⟩, cqHigh⟩, vector⟩ := range
    exact ⟨fun _ => ⟨host, used, Nat.not_le.1 full, sqLow, sqHigh, cqLow, cqHigh, vector⟩, fun _ => rfl⟩

theorem privErr_of_no_host {s : State} (n : Nat) (none_ : hifAgreed s = false) : privErr s n = 1 := by
  simp [privErr, none_]

section Privileged
variable {s : State} {n : Fin 16}

theorem privRingEnable_of_on (on : bit (regAt s (secReg n.val 0x10)) 63 = true) : exec (.privRingEnable n) s = .next s := by
  show execPrivRingEnable n s = _
  simp only [execPrivRingEnable, on, Bool.or_true, if_true]

variable (exist : (s.sector n.val).exists_ = true)
include exist

section Enable
variable (off : bit (regAt s (secReg n.val 0x10)) 63 = false)
include off

theorem privRingEnable_of_bad (bad : privErr s n.val ≠ 0) : exec (.privRingEnable n) s =
    .next (withReg s (secReg n.val 0x18) (fun w => setBits w 63 56 (privErr s n.val))) := by
  have error : (privErr s n.val != 0) = true := by simpa using bad
  unfold privErr at error ⊢
  show execPrivRingEnable n s = _
  simp only [execPrivRingEnable, exist, off, error, Bool.not_true, Bool.or_self, Bool.false_eq_true, if_false, if_true, withReg]

theorem privRingEnable_of_good (good : privErr s n.val = 0) : exec (.privRingEnable n) s =
    .next (withReg (withReg (s.setRing (bits (regAt s (secReg n.val 0x10)) 27 16) (privCreated s n.val)) (secReg n.val 0x10) (fun w => setBits w 63 63 1))
      (secReg n.val 0x18) (fun w => setBits w 63 56 0)) := by
  unfold privErr at good
  show execPrivRingEnable n s = _
  simp only [execPrivRingEnable, exist, off, good, Bool.not_true, Bool.or_self, Bool.false_eq_true, if_false, bne_self_eq_false, withReg, privCreated]

end Enable

theorem privRingDisable_eq {p : Nat} (ring : privRing s n.val = some p) : exec (.privRingDisable n) s =
    .next ((withReg s (secReg n.val 0x10) (fun w => setBits w 63 63 0)).setRing p { s.ring p with st := .destroying }) := by
  rw [← withReg_ring s (secReg n.val 0x10) (fun w => setBits w 63 63 0) p]
  show execPrivRingDisable n s = _
  simp only [execPrivRingDisable, exist, Bool.not_true, Bool.false_eq_true, if_false, withReg]
  rw [ring]

end Privileged

/-! ### The obligation -/

/-- Settles O27: doorbells, fetches, the end of a DESTROYING ring, and privileged rings (R262, R271 to R276, R291). -/
theorem rings : Obligations.Rings := by
  unfold Obligations.Rings
  refine ⟨fun s q v => ⟨doorbells_of_free, fun used other => ⟨?_, ?_⟩, fun on => ?_⟩,
    fun s q host => ⟨ringFetch_of_idle, fun idle => mayFetch_of_idle (by tauto), fun may on refused => ?_, ?_⟩,
    fun s q => ⟨ringDestroyComplete_of_other, fun st none_ left => ?_, fun st none_ empty nobody calm => ?_⟩,
    fun s n exist => ⟨privRingEnable_of_on, fun off good => ?_, fun off bad => ?_, fun p ring => ?_⟩⟩
  · exact doorbellTail_is used (ranged_of_other other)
  · exact cqHead_is used (ranged_of_other other)
  · have used : (s.ring q.val).st ≠ .free := by rw [on]; decide
    exact ⟨fun sq cq => doorbellTail_is used (ranged_of_within on sq cq), fun sq => doorbellTail_is used (ranged_of_tail on sq),
      fun sq cq => cqHead_is used (ranged_of_within on sq cq), fun sq cq => cqHead_is used (ranged_of_cqHead on sq cq)⟩
  · have is := setRing_is s q.val { s.ring q.val with st := .stopped, error := 3 }
    rw [← fetchOne_of_refused on refused] at is
    exact ⟨_, ringFetch_once may (mayFetch_of_idle (by rw [is.1]; exact .inr (.inr (.inl rfl)))), is⟩
  · intro raw may given mark kind last c passes launches
    have is := fetchOne_of_given given mark kind rfl passes launches
    rw [last] at is
    exact ⟨_, ringFetch_once may (mayFetch_of_idle (by rw [is.1]; exact .inl rfl)), is⟩
  · obtain ⟨self, others, same⟩ := setRing_is s q.val (s.ring q.val)
    refine ⟨_, ringDestroyComplete_of_left st none_ left, fun k => ?_, same⟩
    by_cases h : k = q.val
    · rw [h, self]
    · exact others k h
  · exact ⟨_, ringDestroyComplete_of_done st none_ empty nobody calm, (setRing_is s q.val _).setRing {}⟩
  · have next := privRingEnable_of_good exist off ((privErr_eq_zero_iff s n.val).2 good)
    have apart : secReg n.val 0x10 ≠ secReg n.val 0x18 := by simp [secReg]
    refine ⟨_, next, ?_, fun k hk => ?_, ?_, ?_, fun o ctl err => ?_,
      same_mono (same_trans (setRing_sameBut s _ _) (same_trans (withReg_sameBut _ _ _) (withReg_sameBut _ _ _))) (by simp)⟩
    · rw [withReg_ring, withReg_ring, setRing_same]
      rfl
    · rw [withReg_ring, withReg_ring, setRing_other _ _ _ _ hk]
    · rw [regAt_withReg_other _ _ _ apart, regAt_withReg_same, bit_setBits_63]
      rfl
    · rw [regAt_withReg_same, bits_setBits_63_56 _ (by decide)]
    · rw [regAt_withReg_other _ _ _ err, regAt_withReg_other _ _ _ ctl, regAt_setRing]
  · have nonzero := mt (privErr_eq_zero_iff s n.val).1 bad
    have small := privErr_le s n.val
    have held : bits (regAt (withReg s (secReg n.val 0x18) (fun w => setBits w 63 56 (privErr s n.val))) (secReg n.val 0x18)) 63 56 = privErr s n.val := by
      rw [regAt_withReg_same, bits_setBits_63_56 _ (by omega)]
    refine ⟨_, privRingEnable_of_bad exist off nonzero, fun none_ => ?_, ?_, ?_, fun o other => regAt_withReg_other s _ _ other, withReg_sameBut s _ _⟩
    · rw [held, privErr_of_no_host n.val none_]
    · rw [held]
      omega
    · rw [held]
      omega
  · refine ⟨_, privRingDisable_eq exist ring, setRing_same _ _ _, fun k hk => ?_, ?_,
      same_mono (same_trans (withReg_sameBut s _ _) (setRing_sameBut _ _ _)) (by simp)⟩
    · rw [setRing_other _ _ _ _ hk, withReg_ring]
    · rw [regAt_setRing, regAt_withReg_same, bit_setBits_63]
      rfl

end Sys2Proof.Proofs

/-!
SUPPORT. Commands of a ring (R272, R287, R289): finding, replacing and taking one off, its record, and its end.
-/
namespace Sys2Proof.Proofs
open Sys2Proof.Machine Sys2Proof.Laws

/-! ### Commands of a ring -/

/-- The test by which a ring finds a command. -/
def named (idx : BitVec 32) (buf : Option Nat) (c : Cmd) : Bool := c.idx == idx && c.buf == buf

section Find
variable {r : Ring} {idx : BitVec 32} {buf : Option Nat} {c : Cmd}

theorem find_eq (r : Ring) (idx : BitVec 32) (buf : Option Nat) : r.find idx buf = r.cmds.find? (named idx buf) := rfl

theorem idx_of_find (found : r.find idx buf = some c) : c.idx = idx ∧ c.buf = buf := by
  have := List.find?_some found
  simpa using this

/-- The command that `put` replaces is found in its new form. -/
theorem find_put (found : r.find idx buf = some c) {d : Cmd} (didx : d.idx = idx) (dbuf : d.buf = buf) : (r.put d).find idx buf = some d := by
  have self : named idx buf d = true := by simp [named, didx, dbuf]
  have put : (r.put d).cmds = r.cmds.map (fun e => if named idx buf e then d else e) := by rw [Ring.put, didx, dbuf]; rfl
  have same : named idx buf ∘ (fun e => if named idx buf e then d else e) = named idx buf := by
    funext e
    by_cases h : named idx buf e = true
    · simp only [Function.comp_apply, h, if_true, self]
    · simp only [Function.comp_apply, h, Bool.false_eq_true, if_false]
  have hit : named idx buf c = true := List.find?_some ((find_eq r idx buf).symm.trans found)
  rw [find_eq, put, List.find?_map, same, ← find_eq, found, Option.map_some, if_pos hit]

theorem find_drop (r : Ring) (idx : BitVec 32) (buf : Option Nat) : (r.drop idx buf).find idx buf = none := by
  rw [find_eq, List.find?_eq_none]
  intro d hd
  have kept : (!named idx buf d) = true := (List.mem_filter.1 hd).2
  simpa using kept

end Find

/-- What is found of a ring depends on its commands alone. -/
theorem find_of_cmds {r x : Ring} (cmds : x.cmds = r.cmds) (idx : BitVec 32) (buf : Option Nat) : x.find idx buf = r.find idx buf := by
  rw [Ring.find, Ring.find, cmds]

/-! ### A record and the end of a command -/

/-- A record leaves the ring's commands, and every other ring. -/
theorem writeRecord_ring (s : State) (q : Nat) (head : List Byte) (irq : Bool) :
    ((writeRecord s q head irq).ring q).cmds = (s.ring q).cmds ∧ ∀ k, k ≠ q → (writeRecord s q head irq).ring k = s.ring k := by
  have ring_of (t u : State) (same : t.rings = u.rings) (k : Nat) : t.ring k = u.ring k := by rw [State.ring, State.ring, same]
  simp only [writeRecord]
  split
  · split
    · constructor
      · rw [ring_of _ _ (sendVector_rings _ _), setRing_same]
      · intro k hk
        rw [ring_of _ _ (sendVector_rings _ _), setRing_other _ _ _ _ hk] <;> rfl
    · constructor
      · rw [setRing_same]
      · intro k hk
        rw [setRing_other _ _ _ _ hk] <;> rfl
  · constructor
    · rw [setRing_same]
    · intro k hk
      rw [setRing_other _ _ _ _ hk]

theorem writeRecord_sameBut (s : State) (q : Nat) (head : List Byte) (irq : Bool) : SameBut [.rings, .out, .pci] s (writeRecord s q head irq) := by
  simp only [writeRecord]
  split
  · have written (x : Ring) (p : Option Nat) (a b : Nat) (l : List Byte) : SameBut [.rings, .out, .pci] s
        ((hostWrite (hostWrite s p a head false) p b l true).setRing q x) :=
      same_mono (same_trans (hostWrite_sameBut s _ _ _ _) (same_trans (hostWrite_sameBut _ _ _ _ _) (setRing_sameBut _ _ _))) (by simp)
    split
    · exact same_mono (same_trans (written _ _ _ _ _) (sendVector_same _ _)) (by simp)
    · exact written _ _ _ _ _
  · exact same_mono (setRing_sameBut s _ _) (by simp)

/-- What the end of a command counts before its record. -/
theorem counted_sameBut (s : State) (r : Ring) (status : Nat) :
    let x := s.ctx r.ctx
    let s1 := if r.kind = 3 || x.st = .inactive then s else
      let s := markCtx (bump s (tlmWord x.slot 12) 1) r.ctx
      if status = stDONE then s else bump s (tlmWord x.slot 13) 1
    let s2 := if status = stPROGRESS then bump s1 0x90840 1 else s1
    SameBut [.ctr, .hng] s (if status = stXLATE then bump s2 0x30140 1 else s2) := by
  have counts (b : Bool) {t : State} (same : SameBut [.ctr, .hng] s t) (o : Nat) : SameBut [.ctr, .hng] s (if b then bump t o 1 else t) := by
    cases b
    · exact same
    · exact same_mono (same_trans same (bump_sameBut t o 1)) (by simp)
  have first : SameBut [.ctr, .hng] s (if r.kind = 3 || (s.ctx r.ctx).st = .inactive then s else
      let t := markCtx (bump s (tlmWord (s.ctx r.ctx).slot 12) 1) r.ctx
      if status = stDONE then t else bump t (tlmWord (s.ctx r.ctx).slot 13) 1) := by
    have marked : SameBut [.ctr, .hng] s (markCtx (bump s (tlmWord (s.ctx r.ctx).slot 12) 1) r.ctx) :=
      same_trans (bump_sameBut s _ 1) (markCtx_sameBut _ _)
    split
    · exact same_mono (same_refl s []) (by simp)
    · dsimp only
      split
      · exact marked
      · exact same_mono (same_trans marked (bump_sameBut _ _ 1)) (by simp)
  have second := counts (decide (status = stPROGRESS)) first 0x90840
  have third := counts (decide (status = stXLATE)) second 0x30140
  simpa only [decide_eq_true_eq] using third

/-- The end of a command of its own ring entry takes it off its ring; no other ring changes. -/
theorem endCmd_own (s : State) (q : Nat) {c : Cmd} (own : c.buf = none) (status : Nat) (detail : BitVec 64) :
    let t := endCmd s q c status detail
    (t.ring q).cmds = ((s.ring q).drop c.idx none).cmds ∧ (∀ k, k ≠ q → t.ring k = s.ring k) ∧ SameBut [.rings, .out, .pci, .ctr, .hng] s t := by
  have counted := counted_sameBut s (s.ring q) status
  simp only [endCmd, own]
  dsimp only at counted
  revert counted
  generalize (if status = stXLATE then bump _ 0x30140 1 else _ : State) = u
  intro counted
  have rings : u.rings = s.rings := counted .rings (by simp)
  obtain ⟨cmds, others⟩ := writeRecord_ring (u.setRing q ((s.ring q).drop c.idx none)) q
    (recordHead c.tagWord detail.toNat c.idx 0 status (if c.opcode = 2 then 1 else 0)) c.irq
  refine ⟨by rw [cmds, setRing_same], fun k hk => ?_, same_mono (same_trans counted (same_trans (setRing_sameBut u q _) (writeRecord_sameBut _ q _ _))) (by simp)⟩
  rw [others k hk, setRing_other _ _ _ _ hk, State.ring, State.ring, rings]

/-- The end of a command without signal fields. -/
theorem completeCmd_own (s : State) (q : Nat) {c : Cmd} (own : c.buf = none) (quiet : c.signal = none) (status : Nat) (detail : BitVec 64) :
    let t := completeCmd s q c status detail
    (t.ring q).cmds = ((s.ring q).drop c.idx none).cmds ∧ (∀ k, k ≠ q → t.ring k = s.ring k) ∧ SameBut [.rings, .out, .pci, .ctr, .hng] s t := by
  simp only [completeCmd, quiet]
  exact endCmd_own s q own _ _

/-- The command has left its ring. -/
theorem find_completeCmd (s : State) (q : Nat) {c : Cmd} (own : c.buf = none) (quiet : c.signal = none) (status : Nat) (detail : BitVec 64) :
    ((completeCmd s q c status detail).ring q).find c.idx none = none := by
  rw [find_of_cmds (completeCmd_own s q own quiet status detail).1, find_drop]

end Sys2Proof.Proofs

/-!
SUPPORT. COPY and FILL (R290), writes of Sector memory that are merged into lines (R355), the host's aperture (R260), and the obligation
CopiesAndAperture.
-/
namespace Sys2Proof.Proofs
open Sys2Proof.Machine Sys2Proof.Laws

/-! ### What a merged write records (R354 to R356) -/

/-- The parts that the record of a read with an error may change. -/
abbrev recordParts : List Part := [.mem, .free, .ctr, .regs, .out, .pci, .log, .logSeq, .kpr]

theorem memCapture_sameBut (s : State) (kind cause unit sector : Nat) (addr : BitVec 64) (scrub : Bool) :
    SameBut [.mem, .free, .ctr] s (memCapture s kind cause unit sector addr scrub) := by
  have captured (m : Mem) : SameBut [.mem, .free] s { s with mem := m, free := s.free + 1 } := same_trans (update_mem s m) (update_free _ _)
  simp only [memCapture]
  split
  · exact same_trans (captured _) (bump_sameBut _ _ 1)
  · split
    · exact same_trans (captured _) (bump_sameBut _ _ 1)
    · split
      · exact same_trans (captured _) (bump_sameBut _ _ 1)
      · exact same_mono (captured _) (by simp)

theorem memUncorr_sameBut (s : State) (kind cause unit sector : Nat) (addr : BitVec 64) :
    SameBut recordParts s (memUncorr s kind cause unit sector addr) :=
  same_mono (same_trans (memCapture_sameBut s kind cause unit sector addr false) (same_trans (raise_same _ evMEM 1)
    (same_trans (postLog_same _ _ _ _ _ _) (postLog_same _ _ _ _ _ _)))) (by simp)

theorem memCorr_sameBut (s : State) (kind unit sector : Nat) (addr : BitVec 64) : SameBut recordParts s (memCorr s kind unit sector addr) := by
  have noted (m : Mem) : SameBut [.mem, .free] s { s with mem := m, free := s.free + 2 } := same_trans (update_mem s m) (update_free _ _)
  have done {t : State} (same : SameBut [.mem, .free, .ctr] s t) : SameBut recordParts s (raise t evMEM 0) :=
    same_mono (same_trans same (raise_same _ evMEM 0)) (by simp)
  simp only [memCorr]
  split
  · exact done (same_trans (noted _) (bump_sameBut _ _ 1))
  · split
    · exact done (same_trans (noted _) (bump_sameBut _ _ 1))
    · exact done (same_trans (noted _) (bump_sameBut _ _ 1))

/-- A write to Sector memory records what it merges, then puts its bytes. -/
theorem smPut_eq (s : State) (n a : Nat) (bs : List Byte) : ∃ u, SameBut recordParts s u ∧
    smPut s n a bs = { u with sm := cwrite u.sm (smKey n a) bs, smChk := smWritten u.smChk (smKey n a) bs.length } := by
  refine ⟨_, same_foldl _ (fun s p => ?_) _ s, rfl⟩
  dsimp only
  split
  · exact memCorr_sameBut s _ _ _ _
  · exact memUncorr_sameBut s _ _ _ _ _

/-- It leaves every other memory. -/
theorem smPut_written (s : State) (n a : Nat) (bs : List Byte) :
    (smPut s n a bs).sm = cwrite s.sm (smKey n a) bs ∧ SameBut (recordParts ++ [.sm, .smChk]) s (smPut s n a bs) := by
  obtain ⟨u, same, eq⟩ := smPut_eq s n a bs
  have sm : u.sm = s.sm := same .sm (by simp)
  have put (m : List Host.Cell) (chk : Tbl Nat) : SameBut [.sm, .smChk] u { u with sm := m, smChk := chk } := by
    intro p hp
    cases p with
    | sm | smChk => simp at hp
    | _ => rfl
  rw [eq]
  exact ⟨by rw [← sm], same_trans same (put _ _)⟩

/-! ### The aperture (R70, R260) -/

theorem bar2Place_eq {s : State} {addr len n a : Nat} (place : bar2Place s addr len = some (n, a)) : n = addr / 2 ^ 39 ∧ a = addr % 2 ^ 39 := by
  simp only [bar2Place] at place
  split at place
  · obtain ⟨rfl, rfl⟩ := Prod.mk.inj (Option.some.inj place)
    exact ⟨rfl, rfl⟩
  · exact absurd place (by simp)

section Aperture
variable {s : State} {addr len : Nat} {bytes : List Byte}

theorem bar2Read_outside (outside : bar2Place s addr len = none) : exec (.bar2Read addr len) s = .next (s.emit .unsupported) := by
  show execBar2Read addr len s = _
  simp only [execBar2Read, outside]

theorem bar2Write_outside (outside : bar2Place s addr bytes.length = none) : exec (.bar2Write addr bytes) s = .next (s.emit .unsupported) := by
  show execBar2Write addr bytes s = _
  simp only [execBar2Write, outside]

theorem bar2Read_inside {n a : Nat} (place : bar2Place s addr len = some (n, a)) (clean : s.smChk = []) :
    exec (.bar2Read addr len) s = .next (s.emit (.readData (cread s.sm (smKey n a) len))) := by
  have checked : memCheck s (plainGroup n 0) 0 2 a len = (none, s) := memCheck_of_clean (by simp [spaceChk, clean])
  show execBar2Read addr len s = _
  simp only [execBar2Read, place, checked]

theorem bar2Write_inside {n a : Nat} (place : bar2Place s addr bytes.length = some (n, a)) : exec (.bar2Write addr bytes) s = .next (smPut s n a bytes) := by
  show execBar2Write addr bytes s = _
  simp only [execBar2Write, place]

end Aperture

/-! ### The start of a COPY or FILL (R290) -/

/-- What a copy reads of the state, its ring apart. -/
theorem starting_eq {s : State} {q : Nat} {idx : BitVec 32} {buf : Option Nat} {op : Nat} {c : Cmd} (found : (s.ring q).find idx buf = some c)
    (opcode : c.opcode = op) (may : mayStart (s.ring q) c = true) (kind : (s.ring q).kind ≠ 1) : starting s q idx buf op = some c := by
  have cond : (decide (c.opcode = op) && mayStart (s.ring q) c && (s.ring q).kind != 1) = true := by simp [opcode, may, kind]
  simp only [starting, found, cond, if_true]

theorem extentErr_of_mapped {s : State} {n : Nat} {o : Obj} {len : Nat} {tag : Option Nat} (mapped : unmappedExtent s n o.base len tag = none) (off : Nat) :
    extentErr s n o off len tag = none := by
  simp only [extentErr, mapped, ite_self]

section Copy
variable {s : State} {v : Tbl Ring} {q : Nat} {idx : BitVec 32} {buf : Option Nat} {c : Cmd}

/-- With the rings `v`, ring `q` holds command `c`, and every other ring is as it was. -/
structure Holds (s : State) (v : Tbl Ring) (q : Nat) (idx : BitVec 32) (buf : Option Nat) (c : Cmd) : Prop where
  found : (tget {} v q).find idx buf = some c
  sector : (tget {} v q).sector = (s.ring q).sector
  others : ∀ k, k ≠ q → tget {} v k = s.ring k

/-- The rings once the command is replaced. -/
def putCmd (v : Tbl Ring) (q : Nat) (d : Cmd) : Tbl Ring := tput {} v q ((tget {} v q).put d)

theorem setRing_put (d : Cmd) : ({ s with rings := v } : State).setRing q ((tget {} v q).put d) = { s with rings := putCmd v q d } := rfl

theorem Holds.put {d : Cmd} (holds : Holds s v q idx buf c) (didx : d.idx = c.idx) (dbuf : d.buf = c.buf) : Holds s (putCmd v q d) q idx buf d := by
  obtain ⟨found, sector, others⟩ := holds
  obtain ⟨cidx, cbuf⟩ := idx_of_find found
  refine ⟨?_, ?_, fun k hk => (tget_tput_other _ _ _ _ _ _ hk).trans (others k hk)⟩
  · rw [putCmd, tget_tput_same]
    exact find_put found (didx.trans cidx) (dbuf.trans cbuf)
  · rw [putCmd, tget_tput_same]
    exact sector

/-- A stage of the one piece of a command. -/
theorem setPiece_of_holds (holds : Holds s v q idx buf c) {p : Piece} (flight : c.flight = [p]) (f : Piece → Piece) :
    setPiece { s with rings := v } q c.idx c.buf p.off f = { s with rings := putCmd v q { c with flight := [f p] } } := by
  obtain ⟨cidx, cbuf⟩ := idx_of_find holds.found
  have found : (({ s with rings := v } : State).ring q).find c.idx c.buf = some c := by rw [cidx, cbuf]; exact holds.found
  simp only [setPiece, found, flight, List.map_cons, List.map_nil, if_true] <;> rfl

theorem copySrc_of_rings : copySrc { s with rings := v } c = copySrc s c := rfl
theorem copyDst_of_rings : copyDst { s with rings := v } c = copyDst s c := rfl
theorem needsLeave_of_rings (kind amount : Nat) : needsLeave { s with rings := v } kind amount = needsLeave s kind amount := rfl

/-- The bytes of Sector memory that a piece within it moves, for which leave is asked (R290). -/
def hbmBytes (s : State) (c : Cmd) (p : Piece) : Nat := if (copySrc s c).isSome then p.len + p.len else p.len

section Piece
variable {p : Piece} (leave : p.leave = 0) (src : ∀ o, copySrc s c = some o → o.space = 2) (dst : (copyDst s c).space = 2)
  (free : needsLeave s 1 (hbmBytes s c p) = false)
include leave src dst free

/-- A piece within Sector memory that needs no leave passes the stage of its source, then that of its destination, and moves. -/
theorem advPiece_within : advPiece { s with rings := v } q c p =
    if p.xl = 0 then some (setPiece { s with rings := v } q c.idx c.buf p.off (fun p => { p with xl := 3 }))
    else if p.xl = 3 then some (setPiece { s with rings := v } q c.idx c.buf p.off (fun p => { p with xl := 2 })) else none := by
  cases source : copySrc s c with
  | none =>
    simp only [hbmBytes, source, Option.isSome_none, Bool.false_eq_true, if_false] at free
    simp [advPiece, copySrc_of_rings, copyDst_of_rings, needsLeave_of_rings, source, leave, free, dst]
  | some o =>
    simp only [hbmBytes, source, Option.isSome_some, if_true] at free
    simp [advPiece, copySrc_of_rings, copyDst_of_rings, needsLeave_of_rings, source, leave, free, dst, src o source]

variable (holds : Holds s v q idx buf c) (flight : c.flight = [p])
include holds flight

/-- A stage that changes the piece to `r` is passed. -/
theorem runCopy_stage {r : Piece} (stage : (p.xl = 0 ∧ r = { p with xl := 3 }) ∨ (p.xl = 3 ∧ r = { p with xl := 2 })) (k : Nat) :
    runCopy (k + 1) { s with rings := v } q idx buf = runCopy k { s with rings := putCmd v q { c with flight := [r] } } q idx buf := by
  have adv : advPiece { s with rings := v } q c p = some { s with rings := putCmd v q { c with flight := [r] } } := by
    rw [advPiece_within leave src dst free]
    rcases stage with ⟨xl, rfl⟩ | ⟨xl, rfl⟩
    · rw [if_pos xl, setPiece_of_holds holds flight]
    · rw [if_neg (by omega), if_pos xl, setPiece_of_holds holds flight]
  have found : (({ s with rings := v } : State).ring q).find idx buf = some c := holds.found
  simp only [runCopy, found, flight, List.findSome?_cons, adv]

/-- A command that has handed out all it has, and whose piece moves, waits for it. -/
theorem runCopy_moving (xl : p.xl = 2) (all : c.f 40 8 ≤ c.next) (k : Nat) : runCopy k { s with rings := v } q idx buf = { s with rings := v } := by
  have adv : advPiece { s with rings := v } q c p = none := by
    rw [advPiece_within leave src dst free, if_neg (by omega), if_neg (by omega)]
  have found : (({ s with rings := v } : State).ring q).find idx buf = some c := holds.found
  cases k with
  | zero => rfl
  | succ k => simp [runCopy, found, flight, adv, Nat.not_lt.2 all]

end Piece

/-- The one piece of a command is handed out to the first tile-DMA engine of the Sector. -/
theorem runCopy_hands (holds : Holds s v q idx buf c) (flight : c.flight = []) (next : c.next = 0) (some_ : 0 < c.f 40 8) (one : c.f 40 8 ≤ 2 ^ 20)
    {e : Nat} {es : List Nat} (engines : sectorDma s (s.ring q).sector = e :: es)
    (src : ∀ o, copySrc s c = some o → o.space = 2 ∧ unmappedExtent s (s.ring q).sector o.base (c.f 40 8) c.tag = none)
    (dst : unmappedExtent s (s.ring q).sector (copyDst s c).base (c.f 40 8) c.tag = none) (k : Nat) :
    runCopy (k + 1) { s with rings := v } q idx buf = runCopy k { s with rings := putCmd v q { c with
      next := c.f 40 8, flight := [{ off := 0, len := c.f 40 8, engine := e }] } } q idx buf := by
  have found : (({ s with rings := v } : State).ring q).find idx buf = some c := holds.found
  have sector : (({ s with rings := v } : State).ring q).sector = (s.ring q).sector := holds.sector
  have engines' : sectorDma { s with rings := v } (s.ring q).sector = e :: es := engines
  have len : min (2 ^ 20) (c.f 40 8) = c.f 40 8 := Nat.min_eq_right one
  have mapped (o : Obj) (off : Nat) (h : unmappedExtent s (s.ring q).sector o.base (c.f 40 8) c.tag = none) :
      extentErr { s with rings := v } (s.ring q).sector o off (c.f 40 8) c.tag = none := extentErr_of_mapped h off
  simp only [runCopy, found, flight, List.findSome?_nil, sector, engines', next, some_, List.length_nil, List.isEmpty_cons, decide_true, Bool.not_false,
    Bool.and_self, if_true, Nat.sub_zero, Nat.add_zero, len, Nat.zero_add, Nat.zero_div, Nat.zero_mod, List.getD_cons_zero, List.nil_append,
    show (0 : Nat) < 16 by decide, copySrc_of_rings, copyDst_of_rings, mapped ⟨(copyDst s c).space, (copyDst s c).base, (copyDst s c).pasid⟩ 20 dst]
  cases source : copySrc s c with
  | none => simp only [Option.or_none] <;> rfl
  | some o => simp only [mapped ⟨o.space, o.base, o.pasid⟩ 16 (src o source).2, Option.or_none] <;> rfl

end Copy

/-- COPY or FILL within Sector memory, of one piece and needing no leave: the piece moves. -/
theorem startCopy_within {s : State} {q : Nat} {idx : BitVec 32} {buf : Option Nat} {op : Nat} {c : Cmd} (found : (s.ring q).find idx buf = some c)
    (opcode : c.opcode = op) (may : mayStart (s.ring q) c = true) (kind : (s.ring q).kind ≠ 1) (runs : workRuns s (s.ring q).sector = true)
    (flight : c.flight = []) (next : c.next = 0) (some_ : 0 < c.f 40 8) (one : c.f 40 8 ≤ 2 ^ 20)
    {e : Nat} {es : List Nat} (engines : sectorDma s (s.ring q).sector = e :: es) (space : (copyDst s c).space = 2)
    (src : ∀ o, copySrc s c = some o → o.space = 2 ∧
      unmappedExtent s (s.ring q).sector o.base (c.f 40 8) (some (s.gen (s.ring q).sector).curTag) = none)
    (dst : unmappedExtent s (s.ring q).sector (copyDst s c).base (c.f 40 8) (some (s.gen (s.ring q).sector).curTag) = none)
    (free : needsLeave s 1 ((if (copySrc s c).isSome then c.f 40 8 else 0) + c.f 40 8) = false) :
    ∃ v, startCopy s q idx buf op = { s with rings := v } ∧ Holds s v q idx buf { c with
      st := .started, tag := some (s.gen (s.ring q).sector).curTag, next := c.f 40 8
      flight := [{ off := 0, len := c.f 40 8, engine := e, xl := 2 }] } := by
  let c1 : Cmd := { c with st := .started, tag := some (s.gen (s.ring q).sector).curTag }
  let c2 (xl : Nat) : Cmd := { c1 with next := c.f 40 8, flight := [{ off := 0, len := c.f 40 8, engine := e, xl := xl }] }
  have h1 : Holds s (putCmd s.rings q c1) q idx buf c1 := Holds.put (c := c) ⟨found, rfl, fun _ _ => rfl⟩ rfl rfl
  have h2 : Holds s (putCmd (putCmd s.rings q c1) q (c2 0)) q idx buf (c2 0) := h1.put rfl rfl
  have h3 : Holds s (putCmd (putCmd (putCmd s.rings q c1) q (c2 0)) q (c2 3)) q idx buf (c2 3) := h2.put rfl rfl
  have h4 : Holds s (putCmd (putCmd (putCmd (putCmd s.rings q c1) q (c2 0)) q (c2 3)) q (c2 2)) q idx buf (c2 2) := h3.put rfl rfl
  refine ⟨_, ?_, h4⟩
  have begins : startCopy s q idx buf op = runCopy 256 { s with rings := putCmd s.rings q c1 } q idx buf := by
    simp only [startCopy, starting_eq found opcode may kind, runs, if_true] <;> rfl
  have amount (xl : Nat) : needsLeave s 1 (hbmBytes s (c2 xl) { off := 0, len := c.f 40 8, engine := e, xl := xl }) = false := by
    rw [← free, hbmBytes, show copySrc s (c2 xl) = copySrc s c from rfl]
    split <;> simp
  have src' (o : Obj) (h : copySrc s c = some o) : o.space = 2 := (src o h).1
  calc startCopy s q idx buf op = _ := begins
    _ = _ := runCopy_hands h1 flight next some_ one engines src dst 255
    _ = _ := runCopy_stage (c := c2 0) rfl src' space (amount 0) h2 rfl (.inl ⟨rfl, rfl⟩) 254
    _ = _ := runCopy_stage (c := c2 3) rfl src' space (amount 3) h3 rfl (.inr ⟨rfl, rfl⟩) 253
    _ = _ := runCopy_moving (c := c2 2) rfl src' space (amount 2) h4 rfl rfl (Nat.le_refl _) 253

/-! ### The end of a FILL (R290) -/

/-- The bytes of a FILL: its pattern of eight, over and over. -/
def fillBytes (c : Cmd) (len : Nat) : List Byte := (List.range len).map (fun i => (sub c.raw (24 + i % 8) 1).headD 0)

section Fill
variable {s : State} {q : Nat} {idx : BitVec 32} {c : Cmd} {p : Piece}

/-- What is counted before the pattern is written. -/
def fillCounted (s : State) (q : Nat) (p : Piece) : State :=
  let x := s.ctx (s.ring q).ctx
  let s0 := markLantern (markCtx s (s.ring q).ctx) (p.engine / 4)
  let l := 0x201000 + 0x10000 * (p.engine / 4)
  bump (bump (bump (bump s0 (l + 40) 0) (l + 48) p.len) (tlmWord x.slot 6) 0) (tlmWord x.slot 7) p.len

theorem fillCounted_sameBut (s : State) (q : Nat) (p : Piece) : SameBut [.ctr, .hng] s (fillCounted s q p) :=
  same_mono (same_trans (markCtx_sameBut s _) (same_trans (markLantern_sameBut _ _) (same_trans (bump_sameBut _ _ 0) (same_trans (bump_sameBut _ _ _)
    (same_trans (bump_sameBut _ _ 0) (bump_sameBut _ _ _)))))) (by simp)

/-- The last piece of a FILL of Sector memory: the pattern is written and the command completes. -/
theorem pieceDone_of_fill (found : (s.ring q).find idx none = some c) (opcode : c.opcode = 0x11) (flight : c.flight = [p]) (off : p.off = 0)
    (moving : p.moving = true) (len : p.len = c.f 40 8) (next : c.next = c.f 40 8) (conds : c.conds = []) (space : (copyDst s c).space = 2)
    (ready : objReady s (s.ring q).sector (copyDst s c) (c.f 40 8) = true) (host : HostView) :
    let u := smPut (fillCounted s q p) (s.ring q).sector (copyDst s c).base (fillBytes c p.len)
    let d : Cmd := { c with conds := [], next := c.f 40 8, flight := [] }
    pieceDone s q idx none 0 host = completeCmd (u.setRing q ((u.ring q).put d)) q d stDONE 0 := by
  intro u d
  have same : SameBut (.ctr :: .hng :: recordParts ++ [.sm, .smChk]) s u :=
    same_mono (same_trans (fillCounted_sameBut s q p) (smPut_written _ _ _ _).2) (by simp)
  have rings : u.rings = s.rings := same .rings (by simp)
  have found' : (u.ring q).find idx none = some c := by rw [State.ring, rings]; exact found
  have source (t : State) : copySrc t c = none := by simp [copySrc, opcode]
  have ready' : objReady s (s.ring q).sector ⟨2, (copyDst s c).base, (copyDst s c).pasid⟩ p.len = true := by rw [← space, len]; exact ready
  simp only [u, fillCounted, fillBytes] at found'
  simp only [pieceDone, found, flight, List.find?_cons, off, moving, beq_self_eq_true, Bool.and_self, Nat.add_zero, source, space]
  simp only [ready', Bool.not_true, Bool.false_eq_true, if_false, pieceBytes, overlapBytes, source, if_true, opcode, Bool.and_self,
    if_neg (show ¬ 0x11 = 0x10 by decide), found', conds, List.isEmpty_nil, List.append_nil, flight, off, List.filter_cons, List.filter_nil,
    beq_self_eq_true, next, Bool.not_true, Cmd.f, Nat.le_refl, decide_true, u, d, fillCounted, fillBytes]

end Fill

/-- A command of its ring that is put back and completed has left it. -/
theorem completeCmd_put (u : State) (q : Nat) {c : Cmd} (own : c.buf = none) (quiet : c.signal = none) (status : Nat) (detail : BitVec 64) :
    let t := completeCmd (u.setRing q ((u.ring q).put c)) q c status detail
    (t.ring q).find c.idx none = none ∧ SameBut [.rings, .out, .pci, .ctr, .hng] u t :=
  ⟨find_completeCmd _ q own quiet status detail,
    same_mono (same_trans (setRing_sameBut u q _) (completeCmd_own _ q own quiet status detail).2.2) (by simp)⟩

theorem fillBytes_getD (c : Cmd) {len i : Nat} (inside : i < len) : (fillBytes c len).getD i 0 = c.raw.getD (24 + i % 8) 0 := by
  simp only [fillBytes, List.getD_eq_getElem?_getD, List.getElem?_map, List.getElem?_range inside, Option.map_some, Option.getD_some]
  rfl

theorem length_fillBytes (c : Cmd) (len : Nat) : (fillBytes c len).length = len := by simp [fillBytes]

/-! ### The obligation -/

/-- Settles O29: the start of a COPY or FILL, the end of a FILL, and the host's aperture (R70, R260, R290). -/
theorem copiesAndAperture : Obligations.CopiesAndAperture := by
  unfold Obligations.CopiesAndAperture
  refine ⟨?_, fun s addr len bytes => ⟨bar2Read_outside, bar2Write_outside, fun n a place smClean _ => bar2Read_inside place smClean, fun n a place => ?_⟩⟩
  · intro s q idx buf c r n len d
    refine ⟨?_, ?_, fun host off none_ => ?_⟩
    · intro op e es opcode begin_ runs flight next some_ one engines space src dst free
      obtain ⟨found, op_, may, kind⟩ := begin_
      have source : (copySrc s c).isSome = decide (op = 0x10) := by
        rcases opcode with h | h <;> simp [copySrc, op_, h]
      obtain ⟨v, start, holds⟩ := startCopy_within found op_ may kind runs flight next some_ one engines space src dst (by
        rw [source]
        simpa only [decide_eq_true_eq] using free)
      refine ⟨{ s with rings := v }, ?_, holds.found, holds.others, update_rings s v⟩
      rcases opcode with h | h
      · rw [if_pos h]
        exact congrArg Host.Outcome.next (h ▸ start)
      · rw [if_neg (by omega)]
        exact congrArg Host.Outcome.next (h ▸ start)
    · intro host p found opcode flight off moving len_ next conds quiet space ready
      have done := pieceDone_of_fill found opcode flight off moving len_ next conds space ready host
      have cidx : c.idx = idx := (idx_of_find found).1
      obtain ⟨sm, put⟩ := smPut_written (fillCounted s q.val p) n (copyDst s c).base (fillBytes c p.len)
      obtain ⟨left, kept⟩ := completeCmd_put (smPut (fillCounted s q.val p) n (copyDst s c).base (fillBytes c p.len)) q.val
        (c := { c with conds := [], next := c.f 40 8, flight := [] }) (idx_of_find found).2 quiet stDONE 0
      have counted := fillCounted_sameBut s q.val p
      have written := ((kept .sm (by simp)).trans sm).trans (congrArg (cwrite · (smKey n (copyDst s c).base) (fillBytes c p.len)) (counted .sm (by simp)))
      have size : (fillBytes c p.len).length = c.f 40 8 := (length_fillBytes c _).trans len_
      refine ⟨_, congrArg Host.Outcome.next done, cidx ▸ left, fun i hi => ?_, fun k hk => ?_, same_mono (same_trans counted (same_trans put kept)) (by simp)⟩
      · exact (congrArg (cget · _) written).trans ((cget_cwrite_inside _ _ _ _ (size.symm ▸ hi)).trans (fillBytes_getD c (len_.symm ▸ hi)))
      · exact (congrArg (cget · _) written).trans (cget_cwrite_outside _ _ _ _ (by rw [size]; exact hk))
    · have none' : (s.ring q.val).find idx buf = none := none_
      show Host.Outcome.next (pieceDone s q.val idx buf off host) = _
      simp only [pieceDone, none']
  · obtain ⟨sm, same⟩ := smPut_written s n a bytes
    obtain ⟨hn, ha⟩ := bar2Place_eq place
    refine ⟨hn, ha, _, bar2Write_inside place, fun i hi => ?_, fun k hk => ?_, same_mono same (by simp)⟩
    · rw [sm, cget_cwrite_inside _ _ _ _ hi]
    · rw [sm, cget_cwrite_outside _ _ _ _ hk]

end Sys2Proof.Proofs

/-! SUPPORT. Privileged commands on tables, rings and events (R264, R271 to R284), for O30. -/
namespace Sys2Proof.Proofs

open Sys2Proof.Machine Sys2Proof.Laws

section Starts
variable {s : State} {q : Nat} {idx : BitVec 32} {op : Nat} {c : Cmd}

/-- A privileged command that passes its checks has the effect of its opcode. -/
theorem privCmd_of_starts (starts : PrivStarts s q idx op c) (f : Cmd → State) : privCmd s q idx op f = f c := by
  obtain ⟨found, opcode, kind, may, passes, thawed⟩ := starts
  simp only [privCmd, found, opcode, kind, may, passes, thawed, bne_self_eq_false, Bool.not_true, Bool.or_self, Bool.false_eq_true, if_false, Bool.false_and]

/-- Only opcodes of Table 9-2 for work of a ring's context name an event to signal: a privileged command names none. -/
theorem signal_of_starts (starts : PrivStarts s q idx op c) (privileged : 0x80 ≤ op) : c.signal = none := by
  obtain ⟨-, opcode, -⟩ := starts
  have h1 : c.opcode ≠ 0x01 := by omega
  have h2 : c.opcode ≠ 0x10 := by omega
  have h3 : c.opcode ≠ 0x11 := by omega
  simp [Cmd.signal, h1, h2, h3]

theorem eventSet_of_starts (starts : PrivStarts s q idx 0x88 c) {k : Nat} (kind : c.f 18 1 = k) (f : Cmd → Nat → State) :
    eventSet s q idx k f = f c (c.f 16 2) := by
  rw [eventSet, privCmd_of_starts starts, if_pos kind]

/-- No context is resident or waits for a slot. -/
theorem noneResident (none_ : ∀ x ∈ s.ctxs, x.2.st ≠ .resident ∧ x.2.st ≠ .waiting) :
    s.ctxs.any (fun x => x.2.st == .resident || x.2.st == .waiting) = false := by
  rw [List.any_eq_false]
  intro x hx
  simp [none_ x hx]

theorem someResident (some_ : ∃ x ∈ s.ctxs, x.2.st = .resident) :
    s.ctxs.any (fun x => x.2.st == .resident || x.2.st == .waiting) = true := by
  obtain ⟨x, hx, resident⟩ := some_
  exact List.any_eq_true.2 ⟨x, hx, by simp [resident]⟩

/-- A ring within its size and its completion queue's is not stopped. -/
theorem checkRange_of_within {p : Nat} (tail : ((s.ring p).tail - (s.ring p).head).toNat ≤ 2 ^ (s.ring p).sqLog)
    (cq : ((s.ring p).cqTail - (s.ring p).cqHead).toNat ≤ 2 ^ (s.ring p).cqLog) : checkRange s p = s := by
  simp only [checkRange, if_neg (Nat.not_lt.2 tail), if_neg (Nat.not_lt.2 cq), ite_self]

end Starts

/-- The ring that RING_RESUME names, once it is enabled again (R274). -/
def resumed (r : Ring) : Ring := { r with st := .enabled, error := 0 }

section Resume
variable {s : State} {p : Nat} (held : (s.ring p).heldRecs = []) (tail : ((s.ring p).tail - (s.ring p).head).toNat ≤ 2 ^ (s.ring p).sqLog)
  (cq : ((s.ring p).cqTail - (s.ring p).cqHead).toNat ≤ 2 ^ (s.ring p).cqLog)
include held tail cq

/-- Nothing held and nothing out of range: the ring is enabled and that is all. -/
theorem resumes_ring : ∃ v, checkRange (flushHeld (s.setRing p (resumed (s.ring p))) p) p = { s with rings := v } ∧
    ({ s with rings := v } : State).ring p = resumed (s.ring p) ∧ ∀ k, k ≠ p → ({ s with rings := v } : State).ring k = s.ring k := by
  have ring : (s.setRing p (resumed (s.ring p))).ring p = resumed (s.ring p) := setRing_same _ _ _
  have flushed : flushHeld (s.setRing p (resumed (s.ring p))) p = (s.setRing p (resumed (s.ring p))).setRing p (resumed (s.ring p)) := by
    have kept : { resumed (s.ring p) with heldRecs := [] } = resumed (s.ring p) := congrArg (fun h => { resumed (s.ring p) with heldRecs := h }) held.symm
    have none_ : (resumed (s.ring p)).heldRecs = [] := held
    simp only [flushHeld, ring, kept, none_, List.foldl_nil]
  have ring' : ((s.setRing p (resumed (s.ring p))).setRing p (resumed (s.ring p))).ring p = resumed (s.ring p) := setRing_same _ _ _
  refine ⟨_, ?_, ring', fun k hk => ?_⟩
  · rw [flushed, checkRange_of_within (by rw [ring']; exact tail) (by rw [ring']; exact cq)]
    rfl
  · exact (setRing_other _ _ _ _ hk).trans (setRing_other _ _ _ _ hk)

end Resume

/-- Settles O30: the effects of the privileged commands on tables, rings and events (R264, R271, R274, R275, R281, R282, R284). -/
theorem privilegedCommands : Obligations.PrivilegedCommands := by
  unfold Obligations.PrivilegedCommands
  intro s ring idx c q
  refine ⟨fun starts none_ => ?_, fun starts some_ => ?_, fun starts free quota plain => ?_, fun starts used => ?_, fun starts other => ?_, fun starts => ?_,
    fun starts free => ?_, fun starts => ⟨fun kind => ?_, fun kind => ?_, fun kind idle => ?_⟩⟩
  · exact congrArg Host.Outcome.next ((privCmd_of_starts starts _).trans (if_neg (by simp [noneResident none_])))
  · exact congrArg Host.Outcome.next ((privCmd_of_starts starts _).trans (if_pos (someResident some_)))
  · refine congrArg Host.Outcome.next ((privCmd_of_starts starts _).trans ?_)
    simp only [free, plain, bne_self_eq_false, Bool.false_eq_true, if_false, Option.isSome_none, Bool.false_and]
    exact if_neg (Nat.not_le.2 quota)
  · exact congrArg Host.Outcome.next ((privCmd_of_starts starts _).trans (if_pos (by simpa using used)))
  · intro p
    have named : (s.setRing q ((s.ring q).put { c with st := .started })).ring (c.f 16 2) = p := setRing_other _ _ _ _ other
    refine ⟨_, congrArg Host.Outcome.next (privCmd_of_starts starts _), ?_, ?_, fun k hq hp => ?_, ?_⟩
    · exact (setRing_same _ _ _).trans (by rw [named])
    · exact (setRing_other _ _ _ _ (Ne.symm other)).trans (setRing_same _ _ _)
    · exact (setRing_other _ _ _ _ hp).trans (setRing_other _ _ _ _ hq)
    · exact same_mono (same_trans (setRing_sameBut s q _) (setRing_sameBut _ _ _)) (by simp)
  · intro p other held tail cq
    obtain ⟨v, resumes, named, others⟩ := resumes_ring (s := s) (p := c.f 16 2) held tail cq
    obtain ⟨-, elsewhere, -⟩ := completeCmd_own { s with rings := v } q (idx_of_find starts.1).2 (signal_of_starts starts (by omega)) stDONE 0
    refine ⟨_, congrArg Host.Outcome.next ((privCmd_of_starts starts _).trans (congrArg (completeCmd · q c stDONE 0) resumes)), ?_, fun k hq hp => ?_, ?_⟩
    · exact (elsewhere _ other).trans named
    · exact (elsewhere k hq).trans (others k hp)
    · exact (idx_of_find starts.1).1 ▸ find_completeCmd { s with rings := v } q (idx_of_find starts.1).2 (signal_of_starts starts (by omega)) stDONE 0
  · refine congrArg Host.Outcome.next ((privCmd_of_starts starts _).trans (if_neg ?_))
    simp [eventIdle, free]
  · exact congrArg Host.Outcome.next (eventSet_of_starts starts kind _)
  · exact congrArg Host.Outcome.next (eventSet_of_starts starts kind _)
  · refine congrArg Host.Outcome.next ((eventSet_of_starts starts kind _).trans (if_neg ?_))
    simp [idle]

end Sys2Proof.Proofs

/-! SUPPORT. What the Logbook, the counters and the event registers hold after a step: facts shared by the obligations on the module's services. -/
namespace Sys2Proof.Proofs

open Sys2Proof.Machine Sys2Proof.Laws

theorem startFlush_log (s : State) : (startFlush s).log = s.log := startFlush_same s .log (by simp)

/-- Two states of the Keeper that differ in its collector, what it lost and the flush that runs. -/
def SameKeeper (k k' : Keeper) : Prop := ∃ coll lost flushing, k' = { k with coll := coll, lost := lost, flushing := flushing }

theorem SameKeeper.trans {k k' k'' : Keeper} (h : SameKeeper k k') (h' : SameKeeper k' k'') : SameKeeper k k'' := by
  obtain ⟨_, _, _, rfl⟩ := h
  obtain ⟨coll, lost, flushing, rfl⟩ := h'
  exact ⟨coll, lost, flushing, rfl⟩

theorem startFlush_keeper (u : State) : SameKeeper u.kpr (startFlush u).kpr := by
  unfold startFlush
  split
  · exact ⟨u.kpr.coll, u.kpr.lost, u.kpr.flushing, rfl⟩
  · exact ⟨u.kpr.coll, u.kpr.lost, _, rfl⟩

theorem flushIf_keeper (c : Prop) [Decidable c] (u : State) : SameKeeper u.kpr (if c then startFlush u else u).kpr := by
  split
  · exact startFlush_keeper u
  · exact ⟨u.kpr.coll, u.kpr.lost, u.kpr.flushing, rfl⟩

/-- Of the Keeper, a post moves no more than that. -/
theorem postLog_keeper (u : State) (typ sec : Nat) (fatal : Bool) (arg : Nat) (more : Bool) : SameKeeper u.kpr (postLog u typ sec fatal arg more).kpr := by
  have held (n : Nat) : SameKeeper u.kpr { u.kpr with coll := n } := ⟨n, u.kpr.lost, u.kpr.flushing, rfl⟩
  unfold postLog
  extract_lets -merge +onlyGivenNames idle
  split
  · exact ⟨u.kpr.coll, _, u.kpr.flushing, rfl⟩
  · extract_lets -merge +onlyGivenNames k v w
    refine SameKeeper.trans (k' := v.kpr) ?_ (flushIf_keeper _ w)
    show SameKeeper u.kpr (if idle then { u with kpr := { u.kpr with coll := u.kpr.coll + 1 } } else u).kpr
    split
    · exact held _
    · exact held u.kpr.coll

section Posted
variable {s u : State} {typ sec arg : Nat} {fatal more : Bool}

/-- The record that a post in `u` writes. -/
def logEntry (u : State) (typ sec : Nat) (fatal : Bool) (arg : Nat) (more : Bool) : LogEv :=
  { seq := u.logSeq, when_ := u.now, typ := typ, sector := sec, fatal := fatal, freeRun := u.flash.freeRun, more := more, arg := BitVec.ofNat 64 arg }

/-- A Keeper that runs takes a record as the newest of its log (R480). -/
theorem postLog_log (takes : keeperTakes u) : (postLog u typ sec fatal arg more).log = (logEntry u typ sec fatal arg more :: u.log).take 65536 := by
  obtain ⟨runs, up⟩ := takes
  have busy : (!u.kpr.runs || u.kpr.st == .restarting) = false := by simp [runs, up]
  simp only [postLog, busy, Bool.false_and, Bool.false_eq_true, if_false]
  split
  · exact startFlush_log _
  · rfl

theorem keeperTakes_congr (takes : keeperTakes s) (kpr : u.kpr = s.kpr) : keeperTakes u := by
  rw [keeperTakes, kpr]
  exact takes

/-- A record carries the time of its posting. -/
theorem logged_postLog (takes : keeperTakes s) (kpr : u.kpr = s.kpr) (flash : u.flash = s.flash) :
    Logged (postLog u typ sec fatal arg more) s.now typ sec arg := by
  have now : u.now = s.now := by rw [State.now, State.now, flash]
  refine ⟨logEntry u typ sec fatal arg more, ?_, rfl, rfl, rfl, now⟩
  rw [postLog_log (keeperTakes_congr takes kpr)]
  exact List.mem_cons_self ..

/-- What is in the log stays there where the log is the same. -/
theorem logged_congr {t : State} {when_ : Word} (logged : Logged u when_ typ sec arg) (log : t.log = u.log) : Logged t when_ typ sec arg := by
  rw [Logged, log]
  exact logged

end Posted

/-- Posting a record touches no event register. -/
theorem evSet_postLog (s : State) (typ sec : Nat) (fatal : Bool) (arg : Nat) (more : Bool) (off i : Nat) :
    evSet (postLog s typ sec fatal arg more) off i = evSet s off i := evSet_congr (postLog_same s typ sec fatal arg more .regs (by simp)) off i

theorem ctr_bump_same (s : State) (off n : Nat) : tget 0 (bump s off n).ctr off = tget 0 s.ctr off + BitVec.ofNat 64 n := tget_tput_same _ _ _ _

theorem ctr_bump_other (s : State) {off k : Nat} (n : Nat) (h : k ≠ off) : tget 0 (bump s off n).ctr k = tget 0 s.ctr k := tget_tput_other _ _ _ _ _ _ h

theorem bit_eq_testBit (x i : Nat) : bit x i = x.testBit i := by
  simp only [bit, bits, Nat.add_sub_cancel_left, Nat.pow_one, Nat.testBit_eq_decide_div_mod_eq]
  exact beq_eq_decide ..

end Sys2Proof.Proofs

/-! SUPPORT. Final writes, directories, escalations and rehomes (R328, R343 to R350), for O35. -/
namespace Sys2Proof.Proofs

open Sys2Proof.Machine Sys2Proof.Laws

theorem cohCount_sameBut (s : State) (i n : Nat) : SameBut [.ctr] s (cohCount s i n) := bump_sameBut s _ n

/-! ### Final writes (R328) -/

section FinalWrite
variable {s : State} {src : BitVec 20} {stream : BitVec 16} {seq : BitVec 32}

theorem finalWriteDiscard_none (young : ∀ h ∈ (s.seqIn (stream.toNat * 2 ^ 20 + src.toNat)).held, h.1.seq ≠ seq.toNat ∨ h.2.2 < 16) :
    exec (.finalWriteDiscard src stream seq) s = .next s := by
  have none_ : (s.seqIn (stream.toNat * 2 ^ 20 + src.toNat)).held.find? (fun h => h.1.seq == seq.toNat && decide (16 ≤ h.2.2)) = none := by
    rw [List.find?_eq_none]
    intro h mem due
    rw [Bool.and_eq_true, beq_iff_eq, decide_eq_true_eq] at due
    have := young h mem
    omega
  show execFinalWriteDiscard src stream seq s = _
  rw [State.seqIn] at none_
  simp only [execFinalWriteDiscard, none_]

/-- The record of a stream without the held final writes of that SEQ. -/
def dropHeld (r : SeqIn) (n : Nat) : SeqIn := { r with held := r.held.filter (fun g => !(g.1.seq == n)) }

theorem seqIn_setSeqIn (s : State) (k : Nat) (r : SeqIn) : (s.setSeqIn k r).seqIn k = r := tget_tput_same _ _ _ _

theorem finalWriteDiscard_due {h : Frame × Nat × Nat} (held : h ∈ (s.seqIn (stream.toNat * 2 ^ 20 + src.toNat)).held) (number : h.1.seq = seq.toNat)
    (due : 16 ≤ h.2.2) : ∃ n, exec (.finalWriteDiscard src stream seq) s = .next (postLog (raise (cohCount (s.setSeqIn (stream.toNat * 2 ^ 20 + src.toNat)
      (dropHeld (s.seqIn (stream.toNat * 2 ^ 20 + src.toNat)) seq.toNat)) 9 1) evCOH 5) 0x47 n false (src.toNat + stream.toNat * 2 ^ 20)) := by
  obtain ⟨g, found⟩ := Option.isSome_iff_exists.1 (List.find?_isSome.2 ⟨h, held, by simp [number, due]⟩ :
    ((s.seqIn (stream.toNat * 2 ^ 20 + src.toNat)).held.find? (fun h => h.1.seq == seq.toNat && decide (16 ≤ h.2.2))).isSome)
  refine ⟨(moorSector s g.1.mooring).getD 0xFF, ?_⟩
  show execFinalWriteDiscard src stream seq s = _
  rw [State.seqIn] at found
  simp only [execFinalWriteDiscard, found, State.setSeqIn, dropHeld, State.seqIn]

end FinalWrite

/-! ### Directories (R343, R344, R346) -/

section Directory
variable {s : State} {d : Nat}

theorem dirMode_setDir_same (s : State) (d : Nat) (m : DirMode) : dirMode (setDir s d m) d = m := tget_tput_same _ _ _ _

theorem dirMode_setDir_other (s : State) (m : DirMode) {d e : Nat} (h : e ≠ d) : dirMode (setDir s d m) e = dirMode s e := tget_tput_other _ _ _ _ _ _ h

theorem setDir_sameBut (s : State) (d : Nat) (m : DirMode) : SameBut [.mem] s (setDir s d m) := update_mem s _

theorem dirMode_congr {t : State} (mem : t.mem = s.mem) (e : Nat) : dirMode t e = dirMode s e := by rw [dirMode, dirMode, mem]

theorem dirCorrect_of_none (none_ : dirErrs s d 1 = []) : dirCorrect s d = s := by simp [dirCorrect, none_]

theorem dirErrs_of_clean (clean : s.mem.dirChk = []) (k : Nat) : dirErrs s d k = [] := by simp [dirErrs, clean]

/-- A die in REBUILD without an error takes up the mode that FORCE says. -/
theorem directoryRebuildDone_clean {d : Fin 4} (rebuilds : dirMode s d.val = .rebuild) (clean : s.mem.dirChk = []) :
    exec (.directoryRebuildDone d) s = .next (raise (setDir s d.val (if bit (cohForce s) d.val then .test else .directory)) evCOH 2) := by
  show execDirectoryRebuildDone d s = _
  simp only [execDirectoryRebuildDone, rebuilds, bne_self_eq_false, Bool.false_eq_true, if_false, dirCorrect_of_none (dirErrs_of_clean clean 1), dirUncorr,
    dirErrs_of_clean clean 2]

/-- The state after the die's uncorrectable error has restarted its rebuild (R346). -/
def rebuildAgain (s : State) (d e : Nat) : State :=
  postLog (raise (cohCount (setDir { s with mem := { s.mem with dirChk := [] } } d .rebuild) 6 1) evCOH 1) 0x46 0xFF false (d + e % 2 ^ 32 * 2 ^ 16)

theorem directoryRebuildDone_uncorrectable {d : Fin 4} {e : Nat} (rebuilds : dirMode s d.val = .rebuild) (one : s.mem.dirChk = [(e, 2)])
    (die : e / 2 ^ 40 = d.val) : exec (.directoryRebuildDone d) s = .next (rebuildAgain s d.val e) := by
  have corrected : dirErrs s d.val 1 = [] := by simp [dirErrs, one]
  have uncorrected : dirErrs s d.val 2 = [(e, 2)] := by simp only [dirErrs, one, List.filter_cons, die, beq_self_eq_true, Bool.and_self, if_true,
      List.filter_nil]
  have gone : s.mem.dirChk.filter (fun p => !(p.1 == e)) = [] := by simp [one]
  show execDirectoryRebuildDone d s = _
  simp only [execDirectoryRebuildDone, rebuilds, bne_self_eq_false, Bool.false_eq_true, if_false, dirCorrect_of_none corrected, dirUncorr, uncorrected, gone,
    rebuildAgain]

end Directory

/-! ### Rehomes (R348) -/

theorem tagWalk_of_clean {s : State} (clean : s.mem.tagChk = []) (n d : Nat) : tagWalk s n d = s := by
  have same : ({ s.mem with tagChk := [] } : Mem) = s.mem := by rw [← clean]
  simp only [tagWalk, clean, List.filter_nil, List.foldl_nil, same]

theorem rehomeWalkDone_clean {s : State} {n : Fin 16} {lines : Nat} {r : Rehome} (one : s.mem.rehomes = [r]) (sector : r.sector = n.val)
    (walking : r.walked = false) (clean : s.mem.dirChk = []) (tags : s.mem.tagChk = []) :
    exec (.rehomeWalkDone n lines) s = .next (cohCount { s with mem := { s.mem with rehomes := [{ r with walked := true }] } } 10 lines) := by
  have walk (l : List Nat) : l.foldl (fun s d => let s1 := dirCorrect (tagWalk s n d) d; (dirUncorr s1 d).getD s1) s = s := by
    refine foldl_fixed_of_mem fun d _ => ?_
    simp only [tagWalk_of_clean tags, dirCorrect_of_none (dirErrs_of_clean clean 1), dirUncorr, dirErrs_of_clean clean 2, Option.getD_none]
  show execRehomeWalkDone n lines s = _
  simp only [execRehomeWalkDone, one, List.find?_cons, sector, walking, beq_self_eq_true, Bool.not_false, Bool.and_self, walk, List.map_cons,
      List.map_nil, if_true]

/-! ### FORCE (R350) -/

/-- The mode of a die once FORCE's bit for it is `force`. -/
def forcedMode (force : Bool) (m : DirMode) : DirMode :=
  if m = .directory ∧ force then .test else if m = .test ∧ force = false then .directory else m

/-- One die takes up FORCE. -/
def forceDie (v : Nat) (s : State) (d : Nat) : State :=
  let m := dirMode s d
  if bit v d then (if m = .directory then setDir s d .test else s)
  else if m = .test then setDir s d .directory else s

theorem forceDie_eq (v : Nat) (s : State) (d : Nat) : SameBut [.mem] s (forceDie v s d) ∧ dirMode (forceDie v s d) d = forcedMode (bit v d) (dirMode s d) ∧
    ∀ e, e ≠ d → dirMode (forceDie v s d) e = dirMode s e := by
  unfold forceDie forcedMode
  cases force : bit v d <;> cases mode : dirMode s d
  all_goals simp [mode, dirMode_setDir_same, same_refl, setDir_sameBut]
  all_goals exact fun e other => dirMode_setDir_other s _ other

theorem forceDies_eq (v : Nat) (n : Nat) (s : State) : SameBut [.mem] s ((List.range n).foldl (forceDie v) s) ∧
    ∀ e, dirMode ((List.range n).foldl (forceDie v) s) e = if e < n then forcedMode (bit v e) (dirMode s e) else dirMode s e := by
  induction n with
  | zero => exact ⟨same_refl _ _, fun e => rfl⟩
  | succ n ih =>
    obtain ⟨same, modes⟩ := ih
    rw [List.range_succ, List.foldl_append]
    obtain ⟨step, own, others⟩ := forceDie_eq v ((List.range n).foldl (forceDie v) s) n
    refine ⟨same_trans same step |> (same_mono · (by simp)), fun e => ?_⟩
    rcases Nat.lt_trichotomy e n with below | rfl | above
    · exact (others e (by omega)).trans (by rw [modes, if_pos below, if_pos (by omega)])
    · exact own.trans (by rw [modes, if_neg (by omega), if_pos (by omega)])
    · exact (others e (by omega)).trans (by rw [modes, if_neg (by omega), if_neg (by omega)])

/-! ### The obligation -/

/-- Settles O35: final writes, directories, escalations, rehomes and FORCE (R328, R343, R344, R346, R348, R350). -/
theorem coherence : Obligations.Coherence := by
  unfold Obligations.Coherence
  refine fun s => ⟨fun src stream seq => ⟨finalWriteDiscard_none, fun h held number due => ?_⟩, fun d => ⟨fun other => ?_, fun rebuilds clean => ?_,
    fun e rebuilds one die => ?_⟩, fun m => ?_, fun n lines r one sector walking clean tags => ?_, fun n lines none_ => ?_, fun v => ⟨fun shut => ?_,
        fun open_ => ?_⟩⟩
  · obtain ⟨n, run⟩ := finalWriteDiscard_due held number due
    refine ⟨_, run, ?_⟩
    generalize stream.toNat * 2 ^ 20 + src.toNat = k
    generalize src.toNat + stream.toNat * 2 ^ 20 = arg
    have posted := postLog_same (raise (cohCount (s.setSeqIn k (dropHeld (s.seqIn k) seq.toNat)) 9 1) evCOH 5) 0x47 n false arg false
    have raised := raise_same (cohCount (s.setSeqIn k (dropHeld (s.seqIn k) seq.toNat)) 9 1) evCOH 5
    have left : (postLog (raise (cohCount (s.setSeqIn k (dropHeld (s.seqIn k) seq.toNat)) 9 1) evCOH 5) 0x47 n false arg).seqIn k =
        dropHeld (s.seqIn k) seq.toNat := by
      rw [State.seqIn, posted .chn (by simp), raised .chn (by simp)]
      exact seqIn_setSeqIn s k _
    refine ⟨fun g => ?_, ?_, ?_, ?_, ?_⟩
    · rw [left, dropHeld, List.mem_filter, Bool.not_eq_true', beq_eq_false_iff_ne]
    · rw [left, dropHeld]
    · rw [evSet_postLog]
      exact evSet_raise_self _ _ _ (by decide)
    · rw [posted .ctr (by simp), raised .ctr (by simp)]
      exact ctr_bump_same _ _ _
    · exact same_mono (same_trans (update_chn s _) (same_trans (cohCount_sameBut _ 9 1) (same_trans raised posted))) (by simp)
  · exact congrArg Host.Outcome.next (if_pos (by simpa using other))
  · refine ⟨_, directoryRebuildDone_clean rebuilds clean, ?_, fun e other => ?_, evSet_raise_self _ _ _ (by decide), ?_⟩
    · exact (dirMode_congr (raise_same _ _ _ .mem (by simp)) _).trans (dirMode_setDir_same _ _ _)
    · exact (dirMode_congr (raise_same _ _ _ .mem (by simp)) _).trans (dirMode_setDir_other _ _ other)
    · exact same_mono (same_trans (setDir_sameBut s _ _) (raise_same _ _ _)) (by simp)
  · have posted := postLog_same (raise (cohCount (setDir { s with mem := { s.mem with dirChk := [] } } d .rebuild) 6 1) evCOH 1) 0x46 0xFF false
      (d + e % 2 ^ 32 * 2 ^ 16) false
    have raised := raise_same (cohCount (setDir { s with mem := { s.mem with dirChk := [] } } d .rebuild) 6 1) evCOH 1
    have mem := (posted .mem (by simp)).trans (raised .mem (by simp))
    refine ⟨_, directoryRebuildDone_uncorrectable rebuilds one die, ?_, congrArg Mem.dirChk mem, ?_, fun takes => ?_, ?_⟩
    · exact (dirMode_congr mem _).trans (dirMode_setDir_same _ _ _)
    · rw [rebuildAgain, evSet_postLog]
      exact evSet_raise_self _ _ _ (by decide)
    · exact logged_postLog takes (raised .kpr (by simp)) (raised .flash (by simp))
    · exact same_mono (same_trans (update_mem s _) (same_trans (setDir_sameBut _ _ _) (same_trans (cohCount_sameBut _ 6 1) (same_trans raised posted)))) (by simp)
  · have raised := raise_same (cohCount (cohCount s 3 (max 16 m)) 4 1) evCOH 3
    refine ⟨_, rfl, evSet_raise_self _ _ _ (by decide), ?_, ?_,
        same_mono (same_trans (cohCount_sameBut s _ _) (same_trans (cohCount_sameBut _ _ _) raised)) (by simp)⟩
    · rw [raised .ctr (by simp)]
      exact (ctr_bump_same _ _ _).trans (congrArg (· + 1) (ctr_bump_other _ _ (by decide)))
    · rw [raised .ctr (by simp)]
      exact (ctr_bump_other _ _ (by decide)).trans (ctr_bump_same _ _ _)
  · exact ⟨_, rehomeWalkDone_clean one sector walking clean tags, rfl, ctr_bump_same _ _ _,
        same_mono (same_trans (update_mem s _) (cohCount_sameBut _ _ _)) (by simp)⟩
  · show execRehomeWalkDone n lines s = _
    simp only [execRehomeWalkDone, none_, List.find?_nil]
  · exact congrArg Host.Outcome.next (if_pos (by simp [shut]))
  · obtain ⟨same, modes⟩ := forceDies_eq v.toNat 4 (setReg s 0x4E008 (v.setWidth 64))
    refine ⟨_, congrArg Host.Outcome.next (if_neg (by simp [open_])), ?_, fun d hd => ?_, same_mono (same_trans (setReg_same s _ _) same) (by simp)⟩
    · exact (congrArg (tget _ · _) (same .regs (by simp))).trans (regNow_setReg_same _ _ _)
    · refine (modes d).trans ((if_pos hd).trans ?_)
      rw [forcedMode, bit_eq_testBit]
      rfl

end Sys2Proof.Proofs

/-! SUPPORT. Requests of other modules (R374 to R378, R393, R394), for O37. -/
namespace Sys2Proof.Proofs

open Sys2Proof.Machine Sys2Proof.Laws

/-! ### Frames that arrive -/

theorem rxFrame_of_arrives {s : State} {l type : Nat} {f : Frame} (arrives : FrameArrives s l f type) : rxFrame s l f type = .ok (counted s l f) := by
  obtain ⟨up, kind, dst, flags, mooring, addr, size, lines, status, some_⟩ := arrives
  have payload : ((type == 1 && f.payload.isEmpty) || ((type == 2 || type == 4) && f.payload.isEmpty)) = false := by
    rcases h : f.payload.isEmpty with _ | _
    · simp
    · have empty := List.isEmpty_iff.1 h
      have : ¬ (type = 1 ∨ type = 2 ∨ type = 4) := fun h => some_ h empty
      simp only [not_or] at this
      simp [this]
  have clean : (decide (type < 0x10) && f.status != 0) = false := by
    by_cases h : type < 16 <;> simp [h, status]
  simp only [rxFrame, up, kind, dst, Nat.not_le.2 flags, Nat.not_le.2 mooring, Nat.not_le.2 addr, Nat.not_lt.2 size, lines, clean, counted, Bool.not_true,
    bne_self_eq_false, Bool.or_self, Bool.false_eq_true, if_false, decide_false]
  rw [Bool.or_assoc, payload]
  simp

theorem rxFrame_of_down {s : State} {l : Nat} (down : (s.lane l).up = false) (f : Frame) (type : Nat) : rxFrame s l f type = .error s := by
  simp [rxFrame, down]

theorem countedFrame_sameBut (s : State) (l : Nat) (f : Frame) : SameBut [.ctr] s (counted s l f) :=
  same_mono (same_trans (bump_sameBut s _ 1) (bump_sameBut _ _ _)) (by simp)

/-! ### Answers (R376) -/

/-- The lanes and the device ID are those of `s`. -/
def SamePort (s u : State) : Prop := u.chn.lanes = s.chn.lanes ∧ u.chn.id = s.chn.id

theorem SamePort.of_chn {s u t : State} (port : SamePort s u) (chn : t.chn = u.chn) : SamePort s t := by
  rw [SamePort, chn]
  exact port

theorem samePort_setSeqIn {s u : State} (same : SamePort s u) (k : Nat) (r : SeqIn) : SamePort s (u.setSeqIn k r) := same

theorem setSeqIn_sameBut (u : State) (k : Nat) (r : SeqIn) : SameBut [.chn] u (u.setSeqIn k r) := update_chn u _

section Answer
variable {s u : State} {l type status : Nat} {f : Frame} {payload : List Byte}

theorem laneSend_sameBut (u : State) (l : Nat) (g : Frame) : SameBut [.chn, .out] u (laneSend u l g) := by
  unfold laneSend
  dsimp only
  split
  · exact same_mono (same_trans (setLane_sameBut u l _) (emit_same _ _)) (by simp)
  · exact same_mono (setLane_sameBut u l _) (by simp)

theorem answer_sameBut (u : State) (l : Nat) (f : Frame) (type status : Nat) (payload : List Byte) :
    SameBut [.chn, .ctr, .out] u (answer u l f type status payload) :=
  same_mono (same_trans (laneSend_sameBut u l _) (same_trans (bump_sameBut _ _ 1) (bump_sameBut _ _ _))) (by simp)

theorem seqIn_laneSend (u : State) (l : Nat) (g : Frame) (k : Nat) : (laneSend u l g).seqIn k = u.seqIn k := by
  unfold laneSend
  dsimp only
  split <;> rfl

/-- An answer leaves the records of the streams. -/
theorem seqIn_answer (u : State) (l : Nat) (f : Frame) (type status : Nat) (payload : List Byte) (k : Nat) :
    (answer u l f type status payload).seqIn k = u.seqIn k := seqIn_laneSend u l _ k

/-- On a lane that is up and holds nothing the answer is sent at once. -/
theorem answer_sends (port : SamePort s u) (up : (s.lane l).up = true) (free : (s.lane l).held = false) (f : Frame) (type status : Nat) (payload : List Byte) :
    .frame l (replyTo s f type status payload) ∈ (answer u l f type status payload).out := by
  obtain ⟨lanes, id⟩ := port
  have lane : u.lane l = s.lane l := by rw [State.lane, State.lane, lanes]
  have reply : replyTo u f type status payload = replyTo s f type status payload := by rw [replyTo, replyTo, id]
  show _ ∈ (laneOriginate u l (replyTo u f type status payload)).out
  simp only [reply, laneOriginate, portCount, bump_out, laneSend, lane, up, free, Bool.not_false, Bool.and_self, if_true]
  exact List.mem_cons_self ..

end Answer

/-! ### The records of the streams (R377) -/

section Streams
variable {s u : State} {f : Frame} {r : SeqIn}

theorem landMore_of_none (none_ : (u.seqIn (recKey f)).held = []) : landMore u f = u := by
  rw [landMore, none_]
  rfl

/-- A frame with FIRST begins its stream anew; any other keeps what is known of it. -/
theorem seqNote_eq (u : State) (f : Frame) : ∃ r, seqNote u f = u.setSeqIn (recKey f) r ∧
    (r = {} ∨ r = { u.seqIn (recKey f) with idle := 0 }) ∧ (bit f.flags 1 = false → r = { u.seqIn (recKey f) with idle := 0 }) := by
  unfold seqNote
  dsimp only
  split
  next first =>
    refine ⟨_, rfl, .inl rfl, fun other => ?_⟩
    rw [other] at first
    contradiction
  next => exact ⟨_, rfl, .inr rfl, fun _ => rfl⟩

/-- The record once the frame's SEQ is done. -/
def doneRec (r : SeqIn) (seq : Nat) : SeqIn :=
  { r with seen := r.seen || seq == 0, done := if r.done.contains seq then r.done else seq :: r.done, idle := 0 }

theorem seqDone_eq (u : State) (f : Frame) : seqDone u f = u.setSeqIn (recKey f) (doneRec (u.seqIn (recKey f)) f.seq) := rfl

theorem mem_doneRec (r : SeqIn) (seq : Nat) : seq ∈ (doneRec r seq).done := by
  unfold doneRec
  dsimp only
  split
  next h => exact List.contains_iff_mem.1 h
  next => exact List.mem_cons_self ..

end Streams

/-! ### WRITE and READ (R377, R378, R393) -/

section Inbound
variable {s : State} {l : Nat} {f : Frame} {v : SeqIn} {len n a e : Nat}

/-- The state once a frame is counted and its stream's record is `v`. -/
def noted (s : State) (l : Nat) (f : Frame) (v : SeqIn) : State := (counted s l f).setSeqIn (recKey f) v

theorem noted_sameBut (s : State) (l : Nat) (f : Frame) (v : SeqIn) : SameBut [.chn, .ctr] s (noted s l f v) :=
  same_mono (same_trans (countedFrame_sameBut s l f) (setSeqIn_sameBut _ _ _)) (by simp)

theorem seqIn_noted (s : State) (l : Nat) (f : Frame) (v : SeqIn) : (noted s l f v).seqIn (recKey f) = v := seqIn_setSeqIn _ _ _

theorem samePort_noted (s : State) (l : Nat) (f : Frame) (v : SeqIn) : SamePort s (noted s l f v) := ⟨rfl, rfl⟩

/-- What a frame may reach is no matter of counters and streams. -/
theorem inbound_counted (s : State) (l : Nat) (f : Frame) (len : Nat) : inbound (counted s l f) f len = inbound s f len := by
  have moor (m : Nat) : (counted s l f).moor m = s.moor m := rfl
  have owner (m : Nat) : moorSector (counted s l f) m = moorSector s m := rfl
  have mapped (n a : Nat) : rangeMapped (counted s l f) n a len = rangeMapped s n a len := rfl
  have runs (n : Nat) : sectorRuns (counted s l f) n = sectorRuns s n := rfl
  unfold inbound
  simp only [moor, owner, mapped, runs]

theorem inbound_noted (s : State) (l : Nat) (f : Frame) (v : SeqIn) (len : Nat) : inbound (noted s l f v) f len = inbound s f len := inbound_counted s l f len

theorem inboundWaits_counted (s : State) (l : Nat) (f : Frame) (len : Nat) : inboundWaits (counted s l f) f len = inboundWaits s f len := by
  have gens (n a : Nat) : rangeReady (counted s l f) n a len = rangeReady s n a len := by simp only [rangeReady, State.gen, counted, portCount, bump_gens]
  unfold inboundWaits
  rw [inbound_counted]
  cases inbound s f len with
  | error e => rfl
  | ok p => exact congrArg (!·) (gens _ _)

theorem inboundWaits_of_ready (place : inbound s f len = .ok (n, a)) (ready : rangeReady s n a len = true) : inboundWaits s f len = false := by
  simp [inboundWaits, place, ready]

theorem inboundWaits_of_error (refused : inbound s f len = .error e) : inboundWaits s f len = false := by
  simp [inboundWaits, refused]

/-- What a WRITE does once its stream's record is `v`. -/
def writeNoted (s : State) (l : Nat) (f : Frame) (v : SeqIn) : State :=
  let s2 := noted s l f v
  if v.done.contains f.seq then answer s2 l f 0x11 0
  else if bit f.flags 0 && !mayLand v f.seq then
    if v.held.any (fun h => h.1.seq == f.seq) then s2
    else bump (s2.setSeqIn (recKey f) { v with held := v.held ++ [(f, l, 0)] }) 0x4E140 1
  else landMore (landWrite s2 l f) f

theorem write_of_arrives {lane : Fin 128} (arrives : FrameArrives s lane.val f 1) (ready : inboundWaits s f f.payload.length = false)
    (note : seqNote (counted s lane.val f) f = noted s lane.val f v) : exec (.write lane f) s = .next (writeNoted s lane.val f v) := by
  show execWrite lane f s = _
  simp only [execWrite, rxFrame_of_arrives arrives, inboundWaits_counted, ready, Bool.false_eq_true, if_false, note, seqIn_noted, writeNoted]

/-- A WRITE of a SEQ that is not done and may land. -/
theorem writeNoted_lands (fresh : f.seq ∉ v.done) (plain : ¬ bit f.flags 0 = true) :
    writeNoted s l f v = landMore (landWrite (noted s l f v) l f) f := by
  simp only [writeNoted, List.contains_eq_mem, fresh, decide_false, Bool.not_eq_true _ ▸ plain, Bool.false_and, Bool.false_eq_true, if_false]

theorem writeNoted_again (done : f.seq ∈ v.done) : writeNoted s l f v = answer (noted s l f v) l f 0x11 0 := by
  simp only [writeNoted, List.contains_eq_mem, done, decide_true, if_true]

/-- A final WRITE that may not land yet is held, and counted. -/
theorem writeNoted_held (fresh : f.seq ∉ v.done) (final : bit f.flags 0 = true) (early : mayLand v f.seq = false) (none_ : v.held = []) :
    writeNoted s l f v = bump ((noted s l f v).setSeqIn (recKey f) { v with held := [(f, l, 0)] }) 0x4E140 1 := by
  simp only [writeNoted, List.contains_eq_mem, fresh, decide_false, final, early, Bool.not_false, Bool.and_self, Bool.false_eq_true, if_false, if_true, none_,
    List.any_nil, List.nil_append]

/-- The state after a WRITE that lands, before later ones are looked for. -/
theorem landWrite_ok (place : inbound s f f.payload.length = .ok (n, a)) :
    landWrite (noted s l f v) l f = answer (seqDone (smPut (noted s l f v) n a f.payload) f) l f 0x11 0 := by
  simp only [landWrite, inbound_noted, place]

theorem landWrite_error (refused : inbound s f f.payload.length = .error e) : landWrite (noted s l f v) l f = answer (noted s l f v) l f 0x16 e := by
  simp only [landWrite, inbound_noted, refused]

/-- What a READ does once its stream's record is `v`. -/
def readNoted (s : State) (l : Nat) (f : Frame) (v : SeqIn) (n a len : Nat) : State :=
  landMore (answer (seqDone (noted s l f v) f) l f 0x12 0 (cread s.sm (smKey n a) len ++ List.replicate ((64 - len % 64) % 64) 0)) f

theorem read_of_arrives {lane : Fin 128} (arrives : FrameArrives s lane.val f 2) (note : seqNote (counted s lane.val f) f = noted s lane.val f v)
    (place : inbound s f (min 4096 (fieldAt f.payload 0 8)) = .ok (n, a)) (ready : rangeReady s n a (min 4096 (fieldAt f.payload 0 8)) = true)
    (clean : s.smChk = []) : exec (.read lane f) s = .next (readNoted s lane.val f v n a (min 4096 (fieldAt f.payload 0 8))) := by
  have checks : memCheck (noted s lane.val f v) (plainGroup n 0) 0 2 a (min 4096 (fieldAt f.payload 0 8)) = (none, noted s lane.val f v) :=
    memCheck_of_clean (by
      have : (noted s lane.val f v).smChk = [] := clean
      simp [spaceChk, this])
  show execRead lane f s = _
  simp only [execRead, rxFrame_of_arrives arrives, inboundWaits_counted, inboundWaits_of_ready place ready, Bool.false_eq_true, if_false, note, inbound_noted,
    place, checks]
  rfl

theorem read_of_refused {lane : Fin 128} (arrives : FrameArrives s lane.val f 2) (note : seqNote (counted s lane.val f) f = noted s lane.val f v)
    (refused : inbound s f (min 4096 (fieldAt f.payload 0 8)) = .error e) : exec (.read lane f) s = .next (answer (noted s lane.val f v) lane.val f 0x16 e) := by
  show execRead lane f s = _
  simp only [execRead, rxFrame_of_arrives arrives, inboundWaits_counted, inboundWaits_of_error refused, Bool.false_eq_true, if_false, note,
      inbound_noted, refused]

end Inbound

/-! ### RELEASE and WITHDRAW (R377, R394) -/

section Release
variable {s : State} {lane : Fin 128} {f : Frame} {v : SeqIn}

theorem release_of_arrives (arrives : FrameArrives s lane.val f 4) (note : seqNote (counted s lane.val f) f = noted s lane.val f v) :
    exec (.release lane f) s = .next (landMore (answer (seqDone (noted s lane.val f v) f) lane.val f 0x11 0) f) := by
  show execRelease lane f s = _
  simp only [execRelease, rxFrame_of_arrives arrives, note]

theorem withdraw_of_none (arrives : FrameArrives s lane.val f 5) (none_ : (s.seqIn (recKey f)).held = []) :
    exec (.withdraw lane f) s = .next (answer (seqDone (counted s lane.val f) f) lane.val f 0x11 0) := by
  have none' : ((counted s lane.val f).seqIn (recKey f)).held = [] := none_
  show execWithdraw lane f s = _
  simp only [execWithdraw, rxFrame_of_arrives arrives, none', List.find?_nil]

/-- The state once the one held final write of the stream is taken off, counted, logged and its event set. -/
def withdrawn (s : State) (l : Nat) (f : Frame) (sector : Nat) : State :=
  postLog (raise (bump (noted s l f { s.seqIn (recKey f) with held := [] }) 0x4E148 1) evCOH 5) 0x47 sector false (f.src % 2 ^ 20 + f.stream % 2 ^ 16 * 2 ^ 20)

theorem withdrawn_sameBut (s : State) (l : Nat) (f : Frame) (n : Nat) : SameBut [.ctr, .regs, .out, .pci, .log, .logSeq, .kpr]
    (noted s l f { s.seqIn (recKey f) with held := [] }) (withdrawn s l f n) :=
  same_mono (same_trans (bump_sameBut _ _ 1) (same_trans (raise_same _ _ _) (postLog_same _ _ _ _ _ _))) (by simp)

theorem withdrawn_event (s : State) (l : Nat) (f : Frame) (n : Nat) : evSet (withdrawn s l f n) evCOH 5 = true := by
  rw [withdrawn, evSet_postLog]
  exact evSet_raise_self _ _ _ (by decide)

theorem withdraw_of_held {h : Frame × Nat × Nat} (arrives : FrameArrives s lane.val f 5) (one : (s.seqIn (recKey f)).held = [h]) (seq : h.1.seq = f.seq) :
    ∃ n, exec (.withdraw lane f) s = .next (landMore (answer (seqDone (withdrawn s lane.val f n) f) lane.val f 0x11 0) f) := by
  refine ⟨(moorSector (raise (bump (noted s lane.val f { s.seqIn (recKey f) with held := [] }) 0x4E148 1) evCOH 5) h.1.mooring).getD 0xFF, ?_⟩
  have record : (counted s lane.val f).seqIn (recKey f) = s.seqIn (recKey f) := rfl
  show execWithdraw lane f s = _
  simp only [execWithdraw, rxFrame_of_arrives arrives, record, one, List.find?_cons, seq, beq_self_eq_true, List.filter_cons, Bool.not_true, Bool.false_eq_true,
    if_false, List.filter_nil, withdrawn, noted]

end Release

/-! ### The obligation -/

section Served
variable {s u : State} {l : Nat} {f : Frame}

/-- A served request of a stream that holds nothing: its SEQ is done, the answer is sent, and nothing else lands. -/
theorem served (port : SamePort s u) (up : (s.lane l).up = true) (none_ : (u.seqIn (recKey f)).held = []) (type status : Nat) (payload : List Byte) :
    let t := landMore (answer (seqDone u f) l f type status payload) f
    f.seq ∈ (t.seqIn (recKey f)).done ∧ (t.seqIn (recKey f)).held = [] ∧
      ((s.lane l).held = false → .frame l (replyTo s f type status payload) ∈ t.out) ∧ SameBut [.chn, .ctr, .out] u t := by
  have record : (answer (seqDone u f) l f type status payload).seqIn (recKey f) = doneRec (u.seqIn (recKey f)) f.seq :=
    (seqIn_answer _ l f type status payload _).trans (seqIn_setSeqIn u _ _)
  have held : ((answer (seqDone u f) l f type status payload).seqIn (recKey f)).held = [] := (congrArg SeqIn.held record).trans none_
  intro t
  have same : t = answer (seqDone u f) l f type status payload := landMore_of_none held
  rw [same]
  refine ⟨record ▸ mem_doneRec _ _, held, fun free => answer_sends (u := seqDone u f) port up free f type status payload, ?_⟩
  exact same_mono (same_trans (setSeqIn_sameBut u _ _) (answer_sameBut _ l f type status payload)) (by simp)

end Served

/-- Settles O37: requests of other modules that the X1 serves (R377, R378, R393, R394). -/
theorem servedRequests : Obligations.ServedRequests := by
  unfold Obligations.ServedRequests
  intro s lane f r sends first final
  obtain ⟨v, note, either, kept⟩ := seqNote_eq (counted s lane.val f) f
  replace either : v = {} ∨ v = { r with idle := 0 } := either
  replace kept (h : ¬ first) : v = { r with idle := 0 } := kept (Bool.not_eq_true _ ▸ h)
  have empty (h : r.held = []) : v.held = [] := by
    rcases either with rfl | rfl
    · rfl
    · exact h
  have undone (h : f.seq ∉ r.done) : f.seq ∉ v.done := by
    rcases either with rfl | rfl
    · exact List.not_mem_nil
    · exact h
  have record := seqIn_noted s lane.val f v
  have port := samePort_noted s lane.val f v
  have noted_same := noted_sameBut s lane.val f v
  refine ⟨fun arrives => ⟨fun n a place ready => ⟨fun fresh none_ plain => ?_, fun fresh again fin none_ early => ?_, fun done again => ?_⟩,
      fun e refused fresh none_ plain => ?_⟩,
    fun arrives none_ => ⟨fun n a place ready clean _ => ?_, fun e refused => ?_⟩, fun arrives => ?_, fun arrives none_ => ?_,
    fun arrives => ⟨fun none_ => ?_, fun h one seq => ?_⟩, fun down => ?_⟩
  · have run := write_of_arrives arrives (inboundWaits_of_ready place ready) note
    rw [writeNoted_lands (undone fresh) plain, landWrite_ok place] at run
    obtain ⟨sm, put⟩ := smPut_written (noted s lane.val f v) n a f.payload
    obtain ⟨done, -, sent, same⟩ := served (s := s) (u := smPut (noted s lane.val f v) n a f.payload) (f := f) (port.of_chn (put .chn (by simp))) arrives.1
      (by rw [State.seqIn, put .chn (by simp)]; exact (congrArg SeqIn.held record).trans (empty none_)) 0x11 0 []
    refine ⟨_, run, fun i hi => ?_, fun k hk => ?_, done, sent, same_mono (same_trans noted_same (same_trans put same)) (by simp)⟩
    · rw [same .sm (by simp), sm, cget_cwrite_inside _ _ _ _ hi]
    · rw [same .sm (by simp), sm, cget_cwrite_outside _ _ _ _ hk, noted_same .sm (by simp)]
  · have run := write_of_arrives arrives (inboundWaits_of_ready place ready) note
    have early' : mayLand v f.seq = false := by rw [kept again]; exact early
    rw [writeNoted_held (undone fresh) fin early' (empty none_)] at run
    refine ⟨_, run, ?_, same_mono (same_trans noted_same (same_trans (setSeqIn_sameBut _ _ _) (bump_sameBut _ _ 1))) (by simp)⟩
    refine (seqIn_setSeqIn (noted s lane.val f v) _ _).trans ?_
    rw [kept again]
  · have run := write_of_arrives arrives (inboundWaits_of_ready place ready) note
    rw [writeNoted_again (by rw [kept again]; exact done)] at run
    exact ⟨_, run, fun free => answer_sends port arrives.1 free f _ _ _, same_mono (same_trans noted_same (answer_sameBut _ _ _ _ _ _)) (by simp)⟩
  · have run := write_of_arrives arrives (inboundWaits_of_error refused) note
    rw [writeNoted_lands (undone fresh) plain, landWrite_error refused,
      landMore_of_none (by rw [seqIn_answer, record]; exact empty none_)] at run
    exact ⟨_, run, fun free => answer_sends port arrives.1 free f _ _ _, same_mono (same_trans noted_same (answer_sameBut _ _ _ _ _ _)) (by simp)⟩
  · obtain ⟨-, -, sent, same⟩ := served (s := s) (l := lane.val) port arrives.1 ((congrArg SeqIn.held record).trans (empty none_)) 0x12 0
      (cread s.sm (smKey n a) (min 4096 (fieldAt f.payload 0 8)) ++ List.replicate ((64 - min 4096 (fieldAt f.payload 0 8) % 64) % 64) 0)
    exact ⟨_, read_of_arrives arrives note place ready clean, sent, same_mono (same_trans noted_same same) (by simp)⟩
  · exact ⟨_, read_of_refused arrives note refused, fun free => answer_sends port arrives.1 free f _ _ _,
      same_mono (same_trans noted_same (answer_sameBut _ _ _ _ _ _)) (by simp)⟩
  · show execPrefetch lane f s = _
    simp only [execPrefetch, rxFrame_of_arrives arrives]
  · obtain ⟨done, -, sent, same⟩ := served (s := s) (l := lane.val) port arrives.1 ((congrArg SeqIn.held record).trans (empty none_)) 0x11 0 []
    exact ⟨_, release_of_arrives arrives note, done, sent, same_mono (same_trans noted_same same) (by simp)⟩
  · have port' : SamePort s (seqDone (counted s lane.val f) f) := ⟨rfl, rfl⟩
    refine ⟨_, withdraw_of_none arrives none_, fun free => answer_sends port' arrives.1 free f 0x11 0 [], ?_⟩
    exact same_mono (same_trans (countedFrame_sameBut s lane.val f) (same_trans (setSeqIn_sameBut _ _ _) (answer_sameBut _ lane.val f 0x11 0 []))) (by simp)
  · obtain ⟨n, run⟩ := withdraw_of_held arrives one seq
    have taken := withdrawn_sameBut s lane.val f n
    have left : ((withdrawn s lane.val f n).seqIn (recKey f)).held = [] := by
      rw [State.seqIn, taken .chn (by simp)]
      exact congrArg SeqIn.held (seqIn_noted s lane.val f { r with held := [] })
    obtain ⟨-, held, sent, same⟩ := served (s := s) (l := lane.val) ((samePort_noted s lane.val f _).of_chn (taken .chn (by simp))) arrives.1 left 0x11 0 []
    refine ⟨_, run, held, (evSet_congr (same .regs (by simp)) _ _).trans (withdrawn_event s lane.val f n), sent, ?_⟩
    exact same_mono (same_trans (noted_sameBut s lane.val f _) (same_trans taken same)) (by simp)
  · have none_ (type : Nat) := rxFrame_of_down down f type
    refine ⟨?_, ?_, ?_, ?_, ?_⟩ <;> refine congrArg Host.Outcome.next ?_ <;> rw [none_]

end Sys2Proof.Proofs

/-! SUPPORT. Answers to this module's Chain requests and what they leave (R377, R385, R395 to R400), for O38. -/
namespace Sys2Proof.Proofs

open Sys2Proof.Machine Sys2Proof.Laws

/-! ### Which request an answer is for -/

section Answers
variable {s : State} {l type : Nat} {fr : Frame} {f : State → ChReq → State}

theorem reqFor_counted (s : State) (l : Nat) (fr : Frame) : reqFor (counted s l fr) fr = reqFor s fr := rfl

theorem onAnswer_of_none (arrives : FrameArrives s l fr type) (none_ : reqFor s fr = none) : onAnswer s l fr type f = counted s l fr := by
  simp only [onAnswer, rxFrame_of_arrives arrives, reqFor_counted, none_]

theorem onAnswer_of_some {r : ChReq} (arrives : FrameArrives s l fr type) (found : reqFor s fr = some r) :
    onAnswer s l fr type f = chGo (f (counted s l fr) r) r.who := by
  simp only [onAnswer, rxFrame_of_arrives arrives, reqFor_counted, found]

end Answers

/-! ### The chase (R395) -/

section Chase
variable {s : State} {r : ChReq} {f : Frame}

/-- The moorings and devices that have refused a request, this refusal among them. -/
def refusals (r : ChReq) : List Nat := r.refused ++ [r.mooring + 1024 * r.dst]

theorem chase_of_reask (again : r.reask = true) : chase s r f = reqFail s r (orphaned r.lease.gen 1 r.mooring) := by simp [chase, again]

variable (first : r.reask = false)
include first

theorem chase_of_many (many : 3 ≤ r.redirects) : chase s r f = reqFail s r (orphaned r.lease.gen 4 r.mooring) := by simp [chase, first, many]

variable (few : r.redirects < 3)
include few

/-- A refusal that names no device, or one that has refused already, re-asks. -/
theorem chase_reasks (named : f.status ≠ 1 ∨ ∃ t ∈ refusals r, t / 1024 = f.addr % 2 ^ 20) :
    chase s r f = reqMove s r (reaskWhom s (refusals r)) (refusals r) true := by
  have cond : (f.status != 1 || (refusals r).any (fun t => t / 1024 == f.addr % 2 ^ 20)) = true := by
    rw [Bool.or_eq_true, bne_iff_ne, List.any_eq_true]
    exact named.imp_right fun ⟨t, mem, eq⟩ => ⟨t, mem, beq_iff_eq.2 eq⟩
  unfold refusals at *
  simp only [chase, first, Nat.not_le.2 few, Bool.false_eq_true, if_false, cond, if_true]

/-- A refusal that names a device that has not refused goes to the group's mooring towards it. -/
theorem chase_follows (status : f.status = 1) (fresh : ∀ t ∈ refusals r, t / 1024 ≠ f.addr % 2 ^ 20) :
    chase s r f = match poolMooring s r.sector r.lease.group (f.addr % 2 ^ 20) with
      | none => reqFail s r (orphaned r.lease.gen 3 r.mooring)
      | some m => reqMove s r m (refusals r) false := by
  have cond : (f.status != 1 || (refusals r).any (fun t => t / 1024 == f.addr % 2 ^ 20)) = false := by
    rw [Bool.or_eq_false_iff, List.any_eq_false]
    exact ⟨by simp [status], fun t mem => by simpa using fresh t mem⟩
  unfold refusals at *
  simp only [chase, first, Nat.not_le.2 few, Bool.false_eq_true, if_false, cond] <;> rfl

end Chase

/-- A SHORTFALL of a WRITE that is no block's (R395). -/
theorem shortfall_elsewhere {s : State} {lane : Fin 128} {f : Frame} {r : ChReq} (arrives : FrameArrives s lane.val f 0x14) (found : reqFor s f = some r)
    (write : r.type = 1) (who : ∀ n d, r.who ≠ .blk n d) :
    exec (.shortfall lane f) s = .next (chGo (if r.lease.fallback = 0 then reqFail (counted s lane.val f) r (unreachable r.dst 5 r.mooring)
      else setReq (counted s lane.val f) { r with type := 0x14 }) r.who) := by
  refine congrArg Host.Outcome.next ((onAnswer_of_some arrives found).trans ?_)
  cases h : r.who with
  | blk n d => exact absurd h (who n d)
  | _ => simp only [write, bne_self_eq_false, Bool.false_eq_true, if_false]

/-! ### What the ends leave -/

section Ends
variable {s : State} {r : ChReq}

theorem dropReq_one (one : s.chn.reqs = [r]) : dropReq s r.id = { s with chn := { s.chn with reqs := [] } } := by
  simp only [dropReq, one, List.filter_cons, beq_self_eq_true, Bool.not_true, Bool.false_eq_true, if_false, List.filter_nil]

theorem fallbackRun_of_no_requests (none_ : s.chn.reqs = []) : fallbackRun s = s := by simp [fallbackRun, none_]

/-- With nothing outstanding an answer to a RELEASE starts nothing more. -/
theorem chGo_of_no_requests (none_ : s.chn.reqs = []) (k : Nat) : chGo s (.release k) = s := by
  simp only [chGo, fallbackRun_of_no_requests none_, chRun_of_no_requests none_]

/-- The instruction's record of what it asked for, with the bytes of one part there. -/
def gotPart (r : ChReq) (bs : List Byte) (o : TileOp) : TileOp :=
  { o with remote := o.remote.filter (· != r.id), got := o.got ++ [(r.firstMoor * 2 ^ 47 + r.addr, bs)] }

theorem find_map_num (q : List TileOp) (num : Nat) (g : TileOp → TileOp)
    (kept : ∀ o, (g o).num = o.num) {o : TileOp} (found : q.find? (fun o => o.num == num) = some o) :
    (q.map (fun o => if o.num = num then g o else o)).find? (fun o => o.num == num) = some (g o) := by
  rw [List.find?_map]
  have same : ((fun o => o.num == num) ∘ fun o => if o.num = num then g o else o) = fun o => o.num == num := by
    funext o
    simp only [Function.comp]
    split
    · rw [kept]
    · rfl
  have num_ : o.num = num := by simpa using List.find?_some found
  rw [same, found, Option.map_some, if_pos num_]

theorem findOp_setOp {c num : Nat} {o : TileOp} (found : findOp s c num = some o) (g : TileOp → TileOp) (kept : ∀ o, (g o).num = o.num) :
    findOp (setOp s c num g) c num = some (g o) := by
  rw [findOp, setOp, setCore_same]
  exact find_map_num _ num g kept found

/-- A redirected request, not yet sent anew. -/
def moved (s : State) (r : ChReq) (m : Nat) (tried : List Nat) (again : Bool) : ChReq :=
  { r with
    mooring := m, lease := (s.moor m).cur, dst := (s.moor m).cur.target, refused := tried, reask := again, sent := false, numbered := false
    resend := false, resends := 0, redirects := if again then r.redirects else r.redirects + 1 }

theorem reqMove_one (one : s.chn.reqs = [r]) (m : Nat) (tried : List Nat) (again : Bool) :
    reqMove s r m tried again = { s with chn := { s.chn with reqs := [moved s r m tried again] } } := by
  simp only [reqMove, setReq, one, List.map_cons, if_true, List.map_nil, moved]

/-- The state once the orphan is captured (R397). -/
def captured (s : State) (r : ChReq) (reason : Nat) : State :=
  { s with chn := { s.chn with
    orphan := BitVec.ofNat 64 (2 ^ 63 + r.sector * 2 ^ 48 + r.firstMoor * 2 ^ 38 + r.mooring * 2 ^ 28 + reason * 2 ^ 24 +
      (if bit s.chn.orphan.toNat 63 then satAdd 24 (bits s.chn.orphan.toNat 23 0) 1 else 1))
    orphanAddr := BitVec.ofNat 64 r.addr } }

/-- The state once the orphan's first record is posted, the second to follow. -/
def orphanNoted (s : State) (r : ChReq) (reason : Nat) : State :=
  postLog (raise (captured s r reason) evCHN 8) 0x51 r.sector false (r.mooring + r.firstMoor * 2 ^ 10 + reason * 2 ^ 20) true

theorem orphanEvent_eq (s : State) (r : ChReq) (reason : Nat) : orphanEvent s r reason = postLog (orphanNoted s r reason) 1 r.sector false r.addr := rfl

theorem raise_captured_sameBut (s : State) (r : ChReq) (reason : Nat) : SameBut [.chn, .regs, .out, .pci] s (raise (captured s r reason) evCHN 8) :=
  same_mono (same_trans (update_chn s _) (raise_same _ _ _)) (by simp)

/-- A record of which a second part is to follow starts no flush. -/
theorem postLog_more_kpr {u : State} (takes : keeperTakes u) (typ sec arg : Nat) : (postLog u typ sec false arg true).kpr = u.kpr := by
  obtain ⟨runs, up⟩ := takes
  have busy : (!u.kpr.runs || u.kpr.st == .restarting) = false := by simp [runs, up]
  simp only [postLog, busy, Bool.false_and, Bool.false_eq_true, if_false, Bool.not_true, Bool.and_false]

/-- Both records of the orphan are in the log. -/
theorem orphanEvent_logged (takes : keeperTakes s) (reason : Nat) : Logged (orphanEvent s r reason) s.now 0x51 r.sector (r.mooring + r.firstMoor * 2 ^ 10 + reason * 2 ^ 20) ∧
    Logged (orphanEvent s r reason) s.now 1 r.sector r.addr := by
  have raised := raise_captured_sameBut s r reason
  have takes1 : keeperTakes (raise (captured s r reason) evCHN 8) := keeperTakes_congr takes (raised .kpr (by simp))
  have kpr : (orphanNoted s r reason).kpr = s.kpr := (postLog_more_kpr takes1 _ _ _).trans (raised .kpr (by simp))
  have flash : (orphanNoted s r reason).flash = s.flash := (postLog_same _ _ _ _ _ _ .flash (by simp)).trans (raised .flash (by simp))
  rw [orphanEvent_eq]
  refine ⟨?_, logged_postLog takes kpr flash⟩
  refine ⟨logEntry (raise (captured s r reason) evCHN 8) 0x51 r.sector false (r.mooring + r.firstMoor * 2 ^ 10 + reason * 2 ^ 20) true, ?_, rfl, rfl, rfl, ?_⟩
  · rw [postLog_log (keeperTakes_congr takes kpr), orphanNoted, postLog_log takes1]
    exact List.mem_cons_of_mem _ (List.mem_cons_self ..)
  · show State.now _ = _
    rw [State.now, State.now, raised .flash (by simp)]

end Ends

/-! ### The obligation -/

/-- Settles O38: what answers to this module's requests do, and what they leave (R377, R385, R395 to R398, R400). -/
theorem answersToRequests : Obligations.AnswersToRequests := by
  unfold Obligations.AnswersToRequests
  refine ⟨fun s lane f r => ?_, fun s r => ⟨fun k one who => ?_, fun n d bs who pulling clean => ?_, fun c num bs o who found => ?_,
      fun m tried again one => ?_,
    fun reason => ?_⟩⟩
  · intro s1 goes
    refine ⟨fun none_ => ⟨fun a => ?_, fun a => ?_, fun a => ?_, fun a => ?_, fun a => ?_, fun a => ?_⟩, fun found => ⟨fun a => ?_, fun a read => ?_,
        fun a => ?_,
      fun a write => ⟨fun n d who => ?_, fun who lost => ?_, fun who kept => ?_⟩, fun a read => ⟨fun lost => ?_, fun kept => ?_⟩,
      fun a => ⟨fun status => ?_, fun low high => ?_⟩⟩, fun a found => ?_⟩
    iterate 6 exact congrArg Host.Outcome.next (onAnswer_of_none a none_)
    · exact congrArg Host.Outcome.next (onAnswer_of_some a found)
    · exact congrArg Host.Outcome.next ((onAnswer_of_some a found).trans (by rw [if_pos read]))
    · intro dev tried
      refine ⟨fun again => ?_, fun first many => ?_, fun first few status fresh => ⟨fun none_ => ?_, fun m some_ => ?_⟩, fun first few named => ?_⟩
      · exact congrArg Host.Outcome.next ((onAnswer_of_some a found).trans (by rw [chase_of_reask again]))
      · exact congrArg Host.Outcome.next ((onAnswer_of_some a found).trans (by rw [chase_of_many first many]))
      · have none' : poolMooring s1 r.sector r.lease.group (f.addr % 2 ^ 20) = none := none_
        exact congrArg Host.Outcome.next ((onAnswer_of_some a found).trans (by rw [chase_follows first few status fresh, none']))
      · have some' : poolMooring s1 r.sector r.lease.group (f.addr % 2 ^ 20) = some m := some_
        exact congrArg Host.Outcome.next ((onAnswer_of_some a found).trans (by rw [chase_follows first few status fresh, some']; rfl))
      · exact congrArg Host.Outcome.next ((onAnswer_of_some a found).trans (by rw [chase_reasks first few named]; rfl))
    · exact congrArg Host.Outcome.next ((onAnswer_of_some a found).trans (by
        simp only [write, bne_self_eq_false, Bool.false_eq_true, if_false, who, s1]))
    · exact (shortfall_elsewhere a found write who).trans (by rw [if_pos lost])
    · exact (shortfall_elsewhere a found write who).trans (by rw [if_neg kept])
    · exact congrArg Host.Outcome.next ((onAnswer_of_some a found).trans (by simp only [read, bne_self_eq_false, Bool.false_eq_true, if_false, lost,
          if_true, s1]))
    · exact congrArg Host.Outcome.next ((onAnswer_of_some a found).trans (by simp only [read, bne_self_eq_false, Bool.false_eq_true, if_false,
          if_neg kept, s1]))
    · exact congrArg Host.Outcome.next ((onAnswer_of_some a found).trans (by rw [if_pos status]))
    · exact congrArg Host.Outcome.next ((onAnswer_of_some a found).trans (by rw [if_neg (by omega), if_neg (by omega)]))
    · have found' : s1.chn.reqs.find? (fun r => r.sent && r.type != 0x14 && r.stream == f.stream && r.addr == f.addr && r.lease.remote == f.mooring) = some r := found
      show execUnreachable lane f s = _
      simp only [execUnreachable, rxFrame_of_arrives a]
      rw [found']
  · refine ⟨_, rfl, ?_⟩
    rw [who, dropReq_one one, chGo_of_no_requests rfl]
    exact ⟨rfl, update_chn s _⟩
  · intro a
    have run : readData s r bs = { s with sm := cwrite s.sm (smKey n a) bs } := by
      simp only [readData, who, pulling, if_true, smPut_of_clean clean, a]
    refine ⟨_, run, fun i hi => cget_cwrite_inside _ _ _ _ hi, fun k hk => cget_cwrite_outside _ _ _ _ hk, same_mono (update_sm s _) (by simp)⟩
  · have run : readData s r bs = markLantern (setOp s c num (gotPart r bs)) (c / 12) := by
      simp only [readData, who]
      rfl
    refine ⟨_, run, ?_, same_mono (same_trans (setCore_sameBut s c _) (markLantern_sameBut _ _)) (by simp)⟩
    rw [findOp, State.core, markLantern_sameBut _ _ .cores (by simp)]
    exact findOp_setOp found (gotPart r bs) fun _ => rfl
  · exact ⟨_, moved s r m tried again, reqMove_one one m tried again, rfl, rfl, rfl, rfl, rfl, rfl, rfl, rfl, update_chn s _⟩
  · intro t
    have posted1 := postLog_same (raise (captured s r reason) evCHN 8) 0x51 r.sector false (r.mooring + r.firstMoor * 2 ^ 10 + reason * 2 ^ 20) true
    have posted2 := postLog_same (orphanNoted s r reason) 1 r.sector false r.addr false
    have raised := raise_same (captured s r reason) evCHN 8
    refine ⟨?_, ?_, fun takes => orphanEvent_logged takes reason, ?_⟩
    · exact congrArg Chain.orphanAddr ((posted2 .chn (by simp)).trans ((posted1 .chn (by simp)).trans (raised .chn (by simp))))
    · rw [show t = postLog (orphanNoted s r reason) 1 r.sector false r.addr from rfl, evSet_postLog, orphanNoted, evSet_postLog]
      exact evSet_raise_self _ _ _ (by decide)
    · exact same_mono (same_trans (raise_captured_sameBut s r reason) (same_trans posted1 posted2)) (by simp)

end Sys2Proof.Proofs

/-! SUPPORT. Ports and ring positions (R380, R383, R386, R387, R401), for O40. -/
namespace Sys2Proof.Proofs

open Sys2Proof.Machine Sys2Proof.Laws

/-- A step of Chain's port control keeps the requests and the ring positions, clears no event of Chain, and writes no other register. -/
structure Steady (s t : State) : Prop where
  reqs : t.chn.reqs = s.chn.reqs
  rps : t.chn.rps = s.chn.rps
  events : ∀ i, evSet s evCHN i = true → evSet t evCHN i = true
  regs : ∀ off, off ≠ evCHN → regNow t off = regNow s off

/-- A step keeps the ports and whether each lane is up. -/
structure PortsKept (s t : State) : Prop where
  ports : t.chn.ports = s.chn.ports
  up : ∀ l, (t.lane l).up = (s.lane l).up

section Relations
variable {s t u : State}

theorem Steady.trans (h : Steady s t) (h' : Steady t u) : Steady s u :=
  ⟨h'.reqs.trans h.reqs, h'.rps.trans h.rps, fun i hi => h'.events i (h.events i hi), fun off ho => (h'.regs off ho).trans (h.regs off ho)⟩

theorem Steady.refl (s : State) : Steady s s := ⟨rfl, rfl, fun _ h => h, fun _ _ => rfl⟩

theorem Steady.of_regs (reqs : t.chn.reqs = s.chn.reqs) (rps : t.chn.rps = s.chn.rps) (regs : t.regs = s.regs) : Steady s t :=
  ⟨reqs, rps, fun i h => (evSet_congr regs evCHN i).trans h, fun off _ => by rw [regNow, regNow, regs]⟩

theorem steady_raise (s : State) (i : Nat) : Steady s (raise s evCHN i) :=
  ⟨congrArg Chain.reqs (raise_chn s evCHN i), congrArg Chain.rps (raise_chn s evCHN i), fun j h => evSet_raise_mono s evCHN i evCHN j h,
    fun off h => regs_raise_other s evCHN i _ off h⟩

theorem Steady.raise (h : Steady s t) (i : Nat) : Steady s (Machine.raise t evCHN i) := h.trans (steady_raise t i)

theorem port_raise (s : State) (off i p : Nat) : (Machine.raise s off i).port p = s.port p := by rw [State.port, State.port, raise_chn]

theorem lane_raise (s : State) (off i l : Nat) : (Machine.raise s off i).lane l = s.lane l := by rw [State.lane, State.lane, raise_chn]

theorem PortsKept.trans (h : PortsKept s t) (h' : PortsKept t u) : PortsKept s u := ⟨h'.ports.trans h.ports, fun l => (h'.up l).trans (h.up l)⟩

theorem PortsKept.refl (s : State) : PortsKept s s := ⟨rfl, fun _ => rfl⟩

theorem PortsKept.of_chn (chn : t.chn = s.chn) : PortsKept s t := ⟨by rw [chn], fun l => by rw [State.lane, State.lane, chn]⟩

theorem PortsKept.port (h : PortsKept s t) (p : Nat) : t.port p = s.port p := by rw [State.port, State.port, h.ports]

end Relations

/-! ### Frames that go out -/

section Sends
variable (s : State) (l : Nat) (g : Frame)

theorem laneSend_steady : Steady s (laneSend s l g) := by
  unfold laneSend
  dsimp only
  split <;> exact .of_regs rfl rfl rfl

theorem laneSend_ports : PortsKept s (laneSend s l g) := by
  have kept (x : Lane) (up : x.up = (s.lane l).up) : PortsKept s (s.setLane l x) := ⟨rfl, fun k => by
    by_cases h : k = l
    · rw [h, setLane_same, up]
    · rw [setLane_other _ _ _ _ h]⟩
  have sent (u : State) : PortsKept u (u.emit (.frame l g)) := ⟨rfl, fun _ => rfl⟩
  unfold laneSend
  dsimp only
  split
  · refine PortsKept.trans (kept _ ?_) (sent _)
    rfl
  · refine kept _ ?_
    rfl

theorem laneOriginate_steady : Steady s (laneOriginate s l g) := (laneSend_steady s l g).trans (.of_regs rfl rfl rfl)

theorem laneOriginate_ports : PortsKept s (laneOriginate s l g) := (laneSend_ports s l g).trans ⟨rfl, fun _ => rfl⟩

theorem laneOriginate_sameBut : SameBut [.chn, .out, .ctr] s (laneOriginate s l g) :=
  same_mono (same_trans (laneSend_sameBut s l g) (same_trans (bump_sameBut _ _ 1) (bump_sameBut _ _ _))) (by simp)

end Sends

/-- A step of a HELLO or a delay measurement. -/
structure SendStep (s t : State) : Prop where
  steady : Steady s t
  ports : PortsKept s t
  same : SameBut [.chn, .out, .ctr] s t

theorem SendStep.trans {s t u : State} (h : SendStep s t) (h' : SendStep t u) : SendStep s u :=
  ⟨h.steady.trans h'.steady, h.ports.trans h'.ports, same_mono (same_trans h.same h'.same) (by simp)⟩

theorem SendStep.refl (s : State) : SendStep s s := ⟨.refl s, .refl s, same_refl _ _⟩

theorem helloSend_step (s : State) (k : Nat) : SendStep s (helloSend s k) := by
  have one (s : State) (p : Nat) (g : Frame) : SendStep s (if (s.port p).st = .up then laneOriginate s (8 * p) g else s) := by
    split
    · exact ⟨laneOriginate_steady s _ g, laneOriginate_ports s _ g, laneOriginate_sameBut s _ g⟩
    · exact .refl s
  exact (one s _ _).trans (one _ _ _)

theorem delaySend_step (s : State) (p : Nat) : SendStep s (delaySend s p) := by
  unfold delaySend
  split
  · exact ⟨laneSend_steady s _ _, laneSend_ports s _ _, same_mono (laneSend_sameBut s _ _) (by simp)⟩
  · exact .refl s

/-! ### A port that changes its state (R386) -/

section PortState
variable (s : State) (p : Nat) (st : PortSt)

theorem setPortSt_steady : Steady s (setPortSt s p st) := by
  unfold setPortSt
  split
  · exact .refl s
  · refine Steady.raise ?_ 0
    exact .of_regs rfl rfl rfl

theorem setPortSt_sameBut : SameBut [.chn, .regs, .out, .pci] s (setPortSt s p st) := by
  unfold setPortSt
  split
  · exact same_refl _ _
  · exact same_mono (same_trans (setPort_sameBut s p _) (raise_same _ _ _)) (by simp)

theorem id_setPortSt : (setPortSt s p st).chn.id = s.chn.id := by
  unfold setPortSt
  split
  · rfl
  · rw [raise_chn]
    rfl

theorem port_setPortSt_same : (setPortSt s p st).port p = { s.port p with st := st } := by
  unfold setPortSt
  split
  next h => rw [← h]
  next => rw [port_raise, setPort_same]

theorem port_setPortSt_other {k : Nat} (h : k ≠ p) : (setPortSt s p st).port k = s.port k := by
  unfold setPortSt
  split
  · rfl
  · rw [port_raise, setPort_other _ _ _ _ h]

theorem lane_setPortSt (l : Nat) : (setPortSt s p st).lane l = s.lane l := by
  unfold setPortSt
  split
  · rfl
  · exact lane_raise _ _ _ _

end PortState

/-- The port's lanes are down. -/
def lanesOff (s : State) (p n : Nat) : State := (List.range n).foldl (fun s i => s.setLane (8 * p + i) { s.lane (8 * p + i) with up := false }) s

section LanesOff
variable (s : State) (p : Nat)

theorem lanesOff_succ (n : Nat) : lanesOff s p (n + 1) = (lanesOff s p n).setLane (8 * p + n) { (lanesOff s p n).lane (8 * p + n) with up := false } := by
  simp only [lanesOff, List.range_succ, List.foldl_append, List.foldl_cons, List.foldl_nil]

theorem lanesOff_spec (n : Nat) : Steady s (lanesOff s p n) ∧ (lanesOff s p n).chn.ports = s.chn.ports ∧ SameBut [.chn] s (lanesOff s p n) ∧
    ∀ i, i < n → ((lanesOff s p n).lane (8 * p + i)).up = false := by
  induction n with
  | zero => exact ⟨.refl s, rfl, same_refl _ _, fun _ h => absurd h (Nat.not_lt_zero _)⟩
  | succ n ih =>
    obtain ⟨steady, ports, same, off⟩ := ih
    rw [lanesOff_succ]
    refine ⟨steady.trans (.of_regs rfl rfl rfl), ports, same_mono (same_trans same (setLane_sameBut _ _ _)) (by simp), fun i hi => ?_⟩
    by_cases last : i = n
    · rw [last, setLane_same]
    · rw [setLane_other _ _ _ _ (by omega)]
      exact off i (by omega)

end LanesOff

/-- What dropping a port's routes leaves. -/
theorem dropRoutes_spec (s : State) (p : Nat) : Steady s (dropRoutes s p) ∧ PortsKept s (dropRoutes s p) ∧
    SameBut [.chn, .regs, .out, .pci] s (dropRoutes s p) := by
  unfold dropRoutes
  dsimp only
  split
  · exact ⟨.refl s, .refl s, same_refl _ _⟩
  · refine ⟨Steady.raise ?_ 1, PortsKept.trans ?_ (.of_chn (raise_chn _ _ _)), same_mono (same_trans (update_chn s _) (raise_same _ _ _)) (by simp)⟩
    · exact .of_regs rfl rfl rfl
    · exact ⟨rfl, fun _ => rfl⟩

/-! ### A port that goes down (R386) -/

/-- A port without a rekey and without an older key. -/
def clearKeys (u : State) (p : Nat) : State := u.setPort p { u.port p with rekey := 0, oldKey := none }

theorem clearKeys_steady (u : State) (p : Nat) : Steady u (clearKeys u p) := .of_regs rfl rfl rfl

theorem clearKeys_own (u : State) (p : Nat) : ((clearKeys u p).port p).st = (u.port p).st := by rw [clearKeys, setPort_same]

theorem clearKeys_other (u : State) {p k : Nat} (h : k ≠ p) : (clearKeys u p).port k = u.port k := setPort_other _ _ _ _ h

theorem clearKeys_lane (u : State) (p l : Nat) : (clearKeys u p).lane l = u.lane l := rfl

/-- A port that goes down, before HELLO tells its ring. -/
def portShut (s : State) (p : Nat) (st : PortSt) : State := clearKeys (dropRoutes (setPortSt (lanesOff s p 8) p st) p) p

theorem portDown_eq (s : State) (p : Nat) (st : PortSt) :
    portDown s p st = if (s.port p).st == .up then chRun (helloSend (portShut s p st) (p / 2)) else portShut s p st := rfl

section Down
variable {s : State} {p : Nat} {st : PortSt}

theorem portDown_of_not_up (low : (s.port p).st ≠ .up) : portDown s p st = portShut s p st := by
  rw [portDown_eq, if_neg (by simpa using low)]

/-- What a port that goes down leaves. -/
structure Shut (s t : State) (p : Nat) (st : PortSt) : Prop where
  steady : Steady s t
  own : (t.port p).st = st
  others : ∀ k, k ≠ p → t.port k = s.port k
  lanes : ∀ i, i < 8 → (t.lane (8 * p + i)).up = false
  same : SameBut [.chn, .regs, .out, .pci, .ctr] s t

theorem portShut_sameBut (s : State) (p : Nat) (st : PortSt) : SameBut [.chn, .regs, .out, .pci] s (portShut s p st) :=
  same_mono (same_trans (lanesOff_spec s p 8).2.2.1 (same_trans (setPortSt_sameBut _ p st) (same_trans (dropRoutes_spec _ p).2.2 (setPort_sameBut _ p _)))) (by simp)

theorem portShut_shut (s : State) (p : Nat) (st : PortSt) : Shut s (portShut s p st) p st := by
  obtain ⟨steady1, ports1, -, off⟩ := lanesOff_spec s p 8
  obtain ⟨steady3, kept, -⟩ := dropRoutes_spec (setPortSt (lanesOff s p 8) p st) p
  refine ⟨?_, ?_, fun k other => ?_, fun i hi => ?_, same_mono (portShut_sameBut s p st) (by simp)⟩
  · exact (steady1.trans (setPortSt_steady _ p st)).trans (steady3.trans (clearKeys_steady _ p))
  · rw [portShut, clearKeys_own, kept.port, port_setPortSt_same]
  · rw [portShut, clearKeys_other _ other, kept.port, port_setPortSt_other _ _ _ other, State.port, ports1]
    rfl
  · rw [portShut, clearKeys_lane, kept.up, lane_setPortSt]
    exact off i hi

theorem Shut.sends {t u : State} (shut : Shut s t p st) (step : SendStep t u) : Shut s u p st :=
  ⟨shut.steady.trans step.steady, (congrArg Port.st (step.ports.port p)).trans shut.own, fun k h => (step.ports.port k).trans (shut.others k h),
    fun i h => (step.ports.up _).trans (shut.lanes i h), same_mono (same_trans shut.same step.same) (by simp)⟩

/-- With no request outstanding a port that goes down only tells its ring. -/
theorem portDown_shut (none_ : s.chn.reqs = [] ∨ (s.port p).st ≠ .up) (st : PortSt) : Shut s (portDown s p st) p st := by
  have shut := portShut_shut s p st
  by_cases low : (s.port p).st = .up
  · rcases none_ with none_ | contra
    · have step := helloSend_step (portShut s p st) (p / 2)
      have reqs : (helloSend (portShut s p st) (p / 2)).chn.reqs = [] := (step.steady.reqs.trans shut.steady.reqs).trans none_
      have run : portDown s p st = helloSend (portShut s p st) (p / 2) := by
        rw [portDown_eq, if_pos (by simp [low])]
        exact chRun_of_no_requests reqs
      rw [run]
      exact shut.sends step
    · exact absurd low contra
  · rw [portDown_of_not_up low]
    exact shut

/-- Steps of a port that goes down, one after the other, on two ports. -/
theorem Shut.keeps {t u : State} {q : Nat} {st' : PortSt} (shut : Shut s t p st) (next : Shut t u q st') (other : p ≠ q) : (u.port p).st = st :=
  (congrArg Port.st (next.others p other)).trans shut.own

theorem portTrain_trains (lit : (s.port p).st ≠ .dark) (avail : availPort s p = true) (enabled : bit (regNow s (0x50200 + 0x40 * p)).toNat 0 = false)
    (open_ : rpOpen s (p / 2) = true) (known : lifeCycle s ≠ 7) (fielded : lifeCycle s ≠ 4) (live : lifeCycle s ≠ 5) : portTrain s p = portDown s p .training := by
  simp only [portTrain, lit, avail, enabled, open_, Bool.not_true, decide_false, Bool.or_self, Bool.false_eq_true, if_false, bne_iff_ne.2 known,
      bne_iff_ne.2 fielded,
    bne_iff_ne.2 live, Bool.and_self, if_true]

end Down

/-! ### Lanes that come up (R380) -/

/-- One lane of a port that comes up. -/
def freshLane (s : State) (l : Nat) : State :=
  s.setLane l { s.lane l with fctr := 0, armed := false, held := false, dead := false, retrains := 0 }

def liftLane (trained p : Nat) (s : State) (i : Nat) : State :=
  if bit trained i then laneUpNow (freshLane s (8 * p + i)) (8 * p + i) else freshLane s (8 * p + i)

/-- What lifting lanes leaves. -/
structure Lifted (s t : State) : Prop where
  steady : Steady s t
  ports : t.chn.ports = s.chn.ports
  same : SameBut [.chn, .out] s t

theorem Lifted.trans {s t u : State} (h : Lifted s t) (h' : Lifted t u) : Lifted s u :=
  ⟨h.steady.trans h'.steady, h'.ports.trans h.ports, same_mono (same_trans h.same h'.same) (by simp)⟩

section Lift
variable (trained p : Nat)

theorem emits_lifted (s : State) (l : Nat) (fs : List (BitVec 16 × Frame)) :
    Lifted s (fs.foldl (fun s f => s.emit (.frame l f.2)) s) ∧ (fs.foldl (fun s f => s.emit (.frame l f.2)) s).chn = s.chn := by
  induction fs generalizing s with
  | nil => exact ⟨⟨.refl s, rfl, same_refl _ _⟩, rfl⟩
  | cons f fs ih =>
    obtain ⟨lifted, chn⟩ := ih (s.emit (.frame l f.2))
    have one : Lifted s (s.emit (.frame l f.2)) := ⟨.of_regs rfl rfl rfl, rfl, same_mono (emit_same s _) (by simp)⟩
    exact ⟨one.trans lifted, chn⟩

theorem setLane_lifted (s : State) (l : Nat) (x : Lane) : Lifted s (s.setLane l x) := ⟨.of_regs rfl rfl rfl, rfl, same_mono (setLane_sameBut s l x) (by simp)⟩

theorem laneUpNow_lifted (s : State) (l : Nat) : Lifted s (laneUpNow s l) ∧ ((laneUpNow s l).lane l).up = true ∧
    ∀ k, k ≠ l → (laneUpNow s l).lane k = s.lane k := by
  unfold laneUpNow
  dsimp only
  obtain ⟨lifted, chn⟩ := emits_lifted (s.setLane l { s.lane l with up := true, naks := 0, fctr := (s.lane l).fctr + (s.lane l).unacked.length }) l (s.lane l).unacked
  refine ⟨(setLane_lifted s l _).trans lifted, ?_, fun k other => ?_⟩
  · rw [State.lane, chn]
    exact congrArg Lane.up (setLane_same s l _)
  · rw [State.lane, chn]
    exact setLane_other s l _ k other

theorem liftLane_spec (s : State) (i : Nat) : Lifted s (liftLane trained p s i) ∧
    (bit trained i = true → ((liftLane trained p s i).lane (8 * p + i)).up = true) ∧
    ∀ k, k ≠ 8 * p + i → (liftLane trained p s i).lane k = s.lane k := by
  have fresh_ : Lifted s (freshLane s (8 * p + i)) := setLane_lifted s _ _
  have others (k : Nat) (h : k ≠ 8 * p + i) : (freshLane s (8 * p + i)).lane k = s.lane k := setLane_other s _ _ k h
  unfold liftLane
  split
  next set_ =>
    obtain ⟨lifted, up, kept⟩ := laneUpNow_lifted (freshLane s (8 * p + i)) (8 * p + i)
    exact ⟨fresh_.trans lifted, fun _ => up, fun k h => (kept k h).trans (others k h)⟩
  next clear => exact ⟨fresh_, fun set_ => absurd set_ clear, others⟩

theorem liftLanes_spec (s : State) (n : Nat) : Lifted s ((List.range n).foldl (liftLane trained p) s) ∧
    ∀ i, i < n → bit trained i = true → (((List.range n).foldl (liftLane trained p) s).lane (8 * p + i)).up = true := by
  induction n with
  | zero => exact ⟨⟨.refl s, rfl, same_refl _ _⟩, fun _ h => absurd h (Nat.not_lt_zero _)⟩
  | succ n ih =>
    obtain ⟨lifted, ups⟩ := ih
    obtain ⟨step, up, others⟩ := liftLane_spec trained p ((List.range n).foldl (liftLane trained p) s) n
    rw [List.range_succ, List.foldl_append, List.foldl_cons, List.foldl_nil]
    refine ⟨lifted.trans step, fun i hi set_ => ?_⟩
    by_cases last : i = n
    · rw [last] at set_ ⊢
      exact up set_
    · rw [others _ (by omega)]
      exact ups i (by omega) set_

end Lift

/-! ### A valid KEY (R380) -/

section Key
variable {s : State} {p : Nat}

/-- The port as a KEY's peer leaves it, before it is UP. -/
def keyed (x : Port) (k : KeyFrame) : Port :=
  { x with
    epoch := 0, oldKey := none, rekey := 0, retrain := false, minor := min k.minor 0, peerPort := k.port.val, peerDev := k.device.toNat, serial := k.serial }

theorem portUp_eq (s : State) (p : Nat) (k : KeyFrame) : portUp s p k = chRun (helloSend (delaySend
    ((List.range 8).foldl (liftLane (s.port p).trained p) (setPortSt (s.setPort p (keyed (s.port p) k)) p .up)) p) (p / 2)) := rfl

/-- A port that comes up: its record, its trained lanes, and what it leaves. -/
theorem portUp_spec (k : KeyFrame) (none_ : s.chn.reqs = []) : ((portUp s p k).port p) = { keyed (s.port p) k with st := .up } ∧
    (∀ i, i < 8 → bit (s.port p).trained i = true → ((portUp s p k).lane (8 * p + i)).up = true) ∧
        SameBut [.chn, .regs, .out, .pci, .ctr] s (portUp s p k) := by
  have steady1 : Steady s (s.setPort p (keyed (s.port p) k)) := .of_regs rfl rfl rfl
  have port1 := port_setPortSt_same (s.setPort p (keyed (s.port p) k)) p .up
  have steady2 := steady1.trans (setPortSt_steady (s.setPort p (keyed (s.port p) k)) p .up)
  have same2 := same_trans (setPort_sameBut s p (keyed (s.port p) k)) (setPortSt_sameBut _ p .up)
  rw [setPort_same] at port1
  obtain ⟨lifted, ups⟩ := liftLanes_spec (s.port p).trained p (setPortSt (s.setPort p (keyed (s.port p) k)) p .up) 8
  rw [portUp_eq]
  generalize setPortSt (s.setPort p (keyed (s.port p) k)) p .up = u at *
  generalize (List.range 8).foldl (liftLane (s.port p).trained p) u = v at *
  have sent := (delaySend_step v p).trans (helloSend_step _ (p / 2))
  rw [chRun_of_no_requests ((sent.steady.reqs.trans (lifted.steady.reqs.trans steady2.reqs)).trans none_)]
  refine ⟨?_, fun i hi set_ => (sent.ports.up _).trans (ups i hi set_), same_mono (same_trans same2 (same_trans lifted.same sent.same)) (by simp)⟩
  rw [sent.ports.port, State.port, lifted.ports]
  exact port1

end Key

/-! ### The lanes that trained (R380) -/

/-- The lanes of a training: those it names that this module has. -/
def trainedSum (has : Nat → Bool) (n : Nat) : Nat := (List.range n).foldl (fun a i => if has i then a + 2 ^ i else a) 0

theorem trainedSum_succ (has : Nat → Bool) (n : Nat) : trainedSum has (n + 1) = if has n then trainedSum has n + 2 ^ n else trainedSum has n := by
  simp only [trainedSum, List.range_succ, List.foldl_append, List.foldl_cons, List.foldl_nil]

theorem trainedSum_bits (has : Nat → Bool) (n : Nat) : trainedSum has n < 2 ^ n ∧ ∀ i, (trainedSum has n).testBit i = (decide (i < n) && has i) := by
  induction n with
  | zero => exact ⟨Nat.one_pos, fun i => by simp [trainedSum]⟩
  | succ n ih =>
    obtain ⟨lt, bits_⟩ := ih
    have pow : 2 ^ (n + 1) = 2 ^ n + 2 ^ n := by omega
    have high : (trainedSum has n).testBit n = false := Nat.testBit_lt_two_pow lt
    rw [trainedSum_succ]
    split
    next set_ =>
      refine ⟨by omega, fun i => ?_⟩
      rw [Nat.add_comm, ← Nat.one_mul (2 ^ n), Nat.mul_comm, Nat.two_pow_add_eq_or_of_lt lt, Nat.testBit_or, bits_, Nat.mul_one, Nat.testBit_two_pow]
      rcases Nat.lt_trichotomy i n with below | rfl | above
      · simp [below, Nat.ne_of_gt below, Nat.lt_succ_of_lt below]
      · simp [set_]
      · simp [Nat.not_lt.2 (Nat.le_of_lt above), Nat.ne_of_lt above, show ¬ i < n + 1 by omega]
    next clear =>
      refine ⟨by omega, fun i => ?_⟩
      rw [bits_]
      by_cases last : i = n
      · simp [last, Bool.not_eq_true _ ▸ clear]
      · simp [show i < n + 1 ↔ i < n by omega]

/-- The sum that the model takes of a training's lanes. -/
def trainedOf (s : State) (p : Nat) (lanes : BitVec 8) : Nat := trainedSum (fun i => bit lanes.toNat i && availLane s (8 * p + i)) 8

theorem trainedOf_testBit (s : State) (p : Nat) (lanes : BitVec 8) {i : Nat} (hi : i < 8) :
    (trainedOf s p lanes).testBit i = (lanes.toNat.testBit i && availLane s (8 * p + i)) := by
  simp only [trainedOf, (trainedSum_bits _ 8).2, hi, decide_true, Bool.true_and, bit_eq_testBit]

section Training
variable {s : State} {port : Fin 16} {lanes : BitVec 8} (training : (s.port port.val).st = .training)
include training

theorem portTrainingDone_keys (ok : (trainedOf s port.val lanes).testBit 0 = true) : exec (.portTrainingDone port lanes) s = .next
    (keySend (setPortSt (s.setPort port.val { s.port port.val with trained := trainedOf s port.val lanes }) port.val .keying) port.val 0) := by
  show execPortTrainingDone port lanes s = _
  have ok' : bit (trainedOf s port.val lanes) 0 = true := (bit_eq_testBit _ _).trans ok
  simp only [trainedOf, trainedSum] at ok' ⊢
  simp only [execPortTrainingDone, training, bne_self_eq_false, Bool.false_eq_true, if_false, ok', if_true]

theorem portTrainingDone_fails (none_ : (trainedOf s port.val lanes).testBit 0 = false) (other : s.kpr.chainPort ≠ some port.val) :
    exec (.portTrainingDone port lanes) s = .next s := by
  show execPortTrainingDone port lanes s = _
  have none' : bit (trainedOf s port.val lanes) 0 = false := (bit_eq_testBit _ _).trans none_
  simp only [trainedOf, trainedSum] at none'
  simp only [execPortTrainingDone, training, bne_self_eq_false, Bool.false_eq_true, if_false, none', chainFwFail, bne_iff_ne.2 other, if_true]

end Training

/-! ### PORT_DISABLE and BYPASS (R386, R387) -/

/-- The state once PORT_DISABLE is written. -/
def disabling (s : State) (p : Nat) (disable : Bool) : State :=
  setReg s (0x50200 + 0x40 * p) (setBits (regNow s (0x50200 + 0x40 * p)) 0 0 (if disable then 1 else 0))

theorem disabling_sameBut (s : State) (p : Nat) (disable : Bool) : SameBut [.regs] s (disabling s p disable) := setReg_same s _ _

theorem bit_setBits_0 (x : Word) (v : Nat) : bit (setBits x 0 0 v).toNat 0 = (v % 2 == 1) := by
  have lt := x.isLt
  have field : bits (setBits x 0 0 v).toNat 0 0 = v % 2 := by
    simp only [bits, setBits, BitVec.toNat_ofNat]
    omega
  rw [bit, field]

/-- The bit written stays as it is written through what the port then does. -/
theorem disabling_bit {s t : State} {p : Nat} {disable : Bool} (steady : Steady (disabling s p disable) t) :
    bit (regNow t (0x50200 + 0x40 * p)).toNat 0 = disable := by
  rw [steady.regs _ (by unfold evCHN; omega), disabling, regNow_setReg_same, bit_setBits_0]
  cases disable <;> rfl

theorem availPort_disabling (s : State) (p : Nat) (disable : Bool) : availPort (disabling s p disable) p = availPort s p := by
  rw [availPort, availBit, disabling, regNow_setReg_other _ _ _ _ (by omega)]
  rfl

theorem setPortSt_event {s : State} {p : Nat} {st : PortSt} (other : (s.port p).st ≠ st) : evSet (setPortSt s p st) evCHN 0 = true := by
  rw [setPortSt, if_neg other]
  exact evSet_raise_self _ _ _ (by decide)

/-- One port of a ring position that closes. -/
def closePort (s : State) (p : Nat) : State := if (s.port p).st = .dark || (s.port p).st = .disabled then s else portDown s p .down

theorem closePort_spec {s : State} {p : Nat} (none_ : s.chn.reqs = []) : Steady s (closePort s p) ∧ ((closePort s p).port p).st ≠ .up ∧
    ∀ k, k ≠ p → (closePort s p).port k = s.port k := by
  unfold closePort
  split
  next off =>
    refine ⟨.refl s, fun up => ?_, fun _ _ => rfl⟩
    simp [up] at off
  next on =>
    have shut := portDown_shut (p := p) (.inl none_) .down
    exact ⟨shut.steady, fun up => (by rw [shut.own] at up; contradiction), shut.others⟩

/-- What a valid KEY does on a port that is UP (R383). -/
theorem key_of_up {s : State} {port : Fin 16} (k : KeyFrame) (up : (s.port port.val).st = .up) (valid : k.valid = true) :
    exec (.key port k) s = .next (if (s.port port.val).rekey = 1 then s.setPort port.val { s.port port.val with rekey := 2 }
      else if (s.port port.val).rekey = 0 then keySend (s.setPort port.val { s.port port.val with rekey := 2 }) port.val ((s.port port.val).epoch + 1)
      else s) :=
  congrArg Host.Outcome.next ((if_neg (by rw [up]; decide)).trans ((if_pos up).trans (if_neg (by simp [valid]))))

/-! ### The obligation -/

/-- Settles O40: training, keying, disabling, retraining and the bypass of ports (R380, R383, R386, R387, R401). -/
theorem portControl : Obligations.PortControl := by
  unfold Obligations.PortControl
  intro s port p x
  refine ⟨fun lanes => ⟨fun other => ?_, fun training first avail => ?_, fun training first other => ?_⟩,
    fun k => ⟨fun keying invalid => ?_, fun keying valid major other none_ => ?_, fun up valid rekey => ?_, fun up valid rekey => ?_, fun keying up => ?_⟩,
    fun lit none_ => ?_, fun disabled avail open_ known fielded live => ?_, fun lit enabled open_ avail clear none_ known fielded live => ?_, fun dark => ?_,
    fun n old late => ?_, fun early => ?_, fun rp close => ?_⟩
  · exact congrArg Host.Outcome.next (if_pos (by simpa using other))
  · have ok : (trainedOf s p lanes).testBit 0 = true := by
      rw [trainedOf_testBit _ _ _ (by decide), first]
      exact avail
    have own := port_setPortSt_same (s.setPort p { x with trained := trainedOf s p lanes }) p .keying
    rw [setPort_same] at own
    refine ⟨_, portTrainingDone_keys training ok, congrArg Port.st own, fun i hi => ?_, ?_, ?_, fun k other => ?_, ?_⟩
    · refine (iff_of_eq (congrArg (fun x : Port => x.trained.testBit i = true) own)).trans ?_
      show (trainedOf s p lanes).testBit i = true ↔ _
      rw [trainedOf_testBit _ _ _ hi, Bool.and_eq_true]
    · rw [keySend, id_setPortSt]
      exact List.mem_cons_self ..
    · refine (evSet_congr rfl evCHN 0).trans (setPortSt_event ?_)
      rw [setPort_same]
      exact fun h => by rw [show x.st = .training from training] at h; contradiction
    · exact (port_setPortSt_other _ _ _ other).trans (setPort_other _ _ _ _ other)
    · exact same_mono (same_trans (setPort_sameBut s p _) (same_trans (setPortSt_sameBut _ p .keying) (emit_same _ _))) (by simp)
  · exact portTrainingDone_fails training (by rw [trainedOf_testBit _ _ _ (by decide), first, Bool.false_and]) other
  · have low : (s.port p).st ≠ .up := fun h => by rw [show (s.port p).st = .keying from keying] at h; contradiction
    have shut := portShut_shut s p .authFailed
    have shut_same := portShut_sameBut s p .authFailed
    have raised := raise_same (portShut s p .authFailed) evCHN 2
    have posted := postLog_same (raise (portShut s p .authFailed) evCHN 2) 0x50 0xFF false (p + k.device.toNat * 256) false
    have chn := (posted .chn (by simp)).trans (raised .chn (by simp))
    have run : exec (.key port k) s = .next (postLog (raise (portShut s p .authFailed) evCHN 2) 0x50 0xFF false (p + k.device.toNat * 256)) := by
      show execKey port k s = _
      simp only [execKey, show (s.port port.val).st = .keying from keying, if_true, invalid, Bool.not_false]
      exact congrArg (fun u => Host.Outcome.next (postLog (raise u evCHN 2) 0x50 0xFF false (p + k.device.toNat * 256))) (portDown_of_not_up low)
    refine ⟨_, run, ?_, ?_, fun i hi => ?_, fun takes => ?_, same_mono (same_trans shut_same (same_trans raised posted)) (by simp)⟩
    · rw [State.port, chn]
      exact shut.own
    · rw [evSet_postLog]
      exact evSet_raise_self _ _ _ (by decide)
    · rw [State.lane, chn]
      exact shut.lanes i hi
    · exact logged_postLog takes ((raised .kpr (by simp)).trans (shut_same .kpr (by simp))) ((raised .flash (by simp)).trans (shut_same .flash (by simp)))
  · obtain ⟨own, ups, same⟩ := portUp_spec (s := s) (p := p) k none_
    have run : exec (.key port k) s = .next (portUp s p k) := by
      have up : chainFwUp (portUp s p k) p = portUp s p k := by
        rw [chainFwUp, if_neg]
        rw [same .kpr (by simp)]
        exact other
      show execKey port k s = _
      simp only [execKey, show (s.port port.val).st = .keying from keying, if_true, valid, Bool.not_true, Bool.false_eq_true, if_false, major,
          bne_self_eq_false]
      exact congrArg Host.Outcome.next up
    exact ⟨_, run, congrArg Port.st own, congrArg Port.peerDev own, congrArg Port.peerPort own, congrArg Port.serial own, congrArg Port.epoch own,
      fun i hi set_ => ups i hi ((bit_eq_testBit _ _).trans set_), same⟩
  · exact (key_of_up k up valid).trans (congrArg Host.Outcome.next (if_pos rekey))
  · have other : ¬ (s.port port.val).rekey = 1 := fun h => by rw [show (s.port port.val).rekey = 0 from rekey] at h; contradiction
    exact (key_of_up k up valid).trans (congrArg Host.Outcome.next ((if_neg other).trans (if_pos rekey)))
  · exact congrArg Host.Outcome.next ((if_neg keying).trans (if_neg up))
  · have shut := portDown_shut (s := disabling s p true) (p := p) (.inl none_) .disabled
    have run : exec (.portDisable port true) s = .next (portDown (disabling s p true) p .disabled) := congrArg Host.Outcome.next ((if_neg lit).trans (if_pos rfl))
    exact ⟨_, run, shut.own, disabling_bit shut.steady, shut.lanes, same_mono (same_trans (disabling_sameBut s p true) shut.same) (by simp)⟩
  · have low : ((disabling s p false).port p).st ≠ .up := fun h => by rw [show ((disabling s p false).port p).st = .disabled from disabled] at h; contradiction
    have lit : ((disabling s p false).port p).st ≠ .dark := fun h => by rw [show ((disabling s p false).port p).st = .disabled from disabled] at h; contradiction
    have shut := portDown_shut (s := disabling s p false) (p := p) (.inr low) .training
    have trains := portTrain_trains lit ((availPort_disabling s p false).trans avail) (disabling_bit (.refl _)) open_ known fielded live
    have run : exec (.portDisable port false) s = .next (portTrain (disabling s p false) p) := by
      show execPortDisable port false s = _
      simp only [execPortDisable, show (s.port port.val).st = .disabled from disabled]
      rfl
    exact ⟨_, trains ▸ run, shut.own, disabling_bit shut.steady⟩
  · have shut := portDown_shut (s := s) (p := p) (.inl none_) .training
    have trains := portTrain_trains lit avail clear open_ known fielded live
    have run : exec (.retrain port) s = .next ((portTrain s p).setPort p { (portTrain s p).port p with retrain := true }) := by
      refine congrArg Host.Outcome.next (if_neg ?_)
      rw [show rpOpen s (port.val / 2) = true from open_]
      simp [show (s.port port.val).st ≠ .dark from lit, show (s.port port.val).st ≠ .disabled from enabled]
    rw [trains] at run
    refine ⟨_, run, ?_, ?_, shut.lanes⟩
    · rw [setPort_same]
      exact shut.own
    · rw [setPort_same]
  · have dark' : (s.port port.val).st = .dark ∨ (s.port port.val).st = .disabled := dark
    exact congrArg Host.Outcome.next (if_pos (by rcases dark' with h | h <;> simp [h]))
  · have old' : (s.port port.val).oldKey = some n := old
    show execOldKeyDiscard port s = _
    simp only [execOldKeyDiscard, old', if_pos late]
    rfl
  · show execOldKeyDiscard port s = _
    cases old : (s.port port.val).oldKey with
    | none => simp only [execOldKeyDiscard, old]
    | some n => simp only [execOldKeyDiscard, old, if_neg (Nat.not_le.2 (early n old))]
  · intro y
    refine ⟨fun lit open_ => ?_, fun still => ?_, fun closing none_ => ?_⟩
    · refine ⟨setRp (setReg s (0x50100 + 0x10 * rp.val) (if close then 1 else 0)) rp.val { y with moving := some (!close) }, ?_, tget_tput_same _ _ _ _,
        regNow_setReg_same _ _ _, same_mono (same_trans (setReg_same s _ _) (update_chn _ _)) (by simp)⟩
      refine congrArg Host.Outcome.next (if_neg ?_)
      have open' : (tget ({} : RingPos) s.chn.rps rp.val).open_ = close := open_
      have lit' : (tget ({} : RingPos) s.chn.rps rp.val).dark = false := lit
      rw [open', lit']
      cases close <;> decide
    · have still' : (tget ({} : RingPos) s.chn.rps rp.val).moving = none := still
      show execBypassMoved rp s = _
      simp only [execBypassMoved, still']
    · have closing' : (tget ({} : RingPos) s.chn.rps rp.val).moving = some false := closing
      have steady0 : Steady (setRp s rp.val { y with open_ := false, moving := none })
        (raise (setRp s rp.val { y with open_ := false, moving := none }) evCHN 9) := steady_raise _ 9
      have rps0 := steady0.rps
      have event0 := evSet_raise_self (setRp s rp.val { y with open_ := false, moving := none }) evCHN 9 (by decide)
      have run : exec (.bypassMoved rp) s = .next (closePort (closePort (raise (setRp s rp.val { y with open_ := false, moving := none }) evCHN 9) (2 * rp.val))
          (2 * rp.val + 1)) := by
        show execBypassMoved rp s = _
        simp only [execBypassMoved, closing', Bool.false_eq_true, if_false, List.foldl_cons, List.foldl_nil]
        rfl
      generalize raise (setRp s rp.val { y with open_ := false, moving := none }) evCHN 9 = u at *
      obtain ⟨steady1, own1, -⟩ := closePort_spec (s := u) (p := 2 * rp.val) (steady0.reqs.trans none_)
      obtain ⟨steady2, own2, kept⟩ := closePort_spec (s := closePort u (2 * rp.val)) (p := 2 * rp.val + 1) ((steady0.trans steady1).reqs.trans none_)
      refine ⟨_, run, ?_, ?_, own2, steady2.events 9 (steady1.events 9 event0)⟩
      · rw [steady2.rps, steady1.rps, rps0]
        exact tget_tput_same _ _ _ _
      · rw [kept _ (by omega)]
        exact own1

end Sys2Proof.Proofs

/-! SUPPORT. Grants of the Tender and their timeouts (R407, R413, R414), for O42. -/
namespace Sys2Proof.Proofs

open Sys2Proof.Machine Sys2Proof.Laws

theorem setQueue_sameBut (s : State) (a : Nat) (q : List Grant) : SameBut [.tnd] s (setQueue s a q) := update_tnd s _

theorem tndQueue_setQueue_same (s : State) (a : Nat) (q : List Grant) : tndQueue (setQueue s a q) a = q := tget_tput_same _ _ _ _

theorem tndQueue_setQueue_other (s : State) (q : List Grant) {a b : Nat} (h : b ≠ a) : tndQueue (setQueue s a q) b = tndQueue s b := tget_tput_other _ _ _ _ _ _ h

theorem tndCount_sameBut (s : State) (n i k : Nat) : SameBut [.ctr] s (tndCount s n i k) := bump_sameBut s _ k

theorem charge_sameBut (s : State) (n cls ctx energy : Nat) : SameBut [.ctr] s (charge s n cls ctx energy) := by
  unfold charge
  dsimp only
  split
  · exact tndCount_sameBut s _ _ _
  · exact same_mono (same_trans (tndCount_sameBut s _ _ _) (bump_sameBut _ _ _)) (by simp)

/-- What a grant of an account adds to a counter of that account's class, and to counter 7 with it where the class would be the sixth. -/
theorem tndCount_seven (s : State) (a cls est : Nat) : tget 0 (tndCount s a (1 + cls) est).ctr (0x61080 + 0x100 * a + 56) =
    tget 0 s.ctr (0x61080 + 0x100 * a + 56) + (if cls = 6 then BitVec.ofNat 64 est else 0) := by
  split
  next six =>
    subst six
    exact ctr_bump_same _ _ _
  next other => exact (ctr_bump_other _ _ (by omega)).trans (BitVec.add_zero _).symm

theorem charge_seven (s : State) {a : Nat} (_account : a < 17) (cls ctx est : Nat) : tget 0 (charge s a cls ctx est).ctr (0x61080 + 0x100 * a + 56) =
    tget 0 s.ctr (0x61080 + 0x100 * a + 56) + (if cls = 6 then BitVec.ofNat 64 est else 0) := by
  unfold charge
  dsimp only
  split
  · exact tndCount_seven s a cls est
  · rw [ctr_bump_other _ _ (by unfold tlmWord; omega)]
    exact tndCount_seven s a cls est

/-! ### TENDER_GRANT (R413) -/

section Grant
variable {s : State} {a : Fin 17} {g : Grant} {r : List Grant}

/-- The account's Sector after the grant, before it is counted. -/
def creditTaken (s : State) (a : Nat) (g : Grant) (r : List Grant) : State :=
  (setQueue s a r).setTnd a { s.tndSec a with credit := (s.tndSec a).credit - (askedOf s a g : Int) }

/-- The charge of a granted request. -/
def granted (s : State) (a : Nat) (g : Grant) (r : List Grant) : State :=
  if a = 16 then setQueue s a r
  else
    let s2 := tndCount (creditTaken s a g r) a 7 1
    if g.hasCtx then charge s2 a g.cls g.ctx g.est else tndCount s2 a (1 + g.cls) g.est

theorem tenderGrant_of_may (queue : tndQueue s a.val = g :: r) (may : mayGrant s a.val g = true) :
    exec (.tenderGrant a) s = .next (waiterGranted (granted s a.val g r) g.who) := by
  show execTenderGrant a s = _
  simp only [execTenderGrant, queue, may, Bool.not_true, Bool.false_eq_true, if_false]
  rfl

/-- The head of the queue, where it is granted, is covered by the account's credit. -/
theorem covered_of_may (sector : a.val ≠ 16) (may : mayGrant s a.val g = true) : (askedOf s a.val g : Int) ≤ (s.tndSec a.val).credit := by
  simp only [mayGrant, if_neg sector, Bool.and_eq_true, decide_eq_true_eq] at may
  exact may.1.2

theorem granted_tnd (s : State) (a : Nat) (g : Grant) (r : List Grant) :
    (granted s a g r).tnd = if a = 16 then (setQueue s a r).tnd else (creditTaken s a g r).tnd := by
  unfold granted
  split
  · rfl
  · dsimp only
    split
    · exact charge_sameBut _ _ _ _ _ .tnd (by simp)
    · rfl

theorem granted_sameBut (s : State) (a : Nat) (g : Grant) (r : List Grant) : SameBut [.tnd, .ctr] s (granted s a g r) := by
  have taken := same_trans (setQueue_sameBut s a r) (setTnd_sameBut (setQueue s a r) a { s.tndSec a with credit := (s.tndSec a).credit - (askedOf s a g : Int) })
  unfold granted
  split
  · exact same_mono (setQueue_sameBut s a r) (by simp)
  · dsimp only
    split
    · exact same_mono (same_trans taken (same_trans (tndCount_sameBut _ _ _ _) (charge_sameBut _ _ _ _ _))) (by simp)
    · exact same_mono (same_trans taken (same_trans (tndCount_sameBut _ _ _ _) (tndCount_sameBut _ _ _ _))) (by simp)

theorem granted_queue (s : State) (a : Nat) (g : Grant) (r : List Grant) :
    tndQueue (granted s a g r) a = r ∧ ∀ b, b ≠ a → tndQueue (granted s a g r) b = tndQueue s b := by
  have queues : (granted s a g r).tnd.queues = (setQueue s a r).tnd.queues := by
    rw [granted_tnd]
    split <;> rfl
  exact ⟨by rw [tndQueue, queues]; exact tndQueue_setQueue_same s a r, fun b h => by rw [tndQueue, queues]; exact tndQueue_setQueue_other s r h⟩

theorem granted_other (s : State) (a : Nat) (g : Grant) (r : List Grant) {n : Nat} (h : n ≠ a) : (granted s a g r).tndSec n = s.tndSec n := by
  rw [State.tndSec, granted_tnd]
  split
  · rfl
  · exact setTnd_other (setQueue s a r) a _ n h

theorem granted_credit {a : Nat} (sector : a ≠ 16) : (granted s a g r).tndSec a = { s.tndSec a with credit := (s.tndSec a).credit - (askedOf s a g : Int) } := by
  rw [State.tndSec, granted_tnd, if_neg sector]
  exact setTnd_same (setQueue s a r) a _

theorem granted_seven (sector : a.val ≠ 16) : tget 0 (granted s a.val g r).ctr (0x61080 + 0x100 * a.val + 56) =
    tget 0 s.ctr (0x61080 + 0x100 * a.val + 56) + (if g.cls = 6 then BitVec.ofNat 64 g.est + 1 else 1) := by
  have seven : tget 0 (tndCount (creditTaken s a.val g r) a.val 7 1).ctr (0x61080 + 0x100 * a.val + 56) = tget 0 s.ctr (0x61080 + 0x100 * a.val + 56) + 1 :=
    ctr_bump_same _ _ _
  have sum : tget 0 s.ctr (0x61080 + 0x100 * a.val + 56) + 1 + (if g.cls = 6 then BitVec.ofNat 64 g.est else 0) =
      tget 0 s.ctr (0x61080 + 0x100 * a.val + 56) + (if g.cls = 6 then BitVec.ofNat 64 g.est + 1 else 1) := by
    split
    · rw [BitVec.add_assoc, BitVec.add_comm 1]
    · exact BitVec.add_zero _
  rw [granted, if_neg sector, ← sum, ← seven]
  dsimp only
  split
  · exact charge_seven _ a.isLt _ _ _
  · exact tndCount_seven _ _ _ _

end Grant

/-! ### GRANT_TIMEOUT (R414) -/

section Timeout
variable {s : State} {a : Fin 17} {i : Nat} {g : Grant}

/-- The state once the timeout is counted and its event set. -/
def timedOut (s : State) (a : Nat) : State := raise (if a = 16 then s else tndCount s a 9 1) evTND 7

theorem timedOut_sameBut (s : State) (a : Nat) : SameBut [.regs, .out, .pci, .ctr] s (timedOut s a) := by
  unfold timedOut
  split
  · exact same_mono (raise_same s _ _) (by simp)
  · exact same_mono (same_trans (tndCount_sameBut s _ _ _) (raise_same _ _ _)) (by simp)

variable (found : (tndQueue s a.val)[i]? = some g) (late : Machine.grantTimeout s ≤ g.edges)
include found late

theorem grantTimeout_of_tile {c n : Nat} (who : g.who = .tile c n) : exec (.grantTimeout a i) s =
    .next (waiterFail (setQueue (timedOut s a.val) a.val (removeAt (tndQueue s a.val) i)) g.who (s.core c).group ⟨stGRANT, 0⟩) := by
  show execGrantTimeout a i s = _
  simp only [execGrantTimeout, found, if_neg (Nat.not_lt.2 late), who, timedOut]

theorem grantTimeout_of_work {n : Nat} (who : g.who = .rebind n ∨ g.who = .fill n) :
    let again := setQueue (timedOut s a.val) a.val (removeAt (tndQueue s a.val) i ++ [{ g with edges := 0 }])
    exec (.grantTimeout a i) s = .next { again with rb := { again.rb with timeouts := satAdd 16 again.rb.timeouts 1 } } := by
  show execGrantTimeout a i s = _
  rcases who with who | who
  all_goals
    simp only [execGrantTimeout, found, if_neg (Nat.not_lt.2 late), who, timedOut]

end Timeout

/-! ### The obligation -/

/-- Settles O42: grants of the Tender and their timeouts (R407, R413, R414). -/
theorem grants : Obligations.Grants := by
  unfold Obligations.Grants
  refine ⟨fun s a => ⟨fun empty => ?_, fun g r queue => ⟨fun may => ?_, fun may => ?_⟩, fun r => rfl⟩,
    fun s a i => ⟨fun none_ => ?_, fun g found => ⟨fun early => ?_, fun late => ⟨fun c n who => ?_, fun n who => ?_⟩⟩⟩⟩
  · show execTenderGrant a s = _
    simp only [execTenderGrant, empty]
  · show execTenderGrant a s = _
    simp only [execTenderGrant, queue, may, Bool.not_false, if_true]
  · obtain ⟨own, others⟩ := granted_queue s a.val g r
    refine ⟨_, tenderGrant_of_may queue may, own, others, fun sector => ⟨?_, ?_, granted_seven sector⟩, fun n h => granted_other s a.val g r h,
        granted_sameBut s a.val g r⟩
    · rw [granted_credit sector]
    · rw [granted_credit sector]
      exact Int.sub_nonneg_of_le (covered_of_may sector may)
  · show execGrantTimeout a i s = _
    simp only [execGrantTimeout, none_]
  · show execGrantTimeout a i s = _
    simp only [execGrantTimeout, found, if_pos early]
  · refine ⟨_, grantTimeout_of_tile found late who, tndQueue_setQueue_same _ _ _, ?_,
        same_mono (same_trans (timedOut_sameBut s a.val) (setQueue_sameBut _ _ _)) (by simp)⟩
    exact evSet_raise_self _ evTND 7 (by decide)
  · refine ⟨_, grantTimeout_of_work found late who, tndQueue_setQueue_same _ _ _, ?_, evSet_raise_self _ evTND 7 (by decide), ?_⟩
    · exact congrArg (fun rb => { rb with timeouts := satAdd 16 rb.timeouts 1 }) (timedOut_sameBut s a.val .rb (by simp))
    · exact same_mono (same_trans (timedOut_sameBut s a.val) (same_trans (setQueue_sameBut _ _ _) (update_rb _ _))) (by simp)

end Sys2Proof.Proofs

/-! SUPPORT. The reserve, ramps, armed power steps and boost windows (R406, R418 to R422), for O43. -/
namespace Sys2Proof.Proofs

open Sys2Proof.Machine Sys2Proof.Laws

/-- An event of another group leaves a register as it is. -/
theorem regNow_raise_other (s : State) {off i j : Nat} (h : j ≠ off) : regNow (raise s off i) j = regNow s j := regs_raise_other s off i _ j h

theorem regNow_congr {s t : State} (regs : t.regs = s.regs) (off : Nat) : regNow t off = regNow s off := by rw [regNow, regNow, regs]

/-! ### Armed power steps (R419) -/

section Sched
variable {s : State} {v : Word} {e : Nat}

/-- The state once TND_SCHED_GO is written. -/
def schedWritten (s : State) (v : Word) : State := setReg s 0x60028 (BitVec.ofNat 64 (bits v.toNat 23 0 + bits v.toNat 32 32 * 2 ^ 32))

theorem satFree_congr {s t : State} (sat : t.sat = s.sat) : satFree t = satFree s := by
  unfold satFree State.satEntry
  rw [sat]

theorem satFree_schedWritten (s : State) (v : Word) : satFree (schedWritten s v) = satFree s := satFree_congr (setReg_same s _ _ .sat (by simp))

theorem satEntry_schedWritten (s : State) (v : Word) (e : Nat) : (schedWritten s v).satEntry e = s.satEntry e := by
  rw [State.satEntry, State.satEntry, schedWritten, setReg_same s _ _ .sat (by simp)]

/-- The entry that TND_SCHED_GO writes, before it is armed. -/
def powerStep (s : State) (v : Word) : Sat :=
  { when_ := regNow s 0x60020, op := BitVec.ofNat 64 (bits v.toNat 23 0), tick := 0, action := 2, fleet := bit v.toNat 32, owner := 3 }

/-- An entry written and armed, and named in TND_SCHED. -/
def armStep (s : State) (e : Nat) (x : Sat) : State :=
  let t := (s.setSat e x).setSat e (entered (s.setSat e x) x .armed)
  { t with tnd := { t.tnd with schedEntry := e } }

theorem armStep_own (s : State) (e : Nat) (x : Sat) : (armStep s e x).satEntry e = entered (s.setSat e x) x .armed := setSat_same _ _ _

theorem armStep_other (s : State) {e d : Nat} (h : d ≠ e) (x : Sat) : (armStep s e x).satEntry d = s.satEntry d :=
  (setSat_other _ _ _ _ h).trans (setSat_other _ _ _ _ h)

theorem armStep_sameBut (s : State) (e : Nat) (x : Sat) : SameBut [.sat, .tnd] s (armStep s e x) :=
  same_mono (same_trans (setSat_sameBut s e x) (same_trans (setSat_sameBut _ _ _) (update_tnd _ _))) (by simp)

/-- The state once the entry is armed and named in TND_SCHED. -/
def stepArmed (s : State) (v : Word) (e : Nat) : State := armStep (schedWritten s v) e (powerStep s v)

theorem stepArmed_spec (s : State) (v : Word) (e : Nat) :
    (stepArmed s v e).satEntry e = entered ((schedWritten s v).setSat e (powerStep s v)) (powerStep s v) .armed ∧
      (∀ d, d ≠ e → (stepArmed s v e).satEntry d = s.satEntry d) ∧ (stepArmed s v e).tnd.schedEntry = e ∧ SameBut [.sat, .regs, .tnd] s (stepArmed s v e) := by
  refine ⟨armStep_own _ e _, fun d hd => (armStep_other _ hd _).trans (satEntry_schedWritten s v d), rfl, ?_⟩
  exact same_mono (same_trans (setReg_same s _ _) (armStep_sameBut _ e _)) (by simp)

theorem tndSchedGo_arms (free : satFree s = some e) (operand : satOperandOk 2 (bits v.toNat 23 0) = true) (ahead : s.flash.count.toNat < (regNow s 0x60020).toNat) :
    exec (.tndSchedGo v) s = .next (stepArmed s v e) := by
  have op : (BitVec.ofNat 64 (bits v.toNat 23 0)).toNat = bits v.toNat 23 0 := by
    have : bits v.toNat 23 0 < 2 ^ 24 := Nat.mod_lt _ (by decide)
    exact Nat.mod_eq_of_lt (by omega)
  have when_ : regNow (schedWritten s v) 0x60020 = regNow s 0x60020 := regNow_setReg_other _ _ _ _ (by decide)
  have free' : satFree (schedWritten s v) = some e := (satFree_schedWritten s v).trans free
  have valid : satOperandOk (powerStep s v).action (powerStep s v).op.toNat = true := by
    rw [powerStep, op]
    exact operand
  have past : satPast ((schedWritten s v).setSat e (powerStep s v)) (powerStep s v) = false := by
    have later : (regNow s 0x60020 == s.flash.count) = false := beq_eq_false_iff_ne.2 fun same => by rw [same] at ahead; omega
    have flash : ((schedWritten s v).setSat e (powerStep s v)).flash = s.flash := same_trans (setReg_same s _ _) (setSat_sameBut _ _ _) .flash (by simp)
    have at_ : (powerStep s v).when_ = regNow s 0x60020 := rfl
    simp only [satPast, flash, at_, later, decide_eq_false (show ¬ (regNow s 0x60020).toNat < s.flash.count.toNat by omega), Bool.false_and, Bool.or_self]
  have armed : satArmNow ((schedWritten s v).setSat e (powerStep s v)) e false = (((schedWritten s v).setSat e (powerStep s v)).setSat e
      (entered ((schedWritten s v).setSat e (powerStep s v)) (powerStep s v) .armed)) := by
    have empty : ¬ (powerStep s v).st = .armed := fun h : SatSt.empty = .armed => nomatch h
    simp only [satArmNow, setSat_same, if_neg empty, valid, past, Bool.not_true, Bool.false_and, Bool.or_self, Bool.false_eq_true, if_false, satEnter_armed]
  have unit : satArmUnit (schedWritten s v) 3 2 (regNow (schedWritten s v) 0x60020) (BitVec.ofNat 64 (bits v.toNat 23 0)) 0 (bit v.toNat 32) =
      some (e, satArmNow ((schedWritten s v).setSat e (powerStep s v)) e false) := by
    simp only [satArmUnit, free', when_]
    rfl
  unfold schedWritten at unit
  show execTndSchedGo v s = _
  simp only [execTndSchedGo, unit]
  exact congrArg (fun t : State => Host.Outcome.next { t with tnd := { t.tnd with schedEntry := e } }) armed

theorem tndSchedGo_full (none_ : satFree s = none) :
    exec (.tndSchedGo v) s = .next (raise { schedWritten s v with tnd := { (schedWritten s v).tnd with schedEntry := 0 } } evTND 8) := by
  have none' : satFree (schedWritten s v) = none := (satFree_schedWritten s v).trans none_
  have unit (when_ op : BitVec 64) (fleet : Bool) : satArmUnit (schedWritten s v) 3 2 when_ op 0 fleet = none := by simp only [satArmUnit, none']
  unfold schedWritten at unit ⊢
  show execTndSchedGo v s = _
  simp only [execTndSchedGo, unit]

/-- Cancelling an armed entry without an interrupt writes that entry alone. -/
theorem satCancelNow_quiet (armed : (s.satEntry e).st = .armed) (quiet : (s.satEntry e).irq = false) :
    satCancelNow s e = s.setSat e (entered s (s.satEntry e) .cancelled) := by
  simp [satCancelNow, armed, satEnter, quiet, SatSt.terminal, entered]

end Sched

/-! ### Boost windows (R420) -/

section Boost
variable {s : State} {v : Word}

/-- The state once BOOST's request is written and the window opens. -/
def boostOpened (s : State) (v : Word) : State :=
  let s1 := setReg s 0x60030 (BitVec.ofNat 64 (bits v.toNat 15 8 * 256 + bits (regNow s 0x60030).toNat 0 0))
  { setReg s1 0x60030 (setBits (regNow s1 0x60030) 0 0 1) with tnd := { s1.tnd with boost := 1, above := 0 } }

theorem boostOpen_allowed (allowed : boostAllowed s = true) : exec (.boostOpen v) s = .next (tndModCount (raise (boostOpened s v) evTND 1) 7 1) :=
  congrArg Host.Outcome.next (if_pos allowed)

theorem regNow_boostOpened (s : State) (v : Word) : regNow (boostOpened s v) 0x60030 =
    setBits (BitVec.ofNat 64 (bits v.toNat 15 8 * 256 + bits (regNow s 0x60030).toNat 0 0)) 0 0 1 :=
  (regNow_setReg_same _ _ _).trans (congrArg (setBits · 0 0 1) (regNow_setReg_same _ _ _))

theorem boostOpened_tnd (s : State) (v : Word) : (boostOpened s v).tnd = { s.tnd with boost := 1, above := 0 } := by
  rw [boostOpened]
  dsimp only
  rw [setReg_same s _ _ .tnd (by simp)]

theorem bits_boostOpened (s : State) (v : Word) : bits (regNow (boostOpened s v) 0x60030).toNat 15 8 = bits v.toNat 15 8 := by
  rw [regNow_boostOpened]
  have high : bits v.toNat 15 8 < 256 := Nat.mod_lt _ (by decide)
  have low : bits (regNow s 0x60030).toNat 0 0 < 2 := Nat.mod_lt _ (by decide)
  generalize bits v.toNat 15 8 = h at *
  generalize bits (regNow s 0x60030).toNat 0 0 = l at *
  simp only [bits, setBits, BitVec.toNat_ofNat]
  omega

/-- The state once the window is closed, before its event. -/
def boostShut (s : State) : State :=
  { s with
    tnd := { s.tnd with boost := 2, secs := s.tnd.secs.map (fun p => (p.1, { p.2 with op := p.2.op.map (fun o => min o 5) })) }
    regs := tmod (BitVec.ofNat 64 (150 * 256)) s.regs 0x60030 (fun v => setBits v 0 0 0) }

theorem closeBoost_open (open_ : s.tnd.boost = 1) : closeBoost s = raise (boostShut s) evTND 3 := if_pos open_

theorem closeBoost_shut (shut : s.tnd.boost ≠ 1) : closeBoost s = s := if_neg shut

theorem boostShut_sameBut (s : State) : SameBut [.tnd, .regs] s (boostShut s) := by
  intro p hp
  cases p with
  | tnd => simp at hp
  | regs => simp at hp
  | _ => rfl

theorem closeBoost_sameBut (s : State) : SameBut [.tnd, .regs, .out, .pci] s (closeBoost s) := by
  by_cases open_ : s.tnd.boost = 1
  · rw [closeBoost_open open_]
    exact same_mono (same_trans (boostShut_sameBut s) (raise_same _ _ _)) (by simp)
  · rw [closeBoost_shut open_]
    exact same_refl _ _

theorem closeBoost_closed (s : State) : (closeBoost s).tnd.boost ≠ 1 := by
  by_cases open_ : s.tnd.boost = 1
  · rw [closeBoost_open open_, raise_same _ _ _ .tnd (by simp)]
    exact (by decide : (2 : Nat) ≠ 1)
  · rw [closeBoost_shut open_]
    exact open_

/-- A die whose boost time is spent allows no window again. -/
theorem boostAllowed_spent {t : State} (spent : t.tnd.wearSpent = true) : boostAllowed t = false := by
  simp only [boostAllowed, spent, Bool.not_true, Bool.false_and]

theorem boostShut_points (s : State) : ∀ p ∈ (boostShut s).tnd.secs, ∀ o ∈ p.2.op, o ≤ 5 := by
  intro p hp o ho
  obtain ⟨q, -, rfl⟩ := List.mem_map.1 hp
  obtain ⟨o', -, rfl⟩ := List.mem_map.1 ho
  exact Nat.min_le_right _ _

end Boost

/-! ### Ageing trims (R422) -/

/-- One die's trim is taken where it is a multiple of 5 mV up to 40, and never lowered. -/
def takeTrim (trims : List Nat) (t : Tbl Nat) (d : Nat) : Tbl Nat :=
  let v := trims.getD d 0
  if v % 5 = 0 ∧ v ≤ 40 then tmod 0 t d (max v) else t

theorem takeTrim_same (trims : List Nat) (t : Tbl Nat) (d : Nat) : tget 0 (takeTrim trims t d) d =
    (let v := trims.getD d 0; if v % 5 = 0 ∧ v ≤ 40 then max v (tget 0 t d) else tget 0 t d) := by
  unfold takeTrim
  dsimp only
  split
  · exact tget_tmod_same _ _ _ _
  · rfl

theorem takeTrim_other (trims : List Nat) (t : Tbl Nat) {d e : Nat} (h : e ≠ d) : tget 0 (takeTrim trims t d) e = tget 0 t e := by
  unfold takeTrim
  dsimp only
  split
  · exact tget_tput_other _ _ _ _ _ _ h
  · rfl

theorem takeTrims_spec (trims : List Nat) (t : Tbl Nat) (n : Nat) : (∀ d, n ≤ d → tget 0 ((List.range n).foldl (takeTrim trims) t) d = tget 0 t d) ∧
    ∀ d, d < n → tget 0 ((List.range n).foldl (takeTrim trims) t) d =
      (let v := trims.getD d 0; if v % 5 = 0 ∧ v ≤ 40 then max v (tget 0 t d) else tget 0 t d) := by
  induction n with
  | zero => exact ⟨fun _ _ => rfl, fun _ h => absurd h (Nat.not_lt_zero _)⟩
  | succ n ih =>
    obtain ⟨above, below⟩ := ih
    rw [List.range_succ, List.foldl_append, List.foldl_cons, List.foldl_nil]
    refine ⟨fun d hd => (takeTrim_other _ _ (by omega)).trans (above d (by omega)), fun d hd => ?_⟩
    by_cases last : d = n
    · rw [last, takeTrim_same, above n (Nat.le_refl n)]
    · exact (takeTrim_other _ _ last).trans (below d (by omega))

/-! ### The obligation -/

/-- Settles O43: the reserve, ramps, armed power steps and boost windows (R406, R418 to R422). -/
theorem powerSteps : Obligations.PowerSteps := by
  unfold Obligations.PowerSteps
  refine ⟨fun s => ⟨fun p on due => ?_, fun p off => ?_, fun early => ?_, fun unjudged due => ?_, fun v e free operand ahead => ?_,
      fun v none_ => ?_, fun none_ => ?_,
      fun named armed quiet => ?_⟩,
    fun s => ⟨fun v allowed => ?_, fun v refused => ?_, fun i closes => ⟨fun open_ => ?_, fun shut => ?_⟩, fun paying => ?_, fun other => ?_,
      fun d => ⟨fun idle => ?_, fun fresh spent => ?_⟩, fun trims => ?_⟩⟩
  · refine ⟨_, congrArg Host.Outcome.next (if_neg ?_), regNow_setReg_same _ _ _, rfl, same_mono (same_trans (update_tnd s _) (setReg_same _ _ _)) (by simp)⟩
    simp [on, Nat.not_lt.2 due]
  · refine congrArg Host.Outcome.next (if_pos ?_)
    rcases off with off | early
    · simp [off]
    · simp [early]
  · refine congrArg Host.Outcome.next (if_pos ?_)
    rcases early with judged | early
    · simp [judged]
    · simp [early]
  · intro avg
    have run : exec .rampDeadline s = .next (raise { s with tnd := { s.tnd with judged := true } } evTND
        (if avg ≤ s.tnd.target + tolerance s ∧ s.tnd.target ≤ avg + tolerance s then 4 else 5)) := by
      refine congrArg Host.Outcome.next ((if_neg (by simp [unjudged, Nat.not_lt.2 due])).trans ?_)
      simp only [Bool.and_eq_true, decide_eq_true_eq]
      rfl
    refine ⟨_, run, raise_same _ _ _ .tnd (by simp), evSet_raise_self _ _ _ (by split <;> decide),
        same_mono (same_trans (update_tnd s _) (raise_same _ _ _)) (by simp)⟩
  · refine ⟨_, tndSchedGo_arms free operand ahead, ?_⟩
    obtain ⟨own, others, named, same⟩ := stepArmed_spec s v e
    rw [own]
    exact ⟨rfl, rfl, rfl, rfl, rfl, rfl, named, others, same⟩
  · refine ⟨_, tndSchedGo_full none_, congrArg Tender.schedEntry (raise_same _ _ _ .tnd (by simp)), evSet_raise_self _ _ _ (by decide), ?_⟩
    exact same_mono (same_trans (setReg_same s _ _) (same_trans (update_tnd _ _) (raise_same _ _ _))) (by simp)
  · exact congrArg Host.Outcome.next (if_pos none_)
  · refine ⟨_, congrArg Host.Outcome.next ((if_neg named).trans (satCancelNow_quiet armed quiet)), ?_, fun d hd => setSat_other _ _ _ _ hd,
        setSat_sameBut _ _ _⟩
    rw [setSat_same]
    rfl
  · have raised := raise_same (boostOpened s v) evTND 1
    have reg : regNow (tndModCount (raise (boostOpened s v) evTND 1) 7 1) 0x60030 = regNow (boostOpened s v) 0x60030 :=
      (regNow_congr (bump_regs _ _ _) _).trans (regNow_raise_other _ (by decide))
    refine ⟨_, boostOpen_allowed allowed, (raised .tnd (by simp)).trans (boostOpened_tnd s v), ?_, ?_, ?_, ?_⟩
    · exact (evSet_congr (bump_regs _ _ _) _ _).trans (evSet_raise_self _ evTND 1 (by decide))
    · rw [reg, regNow_boostOpened, bit_setBits_0]
      rfl
    · rw [reg]
      exact bits_boostOpened s v
    · exact same_mono (same_trans (setReg_same s _ _) (same_trans (setReg_same _ _ _) (same_trans (update_tnd _ _) (same_trans raised (bump_sameBut _ _ 1))))) (by simp)
  · refine ⟨_, congrArg Host.Outcome.next (if_neg (by simp [refused])), evSet_raise_self _ _ _ (by decide), ?_⟩
    split
    · exact same_mono (same_trans (setReg_same s _ _) (raise_same _ _ _)) (by simp)
    · exact same_mono (same_trans (setReg_same s _ _) (same_trans (setReg_same _ _ _) (raise_same _ _ _))) (by simp)
  · have run : exec i s = .next (raise (boostShut s) evTND 3) := by
      rcases closes with rfl | rfl
      · exact congrArg Host.Outcome.next (closeBoost_open open_)
      · exact congrArg Host.Outcome.next (closeBoost_open open_)
    have raised := raise_same (boostShut s) evTND 3
    refine ⟨_, run, congrArg Tender.boost (raised .tnd (by simp)), evSet_raise_self _ _ _ (by decide), ?_, ?_,
        same_mono (same_trans (boostShut_sameBut s) raised) (by simp)⟩
    · rw [raised .tnd (by simp)]
      exact boostShut_points s
    · rw [regs_raise_other _ _ _ _ _ (by decide)]
      rw [boostShut, tget_tmod_same, bit_setBits_0]
      rfl
  · rcases closes with rfl | rfl
    · exact congrArg Host.Outcome.next (closeBoost_shut shut)
    · exact congrArg Host.Outcome.next (closeBoost_shut shut)
  · exact congrArg Host.Outcome.next (if_pos paying)
  · exact congrArg Host.Outcome.next (if_neg other)
  · refine congrArg Host.Outcome.next (if_pos ?_)
    rcases idle with spent | short
    · simp [spent]
    · simp [short]
  · have run : exec (.wearSpent d) s = .next (raise { closeBoost s with tnd := { (closeBoost s).tnd with wearSpent := true } } evTND 6) :=
      congrArg Host.Outcome.next (if_neg (by simp [fresh, Nat.not_lt.2 spent]))
    have raised := raise_same { closeBoost s with tnd := { (closeBoost s).tnd with wearSpent := true } } evTND 6
    have tnd := raised .tnd (by simp)
    refine ⟨_, run, congrArg Tender.wearSpent tnd, ?_, evSet_raise_self _ _ _ (by decide), ?_, ?_⟩
    · rw [tnd]
      exact closeBoost_closed s
    · exact boostAllowed_spent (congrArg Tender.wearSpent tnd)
    · exact same_mono (same_trans (closeBoost_sameBut s) (same_trans (update_tnd _ _) raised)) (by simp)
  · exact ⟨_, rfl, update_tnd s _, fun d hd => (takeTrims_spec trims s.tnd.trim 4).2 d hd⟩

end Sys2Proof.Proofs

/-! SUPPORT. Limits at the peak and sensor samples (R403, R421, R423, R424, R478), for O44. -/
namespace Sys2Proof.Proofs

open Sys2Proof.Machine Sys2Proof.Laws

/-! ### The emergency level (R424) -/

section Emergency
variable {s : State} {level cause : Nat}

/-- The emergency state once its level is another one. -/
def emergAt (e : Emerg) (level cause : Nat) : Emerg :=
  { e with level := level, cause := if level = 0 then 0 else cause, clear := 0, down := if level = 0 then 0 else e.down }

/-- The state with that emergency state. -/
def withEmerg (s : State) (e : Emerg) : State := { s with tnd := { s.tnd with emerg := e } }

theorem setEmerg_other (other : level ≠ s.tnd.emerg.level) : setEmerg s level cause =
    postLog (raise (withEmerg s (emergAt s.tnd.emerg level cause)) evTND 0) 0x34 0xFF false (level + cause * 16) := by
  rw [setEmerg, if_neg other]
  rfl

theorem setEmerg_same (same : level = s.tnd.emerg.level) : setEmerg s level cause = withEmerg s { s.tnd.emerg with cause := cause } := by
  rw [setEmerg, if_pos same]
  rfl

theorem withEmerg_sameBut (s : State) (e : Emerg) : SameBut [.tnd] s (withEmerg s e) := update_tnd s _

theorem setEmerg_sameBut (s : State) (level cause : Nat) : SameBut [.tnd, .regs, .out, .pci, .log, .logSeq, .kpr] s (setEmerg s level cause) := by
  by_cases same : level = s.tnd.emerg.level
  · rw [setEmerg_same same]
    exact same_mono (withEmerg_sameBut s _) (by simp)
  · rw [setEmerg_other same]
    exact same_mono (same_trans (withEmerg_sameBut s _) (same_trans (raise_same _ _ _) (postLog_same _ _ _ _ _ _))) (by simp)

/-- Whatever level is set, only the emergency state of the Tender changes. -/
theorem setEmerg_tnd (s : State) (level cause : Nat) : (setEmerg s level cause).tnd = { s.tnd with
    emerg := if level = s.tnd.emerg.level then { s.tnd.emerg with cause := cause } else emergAt s.tnd.emerg level cause } := by
  by_cases same : level = s.tnd.emerg.level
  · rw [setEmerg_same same, if_pos same]
    rfl
  · rw [setEmerg_other same, if_neg same, postLog_tnd, raise_same _ _ _ .tnd (by simp)]
    rfl

theorem setEmerg_event (other : level ≠ s.tnd.emerg.level) : evSet (setEmerg s level cause) evTND 0 = true := by
  rw [setEmerg_other other, evSet_postLog]
  exact evSet_raise_self _ _ _ (by decide)

theorem setEmerg_logged (other : level ≠ s.tnd.emerg.level) (takes : keeperTakes s) :
    Logged (setEmerg s level cause) s.now 0x34 0xFF (level + cause * 16) := by
  have raised := raise_same (withEmerg s (emergAt s.tnd.emerg level cause)) evTND 0
  rw [setEmerg_other other]
  exact logged_postLog takes (raised .kpr (by simp)) (raised .flash (by simp))

end Emergency

/-! ### Over-currents (R423) -/

section Limit
variable {s : State} {cause : Nat}

/-- The state once E1 is applied and its cause is present. -/
def limited (s : State) (cause : Nat) : State :=
  let t := setEmerg s (max 1 s.tnd.emerg.level) (s.tnd.emerg.cause ||| cause)
  withEmerg t { t.tnd.emerg with clear := 0 }

theorem limitE1_eq (s : State) (cause : Nat) : limitE1 s cause = closeBoost (limited s cause) := rfl

theorem closeBoost_emerg (s : State) : (closeBoost s).tnd.emerg = s.tnd.emerg ∧ (closeBoost s).tnd.last = s.tnd.last := by
  by_cases open_ : s.tnd.boost = 1
  · rw [closeBoost_open open_, raise_same _ _ _ .tnd (by simp)]
    exact ⟨rfl, rfl⟩
  · rw [closeBoost_shut open_]
    exact ⟨rfl, rfl⟩

/-- A closing window clears no event. -/
theorem closeBoost_events {i : Nat} (set_ : evSet s evTND i = true) : evSet (closeBoost s) evTND i = true := by
  by_cases open_ : s.tnd.boost = 1
  · rw [closeBoost_open open_]
    refine evSet_raise_mono _ _ _ _ _ ?_
    rw [evSet, evBits, boostShut, tmod, tget_tput_other _ _ _ _ _ _ (by decide)]
    exact set_
  · rw [closeBoost_shut open_]
    exact set_

theorem limited_sameBut (s : State) (cause : Nat) : SameBut [.tnd, .regs, .out, .pci, .log, .logSeq, .kpr] s (limited s cause) :=
  same_mono (same_trans (setEmerg_sameBut s _ _) (withEmerg_sameBut _ _)) (by simp)

theorem limitE1_sameBut (s : State) (cause : Nat) : SameBut [.tnd, .regs, .out, .pci, .log, .logSeq, .kpr] s (limitE1 s cause) := by
  rw [limitE1_eq]
  exact same_mono (same_trans (limited_sameBut s cause) (closeBoost_sameBut _)) (by simp)

theorem limited_tnd (s : State) (cause : Nat) : (limited s cause).tnd.emerg.level = max 1 s.tnd.emerg.level ∧
    (limited s cause).tnd.emerg.cause = s.tnd.emerg.cause ||| cause ∧ (limited s cause).tnd.emerg.clear = 0 ∧ (limited s cause).tnd.last = s.tnd.last := by
  have tnd := setEmerg_tnd s (max 1 s.tnd.emerg.level) (s.tnd.emerg.cause ||| cause)
  have emerg := congrArg Tender.emerg tnd
  have last := congrArg Tender.last tnd
  have nonzero : ¬ max 1 s.tnd.emerg.level = 0 := by omega
  refine ⟨(congrArg Emerg.level emerg).trans ?_, (congrArg Emerg.cause emerg).trans ?_, rfl, last⟩
  · dsimp only
    split
    next same => exact same.symm
    next => rfl
  · dsimp only
    split
    · rfl
    · exact if_neg nonzero

/-- What an over-current or a hot junction leaves of the Tender. -/
theorem limitE1_tnd (s : State) (cause : Nat) : (limitE1 s cause).tnd.emerg.level = max 1 s.tnd.emerg.level ∧
    (limitE1 s cause).tnd.emerg.cause = s.tnd.emerg.cause ||| cause ∧ (limitE1 s cause).tnd.emerg.clear = 0 ∧ (limitE1 s cause).tnd.boost ≠ 1 ∧
    (limitE1 s cause).tnd.last = s.tnd.last := by
  obtain ⟨level, cause_, clear, last⟩ := limited_tnd s cause
  obtain ⟨emerg, last'⟩ := closeBoost_emerg (limited s cause)
  rw [limitE1_eq, emerg]
  exact ⟨level, cause_, clear, closeBoost_closed _, last'.trans last⟩

/-- From no emergency, the change of level sets its event and is logged. -/
theorem limitE1_reports (calm : s.tnd.emerg.level = 0) : evSet (limitE1 s cause) evTND 0 = true ∧
    (keeperTakes s → Logged (limitE1 s cause) s.now 0x34 0xFF (1 + (s.tnd.emerg.cause ||| cause) * 16)) := by
  have other : max 1 s.tnd.emerg.level ≠ s.tnd.emerg.level := by omega
  have one : max 1 s.tnd.emerg.level = 1 := by omega
  rw [limitE1_eq]
  refine ⟨closeBoost_events ?_, fun takes => logged_congr ?_ (closeBoost_sameBut (limited s cause) .log (by simp))⟩
  · exact (evSet_congr (withEmerg_sameBut _ _ .regs (by simp)) _ _).trans (setEmerg_event other)
  · have logged := setEmerg_logged (cause := s.tnd.emerg.cause ||| cause) other takes
    rw [one] at logged
    refine logged_congr (u := setEmerg s (max 1 s.tnd.emerg.level) (s.tnd.emerg.cause ||| cause)) ?_ (withEmerg_sameBut _ _ .log (by simp))
    rw [one]
    exact logged

end Limit

/-! ### One site (R403, R478) -/

/-- A byte of a word of eight. -/
theorem bits_setBits_byte (x : Word) {k v : Nat} (hk : k < 8) (hv : v < 256) : bits (setBits x (8 * k + 7) (8 * k) v).toNat (8 * k + 7) (8 * k) = v := by
  have lt := x.isLt
  interval_cases k
  all_goals
    simp only [bits, setBits, BitVec.toNat_ofNat]
    omega

/-- The register of a site's byte, with that byte written. -/
def putSite (s : State) (i b : Nat) : State :=
  setReg s (0x70100 + 8 * (i / 8)) (setBits (regNow s (0x70100 + 8 * (i / 8))) (8 * (i % 8) + 7) (8 * (i % 8)) b)

/-- What the register of site `i` shows of it. -/
def siteByte (s : State) (i : Nat) : Nat := bits (regNow s (0x70100 + 8 * (i / 8))).toNat (8 * (i % 8) + 7) (8 * (i % 8))

theorem siteByte_congr {s t : State} (regs : t.regs = s.regs) (i : Nat) : siteByte t i = siteByte s i := by rw [siteByte, siteByte, regNow_congr regs]

theorem siteByte_putSite (s : State) (i : Nat) {b : Nat} (small : b < 256) : siteByte (putSite s i b) i = b := by
  rw [siteByte, putSite, regNow_setReg_same]
  exact bits_setBits_byte _ (Nat.mod_lt _ (by decide)) small

theorem siteByte_raise (s : State) (i j : Nat) : siteByte (raise s evKPR j) i = siteByte s i := by
  rw [siteByte, regNow_raise_other s (by unfold evKPR; omega)]
  rfl

theorem putSite_sameBut (s : State) (i b : Nat) : SameBut [.regs] s (putSite s i b) := setReg_same s _ _

section Site
variable {s : State} {sites : List Int} {i : Nat}

/-- The state with one more site marked invalid. -/
def withInvalid (s : State) (i : Nat) : State := { s with kpr := { s.kpr with invalid := i :: s.kpr.invalid } }

/-- The state once a site is marked invalid, its register written and the record posted. -/
def siteLost (s : State) (i : Nat) : State := postLog (putSite (withInvalid s i) i 0xFF) 0x31 0xFF false i

theorem siteSample_fails (valid : i ∉ s.kpr.invalid) (fails : siteFails sites i = true) : siteSample sites s i = raise (siteLost s i) evKPR 2 := by
  simp only [siteSample, List.contains_eq_mem, valid, decide_false, Bool.false_eq_true, if_false, fails, if_true]
  rfl

theorem siteLost_invalid (s : State) (i : Nat) : i ∈ (siteLost s i).kpr.invalid := by
  obtain ⟨coll, lost, flushing, kpr⟩ := postLog_keeper (putSite (withInvalid s i) i 0xFF) 0x31 0xFF false i false
  rw [siteLost, kpr, putSite_sameBut _ _ _ .kpr (by simp)]
  exact List.mem_cons_self ..

theorem siteLost_logged (takes : keeperTakes s) (i : Nat) : Logged (siteLost s i) s.now 0x31 0xFF i := by
  have takes' : keeperTakes (withInvalid s i) := takes
  exact logged_postLog (s := withInvalid s i) takes' (putSite_sameBut _ _ _ .kpr (by simp)) (putSite_sameBut _ _ _ .flash (by simp))

theorem siteLost_byte (s : State) (i : Nat) : siteByte (siteLost s i) i = 0xFF :=
  (siteByte_congr (postLog_same _ _ _ _ _ _ .regs (by simp)) i).trans (siteByte_putSite _ i (by decide))

/-- The state once a valid site's warning is shown. -/
def siteWarned (s : State) (sites : List Int) (i : Nat) : State :=
  let s1 := putSite s i (degrees (sites.getD i 0))
  raise (setReg s1 (0x70200 + 8 * (i / 64)) (setBits (regNow s1 (0x70200 + 8 * (i / 64))) (i % 64) (i % 64) 1)) evKPR 1

/-- What a site that is valid and does not fail leaves. -/
theorem siteSample_valid (valid : i ∉ s.kpr.invalid) (good : siteFails sites i = false) : siteSample sites s i =
    (if warnLevel s < sites.getD i 0 then
      (if s.kpr.warned.contains i then siteWarned s sites i
      else
        let s2 := siteWarned s sites i
        postLog { s2 with kpr := { s2.kpr with warned := i :: s2.kpr.warned } } 0x30 0xFF false (i + degrees (sites.getD i 0) * 256))
    else
      let s1 := putSite s i (degrees (sites.getD i 0))
      if sites.getD i 0 ≤ warnLevel s - 20 then { s1 with kpr := { s1.kpr with warned := s1.kpr.warned.filter (· != i) } } else s1) := by
  simp only [siteSample, List.contains_eq_mem, valid, decide_false, Bool.false_eq_true, if_false, good]
  rfl

theorem degrees_lt (v : Int) : degrees v < 256 := by
  unfold degrees
  omega

/-- A site's warning: what it shows, its event, and the Keeper's sites as they were. -/
theorem siteWarned_spec (small : i < 160) : siteByte (siteWarned s sites i) i = degrees (sites.getD i 0) ∧ evSet (siteWarned s sites i) evKPR 1 = true ∧
    (siteWarned s sites i).kpr = s.kpr := by
  refine ⟨?_, evSet_raise_self _ _ _ (by decide), ?_⟩
  · rw [siteWarned, siteByte_raise, siteByte, regNow_setReg_other _ _ _ _ (by omega)]
    exact siteByte_putSite s i (degrees_lt _)
  · rw [siteWarned, raise_same _ _ _ .kpr (by simp), setReg_same _ _ _ .kpr (by simp), putSite_sameBut _ _ _ .kpr (by simp)]

/-- A valid site shows its degrees; past the warning level its event is set and it counts as warned. -/
theorem siteSample_shows (small : i < 160) (valid : i ∉ s.kpr.invalid) (good : siteFails sites i = false) :
    (siteSample sites s i).kpr.invalid = s.kpr.invalid ∧ siteByte (siteSample sites s i) i = degrees (sites.getD i 0) ∧
      (warnLevel s < sites.getD i 0 → evSet (siteSample sites s i) evKPR 1 = true ∧ i ∈ (siteSample sites s i).kpr.warned) := by
  obtain ⟨byte, event, kpr⟩ := siteWarned_spec (s := s) (sites := sites) small
  have shown := siteByte_putSite s i (degrees_lt (sites.getD i 0))
  have kpr1 := putSite_sameBut s i (degrees (sites.getD i 0)) .kpr (by simp)
  rw [siteSample_valid valid good]
  split
  · split
    next again =>
      rw [kpr]
      exact ⟨rfl, byte, fun _ => ⟨event, List.contains_iff_mem.1 again⟩⟩
    next first =>
      generalize siteWarned s sites i = u at *
      dsimp only
      obtain ⟨coll, lost, flushing, kept⟩ := postLog_keeper { u with kpr := { u.kpr with warned := i :: u.kpr.warned } } 0x30 0xFF false
        (i + degrees (sites.getD i 0) * 256) false
      rw [kept]
      have regs := postLog_same { u with kpr := { u.kpr with warned := i :: u.kpr.warned } } 0x30 0xFF false (i + degrees (sites.getD i 0) * 256) false .regs (by simp)
      have invalid : u.kpr.invalid = s.kpr.invalid := congrArg Keeper.invalid kpr
      refine ⟨invalid, (siteByte_congr regs i).trans byte, fun _ => ⟨(evSet_congr regs _ _).trans event, List.mem_cons_self ..⟩⟩
  next cool =>
    generalize putSite s i (degrees (sites.getD i 0)) = u at *
    have invalid : u.kpr.invalid = s.kpr.invalid := congrArg Keeper.invalid kpr1
    dsimp only
    split
    · exact ⟨invalid, shown, fun hot => absurd hot cool⟩
    · exact ⟨invalid, shown, fun hot => absurd hot cool⟩

theorem siteSample_sameBut (sites : List Int) (s : State) (i : Nat) : SameBut [.kpr, .regs, .out, .pci, .log, .logSeq] s (siteSample sites s i) := by
  by_cases valid : i ∈ s.kpr.invalid
  · have run : siteSample sites s i = putSite s i 0xFF := by
      simp only [siteSample, List.contains_eq_mem, valid, decide_true, if_true]
      rfl
    rw [run]
    exact same_mono (putSite_sameBut s i _) (by simp)
  · cases good : siteFails sites i with
    | true =>
      rw [siteSample_fails valid good]
      exact same_mono (same_trans (update_kpr s _) (same_trans (putSite_sameBut _ _ _) (same_trans (postLog_same _ _ _ _ _ _) (raise_same _ _ _)))) (by simp)
    | false =>
      have shown := putSite_sameBut s i (degrees (sites.getD i 0))
      have warned : SameBut [.regs, .out, .pci] s (siteWarned s sites i) := same_mono (same_trans shown (same_trans (setReg_same _ _ _) (raise_same _ _ _))) (by simp)
      rw [siteSample_valid valid good]
      split
      · split
        · exact same_mono warned (by simp)
        · exact same_mono (same_trans warned (same_trans (update_kpr _ _) (postLog_same _ _ _ _ _ _))) (by simp)
      · dsimp only
        split
        · exact same_mono (same_trans shown (update_kpr _ _)) (by simp)
        · exact same_mono shown (by simp)

end Site

/-! ### A sample of every site (R423, R478) -/

/-- The greatest of a list of readings and zero. -/
theorem foldl_max_spec (l : List Int) (a : Int) : a ≤ l.foldl max a ∧ (∀ x ∈ l, x ≤ l.foldl max a) ∧ ∀ b, a < b → (∀ x ∈ l, x < b) → l.foldl max a < b := by
  induction l generalizing a with
  | nil => exact ⟨Int.le_refl a, fun _ h => absurd h List.not_mem_nil, fun b h _ => h⟩
  | cons y l ih =>
    obtain ⟨start, mem, bound⟩ := ih (max a y)
    refine ⟨Int.le_trans (Int.le_max_left a y) start, fun x hx => ?_, fun b hb hl => bound b ?_ fun x hx => hl x (List.mem_cons_of_mem _ hx)⟩
    · rcases List.mem_cons.1 hx with rfl | tail
      · exact Int.le_trans (Int.le_max_right a x) start
      · exact mem x tail
    · have := hl y (List.mem_cons_self ..)
      omega

section Sample
variable {s : State} {r : Readings}

/-- The state once the readings are the monitors' last. -/
def sampled (s : State) (r : Readings) : State := { s with tnd := { s.tnd with last := some r } }

/-- The state once a running Keeper has judged every site. -/
def sitesRead (s : State) (r : Readings) : State :=
  if s.kpr.runs && s.kpr.st != .restarting then
    setReg ((List.range (min 160 r.sites.length)).foldl (siteSample r.sites) s) 0x70048 (BitVec.ofNat 64 (r.inlet % 65536 + r.outlet % 65536 * 65536))
  else s

/-- The state once the limits of temperature have acted. -/
def heatLimited (s : State) : State :=
  let s3 := if 380 ≤ hottest s then closeBoost s else s
  if 420 ≤ hottest s then limitE1 s3 8 else s3

/-- The first valid site past the trip, and what it does. -/
def tripIf (s : State) (r : Readings) : State :=
  match (List.range r.sites.length).find? (fun i => !s.kpr.invalid.contains i && decide (460 ≤ r.sites.getD i 0)) with
  | some i => thermTrip s i (r.sites.getD i 0)
  | none => s

theorem sensorSample_eq (s : State) (r : Readings) : exec (.sensorSample r) s = .next (tripIf (heatLimited (sitesRead (sampled s r) r)) r) := rfl

theorem sitesRead_sameBut (s : State) (r : Readings) : SameBut [.kpr, .regs, .out, .pci, .log, .logSeq] s (sitesRead s r) := by
  unfold sitesRead
  split
  · refine same_mono (same_trans (same_foldl _ (fun u i => siteSample_sameBut r.sites u i) _ _) (setReg_same _ _ _)) (by simp)
  · exact same_refl _ _

theorem sitesRead_off (off : s.kpr.runs = false) (r : Readings) : sitesRead (sampled s r) r = sampled s r := if_neg (by simp [sampled, off])

theorem heatLimited_sameBut (s : State) : SameBut [.tnd, .regs, .out, .pci, .log, .logSeq, .kpr] s (heatLimited s) := by
  unfold heatLimited
  dsimp only
  split <;> split
  · exact same_mono (same_trans (closeBoost_sameBut s) (limitE1_sameBut _ _)) (by simp)
  · exact same_mono (limitE1_sameBut _ _) (by simp)
  · exact same_mono (closeBoost_sameBut s) (by simp)
  · exact same_refl _ _

theorem heatLimited_last (s : State) : (heatLimited s).tnd.last = s.tnd.last := by
  have closed := (closeBoost_emerg s).2
  unfold heatLimited
  dsimp only
  split <;> split
  · exact (limitE1_tnd _ _).2.2.2.2.trans closed
  · exact (limitE1_tnd _ _).2.2.2.2
  · exact closed
  · rfl

theorem thermTrip_sameBut (s : State) (i : Nat) (v : Int) : SameBut [.pins, .cores, .log, .logSeq, .kpr] s (thermTrip s i v) := by
  have tripped (pins : Pins) (cores : Tbl Core) : SameBut [.pins, .cores] s { s with pins := pins, cores := cores } := by
    intro p hp
    cases p with
    | pins => simp at hp
    | cores => simp at hp
    | _ => rfl
  unfold thermTrip
  split
  · exact same_refl _ _
  · exact same_mono (same_trans (tripped _ _) (postLog_same _ _ _ _ _ _)) (by simp)

theorem tripIf_sameBut (s : State) (r : Readings) : SameBut [.pins, .cores, .log, .logSeq, .kpr] s (tripIf s r) := by
  unfold tripIf
  split
  · exact thermTrip_sameBut s _ _
  · exact same_refl _ _

theorem thermTrip_pin (s : State) (i : Nat) (v : Int) : (thermTrip s i v).pins.thermTrip = true := by
  unfold thermTrip
  split
  next tripped => exact tripped
  next => rw [postLog_pins]

/-- The trip stops every core that runs. -/
theorem thermTrip_cores (fresh : s.pins.thermTrip = false) (i : Nat) (v : Int) : ∀ p ∈ (thermTrip s i v).cores, p.2.run ≠ .running ∧ p.2.run ≠ .waiting := by
  intro p hp
  rw [thermTrip, if_neg (by simp [fresh]), postLog_cores] at hp
  obtain ⟨q, -, rfl⟩ := List.mem_map.1 hp
  dsimp only
  split
  · exact ⟨nofun, nofun⟩
  next idle =>
    rw [Bool.or_eq_true, beq_iff_eq, beq_iff_eq, not_or] at idle
    exact idle

theorem setEmerg_keeper (s : State) (level cause : Nat) : SameKeeper s.kpr (setEmerg s level cause).kpr := by
  by_cases same : level = s.tnd.emerg.level
  · rw [setEmerg_same same]
    exact ⟨s.kpr.coll, s.kpr.lost, s.kpr.flushing, rfl⟩
  · rw [setEmerg_other same]
    have raised := raise_same (withEmerg s (emergAt s.tnd.emerg level cause)) evTND 0 .kpr (by simp)
    exact (show SameKeeper s.kpr _ from ⟨s.kpr.coll, s.kpr.lost, s.kpr.flushing, raised⟩).trans (postLog_keeper _ _ _ _ _ _)

/-- The limits of temperature mark no site. -/
theorem limitE1_invalid (s : State) (cause : Nat) : (limitE1 s cause).kpr.invalid = s.kpr.invalid := by
  obtain ⟨coll, lost, flushing, kpr⟩ := setEmerg_keeper s (max 1 s.tnd.emerg.level) (s.tnd.emerg.cause ||| cause)
  rw [limitE1_eq, closeBoost_sameBut _ .kpr (by simp), limited, withEmerg_sameBut _ _ .kpr (by simp), kpr]

/-- The readings of the valid sites. -/
theorem mem_validSites (s : State) (r : Readings) (x : Int) :
    x ∈ validSites (sampled s r) ↔ ∃ i, i < r.sites.length ∧ i ∉ s.kpr.invalid ∧ r.sites.getD i 0 = x := by
  simp only [validSites, sampled, Option.map_some, Option.getD_some, List.mem_map, List.mem_filter, List.mem_range, Bool.not_eq_true', List.contains_eq_mem,
    decide_eq_false_iff_not, and_assoc]

/-- With no Keeper running and every site cool, a sample is only taken. -/
theorem sensorSample_cool (off : s.kpr.runs = false) (cool : ∀ i, i < r.sites.length → r.sites.getD i 0 < 380) :
    exec (.sensorSample r) s = .next (sampled s r) := by
  have low : hottest (sampled s r) < 380 := by
    refine (foldl_max_spec _ 0).2.2 380 (by decide) fun x hx => ?_
    obtain ⟨i, inside, -, rfl⟩ := (mem_validSites s r x).1 hx
    exact cool i inside
  have heat : heatLimited (sampled s r) = sampled s r := by
    unfold heatLimited
    rw [if_neg (by omega), if_neg (by omega)]
  have none_ : (List.range r.sites.length).find? (fun i => !(sampled s r).kpr.invalid.contains i && decide (460 ≤ r.sites.getD i 0)) = none := by
    rw [List.find?_eq_none]
    intro i hi hot
    rw [Bool.and_eq_true, decide_eq_true_eq] at hot
    have := cool i (List.mem_range.1 hi)
    omega
  rw [sensorSample_eq, sitesRead_off off, heat, tripIf, none_]

/-- With no Keeper running a valid site past the trip applies E1 and sets THERM_TRIP_N. -/
theorem sensorSample_trips {i : Nat} (off : s.kpr.runs = false) (inside : i < r.sites.length) (valid : i ∉ s.kpr.invalid) (hot : 460 ≤ r.sites.getD i 0) :
    ∃ j, exec (.sensorSample r) s = .next (thermTrip (limitE1 (closeBoost (sampled s r)) 8) j (r.sites.getD j 0)) := by
  have high : 460 ≤ hottest (sampled s r) := by
    have := (foldl_max_spec (validSites (sampled s r)) 0).2.1 _ ((mem_validSites s r _).2 ⟨i, inside, valid, rfl⟩)
    exact Int.le_trans hot this
  have heat : heatLimited (sampled s r) = limitE1 (closeBoost (sampled s r)) 8 := by
    unfold heatLimited
    rw [if_pos (by omega), if_pos (by omega)]
  have marks : (limitE1 (closeBoost (sampled s r)) 8).kpr.invalid = s.kpr.invalid := by
    rw [limitE1_invalid, closeBoost_sameBut _ .kpr (by simp)]
    rfl
  obtain ⟨j, found⟩ := Option.isSome_iff_exists.1 (List.find?_isSome.2 ⟨i, List.mem_range.2 inside, by simpa [marks, valid] using hot⟩ :
    ((List.range r.sites.length).find? (fun i => !(limitE1 (closeBoost (sampled s r)) 8).kpr.invalid.contains i && decide (460 ≤ r.sites.getD i 0))).isSome)
  exact ⟨j, by rw [sensorSample_eq, sitesRead_off off, heat, tripIf, found]⟩

end Sample

/-! ### The obligation -/

/-- Settles O44: droops, over-currents, emergency levels and sensor samples (R403, R421, R423, R424, R478). -/
theorem peakLimits : Obligations.PeakLimits := by
  unfold Obligations.PeakLimits
  refine ⟨fun s => ?_, fun s r => ⟨?_, fun off cool => sensorSample_cool off cool, fun i off inside valid hot => ?_, fun i small valid => ?_⟩⟩
  · intro e
    refine ⟨fun d => ⟨fun fresh => ?_, fun again => ?_, ?_⟩, fun i c limit => ?_, fun low high present => ?_, fun other => ?_, fun low absent => ?_,
        fun other => ?_⟩
    · have run : exec (.vddDroop d) s = .next (raise (tndModCount { s with tnd := { s.tnd with droop := s.tnd.droop ++ [d.val] } } 3 1) evTND 9) :=
        congrArg Host.Outcome.next (if_neg (by simp [fresh]))
      have raised := raise_same (tndModCount { s with tnd := { s.tnd with droop := s.tnd.droop ++ [d.val] } } 3 1) evTND 9
      refine ⟨_, run, raised .tnd (by simp), evSet_raise_self _ _ _ (by decide), ?_,
          same_mono (same_trans (update_tnd s _) (same_trans (bump_sameBut _ _ 1) raised)) (by simp)⟩
      rw [raised .ctr (by simp)]
      exact ctr_bump_same _ _ _
    · exact congrArg Host.Outcome.next (if_pos (by simp [again]))
    · refine ⟨_, rfl, fun x => ?_, rfl, update_tnd s _⟩
      simp [List.mem_filter]
    · have run : exec i s = .next (limitE1 s c) := by
        rcases limit with ⟨rfl, rfl⟩ | ⟨r, rfl, rfl⟩ <;> rfl
      obtain ⟨level, cause, clear, boost, -⟩ := limitE1_tnd s c
      exact ⟨_, run, level, cause, clear, boost, fun calm => (limitE1_reports calm).1, fun calm => (limitE1_reports calm).2, limitE1_sameBut s c⟩
    · have other : e.level + 1 ≠ s.tnd.emerg.level := Nat.succ_ne_self _
      have run : exec .emergencyEscalate s = .next (setEmerg s (e.level + 1) e.cause) := congrArg Host.Outcome.next (if_pos (by simp [e, low, high, present]))
      have emerg := (congrArg Tender.emerg (setEmerg_tnd s (e.level + 1) e.cause)).trans (if_neg other)
      exact ⟨_, run, congrArg Emerg.level emerg, (congrArg Emerg.cause emerg).trans (if_neg (Nat.succ_ne_zero e.level) : (if e.level + 1 = 0 then 0 else e.cause) = e.cause), setEmerg_event other, setEmerg_sameBut _ _ _⟩
    · refine congrArg Host.Outcome.next (if_neg fun both => ?_)
      rw [Bool.and_eq_true, Bool.and_eq_true, decide_eq_true_eq, decide_eq_true_eq, decide_eq_true_eq] at both
      obtain ⟨⟨(low : 1 ≤ e.level), (high : e.level ≤ 2)⟩, (present : e.clear = 0)⟩ := both
      omega
    · have other : e.level - 1 ≠ e.level := by omega
      have run : exec .emergencyRelease s = .next (setEmerg s (e.level - 1) e.cause) := congrArg Host.Outcome.next (if_pos (by simp [e, low, absent]))
      have emerg := (congrArg Tender.emerg (setEmerg_tnd s (e.level - 1) e.cause)).trans (if_neg other)
      exact ⟨_, run, congrArg Emerg.level emerg, fun one => (congrArg Emerg.cause emerg).trans (if_pos (Nat.sub_eq_zero_of_le (Nat.le_of_eq one))),
          setEmerg_event other, setEmerg_sameBut _ _ _⟩
    · refine congrArg Host.Outcome.next (if_neg fun both => ?_)
      rw [Bool.and_eq_true, decide_eq_true_eq, decide_eq_true_eq] at both
      obtain ⟨(low : 1 ≤ e.level), (absent : 4 ≤ e.clear)⟩ := both
      omega
  · have read := sitesRead_sameBut (sampled s r) r
    have trip := tripIf_sameBut (heatLimited (sitesRead (sampled s r) r)) r
    refine ⟨_, sensorSample_eq s r, ?_, same_mono (same_trans (update_tnd s _) (same_trans read (same_trans (heatLimited_sameBut _) trip))) (by simp)⟩
    rw [trip .tnd (by simp), heatLimited_last, read .tnd (by simp)]
    rfl
  · obtain ⟨j, run⟩ := sensorSample_trips off inside valid hot
    have trip := thermTrip_sameBut (limitE1 (closeBoost (sampled s r)) 8) j (r.sites.getD j 0)
    obtain ⟨level, -, -, boost, -⟩ := limitE1_tnd (closeBoost (sampled s r)) 8
    refine ⟨_, run, thermTrip_pin _ _ _, ?_, ?_, fun fresh => thermTrip_cores ?_ _ _⟩
    · rw [trip .tnd (by simp), level]
      omega
    · rw [trip .tnd (by simp)]
      exact boost
    · rw [limitE1_sameBut _ _ .pins (by simp), closeBoost_sameBut _ .pins (by simp)]
      exact fresh
  · refine ⟨fun fails => ?_, fun good => ?_⟩
    · have run := siteSample_fails valid fails
      refine ⟨?_, ?_, ?_, fun takes => ?_⟩
      · rw [run, raise_same _ _ _ .kpr (by simp)]
        exact siteLost_invalid s i
      · rw [run]
        exact (siteByte_raise _ i 2).trans (siteLost_byte s i)
      · rw [run]
        exact evSet_raise_self _ _ _ (by decide)
      · rw [run]
        exact logged_congr (siteLost_logged takes i) (raise_same _ _ _ .log (by simp))
    · obtain ⟨invalid, byte, warns⟩ := siteSample_shows small valid good
      exact ⟨invalid, byte, warns⟩

end Sys2Proof.Proofs

/-! SUPPORT. Daymark's mailbox and attestation (R437, R445 to R447, R454), for O46. -/
namespace Sys2Proof.Proofs

open Sys2Proof.Machine Sys2Proof.Laws

/-! ### What goes out -/

theorem mem_out_sendMsix {s : State} {o : Out} (sent : o ∈ s.out) (v : Nat) : o ∈ (sendMsix s v).out := by
  unfold sendMsix
  split
  · exact List.mem_cons_of_mem _ sent
  · exact sent

/-- An event takes nothing back that was sent. -/
theorem mem_out_raise {s : State} {o : Out} (sent : o ∈ s.out) (off i : Nat) : o ∈ (raise s off i).out := by
  unfold raise
  dsimp only
  split
  · refine mem_out_sendMsix ?_ _
    exact sent
  · exact sent

/-! ### The end of a mailbox command (R454) -/

section Finish
variable {s : State} {result : Nat} {resp : List Byte}

/-- The response lies in the host's buffer. -/
def responded (s : State) (resp : List Byte) : State :=
  if resp.isEmpty then s else hostWrite s none ((regNow s 0x80000).toNat / 4096 * 4096 + 2048) resp false

theorem responded_sameBut (s : State) (resp : List Byte) : SameBut [.out] s (responded s resp) := by
  unfold responded
  split
  · exact same_refl _ _
  · exact hostWrite_sameBut _ _ _ _ _

theorem mem_out_responded (some_ : resp ≠ []) :
    .hostWrite none ((regNow s 0x80000).toNat / 4096 * 4096 + 2048) resp false ∈ (responded s resp).out := by
  rw [responded, if_neg (by simpa using some_)]
  exact List.mem_cons_self ..

/-- Daymark once a command has ended. -/
def dmkEnded (d : Daymark) (result : Nat) : Daymark := { d with seq := d.seq + 1, result := result, busy := false }

/-- The state before the status and the event of the end. -/
def dmkDone (s : State) (result : Nat) (resp : List Byte) : State :=
  { responded s resp with dmk := dmkEnded (responded s resp).dmk result }

theorem dmkFinish_eq (s : State) (result : Nat) (resp : List Byte) : dmkFinish s result resp = raise (setReg (dmkDone s result resp) 0x80010 2) evDMK 0 := rfl

theorem dmkDone_sameBut (s : State) (result : Nat) (resp : List Byte) : SameBut [.dmk, .out] s (dmkDone s result resp) :=
  same_mono (same_trans (responded_sameBut s resp) (update_dmk _ _)) (by simp)

theorem dmkFinish_sameBut (s : State) (result : Nat) (resp : List Byte) : SameBut [.dmk, .regs, .out, .pci] s (dmkFinish s result resp) := by
  rw [dmkFinish_eq]
  exact same_mono (same_trans (dmkDone_sameBut s result resp) (same_trans (setReg_same _ _ _) (raise_same _ _ _))) (by simp)

theorem dmkFinish_dmk (s : State) (result : Nat) (resp : List Byte) : (dmkFinish s result resp).dmk = dmkEnded s.dmk result := by
  rw [dmkFinish_eq, raise_same _ _ _ .dmk (by simp), setReg_same _ _ _ .dmk (by simp)]
  exact congrArg (dmkEnded · result) (responded_sameBut s resp .dmk (by simp))

theorem dmkFinish_status (s : State) (result : Nat) (resp : List Byte) : regNow (dmkFinish s result resp) 0x80010 = 2 := by
  rw [dmkFinish_eq, regNow_raise_other _ (by decide), regNow_setReg_same]

theorem dmkFinish_event (s : State) (result : Nat) (resp : List Byte) : evSet (dmkFinish s result resp) evDMK 0 = true :=
  evSet_raise_self (setReg (dmkDone s result resp) 0x80010 2) evDMK 0 (by decide)

theorem mem_out_dmkFinish (some_ : resp ≠ []) :
    .hostWrite none ((regNow s 0x80000).toNat / 4096 * 4096 + 2048) resp false ∈ (dmkFinish s result resp).out := by
  rw [dmkFinish_eq]
  refine mem_out_raise ?_ _ _
  rw [setReg_same _ _ _ .out (by simp)]
  exact mem_out_responded some_

end Finish

/-! ### Mailbox commands (R437) -/

section Mailbox
variable {s : State} {req : Option (List Byte)} {op : Nat} {body : List Byte} {f : List Byte → State × Nat × List Byte}

/-- What a command's answer leaves: the end of the command, unless it goes on. -/
def dmkAnswered (r : State × Nat × List Byte) : State := if r.1.dmk.busy then r.1 else dmkFinish r.1 r.2.1 r.2.2

theorem dmkRun_of_runs (runs : DaymarkRuns s req op body) (f : List Byte → State × Nat × List Byte) : dmkRun s req op f = dmkAnswered (f body) := by
  obtain ⟨running, known, idle, b, rfl, opcode, layout⟩ := runs
  simp only [dmkRun, running, beq_eq_false_iff_ne.2 known, idle, opcode, bne_self_eq_false, Bool.not_true, Bool.or_self, Bool.false_and,
      Bool.false_eq_true, if_false,
    if_true, layout, dmkAnswered]

theorem dmkAnswered_ends {r : State × Nat × List Byte} (idle : r.1.dmk.busy = false) : dmkAnswered r = dmkFinish r.1 r.2.1 r.2.2 := if_neg (by simp [idle])

/-- A command that ends at once. -/
theorem dmkRun_ends (runs : DaymarkRuns s req op body) {t : State} {res : Nat} {resp : List Byte} (answer : f body = (t, res,
    resp)) (idle : t.dmk.busy = s.dmk.busy) :
    dmkRun s req op f = dmkFinish t res resp := by
  have quiet : t.dmk.busy = false := idle.trans runs.2.2.1
  rw [dmkRun_of_runs runs, answer, dmkAnswered_ends quiet]

theorem dmkRun_of_off (off : s.dmk.running = false ∨ lifeCycle s = 7) : dmkRun s req op f = s := by
  have cond : (!s.dmk.running || lifeCycle s == 7) = true := by rcases off with off | lost <;> simp [*]
  simp only [dmkRun, cond, if_true]

theorem dmkRun_of_busy (running : s.dmk.running = true) (known : lifeCycle s ≠ 7) (busy : s.dmk.busy = true) :
    dmkRun s req op f = { s with dmk := { s.dmk with result := mBUSY } } := by
  simp only [dmkRun, running, beq_eq_false_iff_ne.2 known, busy, Bool.not_true, Bool.or_self, Bool.false_eq_true, if_false, if_true]

theorem dmkRun_of_none (running : s.dmk.running = true) (known : lifeCycle s ≠ 7) (idle : s.dmk.busy = false) : dmkRun s none op f = dmkFinish s mBAD [] := by
  simp only [dmkRun, running, beq_eq_false_iff_ne.2 known, idle, Bool.not_true, Bool.or_self, Bool.false_eq_true, if_false]

end Mailbox

/-- Taking a composition key ends no command. -/
theorem keyTaken_busy (s : State) (k : List Byte) : (raise { s with dmk := { s.dmk with compKey := some k } } evDMK 2).dmk.busy = s.dmk.busy := by
  rw [raise_dmk]

/-! ### SPDM (R445 to R447) -/

section Spdm
variable {s : State}

theorem spdmAnswer_of_running (running : s.dmk.running = true) (code : Nat) (body : List Byte) (signed : Bool) :
    spdmAnswer s code body signed = s.emit (.spdm code body signed) := if_pos running

theorem spdmAnswer_of_off (off : s.dmk.running = false) (code : Nat) (body : List Byte) (signed : Bool) : spdmAnswer s code body signed = s :=
  if_neg (by simp [off])

/-- One measurement block. -/
def block (i : Nat) (b : List Byte) : List Byte := leBytes 1 i ++ leBytes 2 b.length ++ b

/-- One measured index is answered with its block. -/
theorem getMeasurements_of_one {i : Nat} {b : List Byte} {nonce : Option (List Byte)} (one : i ≠ 0xFF) (measured : measurement s i = some b)
    (open_ : (identityOnly s && i != 6) = false) (key : (nonce.isSome && !identityKey s) = false) :
    exec (.getMeasurements i nonce) s = .next (spdmAnswer s 0xE0 (block i b ++ nonce.getD []) nonce.isSome) := by
  show execGetMeasurements i nonce s = _
  simp only [execGetMeasurements, if_neg one, List.filterMap_cons, measured, Option.map_some, List.filterMap_nil, List.isEmpty_cons, open_, key, Bool.or_self,
    Bool.false_eq_true, if_false, List.foldr_cons, List.foldr_nil, List.append_nil, block]

theorem getMeasurements_of_none {i : Nat} {nonce : Option (List Byte)} (one : i ≠ 0xFF) (none_ : measurement s i = none) :
    exec (.getMeasurements i nonce) s = .next (spdmError s) := by
  show execGetMeasurements i nonce s = _
  simp only [execGetMeasurements, if_neg one, List.filterMap_cons, none_, Option.map_none, List.filterMap_nil, List.isEmpty_nil, Bool.true_or, if_true]

theorem getMeasurements_of_closed {i : Nat} {nonce : Option (List Byte)} (closed : identityOnly s = true) (other : i ≠ 6) :
    exec (.getMeasurements i nonce) s = .next (spdmError s) := by
  refine congrArg Host.Outcome.next (if_pos ?_)
  simp [closed, other]

theorem getMeasurements_of_off {i : Nat} {nonce : Option (List Byte)} (off : s.dmk.running = false) : exec (.getMeasurements i nonce) s = .next s := by
  show execGetMeasurements i nonce s = _
  simp only [execGetMeasurements, spdmError, spdmAnswer_of_off off, ite_self]

end Spdm

/-! ### The obligation -/

/-- Settles O46: Daymark's mailbox and attestation (R437, R445 to R447, R454). -/
theorem daymarkServices : Obligations.DaymarkServices := by
  unfold Obligations.DaymarkServices
  refine ⟨fun s => ⟨fun res resp => ?_, fun req vin vsb => ⟨fun off => ?_, fun running known busy => ?_, fun running known idle => ?_⟩,
      fun req vin vsb runs => ?_,
    fun req vin vsb body runs => ⟨fun early size => ?_, fun fielded size none_ => ?_, fun k fielded size some_ => ⟨fun n opens => ?_,
        fun shut => ?_⟩, fun late => ?_⟩⟩,
    fun s => ?_⟩
  · exact ⟨_, rfl, dmkFinish_dmk s res resp, dmkFinish_status s res resp, dmkFinish_event s res resp, mem_out_dmkFinish, dmkFinish_sameBut s res resp⟩
  · exact congrArg Host.Outcome.next (dmkRun_of_off off)
  · exact congrArg Host.Outcome.next (dmkRun_of_busy running known busy)
  · exact congrArg Host.Outcome.next (dmkRun_of_none running known idle)
  · exact congrArg Host.Outcome.next (dmkRun_ends runs rfl rfl)
  · refine congrArg Host.Outcome.next (dmkRun_ends runs ?_ (keyTaken_busy s _))
    rcases early with early | early
    all_goals simp only [early, size, bne_self_eq_false, Bool.false_eq_true, if_false]
  · refine congrArg Host.Outcome.next (dmkRun_ends runs ?_ rfl)
    simp only [fielded, size, none_, bne_self_eq_false, Bool.false_eq_true, if_false]
  · refine congrArg Host.Outcome.next (dmkRun_ends runs ?_ (keyTaken_busy s _))
    simp only [fielded, size, some_, opens, bne_self_eq_false, Bool.false_eq_true, if_false]
  · refine congrArg Host.Outcome.next (dmkRun_ends runs ?_ rfl)
    simp only [fielded, size, some_, shut, bne_self_eq_false, Bool.false_eq_true, if_false]
  · refine congrArg Host.Outcome.next (dmkRun_ends runs ?_ rfl)
    obtain ⟨lc, four⟩ := Nat.exists_eq_add_of_le late
    rw [Nat.add_comm] at four
    simp only [four]
  · intro ans
    refine ⟨fun running => ?_, fun off => ⟨?_, ?_, fun i nonce => getMeasurements_of_off off⟩⟩
    · have answer (code : Nat) (body : List Byte) (signed : Bool) : (Host.Outcome.next (spdmAnswer s code body signed) : Ans) = Host.Outcome.next (s.emit (.spdm code body signed)) :=
        congrArg Host.Outcome.next (spdmAnswer_of_running running code body signed)
      have refused := answer 0x7F [] false
      have keyHeld (h : 3 ∉ s.dmk.fuses.killed) : identityKey s = true := by simp [identityKey, h]
      refine ⟨answer _ _ _, answer _ _ _, answer _ _ _, answer _ _ _, fun off len => answer _ _ _, fun slot off len other => ?_, fun nonce held => ?_,
        fun slot nonce none_ => ?_, fun i b one measured open_ => ⟨?_, fun nonce held => ?_⟩, fun i nonce one none_ => ?_, fun i nonce closed other => ?_⟩
      · exact (congrArg Host.Outcome.next (if_neg other)).trans refused
      · exact (congrArg Host.Outcome.next (if_pos (by simp [keyHeld held]))).trans (answer _ _ _)
      · refine (congrArg Host.Outcome.next (if_neg ?_)).trans refused
        rcases none_ with other | gone
        · simp [other]
        · simp [identityKey, gone]
      · have closed : (identityOnly s && i != 6) = false := by rcases open_ with free | six <;> simp [*]
        refine (getMeasurements_of_one one measured closed rfl).trans ?_
        rw [Option.getD_none, List.append_nil]
        exact answer _ _ _
      · have closed : (identityOnly s && i != 6) = false := by rcases open_ with free | six <;> simp [*]
        exact (getMeasurements_of_one one measured closed (by simp [keyHeld held])).trans (answer _ _ _)
      · exact (getMeasurements_of_none one none_).trans refused
      · exact (getMeasurements_of_closed closed other).trans refused
    · exact congrArg Host.Outcome.next (spdmAnswer_of_off off _ _ _)
    · exact congrArg Host.Outcome.next (spdmAnswer_of_off off _ _ _)

end Sys2Proof.Proofs

/-! SUPPORT. Life-cycle transitions and debug certificates (R437 to R444), for O47. -/
namespace Sys2Proof.Proofs

open Sys2Proof.Machine Sys2Proof.Laws

/-! ### What a module reset keeps of Daymark (R504) -/

/-- A step that keeps the fuses and the composition key, and programs no transition that was not programmed. -/
structure FusesHeld (s t : State) : Prop where
  fuses : t.dmk.fuses = s.dmk.fuses
  key : t.dmk.compKey = s.dmk.compKey
  prog : s.dmk.prog = none → t.dmk.prog = none

section Held
variable {s t u : State}

theorem FusesHeld.trans (h : FusesHeld s t) (h' : FusesHeld t u) : FusesHeld s u :=
  ⟨h'.fuses.trans h.fuses, h'.key.trans h.key, fun none_ => h'.prog (h.prog none_)⟩

theorem FusesHeld.of_dmk (dmk : t.dmk = s.dmk) : FusesHeld s t := ⟨by rw [dmk], by rw [dmk], fun none_ => by rw [dmk, none_]⟩

theorem fusesHeld_beginReset (s : State) (r : RunReset) : FusesHeld s (beginReset s r) := by
  unfold beginReset
  split
  · exact .of_dmk rfl
  · dsimp only
    split
    · exact .of_dmk (postLog_dmk _ _ _ _ _ _)
    · exact .of_dmk (postLog_dmk _ _ _ _ _ _)

theorem fusesHeld_absorb (s : State) (p : RunReset → Bool) : FusesHeld s (absorb s p).1 := by
  have one (u : State) (r : RunReset) : SameBut [.hng, .ctr] u (hngCount (if r.escalated then u else errRecord u r 2) 7 1) := by
    split
    · exact same_mono (bump_sameBut u _ 1) (by simp)
    · exact same_mono (same_trans (update_hng u _) (bump_sameBut _ _ 1)) (by simp)
  have all := same_foldl (fun u r => hngCount (if r.escalated then u else errRecord u r 2) 7 1) one (s.resets.filter (fun r => p r && !r.part)) s
  exact .of_dmk (all .dmk (by simp))

theorem journalPut_sameBut (s : State) (step level outcome ms : Nat) (detail : BitVec 32) : SameBut [.kpr] s (journalPut s step level outcome ms detail) := by
  unfold journalPut
  split
  · exact update_kpr s _
  · exact same_refl _ _

theorem runLevel_sameBut (s : State) (ms id lvl : Nat) : SameBut [.kpr] s (runLevel s ms id lvl) := by
  have stored : SameBut [.kpr] s (if stores s then { s with kpr := { s.kpr with levels := tput 0 s.kpr.levels id lvl } } else s) := by
    split
    · exact update_kpr s _
    · exact same_refl _ _
  exact same_mono (same_trans stored (same_trans (update_kpr _ _) (journalPut_sameBut _ id lvl 0 ms 0))) (by simp)

/-- A step that cannot end the boot starts in the Keeper alone. -/
theorem startStep_sameBut (s : State) (ms : Nat) {id : Nat} (soft : stepFatal id = false) : SameBut [.kpr] s (startStep ms s id) := by
  unfold startStep
  dsimp only
  split
  · exact same_refl _ _
  · split
    · exact same_mono (same_trans (update_kpr s _) (journalPut_sameBut _ _ _ _ _ _)) (by simp)
    · rw [if_neg (by simp [soft])]
      exact runLevel_sameBut _ _ _ _

/-- No step of the first stage can end the boot. -/
theorem stage_one_soft (kind : Nat) : ∀ id ∈ stageSteps kind 1, stepFatal id = false := by
  have steps : stageSteps kind 1 = if kind = 0 then [1, 2] else [2] := rfl
  rw [steps]
  split <;> decide

theorem startSteps_sameBut (ms : Nat) (l : List Nat) (soft : ∀ id ∈ l, stepFatal id = false) (s : State) : SameBut [.kpr] s (l.foldl (startStep ms) s) := by
  induction l generalizing s with
  | nil => exact same_refl _ _
  | cons id l ih =>
    have first := startStep_sameBut s ms (soft id (List.mem_cons_self ..))
    exact same_mono (same_trans first (ih (fun k hk => soft k (List.mem_cons_of_mem _ hk)) _)) (by simp)

theorem startStage_one_sameBut (s : State) (ms : Nat) : SameBut [.kpr] s (startStage s ms 1) :=
  same_mono (same_trans (update_kpr s _) (startSteps_sameBut ms _ (stage_one_soft _) _)) (by simp)

/-- A boot begins in the Keeper, and for Daymark with its life cycle to be read anew. -/
theorem beginBoot_spec (s : State) (kind : Nat) : (beginBoot s kind).dmk = { s.dmk with lost := false } ∧ SameBut [.dmk, .kpr] s (beginBoot s kind) := by
  have journalled (l : List BStep) (u : State) : SameBut [.kpr] u (l.foldl (fun s x => journalPut s x.id x.level 5 0 0) u) :=
    same_foldl _ (fun u x => journalPut_sameBut u x.id x.level 5 0 0) l u
  unfold beginBoot
  extract_lets -merge +onlyGivenNames b left k1 k2 s1 s2
  have begun : SameBut [.kpr] s1 (startStage s2 0 1) := same_mono (same_trans (journalled left s1) (startStage_one_sameBut s2 0)) (by simp)
  have first : SameBut [.dmk, .kpr] s s1 := by
    intro p hp
    cases p with
    | dmk => simp at hp
    | kpr => simp at hp
    | _ => rfl
  exact ⟨begun .dmk (by simp), same_mono (same_trans first begun) (by simp)⟩

theorem fusesHeld_beginBoot (s : State) (kind : Nat) : FusesHeld s (beginBoot s kind) := by
  have dmk := (beginBoot_spec s kind).1
  exact ⟨by rw [dmk], by rw [dmk], fun none_ => by rw [dmk]; exact none_⟩

theorem fusesHeld_afterDump (s : State) : FusesHeld s (afterDump s) := by
  unfold afterDump
  split
  · dsimp only
    split
    · exact .of_dmk (startFlush_same s .dmk (by simp))
    · refine .of_dmk ?_
      rw [requestCycle, raise_dmk]
      exact startFlush_same s .dmk (by simp)
  · exact fusesHeld_beginBoot s 2

theorem fusesHeld_warmClear (s : State) : FusesHeld s (warmClear s) := ⟨rfl, rfl, fun _ => rfl⟩

theorem fusesHeld_updReset (s : State) (rung target : Nat) (f : RunReset → RunReset) : FusesHeld s (updReset s rung target f) := .of_dmk rfl

/-- A reset of the module, whether it begins, waits or is absorbed, leaves the fuses alone. -/
theorem fusesHeld_startModuleReset (s : State) (r : RunReset) (dump : Bool) : FusesHeld s (startModuleReset s r dump) := by
  unfold startModuleReset
  split
  · exact .of_dmk (bump_sameBut s _ 1 .dmk (by simp))
  · split
    · split
      · split
        · exact .of_dmk rfl
        · exact .of_dmk rfl
      · exact .of_dmk rfl
    · extract_lets -merge +onlyGivenNames on s1 a s1' s2 s2'
      have kept : FusesHeld a.1 { a.1 with resets := a.1.resets.filter (fun x => x.rung == r.rung) } := .of_dmk rfl
      have cleared : FusesHeld s s2 := (fusesHeld_beginReset s r).trans ((fusesHeld_absorb s1 _).trans (kept.trans (fusesHeld_warmClear _)))
      have booted : FusesHeld s s2' := by
        unfold s2'
        split
        · exact cleared.trans (.of_dmk rfl)
        · exact cleared
      split
      · exact booted.trans (.of_dmk rfl)
      · split
        · exact booted.trans (.of_dmk rfl)
        · exact booted.trans (fusesHeld_afterDump s2')

theorem fusesHeld_startWaiting (s : State) : FusesHeld s (startWaiting s) := by
  unfold startWaiting
  split
  · exact .of_dmk rfl
  · have taken : FusesHeld s { s with hng := { s.hng with wait := none } } := .of_dmk rfl
    exact taken.trans (fusesHeld_startModuleReset _ _ _)

end Held

/-! ### The end of a life-cycle transition (R437, R439, R440) -/

/-- The module once its fuses hold the state `tg`: three copies of it, with what that entry kills. -/
def programmed (s : State) (tg : Nat) : State :=
  { s with dmk := { entryKills s.dmk tg with prog := none, fuses := { (entryKills s.dmk tg).fuses with copies := [some tg, some tg, some tg] } } }

theorem entryKills_counter (d : Daymark) (tg : Nat) : (entryKills d tg).fuses.counter = d.fuses.counter := by
  unfold entryKills
  split <;> rfl

theorem entryKills_same {d : Daymark} {tg : Nat} (four : tg ≠ 4) (five : tg ≠ 5) : entryKills d tg = d := if_neg (by simp [four, five])

/-- A key the entry kills is among the killed ones after it. -/
theorem mem_entryKills {d : Daymark} {tg k : Nat} (ends : tg = 4 ∨ tg = 5) (kills : k ∈ [1, 2] ++ (if tg = 5 then [3] else [])) :
    k ∈ (entryKills d tg).fuses.killed := by
  have cond : (tg = 4 || tg = 5) = true := by simpa using ends
  simp only [entryKills, cond, if_true]
  by_cases dead : k ∈ d.fuses.killed
  · exact List.mem_append_left _ dead
  · exact List.mem_append_right _ (List.mem_filter.2 ⟨kills, by simpa using dead⟩)

theorem entryKills_key {d : Daymark} {tg : Nat} (ends : tg = 4 ∨ tg = 5) : (entryKills d tg).compKey = none := by
  have cond : (tg = 4 || tg = 5) = true := by simpa using ends
  simp only [entryKills, cond, if_true]

/-- FUSE_PROGRAMMING_DONE leaves the fuses and the composition key as they are programmed. -/
theorem fusesHeld_fuseProgrammingDone {s : State} {tg : Nat} (prog : s.dmk.prog = some tg) :
    ∃ t, exec .fuseProgrammingDone s = .next t ∧ FusesHeld (programmed s tg) t := by
  have posted : FusesHeld (programmed s tg) (postLog (dmkFinish (programmed s tg) mOK []) 0x60 0xFF true (lifeCycle s + tg * 256)) := by
    have dmk := (postLog_dmk (dmkFinish (programmed s tg) mOK []) 0x60 0xFF true (lifeCycle s + tg * 256) false).trans (dmkFinish_dmk (programmed s tg) mOK [])
    exact ⟨by rw [dmk]; rfl, by rw [dmk]; rfl, fun _ => by rw [dmk]; rfl⟩
  refine ⟨_, rfl, ?_⟩
  simp only [prog]
  split
  · split
    · exact posted.trans (fusesHeld_startWaiting _)
    · refine posted.trans (FusesHeld.trans ?_ (fusesHeld_startModuleReset _ _ _))
      exact .of_dmk rfl
  · exact posted.trans (fusesHeld_startModuleReset _ _ _)

/-! ### Debug rights -/

/-- Opening rights: they are held, with SCAN, logged and given their event. -/
def rightsOpened (s : State) (rights : Nat) : State :=
  raise (postLog { s with dmk := { s.dmk with rights := s.dmk.rights ||| BitVec.ofNat 64 rights, scan := s.dmk.scan || bit rights 3 } } 0x62 0xFF false
    (s.dmk.rights ||| BitVec.ofNat 64 rights).toNat) evDMK 1

theorem rightsOpened_dmk (s : State) (rights : Nat) :
    (rightsOpened s rights).dmk = { s.dmk with rights := s.dmk.rights ||| BitVec.ofNat 64 rights, scan := s.dmk.scan || bit rights 3 } :=
  (raise_dmk _ _ _).trans (postLog_dmk _ _ _ _ _ _)

theorem rightsOpened_logged {s : State} {rights : Nat} (takes : keeperTakes s) :
    Logged (rightsOpened s rights) s.now 0x62 0xFF (s.dmk.rights ||| BitVec.ofNat 64 rights).toNat := by
  refine logged_congr ?_ (raise_same _ _ _ .log (by simp))
  exact logged_postLog takes rfl rfl

theorem rightsOpened_sameBut (s : State) (rights : Nat) : SameBut [.dmk, .regs, .out, .pci, .log, .logSeq, .kpr] s (rightsOpened s rights) :=
  same_mono (same_trans (update_dmk s _) (same_trans (postLog_same _ _ _ _ _ _) (raise_same _ _ _))) (by simp)

/-- A wrong token: it counts, and is logged with its event. -/
def mistaken (s : State) (target : Nat) : State :=
  raise (postLog { s with dmk := { s.dmk with fails := satAdd 8 s.dmk.fails 1 } } 0x61 0xFF false (target + satAdd 8 s.dmk.fails 1 * 256)) evDMK 3

theorem mistaken_dmk (s : State) (target : Nat) : (mistaken s target).dmk = { s.dmk with fails := satAdd 8 s.dmk.fails 1 } :=
  (raise_dmk _ _ _).trans (postLog_dmk _ _ _ _ _ _)

theorem mistaken_logged {s : State} {target : Nat} (takes : keeperTakes s) : Logged (mistaken s target) s.now 0x61 0xFF (target + satAdd 8 s.dmk.fails 1 * 256) := by
  refine logged_congr ?_ (raise_same _ _ _ .log (by simp))
  exact logged_postLog takes rfl rfl

theorem mistaken_sameBut (s : State) (target : Nat) : SameBut [.dmk, .regs, .out, .pci, .log, .logSeq, .kpr] s (mistaken s target) :=
  same_mono (same_trans (update_dmk s _) (same_trans (postLog_same _ _ _ _ _ _) (raise_same _ _ _))) (by simp)

/-- LC_TRANSITION: the first check that fails gives the code; else the fuses are being programmed. -/
theorem lcTransition_spec (s : State) (req : Option (List Byte)) (vin vsb : Nat) (b : List Byte) (runs : DaymarkRuns s req 2 b) (len : b.length = 36)
    (zero : zeroAt b 1 3 = true) :
    let target := fieldAt b 0 1
    let ends (res : Nat) : Prop := exec (.lcTransition req vin vsb) s = .next (dmkFinish s res [])
    (8 ≤ s.dmk.fails → ends mLOCKOUT) ∧
    (s.dmk.fails < 8 →
      (tokenDigest s target = none ∨ tokenDigest s target = some none → ends mSTATE) ∧
      (∀ d, tokenDigest s target = some (some d) →
        (sha384 (sub b 4 32) ≠ d → exec (.lcTransition req vin vsb) s = .next (dmkFinish (mistaken s target) mTOKEN [])) ∧
        (sha384 (sub b 4 32) = d → anySector s = true → ends mSECTORS) ∧
        (sha384 (sub b 4 32) = d → anySector s = false → (vin < 440 ∨ 600 < vin ∨ vsb < 3200) → ends mPOWER) ∧
        (sha384 (sub b 4 32) = d → anySector s = false → 440 ≤ vin → vin ≤ 600 → 3200 ≤ vsb →
          exec (.lcTransition req vin vsb) s = .next { s with dmk := { s.dmk with prog := some target, busy := true } }))) := by
  have layout : ¬ (b.length != 36 || !zeroAt b 1 3) = true := by simp [len, zero]
  refine ⟨fun locked => ?_, fun tries => ⟨fun no => ?_, fun d has => ⟨fun wrong => ?_, fun right sectors => ?_, fun right free outside => ?_,
      fun right free low high aux => ?_⟩⟩⟩
  · refine congrArg Host.Outcome.next (dmkRun_ends runs ?_ rfl)
    exact (if_neg layout).trans (if_pos locked)
  · refine congrArg Host.Outcome.next (dmkRun_ends runs ?_ rfl)
    refine (if_neg layout).trans ((if_neg (Nat.not_le.2 tries)).trans ?_)
    rcases no with no | no <;> simp only [no]
  · refine congrArg Host.Outcome.next (dmkRun_ends runs ?_ (by rw [mistaken_dmk]))
    refine (if_neg layout).trans ((if_neg (Nat.not_le.2 tries)).trans ?_)
    simp only [has]
    exact if_pos (by simpa using wrong)
  all_goals have token : ¬ (sha384 (sub b 4 32) != d) = true := by simp [right]
  · refine congrArg Host.Outcome.next (dmkRun_ends runs ?_ rfl)
    refine (if_neg layout).trans ((if_neg (Nat.not_le.2 tries)).trans ?_)
    simp only [has]
    exact (if_neg token).trans (if_pos sectors)
  · refine congrArg Host.Outcome.next (dmkRun_ends runs ?_ rfl)
    refine (if_neg layout).trans ((if_neg (Nat.not_le.2 tries)).trans ?_)
    simp only [has]
    exact (if_neg token).trans ((if_neg (by simp [free])).trans (if_pos (by simpa [or_assoc] using outside)))
  · refine congrArg Host.Outcome.next ((dmkRun_of_runs runs _).trans ?_)
    have inside : ¬ (vin < 440 || 600 < vin || vsb < 3200) = true := by simp; omega
    simp only [if_neg layout, if_neg (Nat.not_le.2 tries), has, if_neg token, free, Bool.false_eq_true, if_false, if_neg inside]
    exact if_pos rfl

/-- The digests that are set: each block of zeros leaves its digest as it is. -/
def digested (s : State) (a c : List Byte) : State :=
  { s with dmk := { s.dmk with fuses := { s.dmk.fuses with
      fieldDigest := if a.all (· == 0) then s.dmk.fuses.fieldDigest else some a
      scrapDigest := if c.all (· == 0) then s.dmk.fuses.scrapDigest else some c } } }

theorem lcSetDigests_spec (s : State) (req : Option (List Byte)) (vin vsb : Nat) (b : List Byte) (runs : DaymarkRuns s req 3 b) (len : b.length = 96) :
    let f := s.dmk.fuses
    let a := sub b 0 48
    let c := sub b 48 48
    let za := a.all (· == 0) = true
    let zc := c.all (· == 0) = true
    (lifeCycle s ≠ 2 → exec (.lcSetDigests req vin vsb) s = .next (dmkFinish s mSTATE [])) ∧
    (lifeCycle s = 2 → ((¬ za ∧ f.fieldDigest ≠ none) ∨ (¬ zc ∧ f.scrapDigest ≠ none)) → exec (.lcSetDigests req vin vsb) s = .next (dmkFinish s mSET [])) ∧
    (lifeCycle s = 2 → (za ∨ f.fieldDigest = none) → (zc ∨ f.scrapDigest = none) →
      exec (.lcSetDigests req vin vsb) s = .next (dmkFinish (digested s a c) mOK [])) := by
  intro f a c za zc
  have layout : ¬ (b.length != 96) = true := by simp [len]
  have set_iff : ((!a.all (· == 0) && f.fieldDigest.isSome) || (!c.all (· == 0) && f.scrapDigest.isSome)) = true ↔
      (¬ za ∧ f.fieldDigest ≠ none) ∨ (¬ zc ∧ f.scrapDigest ≠ none) := by
    simp only [za, zc, Bool.or_eq_true, Bool.and_eq_true, Bool.not_eq_true', Bool.not_eq_true, Option.isSome_iff_ne_none]
  refine ⟨fun other => ?_, fun integrator set_ => ?_, fun integrator freeA freeC => ?_⟩
  · exact congrArg Host.Outcome.next (dmkRun_ends runs ((if_neg layout).trans (if_pos (by simpa using other))) rfl)
  all_goals have state : ¬ (lifeCycle s != 2) = true := by simp [integrator]
  · exact congrArg Host.Outcome.next (dmkRun_ends runs ((if_neg layout).trans ((if_neg state).trans (if_pos (set_iff.2 set_)))) rfl)
  · have unset : ¬ ((!a.all (· == 0) && f.fieldDigest.isSome) || (!c.all (· == 0) && f.scrapDigest.isSome)) = true := by
      rw [set_iff]
      rintro (⟨nz, some_⟩ | ⟨nz, some_⟩)
      · exact some_ (freeA.resolve_left nz)
      · exact some_ (freeC.resolve_left nz)
    exact congrArg Host.Outcome.next (dmkRun_ends runs ((if_neg layout).trans ((if_neg state).trans (if_neg unset))) rfl)

/-- A certificate that passes spends one bit of the counter. -/
def spent (s : State) : State := { s with dmk := { s.dmk with fuses := { s.dmk.fuses with counter := s.dmk.fuses.counter + 1 } } }

/-- A certificate with SCAN ends its command before its reset. -/
def scanDone (s : State) (rights : Nat) : State := dmkFinish (spent s) mOK (leBytes 8 (openRights (spent s) ||| BitVec.ofNat 64 rights).toNat)

/-- The module that the reset leaves. -/
def scanReset (s : State) (rights : Nat) : State := startModuleReset (scanDone s rights) (moduleRung (scanDone s rights) 4 stCTXRESET 5) false

/-- What a certificate with SCAN does: the command ends, the module resets, and its rights are opened in the module that is left. -/
def scanned (s : State) (rights : Nat) : State :=
  let s2 := rightsOpened (scanReset s rights) rights
  { s2 with dmk := { s2.dmk with busy := true } }

theorem scanned_dmk (s : State) (rights : Nat) : (scanned s rights).dmk = { (scanReset s rights).dmk with
    rights := (scanReset s rights).dmk.rights ||| BitVec.ofNat 64 rights, scan := (scanReset s rights).dmk.scan || bit rights 3, busy := true } := by
  show { (rightsOpened (scanReset s rights) rights).dmk with busy := true } = _
  rw [rightsOpened_dmk]

theorem scanned_fuses (s : State) (rights : Nat) : (scanned s rights).dmk.fuses = { s.dmk.fuses with counter := s.dmk.fuses.counter + 1 } := by
  have held : FusesHeld (scanDone s rights) (scanReset s rights) := fusesHeld_startModuleReset _ _ _
  calc (scanned s rights).dmk.fuses = (scanReset s rights).dmk.fuses := by rw [scanned_dmk]
    _ = (scanDone s rights).dmk.fuses := held.fuses
    _ = (spent s).dmk.fuses := congrArg (·.fuses) (dmkFinish_dmk _ _ _)

theorem scanned_scan (s : State) {rights : Nat} (scan : rights.testBit 3 = true) : (scanned s rights).dmk.scan = true := by
  rw [scanned_dmk, bit_eq_testBit, scan, Bool.or_true]

theorem scanned_rights (s : State) {rights : Nat} (scan : rights.testBit 3 = true) : bit (scanned s rights).dmk.rights.toNat 3 = true := by
  rw [scanned_dmk, bit_eq_testBit, BitVec.toNat_or, Nat.testBit_or, BitVec.toNat_ofNat, Nat.testBit_mod_two_pow, scan]
  simp

/-- DEBUG_CERT: the first check that fails gives the code; else the rights are opened. -/
theorem debugCert_spec (s : State) (req : Option (List Byte)) (vin vsb : Nat) (b : List Byte) (runs : DaymarkRuns s req 5 b) :
    let f := s.dmk.fuses
    let rights := fieldAt b 24 8
    let signed := ecdsaOk (f.dbgKeys.getD (fieldAt b 10 2) (0, 0)) (sha384 (b.take 128)) (be48 b 128) (be48 b 176) = true
    let binds := fieldAt b 16 8 = f.serial.toNat ∧ fieldAt b 12 4 = f.counter ∧ (fieldAt b 32 1).testBit (lifeCycle s) = true
    let blocked := tenantRights rights = true ∧ anySector s = true
    let ends (res : Nat) : Prop := exec (.debugCert req vin vsb) s = .next (dmkFinish s res [])
    (lifeCycle s = 5 → ends mSTATE) ∧
    (lifeCycle s ≠ 5 → b.length ≠ 224 ∨ certLayout b = false → ends mBAD) ∧
    (lifeCycle s ≠ 5 → b.length = 224 → certLayout b = true →
      (¬ signed → ends mCERT) ∧ (signed → ¬ binds → ends mBINDING) ∧ (signed → binds → 1024 ≤ f.counter → ends mSPENT) ∧
      (signed → binds → f.counter < 1024 → blocked → ends mSECTORS) ∧
      (signed → binds → f.counter < 1024 → ¬ blocked → rights.testBit 3 = false →
        exec (.debugCert req vin vsb) s = .next (dmkFinish (rightsOpened (spent s) rights) mOK (leBytes 8 (rightsOpened (spent s) rights).dmk.rights.toNat))) ∧
      (signed → binds → f.counter < 1024 → ¬ blocked → rights.testBit 3 = true → exec (.debugCert req vin vsb) s = .next (scanned s rights))) := by
  intro f rights signed binds blocked ends
  refine ⟨fun scrapped => ?_, fun alive malformed => ?_, fun alive len layout => ?_⟩
  · exact congrArg Host.Outcome.next (dmkRun_ends runs (if_pos (by simpa using scrapped)) rfl)
  all_goals have state : ¬ (lifeCycle s == 5) = true := by simpa using alive
  · exact congrArg Host.Outcome.next (dmkRun_ends runs ((if_neg state).trans (if_pos (by simpa using malformed))) rfl)
  have formed : ¬ (b.length != 224 || !certLayout b) = true := by simp [len, layout]
  have bound_iff : (fieldAt b 16 8 != f.serial.toNat || fieldAt b 12 4 != f.counter || !bit (fieldAt b 32 1) (lifeCycle s)) = true ↔ ¬ binds := by
    simp only [binds, bit_eq_testBit, Bool.or_eq_true, bne_iff_ne, Bool.not_eq_true']
    rw [not_and_or, not_and_or, or_assoc, Bool.not_eq_true]
  have unsigned_iff : (!ecdsaOk (f.dbgKeys.getD (fieldAt b 10 2) (0, 0)) (sha384 (b.take 128)) (be48 b 128) (be48 b 176)) = true ↔ ¬ signed := by
    rw [Bool.not_eq_true', ← Bool.not_eq_true]
  have blocked_iff : (tenantRights rights && anySector s) = true ↔ blocked := Bool.and_eq_true_iff
  refine ⟨fun unsigned => ?_, fun sig unbound => ?_, fun sig bound spent_ => ?_, fun sig bound left used => ?_, fun sig bound left free_ noScan => ?_,
    fun sig bound left free_ scan => ?_⟩
  · exact congrArg Host.Outcome.next (dmkRun_ends runs ((if_neg state).trans ((if_neg formed).trans (if_pos (unsigned_iff.2 unsigned)))) rfl)
  all_goals have certified := mt unsigned_iff.1 (not_not.2 sig)
  · exact congrArg Host.Outcome.next
      (dmkRun_ends runs ((if_neg state).trans ((if_neg formed).trans ((if_neg certified).trans (if_pos (bound_iff.2 unbound))))) rfl)
  all_goals have tied := mt bound_iff.1 (not_not.2 bound)
  · exact congrArg Host.Outcome.next
      (dmkRun_ends runs ((if_neg state).trans ((if_neg formed).trans ((if_neg certified).trans ((if_neg tied).trans (if_pos spent_))))) rfl)
  all_goals have more : ¬ 1024 ≤ f.counter := Nat.not_le.2 left
  · exact congrArg Host.Outcome.next (dmkRun_ends runs
      ((if_neg state).trans ((if_neg formed).trans ((if_neg certified).trans ((if_neg tied).trans ((if_neg more).trans (if_pos (blocked_iff.2 used))))))) rfl)
  all_goals have allowed := mt blocked_iff.1 free_
  · have bit3 : ¬ bit rights 3 = true := by rw [bit_eq_testBit, noScan]; simp
    refine congrArg Host.Outcome.next (dmkRun_ends runs
      ((if_neg state).trans ((if_neg formed).trans ((if_neg certified).trans ((if_neg tied).trans ((if_neg more).trans ((if_neg allowed).trans (if_neg bit3))))))) ?_)
    show (rightsOpened (spent s) rights).dmk.busy = s.dmk.busy
    rw [rightsOpened_dmk]
    rfl
  · have bit3 : bit rights 3 = true := by rw [bit_eq_testBit, scan]
    refine congrArg Host.Outcome.next ((dmkRun_of_runs runs _).trans ?_)
    exact (congrArg dmkAnswered
      ((if_neg state).trans ((if_neg formed).trans ((if_neg certified).trans ((if_neg tied).trans ((if_neg more).trans ((if_neg allowed).trans (if_pos bit3)))))))).trans
      (if_pos rfl)

theorem debugRevoke_spec (s : State) (req : Option (List Byte)) (vin vsb : Nat) (runs : DaymarkRuns s req 6 []) :
    ∃ s1, exec (.debugRevoke req vin vsb) s = .next (dmkFinish s1 mOK []) ∧ s1.dmk = { s.dmk with rights := if s.dmk.scan = true then 8 else 0 } ∧
      (s1.dmk.rights ≠ s.dmk.rights → evSet s1 evDMK 1 = true) ∧ SameBut [.dmk, .regs, .out, .pci] s s1 := by
  by_cases same : (if s.dmk.scan = true then (8 : BitVec 64) else 0) = s.dmk.rights
  · refine ⟨{ s with dmk := { s.dmk with rights := if s.dmk.scan = true then 8 else 0 } }, ?_, rfl, fun changed => absurd same changed, ?_⟩
    · exact congrArg Host.Outcome.next (dmkRun_ends runs (congrArg (·, mOK, []) (if_pos same)) rfl)
    · exact same_mono (update_dmk s _) (by simp)
  · refine ⟨raise { s with dmk := { s.dmk with rights := if s.dmk.scan = true then 8 else 0 } } evDMK 1, ?_, raise_dmk _ _ _, fun _ =>
      evSet_raise_self _ _ _ (by decide), ?_⟩
    · refine congrArg Host.Outcome.next (dmkRun_ends runs (congrArg (·, mOK, []) (if_neg same)) ?_)
      rw [raise_dmk]
    · exact same_mono (same_trans (update_dmk s _) (raise_same _ _ _)) (by simp)

/-- Settles O47: the checks of each command in their order, and what is left of the fuses by the reset that follows a transition. -/
theorem lifeCycleAndDebug : Obligations.LifeCycleAndDebug := by
  unfold Obligations.LifeCycleAndDebug
  refine ⟨fun s req vin vsb b => ?_, fun s req vin vsb b => ?_⟩
  · intro f
    refine ⟨fun runs len zero => ?_, fun none_ => ?_, fun tg prog => ?_, fun runs len => ?_⟩
    · obtain ⟨locked, free_⟩ := lcTransition_spec s req vin vsb b runs len zero
      refine ⟨locked, fun tries => ⟨(free_ tries).1, fun d has => ?_⟩⟩
      obtain ⟨wrong, rest⟩ := (free_ tries).2 d has
      exact ⟨fun ne => ⟨_, wrong ne, mistaken_dmk s _, evSet_raise_self _ _ _ (by decide), mistaken_logged, mistaken_sameBut s _⟩, rest⟩
    · show Host.Outcome.next _ = _
      rw [none_]
    · obtain ⟨t, runs, held⟩ := fusesHeld_fuseProgrammingDone prog
      refine ⟨t, runs, by rw [held.fuses]; rfl, held.prog rfl, ?_, fun ends => ⟨?_, ?_, ?_⟩, fun scrapped => ?_, fun four five => ⟨?_, ?_⟩⟩
      · rw [held.fuses]
        exact entryKills_counter _ _
      · rw [held.key]
        exact entryKills_key ends
      · rw [held.fuses]
        exact mem_entryKills ends (by simp)
      · rw [held.fuses]
        exact mem_entryKills ends (by simp)
      · rw [held.fuses]
        exact mem_entryKills (.inr scrapped) (by simp [scrapped])
      · rw [held.fuses]
        exact congrArg (·.fuses.killed) (entryKills_same four five)
      · rw [held.key]
        exact congrArg (·.compKey) (entryKills_same four five)
    · obtain ⟨other, set_, sets⟩ := lcSetDigests_spec s req vin vsb b runs len
      refine ⟨other, set_, fun integrator freeA freeC => ⟨_, sets integrator freeA freeC, fun nz => if_neg nz, fun z => if_pos z, fun nz => if_neg nz,
        fun z => if_pos z, update_dmk s _⟩⟩
  · intro f rights signed binds blocked ends
    refine ⟨fun runs => ?_, debugRevoke_spec s req vin vsb⟩
    obtain ⟨scrapped, bad, checks⟩ := debugCert_spec s req vin vsb b runs
    refine ⟨scrapped, bad, fun alive len layout => ?_⟩
    obtain ⟨unsigned, unbound, none_, used, opens, scans⟩ := checks alive len layout
    refine ⟨unsigned, unbound, none_, used, fun sig bound left free_ noScan => ⟨_, opens sig bound left free_ noScan, ?_, ?_, fun takes => ?_, ?_⟩,
      fun sig bound left free_ scan => ⟨_, scans sig bound left free_ scan, ?_, ?_, ?_⟩⟩
    · rw [rightsOpened_dmk]
      have bit3 : bit rights 3 = false := by rw [bit_eq_testBit, noScan]
      rw [bit3, Bool.or_false]
      rfl
    · exact evSet_raise_self _ _ _ (by decide)
    · rw [rightsOpened_dmk]
      exact rightsOpened_logged (s := spent s) takes
    · exact same_mono (same_trans (update_dmk s _) (rightsOpened_sameBut (spent s) rights)) (by simp)
    · exact scanned_fuses s rights
    · exact scanned_scan s scan
    · exact scanned_rights s scan

end Sys2Proof.Proofs

/-! SUPPORT. The Keeper's own commands (R479 to R491, R522), for O49. -/
namespace Sys2Proof.Proofs

open Sys2Proof.Machine Sys2Proof.Laws

section Keeper
variable {s : State}

theorem startFlush_flushing (u : State) : ∃ flushing, (startFlush u).kpr = { u.kpr with flushing := flushing } := by
  unfold startFlush
  split
  · exact ⟨u.kpr.flushing, rfl⟩
  · exact ⟨_, rfl⟩

/-- A Keeper that runs takes a post without its collector. -/
theorem postLog_kpr_of_takes {typ sec arg : Nat} {fatal more : Bool} (takes : keeperTakes s) :
    ∃ flushing, (postLog s typ sec fatal arg more).kpr = { s.kpr with flushing := flushing } := by
  obtain ⟨runs, up⟩ := takes
  have busy : (!s.kpr.runs || s.kpr.st == .restarting) = false := by simp [runs, up]
  simp only [postLog, busy, Bool.false_and, Bool.false_eq_true, if_false]
  split
  · exact startFlush_flushing _
  · exact ⟨s.kpr.flushing, rfl⟩

/-! ### The end of a flush (R483) -/

/-- The record of a flush, LOG_FLUSHED, under the SEQ it had reserved. -/
def flushRecord (s : State) (q : BitVec 32) : LogEv :=
  { seq := q, when_ := s.now, typ := 0x24, sector := 0xFF, fatal := false, freeRun := s.flash.freeRun, more := false,
      arg := BitVec.ofNat 64 s.kpr.flushed.toNat }

/-- The records that a flush under the SEQ `q` moves into NVM. -/
def flushedNow (s : State) (q : BitVec 32) : List LogEv :=
  s.log.filter (fun x => decide ((q - x.seq).toNat < 2 ^ 31) && decide ((x.seq - s.kpr.flushed).toNat < 2 ^ 31))

/-- What a flush writes, before the next one starts. -/
def flushDone (s : State) (q : BitVec 32) : State :=
  wearWrite { s with
    log := (logInsert (flushRecord s q) s.log).take 65536
    kpr := { s.kpr with nvmLog := (flushRecord s q :: flushedNow s q ++ s.kpr.nvmLog).take 524288, flushed := q + 1, flushing := none } }

theorem flushDone_sameBut (s : State) (q : BitVec 32) : SameBut [.kpr, .log] s (flushDone s q) := by
  intro p hp
  cases p with
  | kpr => simp at hp
  | log => simp at hp
  | _ => rfl

/-- With standby there, no power cycle and no restart waiting, the end of a flush writes it and at most starts another. -/
theorem logFlushDone_eq {q : BitVec 32} (flushing : s.kpr.flushing = some q) (standby : s.pins.vsb = true) (cycle : s.hng.pwrWait = false)
    (restart : s.kpr.restart = false) : exec .logFlushDone s = .next (flushDone s q) ∨ exec .logFlushDone s = .next (startFlush (flushDone s q)) := by
  have eq : exec .logFlushDone s = .next (
      if (unflushed (flushDone s q)).any (·.fatal) || decide (4096 ≤ (unflushed (flushDone s q)).length) then startFlush (flushDone s q)
      else if !(flushDone s q).pins.vsb then { flushDone s q with kpr := { (flushDone s q).kpr with runs := false } }
      else tryRestart (if (flushDone s q).hng.pwrWait then requestCycle (flushDone s q) else flushDone s q)) := by
    show execLogFlushDone s = _
    simp only [execLogFlushDone, flushing]
    rfl
  have vsb : ¬ (!(flushDone s q).pins.vsb) = true := by
    rw [flushDone_sameBut s q .pins (by simp), standby]
    decide
  have wait : ¬ (flushDone s q).hng.pwrWait = true := by
    rw [flushDone_sameBut s q .hng (by simp), cycle]
    decide
  have stays : tryRestart (flushDone s q) = flushDone s q := by
    refine if_neg ?_
    show ¬ (s.kpr.restart && _ && _) = true
    rw [restart]
    simp
  rw [if_neg vsb, if_neg wait, stays] at eq
  rw [eq]
  split
  · exact .inr rfl
  · exact .inl rfl

theorem logFlushDone_spec {q : BitVec 32} (flushing : s.kpr.flushing = some q) (standby : s.pins.vsb = true) (cycle : s.hng.pwrWait = false)
    (restart : s.kpr.restart = false) : ∃ t, exec .logFlushDone s = .next t ∧ (∃ again, t.kpr = { (flushDone s q).kpr with flushing := again }) ∧
      SameBut [.kpr, .log, .logSeq] s t := by
  rcases logFlushDone_eq flushing standby cycle restart with eq | eq
  · exact ⟨_, eq, ⟨none, rfl⟩, same_mono (flushDone_sameBut s q) (by simp)⟩
  · exact ⟨_, eq, startFlush_flushing _, same_mono (same_trans (flushDone_sameBut s q) (startFlush_same _)) (by simp)⟩

/-! ### The watchdog and the end of a restart (R488, R490, R491) -/

theorem keeperWatchdog_eq (runs : s.kpr.runs = true) (up : s.kpr.st ≠ .restarting) (booted : s.kpr.boot.result ≠ 0) :
    exec .keeperWatchdog s = .next (keeperRestart s 2) := by
  have cond : ¬ (!s.kpr.runs || s.kpr.st == .restarting) = true := by simp [runs, up]
  refine congrArg Host.Outcome.next ((if_neg cond).trans ?_)
  exact congrArg (keeperRestart · 2) (if_neg booted)

/-- The Keeper as its restart leaves it: on its active slot, with no update and an empty collector. -/
def restarted (s : State) : State :=
  { s with kpr := { s.kpr with st := .running, cause := 0, slot := (fwOf s 1).active, pldm := .idle, comps := [], comp := 0, accepted := [], lost := 0, coll := 0 } }

theorem keeperRestartDone_eq (restarting : s.kpr.st = .restarting) (cause : s.kpr.cause = 2) (booted : s.kpr.boot.result = 1) (idle : s.hng.wait = none)
    (lost : s.kpr.lost = 0) : exec .keeperRestartDone s = .next (raise (postLog (restarted s) 0x22 0xFF true 2) evKPR 8) := by
  have cond : ¬ (s.kpr.st != .restarting) = true := by simp [restarting]
  have collector : takeCollector (pldmIdle { s with kpr := { s.kpr with st := .running, cause := 0, slot := (fwOf s 1).active } }) = restarted s := if_pos lost
  have result : (raise (postLog (restarted s) 0x22 0xFF true 2) evKPR 8).kpr.boot.result ≠ 0 := by
    obtain ⟨coll, lost', flushing, kpr⟩ := postLog_keeper (restarted s) 0x22 0xFF true 2 false
    rw [raise_kpr, kpr]
    show s.kpr.boot.result ≠ 0
    rw [booted]
    decide
  have quiet : startWaiting (raise (postLog (restarted s) 0x22 0xFF true 2) evKPR 8) = raise (postLog (restarted s) 0x22 0xFF true 2) evKPR 8 := by
    have none_ : (raise (postLog (restarted s) 0x22 0xFF true 2) evKPR 8).hng.wait = none := by
      rw [raise_hng, postLog_hng]
      exact idle
    rw [startWaiting, none_]
  refine congrArg Host.Outcome.next ((if_neg cond).trans ?_)
  simp only [cause, booted, if_true]
  rw [collector]
  simp only [show (2 : Nat) ≠ 1 by decide, if_false, if_neg result, beq_self_eq_true]
  exact quiet

theorem keeperRestartDone_spec (restarting : s.kpr.st = .restarting) (cause : s.kpr.cause = 2) (runs : s.kpr.runs = true) (booted : s.kpr.boot.result = 1)
    (idle : s.hng.wait = none) (lost : s.kpr.lost = 0) : ∃ t, exec .keeperRestartDone s = .next t ∧ t.kpr.st = .running ∧ t.kpr.slot = (fwOf s 1).active ∧
      t.kpr.pldm = .idle ∧ t.kpr.coll = 0 ∧ evSet t evKPR 8 = true ∧ Logged t s.now 0x22 0xFF 2 ∧ SameBut [.kpr, .log, .logSeq, .regs, .out, .pci] s t := by
  have takes : keeperTakes (restarted s) := ⟨runs, by simp [restarted]⟩
  obtain ⟨flushing, kpr⟩ := postLog_kpr_of_takes (typ := 0x22) (sec := 0xFF) (arg := 2) (fatal := true) (more := false) takes
  refine ⟨_, keeperRestartDone_eq restarting cause booted idle lost, ?_, ?_, ?_, ?_, evSet_raise_self _ _ _ (by decide), ?_, ?_⟩
  · rw [raise_kpr, kpr]
    rfl
  · rw [raise_kpr, kpr]
    rfl
  · rw [raise_kpr, kpr]
    rfl
  · rw [raise_kpr, kpr]
    rfl
  · refine logged_congr ?_ (raise_same _ _ _ .log (by simp))
    exact logged_postLog (s := restarted s) takes rfl rfl
  · exact same_mono (same_trans (update_kpr s _) (same_trans (postLog_same _ _ _ _ _ _) (raise_same _ _ _))) (by simp)

/-! ### The sideband's control and console messages -/

theorem mctpControl_of_takes (runs : s.kpr.runs = true) (up : s.kpr.st ≠ .restarting) : exec .mctpControl s = .next (s.emit (.mctp 0)) :=
  congrArg Host.Outcome.next ((if_pos runs).trans (if_neg (by simp [up])))

theorem keeperConsole_of_takes (runs : s.kpr.runs = true) (up : s.kpr.st ≠ .restarting) :
    exec .keeperConsole s = .next (if bit s.dmk.rights.toNat 4 then s.emit (.mctp 1) else mctpUnsupported s) :=
  congrArg Host.Outcome.next ((if_neg (by simp [runs])).trans (if_neg (by simp [up])))

end Keeper

/-- Settles O49: each command as its conditions, read off, leave it. -/
theorem keeperCommands : Obligations.KeeperCommands := by
  unfold Obligations.KeeperCommands
  intro s
  refine ⟨fun runs nvm => ?_, fun off => ?_, fun idle => ?_, fun q flushing standby cycle restart => ?_, fun off => ?_, fun runs up booted => ?_, fun up => ?_,
    fun restarting cause runs booted idle lost => keeperRestartDone_spec restarting cause runs booted idle lost, fun runs up => ?_, fun runs restarting => ?_,
    fun off daymark => ?_, fun r last gone cool => ?_, fun there => ?_⟩
  · exact ⟨wearWrite s, congrArg Host.Outcome.next (if_pos (by simp [runs, nvm])), rfl, update_kpr s _⟩
  · exact congrArg Host.Outcome.next (if_neg (by rcases off with off | off <;> simp [off]))
  · show Host.Outcome.next _ = _
    rw [idle]
  · intro old
    obtain ⟨t, eq, ⟨again, kpr⟩, same⟩ := logFlushDone_spec flushing standby cycle restart
    refine ⟨t, flushRecord s q, eq, rfl, rfl, rfl, ?_, ?_, ?_, same⟩ <;> rw [kpr] <;> rfl
  · exact congrArg Host.Outcome.next (if_pos (by rcases off with off | off <;> simp [off]))
  · exact ⟨_, keeperWatchdog_eq runs up booted, rfl, update_kpr s _⟩
  · exact congrArg Host.Outcome.next (if_pos (by simpa using up))
  · refine ⟨mctpControl_of_takes runs up, fun right => ?_, fun shut => ?_⟩
    · rw [keeperConsole_of_takes runs up, bit_eq_testBit, if_pos right]
    · rw [keeperConsole_of_takes runs up, bit_eq_testBit, if_neg (by simp [shut])]
      rfl
  · exact ⟨congrArg Host.Outcome.next ((if_pos runs).trans (if_pos (by simp [restarting]))),
      congrArg Host.Outcome.next ((if_neg (by simp [runs])).trans (if_pos (by simp [restarting])))⟩
  · exact ⟨congrArg Host.Outcome.next ((if_neg (by simp [off])).trans (if_pos daymark)),
      congrArg Host.Outcome.next ((if_pos (by simp [off])).trans (if_pos daymark))⟩
  · exact congrArg Host.Outcome.next (if_pos (by simp [last, gone, cool]))
  · exact congrArg Host.Outcome.next (if_neg (by simp; omega))

end Sys2Proof.Proofs

/-! SUPPORT. The Keeper's mailbox (R474, R482 to R492), for O50. -/
namespace Sys2Proof.Proofs

open Sys2Proof.Machine Sys2Proof.Laws

/-! ### Fields of a response -/

/-- A part that a response holds, as a slice of it. -/
theorem sub_eq_take_drop {bs : List Byte} {off len : Nat} (fits : off + len ≤ bs.length) : sub bs off len = (bs.drop off).take len := by
  apply List.ext_getElem
  · simp [sub]
    omega
  · intro i hi hj
    have inside : i < len := by simpa [sub] using hi
    simp only [sub, List.getElem_map, List.getElem_range, List.getElem_take, List.getElem_drop]
    exact List.getD_eq_getElem _ _ _

theorem sub_append_left {l r : List Byte} {off len : Nat} (fits : off + len ≤ l.length) : sub (l ++ r) off len = sub l off len := by
  refine List.map_congr_left fun i hi => ?_
  exact List.getD_append _ _ _ _ (by have := List.mem_range.1 hi; omega)

theorem sub_append_right (l r : List Byte) (off len : Nat) : sub (l ++ r) (l.length + off) len = sub r off len := by
  refine List.map_congr_left fun i _ => ?_
  rw [List.getD_append_right _ _ _ _ (by omega)]
  congr 1
  omega

theorem fieldAt_append_left {l r : List Byte} {off len : Nat} (fits : off + len ≤ l.length) : fieldAt (l ++ r) off len = fieldAt l off len :=
  congrArg leNat (sub_append_left fits)

theorem fieldAt_append_right {l r : List Byte} {off len : Nat} {n : Nat} (at_ : l.length = n) : fieldAt (l ++ r) (n + off) len = fieldAt r off len := by
  subst at_
  exact congrArg leNat (sub_append_right l r off len)

theorem fieldAt_leBytes (n v : Nat) : fieldAt (leBytes n v) 0 n = v % 256 ^ n := by
  rw [fieldAt, sub_eq_take_drop (by simp), List.drop_zero, List.take_of_length_le (by simp), leNat_leBytes]

theorem fieldAt_leBytes_append (n v : Nat) (r : List Byte) : fieldAt (leBytes n v ++ r) 0 n = v % 256 ^ n :=
  (fieldAt_append_left (by simp)).trans (fieldAt_leBytes n v)

theorem length_flatMap_records {α : Type} {f : α → List Byte} {n : Nat} (length : ∀ x,
    (f x).length = n) (l : List α) : (l.flatMap f).length = n * l.length := by
  simp [List.length_flatMap, length, Nat.mul_comm]

/-- A field of one of the records of one length that are laid end to end. -/
theorem fieldAt_flatMap {α : Type} (f : α → List Byte) {n : Nat} (length : ∀ x, (f x).length = n) {l : List α} {j off len : Nat} (h : j < l.length)
    (fits : off + len ≤ n) : fieldAt (l.flatMap f) (n * j + off) len = fieldAt (f l[j]) off len := by
  have total : (l.flatMap f).length = n * l.length := length_flatMap_records length l
  have room : n * j + n ≤ n * l.length := by
    calc n * j + n = n * (j + 1) := by ring
      _ ≤ n * l.length := Nat.mul_le_mul_left n h
  rw [fieldAt, fieldAt, sub_eq_take_drop (by omega), sub_eq_take_drop (by rw [length]; exact fits), ← take_drop_flatMap f n length l j h, List.drop_take,
    List.take_take, List.drop_drop, Nat.min_eq_left (by omega)]

theorem fieldAt_lt (bs : List Byte) (off len : Nat) : fieldAt bs off len < 256 ^ len := by
  have bound := leNat_lt (sub bs off len)
  simpa [fieldAt, sub] using bound

/-! ### The end of a mailbox command -/

section Finish
variable {s : State} {result : Nat} {resp : List Byte}

/-- The response lies in the host's buffer. -/
def kprResponded (s : State) (resp : List Byte) : State :=
  if resp.isEmpty then s else hostWrite s none ((regNow s 0x70000).toNat / 4096 * 4096 + 2048) resp false

theorem kprResponded_sameBut (s : State) (resp : List Byte) : SameBut [.out] s (kprResponded s resp) := by
  unfold kprResponded
  split
  · exact same_refl _ _
  · exact hostWrite_sameBut _ _ _ _ _

theorem mem_out_kprResponded (some_ : resp ≠ []) :
    .hostWrite none ((regNow s 0x70000).toNat / 4096 * 4096 + 2048) resp false ∈ (kprResponded s resp).out := by
  rw [kprResponded, if_neg (by simpa using some_)]
  exact List.mem_cons_self ..

/-- The Keeper once a host's command has ended. -/
def kprEnded (k : Keeper) (result : Nat) : Keeper := { k with seq := k.seq + 1, result := result, busy := false }

/-- The state before the status and the event of the end. -/
def kprDone (s : State) (result : Nat) (resp : List Byte) : State :=
  { kprResponded s resp with kpr := kprEnded (kprResponded s resp).kpr result }

theorem kprFinish_host (s : State) (result : Nat) (resp : List Byte) : kprFinish s .host result resp = raise (setReg (kprDone s result resp) 0x70010 2) evKPR 0 := rfl

theorem kprDone_sameBut (s : State) (result : Nat) (resp : List Byte) : SameBut [.kpr, .out] s (kprDone s result resp) :=
  same_mono (same_trans (kprResponded_sameBut s resp) (update_kpr _ _)) (by simp)

theorem kprFinish_host_spec (s : State) (result : Nat) (resp : List Byte) : ∃ t, kprFinish s .host result resp = t ∧
    t.kpr = { s.kpr with seq := s.kpr.seq + 1, result := result, busy := false } ∧ regNow t 0x70010 = 2 ∧ evSet t evKPR 0 = true ∧
    (resp ≠ [] → .hostWrite none ((regNow s 0x70000).toNat / 4096 * 4096 + 2048) resp false ∈ t.out) ∧ SameBut [.kpr, .regs, .out, .pci] s t := by
  refine ⟨_, rfl, ?_, ?_, ?_, fun some_ => ?_, ?_⟩ <;> rw [kprFinish_host]
  · rw [raise_same _ _ _ .kpr (by simp), setReg_same _ _ _ .kpr (by simp)]
    exact congrArg (kprEnded · result) (kprResponded_sameBut s resp .kpr (by simp))
  · rw [regNow_raise_other _ (by decide), regNow_setReg_same]
  · exact evSet_raise_self (setReg (kprDone s result resp) 0x70010 2) evKPR 0 (by decide)
  · refine mem_out_raise ?_ _ _
    rw [setReg_same _ _ _ .out (by simp)]
    exact mem_out_kprResponded some_
  · exact same_mono (same_trans (kprDone_sameBut s result resp) (same_trans (setReg_same _ _ _) (raise_same _ _ _))) (by simp)

end Finish

/-! ### The commands -/

section Commands
variable {s : State} {via : MboxVia} {req : Option (List Byte)} {op : Nat} {body : List Byte} {f : List Byte → State × Nat × List Byte}

/-- A request that the Keeper runs ends with what its command answers to its body. -/
theorem kprRun_ends (runs : KeeperRuns s via req op body) {t : State} {res : Nat} {resp : List Byte} (answer : f body = (t, res, resp)) :
    kprRun s via req op f = kprFinish t via res resp := by
  obtain ⟨⟨on, up⟩, b, rfl, opcode, layout, short⟩ := runs
  cases via with
  | host =>
    simp only [kprRun, on, beq_eq_false_iff_ne.2 up, opcode, Bool.not_true, Bool.false_eq_true, if_false, bne_self_eq_false, Bool.false_and, beq_self_eq_true,
      Bool.true_or, Bool.and_true, decide_true, if_true]
    simp only [layout, answer]
  | sideband =>
    have fits := short rfl
    simp only [kprRun, on, beq_eq_false_iff_ne.2 up, opcode, Bool.not_true, Bool.false_eq_true, if_false, bne_self_eq_false, Bool.false_and,
      Option.map_some, Option.getD_some, decide_eq_true fits, Bool.or_true, Bool.and_true, decide_true, if_true]
    simp only [layout, answer]

/-- A restarting Keeper answers the host BUSY, and the sideband nothing. -/
theorem kprRun_of_restarting (on : s.kpr.runs = true) (restarting : s.kpr.st = .restarting) :
    kprRun s via req op f = if via = .host then kprFinish s via mBUSY [] else s := by
  simp only [kprRun, on, restarting, Bool.not_true, Bool.false_eq_true, if_false, beq_self_eq_true, if_true, beq_iff_eq]

theorem logRead_spec {b : List Byte} (runs : KeeperRuns s via req 1 b) (len : b.length = 8) (known : fieldAt b 6 1 ≤ 1) :
    let most := min (fieldAt b 4 2) (if via = .host then 85 else 42)
    let es := ((if fieldAt b 6 1 = 1 then logFilter (fieldAt b 7 1) false (wholeLog s) else wholeLog s)).filter
      (fun e => decide ((e.seq - BitVec.ofNat 32 (fieldAt b 0 4)).toNat < 2 ^ 31))
    ∃ next, exec (.logRead via req) s =
        .next (kprFinish s via mOK (leBytes 2 (es.take most).length ++ [0, 0] ++ leBytes 4 next ++ (es.take most).flatMap logBytes)) ∧
      (es.length ≤ most → next = s.logSeq.toNat) := by
  intro most es
  have good : ¬ (b.length != 8 || 1 < fieldAt b 6 1) = true := by simp [len, known]
  have eq : exec (.logRead via req) s = .next (kprFinish s via mOK (leBytes 2 (es.take most).length ++ [0, 0] ++
      leBytes 4 (match es.drop most with | e :: _ => e.seq | [] => s.logSeq).toNat ++ (es.take most).flatMap logBytes)) := by
    refine congrArg Host.Outcome.next (kprRun_ends runs ((if_neg good).trans ?_))
    cases via <;> rfl
  refine ⟨_, eq, fun all => ?_⟩
  rw [List.drop_of_length_le all]

theorem logFlush_spec (runs : KeeperRuns s via req 2 []) :
    (s.kpr.flushing = none → s.kpr.nvmOk = true → exec (.logFlush via req) s =
      .next (kprFinish { s with kpr := { s.kpr with flushing := some s.logSeq }, logSeq := s.logSeq + 1 } via mOK (leBytes 4 s.logSeq.toNat))) ∧
    (∀ q, s.kpr.flushing = some q → exec (.logFlush via req) s = .next (kprFinish s via mOK (leBytes 4 q.toNat))) ∧
    (s.kpr.flushing = none → s.kpr.nvmOk = false → exec (.logFlush via req) s = .next (kprFinish (raise s evKPR 7) via mNVM [])) := by
  refine ⟨fun idle nvm => ?_, fun q running => ?_, fun idle broken => ?_⟩ <;> refine congrArg Host.Outcome.next (kprRun_ends runs ?_)
  · have starts : startFlush s = { s with kpr := { s.kpr with flushing := some s.logSeq }, logSeq := s.logSeq + 1 } := if_neg (by simp [idle, nvm])
    simp only [starts, List.isEmpty_nil, Bool.not_true, Bool.false_eq_true, if_false]
  · have stays : startFlush s = s := if_pos (by simp [running])
    simp only [stays, running, List.isEmpty_nil, Bool.not_true, Bool.false_eq_true, if_false]
  · have stays : startFlush s = s := if_pos (by simp [broken])
    simp only [stays, idle, List.isEmpty_nil, Bool.not_true, Bool.false_eq_true, if_false]
    rfl

theorem logErase_spec (runs : KeeperRuns s via req 3 []) :
    (lifeCycle s ≠ 1 → lifeCycle s ≠ 4 → exec (.logErase via req) s = .next (kprFinish s via mSTATE [])) ∧
    ((lifeCycle s = 1 ∨ lifeCycle s = 4) → s.kpr.nvmOk = true → exec (.logErase via req) s =
      .next (kprFinish { s with kpr := { s.kpr with nvmLog := [] }, hng := { s.hng with errs := [], dumps := [] } } via mOK [])) := by
  have empty : ¬ (!([] : List Byte).isEmpty) = true := by simp
  refine ⟨fun one four => ?_, fun open_ nvm => ?_⟩ <;> refine congrArg Host.Outcome.next (kprRun_ends runs ((if_neg empty).trans ?_))
  · exact if_pos (by simp [one, four])
  · refine (if_neg ?_).trans (if_neg (by simp [nvm]))
    rcases open_ with open_ | open_ <;> simp [open_]

theorem journalRead_spec {b : List Byte} (runs : KeeperRuns s via req 4 b) (len : b.length = 4) (nvm : s.kpr.nvmOk = true) : exec (.journalRead via req) s =
    .next (kprFinish s via mOK ((List.range 128).map (fun i => BitVec.ofNat 8 (tget 0 s.kpr.levels i)) ++
      (((s.kpr.journal.filter (fun r => decide (fieldAt b 0 4 ≤ r.boot.toNat))).reverse).take (if via = .host then 119 else 56)).flatMap journalBytes)) := by
  have limit : (if via == .host then 119 else 56) = if via = .host then 119 else 56 := by simp only [beq_iff_eq]
  refine congrArg Host.Outcome.next (kprRun_ends runs ?_)
  rw [if_neg (by simp [len]), if_neg (by simp [nvm]), limit]

/-- The Keeper's stored levels and quarantine counts that a retry keeps. -/
def retried (s : State) (mask flags : Nat) : State :=
  { s with kpr := { s.kpr with levels := s.kpr.levels.filter (fun p => !bit mask p.1), quar := if flags = 1 then [] else s.kpr.quar } }

theorem tget_filter {α : Type} (d : α) (t : Tbl α) (keep : Nat → Bool) (k : Nat) :
    tget d (t.filter (fun p => keep p.1)) k = if keep k = true then tget d t k else d := by
  induction t with
  | nil => simp [tget]
  | cons p t ih =>
    obtain ⟨a, v⟩ := p
    by_cases stays : keep a = true
    · rw [List.filter_cons_of_pos (by simpa using stays), tget, tget]
      by_cases here : a = k
      · subst here
        simp [stays]
      · rw [if_neg here, if_neg here, ih]
    · rw [List.filter_cons_of_neg (by simpa using stays), ih, tget]
      by_cases here : a = k
      · subst here
        simp [stays]
      · rw [if_neg here]

theorem retried_levels (s : State) (mask flags i : Nat) :
    tget 0 (retried s mask flags).kpr.levels i = if mask.testBit i = true then 0 else tget 0 s.kpr.levels i := by
  rw [← bit_eq_testBit]
  refine (tget_filter 0 s.kpr.levels (fun k => !bit mask k) i).trans ?_
  cases bit mask i <;> rfl

theorem journalRetry_eq {b : List Byte} (runs : KeeperRuns s via req 5 b) (len : b.length = 17) (known : fieldAt b 16 1 ≤ 1) (nvm : s.kpr.nvmOk = true) :
    exec (.journalRetry via req) s = .next (kprFinish (retried s (fieldAt b 0 16) (fieldAt b 16 1)) via mOK []) :=
  congrArg Host.Outcome.next (kprRun_ends runs ((if_neg (by simp [len, known])).trans (if_neg (by simp [nvm]))))

/-- The sensors' response starts with the sites of the last reading. -/
theorem sensorRead_spec (runs : KeeperRuns s via req 6 []) : ∃ resp, exec (.sensorRead via req) s = .next (kprFinish s via mOK resp) ∧
    (∀ r i, s.tnd.last = some r → i < 160 → fieldAt resp (2 * i) 2 = ((r.sites.getD i 0) % 65536).toNat) := by
  refine ⟨_, congrArg Host.Outcome.next (kprRun_ends runs (if_neg (by simp))), fun r i last site => ?_⟩
  simp only [last, Option.map_some, Option.getD_some]
  have length (k : Nat) : (leBytes 2 ((r.sites.getD k 0) % 65536).toNat).length = 2 := length_leBytes _ _
  rw [List.append_assoc, fieldAt_append_left (by rw [length_flatMap_records length, List.length_range]; omega)]
  refine (fieldAt_flatMap _ length (off := 0) (by simpa using site) (by omega)).trans ?_
  rw [fieldAt_leBytes, List.getElem_range]
  omega

/-- The operating points that OP_OVERRIDE fixes. -/
def fixedPoints (t : Tbl (Option Nat)) (ops : List Nat) : Tbl (Option Nat) :=
  (List.range 4).foldl (fun t d => tput none t d (if ops.getD d 0xFF = 0xFF then none else some (ops.getD d 0xFF))) t

def overridden (s : State) (ops : List Nat) : State := { s with tnd := { s.tnd with override := fixedPoints s.tnd.override ops } }

theorem overridden_override (s : State) (ops : List Nat) {d : Nat} (die : d < 4) :
    tget none (overridden s ops).tnd.override d = if ops.getD d 0xFF = 0xFF then none else some (ops.getD d 0xFF) := by
  have four : List.range 4 = [0, 1, 2, 3] := rfl
  show tget none (fixedPoints s.tnd.override ops) d = _
  simp only [fixedPoints, four, List.foldl_cons, List.foldl_nil]
  rcases (show d = 0 ∨ d = 1 ∨ d = 2 ∨ d = 3 by omega) with rfl | rfl | rfl | rfl <;> simp [tget_tput_same, tget_tput_other]

theorem opOverride_spec {b : List Byte} (runs : KeeperRuns s via req 7 b) (len : b.length = 4) (points : ∀ o ∈ b, o.toNat ≤ 7 ∨ o = 0xFF) :
    (s.dmk.rights.toNat.testBit 7 = false → exec (.opOverride via req) s = .next (kprFinish s via mDENIED [])) ∧
    (s.dmk.rights.toNat.testBit 7 = true → exec (.opOverride via req) s = .next (kprFinish (overridden s (b.map BitVec.toNat)) via mOK [])) := by
  rw [← bit_eq_testBit]
  have good : ¬ (b.length != 4 || (b.map BitVec.toNat).any (fun o => 7 < o && o != 0xFF)) = true := by
    simp only [len, bne_self_eq_false, Bool.false_or, List.any_map, List.any_eq_true, not_exists, not_and]
    intro o mem
    rcases points o mem with low | rfl
    · simp [low]
    · simp
  refine ⟨fun shut => ?_, fun right => ?_⟩ <;> refine congrArg Host.Outcome.next (kprRun_ends runs ((if_neg good).trans ?_))
  · exact if_pos (by simp [shut])
  · exact if_neg (by simp [right])

theorem overridden_points {b : List Byte} (len : b.length = 4) {d : Nat} (die : d < 4) :
    tget none (overridden s (b.map BitVec.toNat)).tnd.override d = if b.getD d 0 = 0xFF then none else some (b.getD d 0).toNat := by
  have point : (b.map BitVec.toNat).getD d 0xFF = (b.getD d 0).toNat := by
    rw [List.getD_eq_getElem _ _ (by simp; omega), List.getD_eq_getElem _ _ (by omega), List.getElem_map]
  have same : (b.getD d 0).toNat = 0xFF ↔ b.getD d 0 = 0xFF := by
    rw [← BitVec.toNat_inj]
    rfl
  rw [overridden_override s _ die, point]
  simp only [same]

/-- The four words of a component in FW_STATUS. -/
def fwWords (s : State) (c : Nat) : List Byte :=
  leBytes 4 (fwOf s c).active ++ leBytes 4 (imgVersion (fwOf s c).a) ++ leBytes 4 (imgVersion (fwOf s c).b) ++ leBytes 4 (tget 0 s.dmk.fuses.svn c)

theorem length_fwWords (s : State) (c : Nat) : (fwWords s c).length = 16 := by simp [fwWords]

theorem fwWords_fields (s : State) (c : Nat) : fieldAt (fwWords s c) 0 4 = (fwOf s c).active % 2 ^ 32 ∧
    fieldAt (fwWords s c) 4 4 = imgVersion (fwOf s c).a ∧ fieldAt (fwWords s c) 8 4 = imgVersion (fwOf s c).b ∧
    fieldAt (fwWords s c) 12 4 = tget 0 s.dmk.fuses.svn c % 2 ^ 32 := by
  have fits (v : List Byte) : imgVersion v % 256 ^ 4 = imgVersion v := Nat.mod_eq_of_lt (fieldAt_lt v 12 4)
  have parts : fwWords s c = leBytes 4 (fwOf s c).active ++ (leBytes 4 (imgVersion (fwOf s c).a) ++ (leBytes 4 (imgVersion (fwOf s c).b) ++
      leBytes 4 (tget 0 s.dmk.fuses.svn c))) := by simp [fwWords]
  have skip (v : Nat) (r : List Byte) (off : Nat) : fieldAt (leBytes 4 v ++ r) (4 + off) 4 = fieldAt r off 4 := fieldAt_append_right (length_leBytes 4 v)
  rw [parts]
  refine ⟨fieldAt_leBytes_append _ _ _, ?_, ?_, ?_⟩
  · exact (skip _ _ 0).trans ((fieldAt_leBytes_append _ _ _).trans (fits _))
  · exact (skip _ _ 4).trans ((skip _ _ 0).trans ((fieldAt_leBytes_append _ _ _).trans (fits _)))
  · exact (skip _ _ 8).trans ((skip _ _ 4).trans ((skip _ _ 0).trans (fieldAt_leBytes _ _)))

theorem fwStatus_spec (runs : KeeperRuns s via req 8 []) : ∃ resp, exec (.fwStatus via req) s = .next (kprFinish s via mOK resp) ∧
    (∀ c, c < 4 → fieldAt resp (16 * c) 4 = (fwOf s (c + 1)).active % 2 ^ 32 ∧ fieldAt resp (16 * c + 4) 4 = imgVersion (fwOf s (c + 1)).a ∧
      fieldAt resp (16 * c + 8) 4 = imgVersion (fwOf s (c + 1)).b ∧ fieldAt resp (16 * c + 12) 4 = tget 0 s.dmk.fuses.svn (c + 1) % 2 ^ 32) := by
  refine ⟨[1, 2, 3, 4].flatMap (fwWords s), congrArg Host.Outcome.next (kprRun_ends runs (if_neg (by simp))), fun c hc => ?_⟩
  have component : ([1, 2, 3, 4] : List Nat)[c]'(by simpa using hc) = c + 1 := by
    rcases (show c = 0 ∨ c = 1 ∨ c = 2 ∨ c = 3 by omega) with rfl | rfl | rfl | rfl <;> rfl
  have field (off : Nat) (inside : off + 4 ≤ 16) : fieldAt ([1, 2, 3, 4].flatMap (fwWords s)) (16 * c + off) 4 = fieldAt (fwWords s (c + 1)) off 4 := by
    rw [fieldAt_flatMap _ (length_fwWords s) (by simpa using hc) inside, component]
  obtain ⟨active, first, second, svn⟩ := fwWords_fields s (c + 1)
  exact ⟨(field 0 (by omega)).trans active, (field 4 (by omega)).trans first, (field 8 (by omega)).trans second, (field 12 (by omega)).trans svn⟩

end Commands

/-- Settles O50: each command runs its body and ends with its answer. -/
theorem keeperMailbox : Obligations.KeeperMailbox := by
  unfold Obligations.KeeperMailbox
  intro s via req b ends
  refine ⟨fun res resp => ⟨rfl, kprFinish_host_spec s res resp⟩, fun on restarting => ⟨?_, ?_⟩, fun runs len known => logRead_spec runs len known,
    fun runs => logFlush_spec runs, fun runs => logErase_spec runs, fun runs len nvm => journalRead_spec runs len nvm, fun runs len known nvm => ?_,
    fun runs => sensorRead_spec runs, fun runs len points => ?_, fun runs => fwStatus_spec runs⟩
  · exact congrArg Host.Outcome.next ((kprRun_of_restarting on restarting).trans (if_pos rfl))
  · exact congrArg Host.Outcome.next ((kprRun_of_restarting on restarting).trans (if_neg nofun))
  · exact ⟨_, journalRetry_eq runs len known nvm, retried_levels s _ _, rfl, update_kpr s _⟩
  · obtain ⟨shut, right⟩ := opOverride_spec runs len points
    exact ⟨shut, fun has => ⟨_, right has, update_tnd s _, fun d die => overridden_points len die⟩⟩

end Sys2Proof.Proofs

/-! SUPPORT. Firmware update over PLDM (R487, R488), for O51. -/
namespace Sys2Proof.Proofs

open Sys2Proof.Machine Sys2Proof.Laws

section Update
variable {s : State}

/-- A Keeper that runs takes a message of PLDM. -/
theorem pldmRun_of_takes (takes : keeperTakes s) (f : State → State) : pldmRun s f = f s := by
  obtain ⟨runs, up⟩ := takes
  exact (if_neg (by simp [runs])).trans (if_neg (by simp [up]))

/-- Outside an activation the state of the update is the one that is held. -/
theorem pldmNow_of_ne (other : s.kpr.pldm ≠ .activate) : pldmNow s = s.kpr.pldm := if_neg (by simp [other])

theorem pldm_of_now {p : Pldm} (now : pldmNow s = p) (busy : p ≠ .idle) : s.kpr.pldm = p := by
  unfold pldmNow at now
  split at now
  · exact absurd now.symm busy
  · exact now

theorem plWrong_of_idle (idle : s.kpr.pldm = .idle) : plWrong s = plNotInUpdate := by
  rw [plWrong, pldmNow_of_ne (by simp [idle]), idle]
  rfl

theorem fwOf_setFw (s : State) (c : Nat) (f : Fw) : fwOf (setFw s c f) c = f := tget_tput_same _ _ _ _

theorem put_active (f : Fw) (slot : Nat) (b : List Byte) : (f.put slot b).active = f.active := by
  unfold Fw.put
  split <;> rfl

/-- A write to the inactive slot stays there, and leaves the active one. -/
theorem image_put_inactive {f : Fw} (slots : f.active ≤ 1) (b : List Byte) :
    (f.put (1 - f.active) b).image (1 - f.active) = b ∧ (f.put (1 - f.active) b).image f.active = f.image f.active := by
  rcases (show f.active = 0 ∨ f.active = 1 by omega) with act | act <;> rw [act] <;> exact ⟨rfl, rfl⟩

/-! ### Responses -/

theorem queryDeviceIdentifiers_eq (takes : keeperTakes s) :
    exec .queryDeviceIdentifiers s = .next (s.emit (.pldm 0x01 0 (leBytes 2 Config.vendor.toNat ++ leBytes 2 0x2400))) :=
  congrArg Host.Outcome.next (pldmRun_of_takes takes _)

/-- What GET_FIRMWARE_PARAMETERS says of a component. -/
def fwParams (s : State) (c : Nat) : List Byte :=
  leBytes 2 c ++ leBytes 4 (imgVersion (fwImage s c)) ++ leBytes 4 (imgVersion ((fwOf s c).image (1 - (fwOf s c).active)))

theorem fwParams_fields (s : State) (c : Nat) : fieldAt (fwParams s c) 0 2 = c % 2 ^ 16 ∧ fieldAt (fwParams s c) 2 4 = imgVersion (fwImage s c) := by
  rw [fwParams, List.append_assoc]
  refine ⟨fieldAt_leBytes_append _ _ _, ?_⟩
  refine (fieldAt_append_right (off := 0) (length_leBytes 2 c)).trans ((fieldAt_leBytes_append _ _ _).trans ?_)
  exact Nat.mod_eq_of_lt (fieldAt_lt _ 12 4)

theorem getFirmwareParameters_spec (takes : keeperTakes s) : ∃ body, exec .getFirmwareParameters s = .next (s.emit (.pldm 0x02 0 body)) ∧
    ∀ c, c < 4 → fieldAt body (10 * c) 2 = c + 1 ∧ fieldAt body (10 * c + 2) 4 = imgVersion (fwImage s (c + 1)) := by
  refine ⟨[1, 2, 3, 4].flatMap (fwParams s), congrArg Host.Outcome.next (pldmRun_of_takes takes _), fun c hc => ?_⟩
  have component : ([1, 2, 3, 4] : List Nat)[c]'(by simpa using hc) = c + 1 := by
    rcases (show c = 0 ∨ c = 1 ∨ c = 2 ∨ c = 3 by omega) with rfl | rfl | rfl | rfl <;> rfl
  have length (k : Nat) : (fwParams s k).length = 10 := by simp [fwParams]
  have field (off len : Nat) (inside : off + len ≤ 10) : fieldAt ([1, 2, 3,
      4].flatMap (fwParams s)) (10 * c + off) len = fieldAt (fwParams s (c + 1)) off len := by
    rw [fieldAt_flatMap _ length (by simpa using hc) inside, component]
  obtain ⟨number, version⟩ := fwParams_fields s (c + 1)
  exact ⟨(field 0 2 (by omega)).trans (number.trans (Nat.mod_eq_of_lt (by omega))), (field 2 4 (by omega)).trans version⟩

theorem getStatus_spec (takes : keeperTakes s) : ∃ body, exec .getStatus s = .next (s.emit (.pldm 0x1B 0 body)) ∧
    (pldmNow s = .idle → body.getD 0 0 = 0) ∧ (pldmNow s = .download → body.getD 0 0 = 3) := by
  refine ⟨_, congrArg Host.Outcome.next (pldmRun_of_takes takes _), fun idle => ?_, fun download => ?_⟩
  · rw [idle]
    rfl
  · rw [download]
    rfl

/-! ### The order of the states -/

theorem requestUpdate_spec (takes : keeperTakes s) :
    (s.kpr.boot.result ≠ 0 → lifeCycle s ≠ 5 → s.dmk.prog = none → pldmNow s = .idle → exec .requestUpdate s = .next ((setPldm (pldmIdle s) .learn).emit (.pldm 0x10 0 []))) ∧
    ((s.kpr.boot.result = 0 ∨ lifeCycle s = 5 ∨ s.dmk.prog ≠ none) → exec .requestUpdate s = .next (s.emit (.pldm 0x10 plRetry []))) := by
  refine ⟨fun booted alive quiet idle => ?_, fun busy => ?_⟩ <;> refine congrArg Host.Outcome.next ((pldmRun_of_takes takes _).trans ?_)
  · exact (if_neg (by simp [booted, alive, quiet])).trans (if_neg (by simp [idle]))
  · exact if_pos (by simpa [Option.isSome_iff_ne_none, or_assoc] using busy)

theorem passComponentTable_spec (takes : keeperTakes s) (cs : List (Fin 5)) :
    (pldmNow s = .learn → exec (.passComponentTable cs) s =
      .next (State.emit { s with kpr := { s.kpr with comps := (cs.map Fin.val).filter (· != 0), pldm := .ready } } (.pldm 0x13 0 []))) ∧
    (pldmNow s ≠ .learn → exec (.passComponentTable cs) s = .next (s.emit (.pldm 0x13 (plWrong s) []))) := by
  refine ⟨fun learn => ?_, fun other => ?_⟩ <;> refine congrArg Host.Outcome.next ((pldmRun_of_takes takes _).trans ?_)
  · exact if_neg (by simp [learn])
  · exact if_pos (by simp [other])

/-- The module once a component's update has begun: its inactive slot is empty. -/
def updating (s : State) (c : Nat) : State :=
  let s1 := setFw s c ((fwOf s c).put (1 - (fwOf s c).active) [])
  { s1 with kpr := { s1.kpr with comp := c, pldm := .download, accepted := s1.kpr.accepted.filter (· != c) } }

theorem fwOf_updating (s : State) (c : Nat) : fwOf (updating s c) c = (fwOf s c).put (1 - (fwOf s c).active) [] := fwOf_setFw s c _

theorem updateComponent_eq (takes : keeperTakes s) {c : Fin 5} (ready : pldmNow s = .ready) (named : c.val ∈ s.kpr.comps) :
    exec (.updateComponent c) s = .next ((updating s c.val).emit (.pldm 0x14 0 [0])) := by
  refine congrArg Host.Outcome.next ((pldmRun_of_takes takes _).trans ?_)
  exact (if_neg (by simp [ready])).trans (if_neg (by simp [named]))

/-- Data go to the end of the inactive slot of the component that is updated. -/
def downloaded (s : State) (d : List Byte) : State :=
  let f := fwOf s s.kpr.comp
  setFw s s.kpr.comp (f.put (1 - f.active) (f.image (1 - f.active) ++ d))

theorem requestFirmwareData_spec (takes : keeperTakes s) (d : List Byte) (download : s.kpr.pldm = .download) :
    let f := fwOf s s.kpr.comp
    (d.length ≤ 4096 → (f.image (1 - f.active)).length + d.length ≤ slotSize s.kpr.comp →
      exec (.requestFirmwareData d) s = .next ((downloaded s d).emit (.pldm 0x15 0 []))) ∧
    (slotSize s.kpr.comp < (f.image (1 - f.active)).length + d.length → exec (.requestFirmwareData d) s = .next (s.emit (.pldm 0x15 plBadLength []))) := by
  have state : ¬ (s.kpr.pldm != .download) = true := by simp [download]
  refine ⟨fun short fits => ?_, fun past => ?_⟩ <;> refine congrArg Host.Outcome.next ((pldmRun_of_takes takes _).trans ((if_neg state).trans ?_))
  · exact if_neg (by simp; omega)
  · exact if_pos (by simp; omega)

theorem transferComplete_spec (takes : keeperTakes s) :
    (s.kpr.pldm = .download → exec .transferComplete s = .next ((setPldm s .verify).emit (.pldm 0x16 0 []))) ∧
    (s.kpr.pldm ≠ .download → exec .transferComplete s = .next (s.emit (.pldm 0x16 (plWrong s) []))) := by
  refine ⟨fun state => ?_, fun other => ?_⟩ <;> refine congrArg Host.Outcome.next ((pldmRun_of_takes takes _).trans ?_)
  · exact if_neg (by simp [state])
  · exact if_pos (by simp [other])

/-- The refusal of the image that is verified. -/
def refused (s : State) : State :=
  let f := fwOf s s.kpr.comp
  let b := f.image (1 - f.active)
  setPldm (fwRefused s s.kpr.comp 0xFF (1 - f.active) (imgVersion b) (imageCheck s s.kpr.comp b)) .ready

theorem verifyComplete_spec (takes : keeperTakes s) :
    let b := (fwOf s s.kpr.comp).image (1 - (fwOf s s.kpr.comp).active)
    (s.kpr.pldm = .verify → imageCheck s s.kpr.comp b = mOK → exec .verifyComplete s = .next ((setPldm s .apply).emit (.pldm 0x17 0 [0]))) ∧
    (s.kpr.pldm = .verify → imageCheck s s.kpr.comp b ≠ mOK → exec .verifyComplete s = .next ((refused s).emit (.pldm 0x17 0 [1]))) ∧
    (s.kpr.pldm ≠ .verify → exec .verifyComplete s = .next (s.emit (.pldm 0x17 (plWrong s) []))) := by
  refine ⟨fun state good => ?_, fun state bad => ?_, fun other => ?_⟩ <;> refine congrArg Host.Outcome.next ((pldmRun_of_takes takes _).trans ?_)
  · exact (if_neg (by simp [state])).trans (if_pos good)
  · exact (if_neg (by simp [state])).trans (if_neg bad)
  · exact if_pos (by simp [other])

theorem refused_keeper (s : State) : (refused s).kpr.pldm = .ready ∧ (refused s).kpr.accepted = s.kpr.accepted ∧ (refused s).kpr.fw = s.kpr.fw := by
  let f := fwOf s s.kpr.comp
  let b := f.image (1 - f.active)
  obtain ⟨coll, lost, flushing, kpr⟩ := postLog_keeper s 0x21 0xFF false (fwArg s.kpr.comp 0xFF (1 - f.active) (imgVersion b) + imageCheck s s.kpr.comp b * 2 ^ 24) false
  have own : (refused s).kpr = { s.kpr with coll := coll, lost := lost, flushing := flushing, pldm := .ready } := by
    show { (fwRefused s s.kpr.comp 0xFF (1 - f.active) (imgVersion b) (imageCheck s s.kpr.comp b)).kpr with pldm := .ready } = _
    rw [fwRefused, raise_kpr, kpr]
  rw [own]
  exact ⟨rfl, rfl, rfl⟩

theorem refused_event (s : State) : evSet (refused s) evKPR 5 = true := by
  let f := fwOf s s.kpr.comp
  let b := f.image (1 - f.active)
  let t := fwRefused s s.kpr.comp 0xFF (1 - f.active) (imgVersion b) (imageCheck s s.kpr.comp b)
  have raised : evSet t evKPR 5 = true := evSet_raise_self _ _ _ (by decide)
  exact (evSet_congr (s := t) (t := refused s) rfl evKPR 5).trans raised

theorem applyComplete_spec (takes : keeperTakes s) :
    (s.kpr.pldm = .apply → exec .applyComplete s =
      .next (State.emit { s with kpr := { s.kpr with pldm := .ready, accepted := s.kpr.accepted ++ [s.kpr.comp] } } (.pldm 0x18 0 []))) ∧
    (s.kpr.pldm ≠ .apply → exec .applyComplete s = .next (s.emit (.pldm 0x18 (plWrong s) []))) := by
  refine ⟨fun state => ?_, fun other => ?_⟩ <;> refine congrArg Host.Outcome.next ((pldmRun_of_takes takes _).trans ?_)
  · exact if_neg (by simp [state])
  · exact if_pos (by simp [other])

/-! ### Activation of the Keeper's own image -/

/-- A component whose other slot becomes the active one. -/
def otherSlot (f : Fw) : Fw := { f with active := 1 - f.active, commit := bit (fieldAt (f.image (1 - f.active)) 20 1) 0 }

/-- The Keeper's other slot is active, and its restart waits. -/
def activated (s : State) : State :=
  { s with kpr := { s.kpr with
      fw := tput {} s.kpr.fw 1 (otherSlot (fwOf s 1)), restart := true, pldm := .activate, comps := [], comp := 0, accepted := [] } }

theorem activateComp_one (s : State) :
    activateComp s 1 = { s with kpr := { s.kpr with fw := tput {} s.kpr.fw 1 (otherSlot (fwOf s 1)), restart := true } } := by
  unfold activateComp
  dsimp only
  rw [if_pos rfl]
  rfl

theorem activateFirmware_eq (takes : keeperTakes s) (ready : pldmNow s = .ready) (only : s.kpr.accepted = [1]) :
    exec .activateFirmware s = .next (tryRestart ((activated s).emit (.pldm 0x1A 0 []))) := by
  have comps : [1, 2, 3, 4].filter (s.kpr.accepted.contains ·) = [1] := by
    rw [only]
    rfl
  refine congrArg Host.Outcome.next ((pldmRun_of_takes takes _).trans ((if_neg (by simp [ready])).trans ((if_neg (by simp [only])).trans ?_)))
  rw [comps, List.foldl_cons, List.foldl_nil, activateComp_one]
  rfl

theorem activateFirmware_of_other (takes : keeperTakes s) (other : pldmNow s ≠ .ready) : exec .activateFirmware s = .next (s.emit (.pldm 0x1A (plWrong s) [])) :=
  congrArg Host.Outcome.next ((pldmRun_of_takes takes _).trans (if_pos (by simp [other])))

theorem activated_active (s : State) : (fwOf (activated s) 1).active = 1 - (fwOf s 1).active := by
  have slot : fwOf (activated s) 1 = otherSlot (fwOf s 1) := tget_tput_same _ _ _ _
  rw [slot]
  rfl

theorem activated_sameBut (s : State) : SameBut [.kpr] s (activated s) := update_kpr s _

/-- While a flush runs, the restart waits. -/
theorem activateFirmware_waits (takes : keeperTakes s) (ready : pldmNow s = .ready) (only : s.kpr.accepted = [1]) (flushing : s.kpr.flushing ≠ none) :
    exec .activateFirmware s = .next ((activated s).emit (.pldm 0x1A 0 [])) := by
  rw [activateFirmware_eq takes ready only]
  refine congrArg Host.Outcome.next (if_neg ?_)
  show ¬ (true && s.kpr.flushing.isNone && _) = true
  simp [flushing]

theorem activateFirmware_restarts (takes : keeperTakes s) (ready : pldmNow s = .ready) (only : s.kpr.accepted = [1]) (flushing : s.kpr.flushing = none)
    (quiet : s.dmk.prog = none) : exec .activateFirmware s = .next (keeperRestart ((activated s).emit (.pldm 0x1A 0 [])) 1) := by
  rw [activateFirmware_eq takes ready only]
  refine congrArg Host.Outcome.next (if_pos ?_)
  show (true && s.kpr.flushing.isNone && s.dmk.prog.isNone) = true
  simp [flushing, quiet]

/-! ### Cancelling -/

theorem imageCut_of_ne (other : s.kpr.pldm ≠ .download) : imageCut s = s := if_neg (by simp [other])

theorem cancelUpdateComponent_spec (takes : keeperTakes s) :
    (s.kpr.pldm = .verify ∨ s.kpr.pldm = .apply → exec .cancelUpdateComponent s = .next ((setPldm s .ready).emit (.pldm 0x1C 0 []))) ∧
    (s.kpr.pldm = .idle → exec .cancelUpdateComponent s = .next (s.emit (.pldm 0x1C (plWrong s) []))) := by
  refine ⟨fun state => ?_, fun idle => ?_⟩ <;> refine congrArg Host.Outcome.next ((pldmRun_of_takes takes _).trans ?_)
  · have stays : imageCut s = s := imageCut_of_ne (by rcases state with state | state <;> simp [state])
    rw [stays]
    exact if_pos (by rcases state with state | state <;> simp [state])
  · exact if_neg (by simp [idle])

theorem cancelUpdate_spec (takes : keeperTakes s) :
    ((s.kpr.pldm = .verify ∨ s.kpr.pldm = .apply ∨ s.kpr.pldm = .ready ∨ s.kpr.pldm = .learn) →
      exec .cancelUpdate s = .next ((pldmIdle s).emit (.pldm 0x1D 0 []))) ∧
    (s.kpr.pldm = .idle → exec .cancelUpdate s = .next (s.emit (.pldm 0x1D (plWrong s) []))) := by
  refine ⟨fun state => ?_, fun idle => ?_⟩ <;> refine congrArg Host.Outcome.next ((pldmRun_of_takes takes _).trans ?_)
  · have stays : imageCut s = s := imageCut_of_ne (by rcases state with state | state | state | state <;> simp [state])
    have now : pldmNow s = s.kpr.pldm := pldmNow_of_ne (by rcases state with state | state | state | state <;> simp [state])
    rw [stays, now]
    exact if_neg (by rcases state with state | state | state | state <;> simp [state])
  · have now : pldmNow s = .idle := (pldmNow_of_ne (by simp [idle])).trans idle
    exact if_pos (by simp [now])

end Update

/-- Settles O51: each message of PLDM in the state that takes it. -/
theorem firmwareUpdate : Obligations.FirmwareUpdate := by
  unfold Obligations.FirmwareUpdate
  intro s takes f ans
  obtain ⟨verified, refused_, noVerify⟩ := verifyComplete_spec takes
  refine ⟨⟨_, queryDeviceIdentifiers_eq takes, rfl, ?_⟩, getFirmwareParameters_spec takes, getStatus_spec takes, (requestUpdate_spec takes).1,
      (requestUpdate_spec takes).2,
    fun cs => (passComponentTable_spec takes cs).1, fun cs => (passComponentTable_spec takes cs).2, fun c ready named => ?_, fun d download short fits => ?_,
    fun d download => (requestFirmwareData_spec takes d download).2, (transferComplete_spec takes).1, verified, fun state bad => ?_,
        (applyComplete_spec takes).1,
    fun ready only flushing => ?_, fun ready only flushing quiet => ?_, (cancelUpdateComponent_spec takes).1, (cancelUpdate_spec takes).1, fun idle => ?_⟩
  · exact (fieldAt_append_right (off := 0) (length_leBytes 2 _)).trans (fieldAt_leBytes 2 _)
  · refine ⟨_, updateComponent_eq takes ready named, rfl, rfl, fun slots => ?_, fun slots => ?_, ?_, update_kpr s _⟩ <;> rw [fwOf_updating]
    · exact (image_put_inactive slots []).1
    · exact (image_put_inactive slots []).2
    · exact put_active _ _ _
  · refine ⟨_, (requestFirmwareData_spec takes d download).1 short fits, fun slots => ?_, update_kpr s _⟩
    rw [downloaded, fwOf_setFw]
    exact image_put_inactive slots _
  · obtain ⟨pldm, accepted, fw⟩ := refused_keeper s
    exact ⟨_, refused_ state bad, pldm, refused_event s, accepted, fw⟩
  · exact ⟨_, activateFirmware_waits takes ready only flushing, rfl, rfl, activated_active s, activated_sameBut s⟩
  · exact ⟨_, activateFirmware_restarts takes ready only flushing quiet, rfl, rfl, activated_active s⟩
  · have wrong := plWrong_of_idle idle
    have now : pldmNow s ≠ .ready := by simp [pldmNow_of_ne, idle]
    have not_ {p : Pldm} (other : p ≠ .idle) : s.kpr.pldm ≠ p := by
      rw [idle]
      exact other.symm
    rw [← wrong]
    exact ⟨(cancelUpdate_spec takes).2 idle, (transferComplete_spec takes).2 (not_ (by decide)), noVerify (not_ (by decide)),
        (applyComplete_spec takes).2 (not_ (by decide)),
      activateFirmware_of_other takes now, (cancelUpdateComponent_spec takes).2 idle⟩

end Sys2Proof.Proofs

/-! SUPPORT. The start of a module reset (R504, R505), for O52 and O54. -/
namespace Sys2Proof.Proofs

open Sys2Proof.Machine Sys2Proof.Laws

/-! ### A warm boot begins (R472, R474) -/

/-- The boot that a module reset begins. -/
def warmBoot (b : Boot) : Boot := { kind := 2, number := b.number + 1, result := 0, stage := 1, steps := [⟨2, 0, false⟩] }

theorem journalPut_boot (s : State) (step level outcome ms : Nat) (detail : BitVec 32) : (journalPut s step level outcome ms detail).kpr.boot = s.kpr.boot := by
  unfold journalPut
  split <;> rfl

theorem journalPuts_boot (l : List BStep) (s : State) : (l.foldl (fun s x => journalPut s x.id x.level 5 0 0) s).kpr.boot = s.kpr.boot := by
  induction l generalizing s with
  | nil => rfl
  | cons x l ih => rw [List.foldl_cons, ih, journalPut_boot]

/-- The first step of a stage that runs is its only one. -/
theorem runLevel_boot {s : State} (ms id lvl : Nat) (steps : s.kpr.boot.steps = []) :
    (runLevel s ms id lvl).kpr.boot = { s.kpr.boot with steps := [⟨id, lvl, false⟩] } := by
  unfold runLevel
  extract_lets -merge +onlyGivenNames k s1 b x steps'
  have boot : s1.kpr.boot = s.kpr.boot := by
    unfold s1
    split <;> rfl
  have alone : steps' = [⟨id, lvl, false⟩] := by
    have none_ : b.steps = [] := by rw [show b.steps = s1.kpr.boot.steps from rfl, boot, steps]
    simp only [steps', none_, List.any_nil, Bool.false_eq_true, if_false, List.nil_append]
    rfl
  rw [journalPut_boot]
  show { s1.kpr.boot with steps := steps' } = _
  rw [boot, alone]

/-- The first step of a warm boot runs at level 0, whatever level is stored. -/
theorem startStep_two_boot {s : State} (running : s.kpr.boot.result = 0) (steps : s.kpr.boot.steps = []) :
    (startStep 0 s 2).kpr.boot = { s.kpr.boot with steps := [⟨2, 0, false⟩] } := by
  have last (n : Nat) : min (stepMax 2) n = 0 := Nat.zero_min n
  unfold startStep
  dsimp only
  rw [if_neg (by simp [running]), if_neg (by simp), if_neg (by simp [stepFatal]), last, runLevel_boot 0 2 0 steps]

theorem beginBoot_boot (s : State) : (beginBoot s 2).kpr.boot = warmBoot s.kpr.boot := by
  unfold beginBoot
  extract_lets -merge +onlyGivenNames b left k1 k2 s1 s2
  have boot : s2.kpr.boot = { kind := 2, number := s.kpr.boot.number + 1, result := 0, stage := 1 } := journalPuts_boot left s1
  have stage : startStage s2 0 1 = startStep 0 (setBoot s2 { s2.kpr.boot with stage := 1, steps := [] }) 2 := by
    have kind : s2.kpr.boot.kind = 2 := by rw [boot]
    unfold startStage
    dsimp only
    rw [kind]
    rfl
  rw [stage, startStep_two_boot (by show s2.kpr.boot.result = 0; rw [boot]) rfl]
  show { s2.kpr.boot with stage := 1, steps := [⟨2, 0, false⟩] } = _
  rw [boot]
  rfl

/-! ### What a module reset clears (R504) -/

theorem emptied_warmClear (s : State) : Emptied (warmClear s) := ⟨rfl, rfl, rfl, rfl, rfl, rfl, rfl, rfl, rfl, rfl, rfl, rfl, rfl, rfl, rfl, rfl⟩

theorem emptied_congr {s t : State} (h : Emptied s) (same : SameBut [.kpr, .dmk, .hng, .regs, .out, .pci, .logSeq, .resets] s t) : Emptied t := by
  obtain ⟨rings, ctxs, events, tables, cores, groups, sectors, res, gens, sat, sm, ls, clm, binaries, frz, reqs⟩ := h
  refine ⟨?_, ?_, ?_, ?_, ?_, ?_, ?_, ?_, ?_, ?_, ?_, ?_, ?_, ?_, ?_, ?_⟩
  · rw [same .rings (by simp), rings]
  · rw [same .ctxs (by simp), ctxs]
  · rw [same .events (by simp), events]
  · rw [same .tables (by simp), tables]
  · rw [same .cores (by simp), cores]
  · rw [same .groups (by simp), groups]
  · rw [same .sectors (by simp), sectors]
  · rw [same .res (by simp), res]
  · rw [same .gens (by simp), gens]
  · rw [same .sat (by simp), sat]
  · rw [same .sm (by simp), sm]
  · rw [same .ls (by simp), ls]
  · rw [same .clm (by simp), clm]
  · rw [same .binaries (by simp), binaries]
  · rw [same .frz (by simp), frz]
  · rw [same .chn (by simp), reqs]

/-- The record that a reset takes when it begins. -/
def recorded (s : State) (r : RunReset) : RunReset := { r with logSeq := s.logSeq }

/-- Without NVM nothing is flushed. -/
theorem startFlush_of_broken {s : State} (broken : s.kpr.nvmOk = false) : startFlush s = s := if_pos (by simp [broken])

theorem postLog_flushing {s : State} {typ sec arg : Nat} {fatal more : Bool} (broken : s.kpr.nvmOk = false) :
    (postLog s typ sec fatal arg more).kpr.flushing = s.kpr.flushing := by
  have both (c : Prop) [Decidable c] (u : State) (hu : u.kpr.nvmOk = false) : (if c then startFlush u else u).kpr.flushing = u.kpr.flushing := by
    split
    · rw [startFlush_of_broken hu]
    · rfl
  unfold postLog
  extract_lets -merge +onlyGivenNames idle
  split
  · rfl
  · extract_lets -merge +onlyGivenNames k v w
    have held : v.kpr.flushing = s.kpr.flushing ∧ v.kpr.nvmOk = s.kpr.nvmOk := by
      unfold v
      split <;> exact ⟨rfl, rfl⟩
    exact (both _ w (held.2.trans broken)).trans held.1

section Begin
variable {s : State} {r : RunReset}

theorem beginReset_module (own : r.part = false) (wide : 4 ≤ r.rung) : beginReset s r =
    { postLog s 0x80 0xFF true (r.rung + r.engine * 2 ^ 8 + r.ctx * 2 ^ 16 + r.cause * 2 ^ 32) with resets := s.resets ++ [recorded s r] } := by
  have fatal : decide (4 ≤ r.rung) = true := by simpa using wide
  unfold beginReset
  rw [if_neg (by simp [own])]
  dsimp only
  rw [if_neg (Nat.not_lt.2 wide), if_neg (show ¬ r.rung ≤ 3 by omega), fatal, postLog_resets]
  rfl

/-- Absorbed resets are counted, and those that were not escalated take their record. -/
def absorbOne (s : State) (r : RunReset) : State := hngCount (if r.escalated then s else errRecord s r 2) 7 1

theorem absorbOne_sameBut (s : State) (r : RunReset) : SameBut [.hng, .ctr] s (absorbOne s r) := by
  unfold absorbOne
  split
  · exact same_mono (bump_sameBut s _ 1) (by simp)
  · exact same_mono (same_trans (update_hng s _) (bump_sameBut _ _ 1)) (by simp)

theorem absorbOne_dumping (s : State) (r : RunReset) : (absorbOne s r).hng.dumpSlot = s.hng.dumpSlot := by
  unfold absorbOne
  split <;> rfl

/-- A reset that a wider one takes in. -/
def absorbMark (p : RunReset → Bool) (r : RunReset) : RunReset := if p r then { r with part := true, cmds := [] } else r

def withResets (s : State) (l : List RunReset) : State := { s with resets := l }

theorem absorb_eq (s : State) (p : RunReset → Bool) :
    (absorb s p).1 = withResets ((s.resets.filter (fun r => p r && !r.part)).foldl absorbOne s) (s.resets.map (absorbMark p)) := by
  have kept := same_foldl absorbOne absorbOne_sameBut (s.resets.filter (fun r => p r && !r.part)) s .resets (by simp)
  have eq : (absorb s p).1 = withResets ((s.resets.filter (fun r => p r && !r.part)).foldl absorbOne s)
      (((s.resets.filter (fun r => p r && !r.part)).foldl absorbOne s).resets.map (absorbMark p)) := rfl
  rw [eq, show ((s.resets.filter (fun r => p r && !r.part)).foldl absorbOne s).resets = s.resets from kept]

/-- An escalated reset has its record already. -/
theorem foldl_absorbOne_hng {l : List RunReset} (escalated : ∀ r ∈ l, r.escalated = true) (s : State) : (l.foldl absorbOne s).hng = s.hng := by
  induction l generalizing s with
  | nil => rfl
  | cons r l ih =>
    rw [List.foldl_cons, ih fun x hx => escalated x (List.mem_cons_of_mem _ hx), absorbOne, if_pos (escalated r (List.mem_cons_self ..))]
    rfl

/-- The state in which the work of a module reset is cleared. -/
def absorbed (s : State) (r : RunReset) : State :=
  let a := absorb (beginReset s r) (fun x => decide (x.rung < r.rung))
  { a.1 with resets := a.1.resets.filter (fun x => x.rung == r.rung) }

theorem absorbed_resets (own : r.part = false) (wide : 4 ≤ r.rung) (narrower : ∀ x ∈ s.resets, x.rung < r.rung) : (absorbed s r).resets = [recorded s r] := by
  show ((absorb (beginReset s r) _).1.resets).filter _ = _
  rw [absorb_eq, beginReset_module own wide]
  show ((s.resets ++ [recorded s r]).map (absorbMark (fun x => decide (x.rung < r.rung)))).filter (fun x => x.rung == r.rung) = _
  rw [List.map_append, List.filter_append]
  have gone : (s.resets.map (absorbMark (fun x => decide (x.rung < r.rung)))).filter (fun x => x.rung == r.rung) = [] := by
    rw [List.filter_eq_nil_iff]
    intro x hx
    obtain ⟨y, hy, rfl⟩ := List.mem_map.1 hx
    have less := narrower y hy
    simp [absorbMark, less]
    omega
  rw [gone]
  simp [recorded, absorbMark]

theorem absorbed_sameBut (s : State) (r : RunReset) (own : r.part = false) (wide : 4 ≤ r.rung) :
    SameBut [.hng, .ctr, .resets, .log, .logSeq, .kpr] s (absorbed s r) := by
  have begun : SameBut [.log, .logSeq, .kpr, .resets] s (beginReset s r) := by
    rw [beginReset_module own wide]
    exact same_mono (same_trans (postLog_same _ _ _ _ _ _) (update_resets _ _)) (by simp)
  have taken : SameBut [.hng, .ctr, .resets] (beginReset s r) (absorbed s r) := by
    unfold absorbed
    dsimp only
    rw [absorb_eq]
    exact same_mono (same_trans (same_foldl absorbOne absorbOne_sameBut _ _) (same_trans (update_resets _ _) (update_resets _ _))) (by simp)
  exact same_mono (same_trans begun taken) (by simp)

theorem absorbed_posted (own : r.part = false) (wide : 4 ≤ r.rung) :
    let u := postLog s 0x80 0xFF true (r.rung + r.engine * 2 ^ 8 + r.ctx * 2 ^ 16 + r.cause * 2 ^ 32)
    (absorbed s r).log = u.log ∧ (absorbed s r).kpr = u.kpr := by
  have taken : SameBut [.hng, .ctr, .resets] (beginReset s r) (absorbed s r) := by
    unfold absorbed
    dsimp only
    rw [absorb_eq]
    exact same_mono (same_trans (same_foldl absorbOne absorbOne_sameBut _ _) (same_trans (update_resets _ _) (update_resets _ _))) (by simp)
  refine ⟨(taken .log (by simp)).trans ?_, (taken .kpr (by simp)).trans ?_⟩ <;> rw [beginReset_module own wide]

theorem absorbed_errs (own : r.part = false) (wide : 4 ≤ r.rung) (escalated : ∀ x ∈ s.resets, x.escalated = true) : (absorbed s r).hng = s.hng := by
  have each : ∀ x ∈ ((beginReset s r).resets.filter (fun x => decide (x.rung < r.rung) && !x.part)), x.escalated = true := by
    intro x hx
    obtain ⟨mem, less⟩ := List.mem_filter.1 hx
    rw [beginReset_module own wide] at mem
    rcases List.mem_append.1 mem with old | new
    · exact escalated x old
    · rw [List.mem_singleton.1 new] at less
      simp [recorded] at less
  unfold absorbed
  dsimp only
  rw [absorb_eq]
  refine (foldl_absorbOne_hng each _).trans ?_
  rw [beginReset_module own wide]
  exact postLog_hng _ _ _ _ _ _

/-- The module as a reset of rung 4 or 5 stops it, before the dump. -/
def moduleStops (s : State) (r : RunReset) : State :=
  if (warmClear (absorbed s r)).kpr.boot.result = 0 then stopBoot (warmClear (absorbed s r)) else warmClear (absorbed s r)

/-- A crash dump begins, for the reset that runs. -/
def dumpBegins (s : State) (r : RunReset) : State :=
  let slot := if s.hng.dumps.isEmpty then 0 else (s.hng.dumpSlot + 1) % 4
  let u := updReset s r.rung r.target (fun x => { x with dump := slot })
  { u with hng := { u.hng with dumping := true, dumpSlot := slot, dumps := tput (0, 0) u.hng.dumps slot (1, u.hng.errSeq.toNat) } }

theorem startModuleReset_eq {dump : Bool} (narrower : ∀ x ∈ s.resets, x.rung < r.rung) (up : s.kpr.st ≠ .restarting) (quiet : s.dmk.prog = none)
    (idle : s.hng.dumping = false) : startModuleReset s r dump =
      if dump && bit (hngCtl s) 0 && (moduleStops s r).kpr.runs then dumpBegins (moduleStops s r) r else afterDump (moduleStops s r) := by
  have free_ : ¬ s.resets.any (fun x => decide (r.rung ≤ x.rung)) = true := by
    rw [List.any_eq_true]
    rintro ⟨x, mem, wide⟩
    have less := narrower x mem
    simp at wide
    omega
  have goes : ¬ (s.kpr.st == .restarting || s.dmk.prog.isSome) = true := by simp [up, quiet]
  have none_ : ¬ s.hng.dumping = true := by simp [idle]
  exact (if_neg free_).trans ((if_neg goes).trans (if_neg none_))

theorem moduleStops_sameBut (s : State) (r : RunReset) : SameBut [.kpr] (warmClear (absorbed s r)) (moduleStops s r) := by
  unfold moduleStops
  split
  · exact update_kpr _ _
  · exact same_refl _ _

/-- Of the Keeper, the stop of the module keeps what its boot, its log and its dump turn on. -/
theorem moduleStops_keeper (own : r.part = false) (wide : 4 ≤ r.rung) :
    (moduleStops s r).kpr.runs = s.kpr.runs ∧ (moduleStops s r).kpr.nvmOk = s.kpr.nvmOk ∧ (moduleStops s r).kpr.boot.number = s.kpr.boot.number ∧
      (s.kpr.nvmOk = false → (moduleStops s r).kpr.flushing = s.kpr.flushing) := by
  have stopped : (moduleStops s r).kpr.runs = (absorbed s r).kpr.runs ∧ (moduleStops s r).kpr.nvmOk = (absorbed s r).kpr.nvmOk ∧
      (moduleStops s r).kpr.boot.number = (absorbed s r).kpr.boot.number ∧ (moduleStops s r).kpr.flushing = (absorbed s r).kpr.flushing := by
    unfold moduleStops
    split <;> exact ⟨rfl, rfl, rfl, rfl⟩
  obtain ⟨runs, nvm, number, flushing⟩ := stopped
  rw [runs, nvm, number, flushing, (absorbed_posted own wide).2]
  obtain ⟨coll, lost, fl, kpr⟩ := postLog_keeper s 0x80 0xFF true (r.rung + r.engine * 2 ^ 8 + r.ctx * 2 ^ 16 + r.cause * 2 ^ 32) false
  refine ⟨by rw [kpr], by rw [kpr], by rw [kpr], fun broken => ?_⟩
  exact postLog_flushing broken

/-- What stands once the module is stopped, whatever follows. -/
structure Standing (s t : State) (r : RunReset) : Prop where
  emptied : Emptied t
  stopped : t.hng.stopped = true
  fuses : t.dmk.fuses = s.dmk.fuses
  count : t.flash.count = s.flash.count
  litGen : t.ll.litGen = s.ll.litGen
  logged : keeperTakes s → Logged t s.now 0x80 0xFF (r.rung + r.engine * 2 ^ 8 + r.ctx * 2 ^ 16 + r.cause * 2 ^ 32)
  errs : (∀ x ∈ s.resets, x.escalated = true) → t.hng.errs = s.hng.errs

theorem standing_moduleStops (own : r.part = false) (wide : 4 ≤ r.rung) : Standing s (moduleStops s r) r := by
  have kept := absorbed_sameBut s r own wide
  have stop := moduleStops_sameBut s r
  have hng : (moduleStops s r).hng = (warmClear (absorbed s r)).hng := stop .hng (by simp)
  have dmk : (moduleStops s r).dmk = (warmClear (absorbed s r)).dmk := stop .dmk (by simp)
  have flash : (moduleStops s r).flash = (warmClear (absorbed s r)).flash := stop .flash (by simp)
  have ll : (moduleStops s r).ll = (warmClear (absorbed s r)).ll := stop .ll (by simp)
  refine ⟨emptied_congr (emptied_warmClear (absorbed s r)) (same_mono stop (by simp)), ?_, ?_, ?_, ?_, fun takes => ?_, fun escalated => ?_⟩
  · rw [hng]
    rfl
  · rw [dmk]
    show (absorbed s r).dmk.fuses = _
    rw [show (absorbed s r).dmk = s.dmk from kept .dmk (by simp)]
  · rw [flash]
    show (absorbed s r).flash.count = _
    rw [show (absorbed s r).flash = s.flash from kept .flash (by simp)]
  · rw [ll]
    show (absorbed s r).ll.litGen = _
    rw [show (absorbed s r).ll = s.ll from kept .ll (by simp)]
  · refine logged_congr (u := postLog s 0x80 0xFF true (r.rung + r.engine * 2 ^ 8 + r.ctx * 2 ^ 16 + r.cause * 2 ^ 32)) (logged_postLog takes rfl rfl) ?_
    exact (stop .log (by simp)).trans (absorbed_posted own wide).1
  · rw [hng]
    show (absorbed s r).hng.errs = _
    rw [absorbed_errs own wide escalated]

/-- What follows the stop keeps what stands. -/
theorem Standing.congr {t u : State} (h : Standing s t r) (same : SameBut [.kpr, .dmk, .hng, .regs, .out, .pci, .logSeq, .resets] t u)
    (stopped : u.hng.stopped = t.hng.stopped) (fuses : u.dmk.fuses = t.dmk.fuses) (errs : u.hng.errs = t.hng.errs) : Standing s u r := by
  refine ⟨emptied_congr h.emptied same, stopped.trans h.stopped, fuses.trans h.fuses, ?_, ?_, fun takes => logged_congr (h.logged takes) (same .log (by simp)),
    fun escalated => errs.trans (h.errs escalated)⟩
  · rw [same .flash (by simp), h.count]
  · rw [same .ll (by simp), h.litGen]

theorem moduleStops_resets (own : r.part = false) (wide : 4 ≤ r.rung) (narrower : ∀ x ∈ s.resets, x.rung < r.rung) :
    (moduleStops s r).resets = [recorded s r] :=
  (moduleStops_sameBut s r .resets (by simp)).trans (absorbed_resets own wide narrower)

/-- What goes on once the module stands, of a reset of rung `rung`: the warm boot, or the flush before the power cycle. -/
def GoesOn (s t : State) (rung : Nat) : Prop :=
  (rung = 4 → t.kpr.boot = warmBoot s.kpr.boot) ∧ (rung = 5 → s.kpr.nvmOk = true → t.hng.pwrWait = true ∧ t.kpr.flushing ≠ none) ∧
  (rung = 5 → s.kpr.nvmOk = false → s.kpr.flushing = none → t.hng.pwrReq = true ∧ evSet t evHNG 8 = true)

theorem afterDump_of_warm {w : State} (warm : ∀ x ∈ w.resets, x.rung ≠ 5) : afterDump w = beginBoot w 2 :=
  if_neg (by simpa using warm)

/-- The state of a power cycle's flush. -/
def cycleWaits (w : State) : State := { startFlush w with hng := { (startFlush w).hng with pwrWait := true } }

theorem afterDump_of_cycle {w : State} {x : RunReset} (mem : x ∈ w.resets) (cycle : x.rung = 5) :
    afterDump w = if (startFlush w).kpr.flushing.isSome then cycleWaits w else requestCycle (startFlush w) :=
  if_pos (List.any_eq_true.2 ⟨x, mem, by simp [cycle]⟩)

theorem requestCycle_sameBut (w : State) : SameBut [.hng, .regs, .out, .pci] w (requestCycle w) :=
  same_mono (same_trans (update_hng w _) (raise_same _ _ _)) (by simp)

theorem requestCycle_hng (w : State) : (requestCycle w).hng = { w.hng with pwrReq := true, pwrWait := false } := raise_hng _ _ _

theorem startFlush_flushes {w : State} (nvm : w.kpr.nvmOk = true) : (startFlush w).kpr.flushing ≠ none := by
  cases running : w.kpr.flushing with
  | some q =>
    have stays : startFlush w = w := if_pos (by simp [running])
    rw [stays, running]
    exact nofun
  | none =>
    have starts : startFlush w = { w with kpr := { w.kpr with flushing := some w.logSeq }, logSeq := w.logSeq + 1 } := if_neg (by simp [running, nvm])
    rw [starts]
    exact nofun

/-- What follows the stop without a dump: the module still stands, its reset runs on, and it goes on. -/
theorem afterDump_stands (own : r.part = false) (rung : r.rung = 4 ∨ r.rung = 5) (narrower : ∀ x ∈ s.resets, x.rung < r.rung) :
    let t := afterDump (moduleStops s r)
    Standing s t r ∧ t.resets = [recorded s r] ∧ GoesOn s t r.rung := by
  intro t
  have wide : 4 ≤ r.rung := by omega
  have stands := standing_moduleStops (s := s) own wide
  have resets := moduleStops_resets own wide narrower
  obtain ⟨runs, nvm, number, flushing⟩ := moduleStops_keeper (s := s) own wide
  rcases rung with four | five
  · have eq : t = beginBoot (moduleStops s r) 2 := afterDump_of_warm (by rw [resets]; simp [recorded, four])
    obtain ⟨dmk, same⟩ := beginBoot_spec (moduleStops s r) 2
    rw [eq]
    refine ⟨stands.congr (same_mono same (by simp)) (by rw [same .hng (by simp)]) (by rw [dmk]) (by rw [same .hng (by simp)]),
      (same .resets (by simp)).trans resets, fun _ => ?_, fun five => ?_, fun five => ?_⟩
    · rw [beginBoot_boot, warmBoot, number]
      rfl
    · omega
    · omega
  · have eq : t = if (startFlush (moduleStops s r)).kpr.flushing.isSome then cycleWaits (moduleStops s r) else requestCycle (startFlush (moduleStops s r)) :=
      afterDump_of_cycle (x := recorded s r) (by rw [resets]; simp) five
    have flush := startFlush_same (moduleStops s r)
    rw [eq]
    by_cases flushes : (startFlush (moduleStops s r)).kpr.flushing.isSome = true
    · rw [if_pos flushes]
      have same : SameBut [.hng, .kpr, .logSeq] (moduleStops s r) (cycleWaits (moduleStops s r)) := same_mono (same_trans flush (update_hng _ _)) (by simp)
      have hng : (cycleWaits (moduleStops s r)).hng = { (moduleStops s r).hng with pwrWait := true } :=
        congrArg (fun h : Hang => { h with pwrWait := true }) (flush .hng (by simp))
      refine ⟨stands.congr (same_mono same (by simp)) (by rw [hng]) (by rw [same .dmk (by simp)]) (by rw [hng]),
          (same .resets (by simp)).trans resets, fun four => ?_,
        fun _ ok => ⟨rfl, startFlush_flushes (nvm.trans ok)⟩, fun _ broken none_ => ?_⟩
      · omega
      · rw [startFlush_of_broken (nvm.trans broken), flushing broken, none_] at flushes
        simp at flushes
    · rw [if_neg flushes]
      have same : SameBut [.hng, .regs, .out, .pci, .kpr, .logSeq] (moduleStops s r) (requestCycle (startFlush (moduleStops s r))) :=
        same_mono (same_trans flush (requestCycle_sameBut _)) (by simp)
      have hng : (requestCycle (startFlush (moduleStops s r))).hng = { (moduleStops s r).hng with pwrReq := true, pwrWait := false } :=
        (requestCycle_hng _).trans (congrArg (fun h : Hang => { h with pwrReq := true, pwrWait := false }) (flush .hng (by simp)))
      refine ⟨stands.congr (same_mono same (by simp)) (by rw [hng]) (by rw [same .dmk (by simp)]) (by rw [hng]),
          (same .resets (by simp)).trans resets, fun four => ?_,
        fun _ ok => ?_, fun _ _ _ => ⟨by rw [hng], evSet_raise_self _ _ _ (by decide)⟩⟩
      · omega
      · exact absurd (Option.isSome_iff_ne_none.2 (startFlush_flushes (nvm.trans ok))) flushes

theorem dumpBegins_sameBut (w : State) (r : RunReset) : SameBut [.resets, .hng] w (dumpBegins w r) :=
  same_mono (same_trans (update_resets w _) (update_hng _ _)) (by simp)

theorem dumpBegins_slot (w : State) (r : RunReset) : (tget (0, 0) (dumpBegins w r).hng.dumps (dumpBegins w r).hng.dumpSlot).1 = 1 := by
  unfold dumpBegins
  dsimp only
  rw [tget_tput_same]

/-- A reset of rung 4 or 5 begins. -/
theorem startModuleReset_begins {dump : Bool} (own : r.part = false) (rung : r.rung = 4 ∨ r.rung = 5) (now : r.start = s.now)
    (narrower : ∀ x ∈ s.resets, x.rung < r.rung) (up : s.kpr.st ≠ .restarting) (quiet : s.dmk.prog = none) (idle : s.hng.dumping = false) :
    ModuleBegins s (startModuleReset s r dump) r.rung r.cause r.by_ r.engine r.ctx dump ∧
      ((∀ x ∈ s.resets, x.escalated = true) → (startModuleReset s r dump).hng.errs = s.hng.errs) := by
  have wide : 4 ≤ r.rung := by omega
  have runs := (moduleStops_keeper (s := s) own wide).1
  rw [startModuleReset_eq narrower up quiet idle]
  split
  · rename_i dumps
    rw [runs] at dumps
    simp only [Bool.and_eq_true] at dumps
    have stands : Standing s (dumpBegins (moduleStops s r) r) r :=
      (standing_moduleStops own wide).congr (same_mono (dumpBegins_sameBut _ _) (by simp)) rfl rfl rfl
    have resets : (dumpBegins (moduleStops s r) r).resets = (moduleStops s r).resets.map (fun x =>
        if x.rung = r.rung && x.target = r.target then { x with dump := (dumpBegins (moduleStops s r) r).hng.dumpSlot } else x) := rfl
    rw [moduleStops_resets own wide narrower, List.map_singleton] at resets
    refine ⟨⟨stands.emptied, stands.stopped, stands.fuses, stands.count, stands.litGen, ⟨_, resets, ?_⟩, stands.logged, fun _ _ _ => ⟨rfl, ?_⟩,
        fun none_ => ?_⟩, stands.errs⟩
    · rw [if_pos (by simp [recorded])]
      exact ⟨rfl, rfl, rfl, rfl, rfl, now⟩
    · exact dumpBegins_slot _ _
    · rcases none_ with none_ | none_ <;> simp [none_] at dumps
  · rename_i noDump
    rw [runs] at noDump
    obtain ⟨stands, resets, boot, cycle, request⟩ := afterDump_stands own rung narrower
    refine ⟨⟨stands.emptied, stands.stopped, stands.fuses, stands.count, stands.litGen, ⟨_, resets, rfl, rfl, rfl, rfl, rfl, now⟩, stands.logged,
        fun on enabled up_ => ?_,
      fun _ => ⟨boot, cycle, request⟩⟩, stands.errs⟩
    simp [on, enabled, up_] at noDump

end Begin

end Sys2Proof.Proofs

/-! SUPPORT. Module resets, crash dumps and the test port (R502 to R511, R526), for O54; escalation, for O52 too. -/
namespace Sys2Proof.Proofs

open Sys2Proof.Machine Sys2Proof.Laws

/-! ### HNG_CTL -/

theorem hngCtl_setReg {s : State} {off : Nat} {v : BitVec 64} (other : off ≠ 0x90000) : hngCtl (setReg s off v) = hngCtl s :=
  congrArg BitVec.toNat (tget_tput_other _ _ _ _ _ _ other.symm)

theorem hngCtl_raise (s : State) (i : Nat) : hngCtl (raise s evHNG i) = hngCtl s :=
  congrArg BitVec.toNat (regs_raise_other s evHNG i _ 0x90000 (by decide))

theorem hngCtl_congr {s t : State} (regs : t.regs = s.regs) : hngCtl t = hngCtl s := by rw [hngCtl, hngCtl, regAt, regAt, regs]

theorem autoMax_congr {s t : State} (ctl : hngCtl t = hngCtl s) : autoMax t = autoMax s := by rw [autoMax, autoMax, ctl]

/-! ### What a reset that begins is judged by -/

/-- The beginning of a module reset turns on no more of the state before it than these. -/
theorem moduleBegins_congr {s u t : State} {rung cause by_ engine ctx : Nat} {dump : Bool} (h : ModuleBegins u t rung cause by_ engine ctx dump)
    (kpr : u.kpr = s.kpr) (dmk : u.dmk = s.dmk) (flash : u.flash = s.flash) (ll : u.ll = s.ll) (ctl : hngCtl u = hngCtl s) :
    ModuleBegins s t rung cause by_ engine ctx dump := by
  have now : u.now = s.now := by rw [State.now, State.now, flash]
  rw [ModuleBegins, keeperTakes, kpr, dmk, flash, ll, ctl, now] at h
  exact h

/-- The fields of HNG_STATUS that show a request. -/
def requested (t : State) (rung target : Nat) : State := { t with hng := { t.hng with reqRung := rung, reqTarget := target } }

theorem moduleBegins_requested {s t : State} {rung cause by_ engine ctx : Nat} {dump : Bool} (h : ModuleBegins s t rung cause by_ engine ctx dump) (n target : Nat) :
    ModuleBegins s (requested t n target) rung cause by_ engine ctx dump := by
  obtain ⟨emptied, stopped, fuses, count, litGen, resets, logged, dumps, follows⟩ := h
  refine ⟨emptied_congr emptied (same_mono (update_hng t _) (by simp)), stopped, fuses, count, litGen, resets, logged, dumps, fun none_ => ?_⟩
  obtain ⟨warm, cycle, request⟩ := follows none_
  refine ⟨warm, cycle, fun five broken idle => ⟨(request five broken idle).1, ?_⟩⟩
  exact (evSet_congr (s := t) rfl evHNG 8).trans (request five broken idle).2

/-! ### The host's requests (R504, R505) -/

section Host
variable {s : State} {rung : Nat} {dump : Bool}

theorem hngWritten_sameBut (s : State) (rung target : Nat) (dump : Bool) : SameBut [.regs] s (hngWritten s rung target dump) := setReg_same _ _ _

/-- A module reset that the request of `s` starts, once its register is written. -/
def hostStarts (s u : State) (rung : Nat) (dump : Bool) : State := startModuleReset u (moduleRung s rung stCTXRESET 0) dump

theorem hngModule_eq (s : State) (rung : Nat) (dump : Bool) : hngModule s rung dump =
    if (hostStarts s (hngWritten s rung 0 dump) rung dump).resets.any (fun r => r.rung == rung) then
      requested (hostStarts s (hngWritten s rung 0 dump) rung dump) rung 0
    else hostStarts s (hngWritten s rung 0 dump) rung dump := rfl

theorem hostStarts_begins {u : State} (same : SameBut [.regs] s u) (ctl : hngCtl u = hngCtl s) (wide : rung = 4 ∨ rung = 5)
    (narrower : ∀ r ∈ s.resets, r.rung < rung) (up : s.kpr.st ≠ .restarting) (quiet : s.dmk.prog = none) (idle : s.hng.dumping = false) :
    ModuleBegins s (hostStarts s u rung dump) rung stCTXRESET 0 0xFF 0 dump := by
  have kpr : u.kpr = s.kpr := same .kpr (by simp)
  have dmk : u.dmk = s.dmk := same .dmk (by simp)
  have hng : u.hng = s.hng := same .hng (by simp)
  have flash : u.flash = s.flash := same .flash (by simp)
  have resets : u.resets = s.resets := same .resets (by simp)
  have now : (moduleRung s rung stCTXRESET 0).start = u.now := by
    rw [State.now, flash]
    rfl
  refine moduleBegins_congr (startModuleReset_begins (s := u) (r := moduleRung s rung stCTXRESET 0) rfl wide now ?_ ?_ ?_ ?_).1 kpr dmk flash (same .ll (by simp)) ctl
  · rw [resets]
    exact narrower
  · rw [kpr]
    exact up
  · rw [dmk]
    exact quiet
  · rw [hng]
    exact idle

theorem hngModule_begins (wide : rung = 4 ∨ rung = 5) (narrower : ∀ r ∈ s.resets, r.rung < rung) (up : s.kpr.st ≠ .restarting) (quiet : s.dmk.prog = none)
    (idle : s.hng.dumping = false) : ModuleBegins s (hngModule s rung dump) rung stCTXRESET 0 0xFF 0 dump ∧ (hngModule s rung dump).hng.reqRung = rung := by
  have ctl : hngCtl (hngWritten s rung 0 dump) = hngCtl s := hngCtl_setReg (by decide)
  have begins := hostStarts_begins (dump := dump) (hngWritten_sameBut s rung 0 dump) ctl wide narrower up quiet idle
  have runs : (hostStarts s (hngWritten s rung 0 dump) rung dump).resets.any (fun r => r.rung == rung) = true := by
    obtain ⟨r, resets, same, _⟩ := begins.2.2.2.2.2.1
    rw [resets]
    simp [same]
  rw [hngModule_eq, if_pos runs]
  exact ⟨moduleBegins_requested begins rung 0, rfl⟩

theorem hostStarts_waits {u : State} (same : SameBut [.regs] s u) (narrower : ∀ r ∈ s.resets, r.rung < rung) (busy : s.kpr.st = .restarting ∨ s.dmk.prog ≠ none)
    (first : s.hng.wait = none) : hostStarts s u rung dump = { u with hng := { s.hng with wait := some (moduleRung s rung stCTXRESET 0, dump) } } := by
  have hng : u.hng = s.hng := same .hng (by simp)
  have alone : ¬ u.resets.any (fun x => decide (rung ≤ x.rung)) = true := by
    rw [show u.resets = s.resets from same .resets (by simp), List.any_eq_true]
    rintro ⟨x, mem, more⟩
    have less := narrower x mem
    simp at more
    omega
  have waits : (u.kpr.st == .restarting || u.dmk.prog.isSome) = true := by
    rw [show u.kpr = s.kpr from same .kpr (by simp), show u.dmk = s.dmk from same .dmk (by simp)]
    simpa [Option.isSome_iff_ne_none] using busy
  refine (if_neg alone).trans ((if_pos waits).trans ?_)
  rw [hng, first]

theorem hngModule_waits (narrower : ∀ r ∈ s.resets, r.rung < rung) (busy : s.kpr.st = .restarting ∨ s.dmk.prog ≠ none) (first : s.hng.wait = none) :
    hngModule s rung dump = { hngWritten s rung 0 dump with hng := { s.hng with wait := some (moduleRung s rung stCTXRESET 0, dump) } } := by
  have written := hngWritten_sameBut s rung 0 dump
  have none_ : ¬ (hngWritten s rung 0 dump).resets.any (fun x => x.rung == rung) = true := by
    rw [show (hngWritten s rung 0 dump).resets = s.resets from written .resets (by simp), List.any_eq_true]
    rintro ⟨x, mem, same⟩
    have less := narrower x mem
    simp at same
    omega
  rw [hngModule_eq, hostStarts_waits written narrower busy first]
  exact if_neg none_

theorem hostStarts_absorbed {u : State} (wider : ∃ r ∈ u.resets, rung ≤ r.rung) : hostStarts s u rung dump = hngCount u 7 1 := by
  obtain ⟨r, mem, more⟩ := wider
  exact if_pos (List.any_eq_true.2 ⟨r, mem, decide_eq_true more⟩)

theorem hngModule_absorbed (wider : ∃ r ∈ s.resets, rung ≤ r.rung) : SameBut [.regs, .ctr, .hng] s (hngModule s rung dump) := by
  have written := hngWritten_sameBut s rung 0 dump
  have counted : SameBut [.regs, .ctr] s (hngCount (hngWritten s rung 0 dump) 7 1) := same_mono (same_trans written (bump_sameBut _ _ 1)) (by simp)
  have wider' : ∃ r ∈ (hngWritten s rung 0 dump).resets, rung ≤ r.rung := by
    rw [show (hngWritten s rung 0 dump).resets = s.resets from written .resets (by simp)]
    exact wider
  rw [hngModule_eq, hostStarts_absorbed wider']
  split
  · exact same_mono (same_trans counted (update_hng _ _)) (by simp)
  · exact same_mono counted (by simp)

end Host

/-! ### Escalation (R502, R503) -/

/-- The record of a reset that ends, or is escalated. -/
def resetRecord (s : State) (r : RunReset) (outcome : Nat) : ErrRec :=
  { seq := s.hng.errSeq, rung := r.rung, startedBy := r.by_, outcome := outcome, cause := r.cause,
    sector := if r.rung < 4 then r.sector else 0xFF, engine := r.engine, ctx := r.ctx, removed := r.removed,
    started := r.start, ended := s.now, logSeq := r.logSeq, dump := r.dump }

theorem errRecord_hng (s : State) (r : RunReset) (outcome : Nat) :
    (errRecord s r outcome).hng = { s.hng with errs := (resetRecord s r outcome :: s.hng.errs).take 65536, errSeq := s.hng.errSeq + 1 } := rfl

section Escalate
variable {s : State} {r : RunReset}

/-- A reset once it is escalated: its record says so, and it is counted with its event. -/
def escalated (s : State) (r : RunReset) : State :=
  hngCount (raise (updReset (errRecord s r 1) r.rung r.target (fun x => { x with escalated := true })) evHNG 3) 6 1

theorem escalated_sameBut (s : State) (r : RunReset) : SameBut [.resets, .hng, .regs, .out, .pci, .ctr] s (escalated s r) :=
  same_mono (same_trans (update_hng s _) (same_trans (update_resets _ _) (same_trans (raise_same _ _ _) (bump_sameBut _ _ 1)))) (by simp)

theorem escalated_hng (s : State) (r : RunReset) :
    (escalated s r).hng = { s.hng with errs := (resetRecord s r 1 :: s.hng.errs).take 65536, errSeq := s.hng.errSeq + 1 } :=
  (bump_sameBut _ _ 1 .hng (by simp)).trans (raise_hng _ _ _)

theorem escalated_ctl (s : State) (r : RunReset) : hngCtl (escalated s r) = hngCtl s :=
  (hngCtl_congr (bump_sameBut _ _ 1 .regs (by simp))).trans (hngCtl_raise _ 3)

theorem escalated_event (s : State) (r : RunReset) : evSet (escalated s r) evHNG 3 = true := by
  refine (evSet_congr (bump_sameBut (raise (updReset (errRecord s r 1) r.rung r.target (fun x => { x with escalated := true })) evHNG 3) _ 1 .regs (by simp)) evHNG 3).trans ?_
  exact evSet_raise_self _ _ _ (by decide)

theorem escalated_resets (only : s.resets = [r]) : (escalated s r).resets = [{ r with escalated := true }] := by
  have eq : (escalated s r).resets = s.resets.map (fun x => if x.rung = r.rung && x.target = r.target then { x with escalated := true } else x) :=
    (bump_sameBut _ _ 1 .resets (by simp)).trans (raise_same _ _ _ .resets (by simp))
  rw [eq, only, List.map_singleton, if_pos (by simp)]

theorem escalate_starts (allowed : r.rung + 1 ≤ autoMax s) (start : State → State) : escalate s r start = start (escalated s r) := if_pos allowed

/-- A reset that may not be escalated. -/
def heldStuck (s : State) (r : RunReset) : State :=
  let u := updReset s r.rung r.target (fun x => { x with stuck := true })
  raise { u with hng := { u.hng with stuck := true } } evHNG 4

theorem escalate_stuck (above : autoMax s < r.rung + 1) (start : State → State) : escalate s r start = heldStuck s r := by
  refine (if_neg (Nat.not_le.2 above)).trans ?_
  exact if_neg (Nat.not_le.2 above)

theorem heldStuck_spec (s : State) (r : RunReset) : (heldStuck s r).hng.stuck = true ∧ evSet (heldStuck s r) evHNG 4 = true ∧
    (s.resets = [r] → (heldStuck s r).resets = [{ r with stuck := true }]) ∧ SameBut [.resets, .hng, .regs, .out, .pci] s (heldStuck s r) := by
  refine ⟨?_, evSet_raise_self _ _ _ (by decide), fun only => ?_, ?_⟩
  · rw [heldStuck, raise_hng]
  · have eq : (heldStuck s r).resets = s.resets.map (fun x => if x.rung = r.rung && x.target = r.target then { x with stuck := true } else x) :=
      raise_same _ _ _ .resets (by simp)
    rw [eq, only, List.map_singleton, if_pos (by simp)]
  · exact same_mono (same_trans (update_resets s _) (same_trans (update_hng _ _) (raise_same _ _ _))) (by simp)

/-- An escalation to a module reset of the only reset that runs: it begins, and the escalated one has one record. -/
theorem escalated_begins {rung : Nat} (wide : rung = 4 ∨ rung = 5) (only : s.resets = [r]) (narrow : r.rung < rung) (up : s.kpr.st ≠ .restarting) (quiet : s.dmk.prog = none)
    (idle : s.hng.dumping = false) :
    let t := startModuleReset (escalated s r) (moduleRung (escalated s r) rung r.cause 2 r.engine r.ctx) true
    ModuleBegins s t rung r.cause 2 r.engine r.ctx true ∧ t.hng.errs = (resetRecord s r 1 :: s.hng.errs).take 65536 := by
  have same := escalated_sameBut s r
  have kpr : (escalated s r).kpr = s.kpr := same .kpr (by simp)
  have dmk : (escalated s r).dmk = s.dmk := same .dmk (by simp)
  have mem {x : RunReset} (hx : x ∈ (escalated s r).resets) : x = { r with escalated := true } := by
    rw [escalated_resets only] at hx
    exact List.mem_singleton.1 hx
  obtain ⟨begins, errs⟩ := startModuleReset_begins (s := escalated s r) (r := moduleRung (escalated s r) rung r.cause 2 r.engine r.ctx) (dump := true) rfl wide rfl
    (fun x hx => by rw [mem hx]; exact narrow) (by rw [kpr]; exact up) (by rw [dmk]; exact quiet) (by rw [escalated_hng]; exact idle)
  refine ⟨moduleBegins_congr begins kpr dmk (same .flash (by simp)) (same .ll (by simp)) (escalated_ctl s r), ?_⟩
  rw [errs fun x hx => by rw [mem hx], escalated_hng]

end Escalate

/-! ### Function Level Reset and the timeouts (R259, R502, R505) -/

section Timeouts
variable {s : State}

theorem functionLevelReset_begins (released : s.kpr.boot.result = 1) (narrower : ∀ r ∈ s.resets,
    r.rung < 4) (up : s.kpr.st ≠ .restarting) (quiet : s.dmk.prog = none)
    (idle : s.hng.dumping = false) : ∃ t, exec .functionLevelReset s = .next t ∧ ModuleBegins s t 4 stCTXRESET 4 0xFF 0 false :=
  ⟨_, congrArg Host.Outcome.next (if_neg (by simp [released])),
    (startModuleReset_begins (s := s) (r := moduleRung s 4 stCTXRESET 4) rfl (.inl rfl) rfl narrower up quiet idle).1⟩

theorem warmBootTimeout_of_none (none_ : ∀ r ∈ s.resets, r.rung ≠ 4) : exec .warmBootTimeout s = .next s := by
  have none' : s.resets.find? (fun r => r.rung == 4) = none := List.find?_eq_none.2 fun r mem => by simpa using none_ r mem
  show execWarmBootTimeout s = _
  simp only [execWarmBootTimeout, none']

theorem warmBootTimeout_eq {r : RunReset} (only : s.resets = [r]) (warm : r.rung = 4) (own : r.escalated = false) (free_ : r.stuck = false) :
    exec .warmBootTimeout s = .next (escalate s r (fun s => startModuleReset s (moduleRung s 5 r.cause 2 r.engine r.ctx) true)) := by
  have found : s.resets.find? (fun r => r.rung == 4) = some r := by rw [only, List.find?_cons_of_pos (by simp [warm])]
  show execWarmBootTimeout s = _
  simp only [execWarmBootTimeout, found, own, free_, Bool.or_self, Bool.false_eq_true, if_false]

/-- What POWER_CYCLE_TIMEOUT leaves, of a reset `r`. -/
def cycleStuck (s : State) (r : RunReset) : State :=
  let u := updReset s 5 0 (fun x => { x with stuck := true })
  postLog (raise { u with hng := { u.hng with stuck := true } } evHNG 4) 0x80 0xFF true (5 + r.engine * 2 ^ 8 + r.ctx * 2 ^ 16 + stPROGRESS * 2 ^ 32)

theorem powerCycleTimeout_eq {r : RunReset} (request : s.hng.pwrReq = true) (there : 380 ≤ s.pins.vin) (only : s.resets = [r]) (cycle : r.rung = 5)
    (free_ : r.stuck = false) : exec .powerCycleTimeout s = .next (cycleStuck s r) := by
  have goes : ¬ (!s.hng.pwrReq || s.pins.vin < 380 || s.resets.any (fun r => r.rung == 5 && r.stuck)) = true := by
    rw [only]
    simp [request, free_, there]
  have found : (s.resets.find? (fun r => r.rung == 5)).getD (moduleRung s 5 stPROGRESS 2) = r := by
    rw [only, List.find?_cons_of_pos (by simp [cycle])]
    rfl
  refine congrArg Host.Outcome.next ((if_neg goes).trans ?_)
  rw [found]
  rfl

theorem cycleStuck_spec (s : State) (r : RunReset) : (cycleStuck s r).hng = { s.hng with stuck := true } ∧ evSet (cycleStuck s r) evHNG 4 = true ∧
    (keeperTakes s → Logged (cycleStuck s r) s.now 0x80 0xFF (5 + r.engine * 2 ^ 8 + r.ctx * 2 ^ 16 + stPROGRESS * 2 ^ 32)) ∧
    SameBut [.resets, .hng, .regs, .out, .pci, .log, .logSeq, .kpr] s (cycleStuck s r) := by
  have marked : SameBut [.resets, .hng, .regs, .out, .pci] s
      (raise { updReset s 5 0 (fun x => { x with stuck := true }) with hng := { s.hng with stuck := true } } evHNG 4) :=
    same_mono (same_trans (update_resets s _) (same_trans (update_hng _ _) (raise_same _ _ _))) (by simp)
  refine ⟨(postLog_hng _ _ _ _ _ _).trans (raise_hng _ _ _), ?_, fun takes => ?_, same_mono (same_trans marked (postLog_same _ _ _ _ _ _)) (by simp)⟩
  · exact (evSet_postLog _ _ _ _ _ _ _ _).trans (evSet_raise_self _ _ _ (by decide))
  · exact logged_postLog takes (marked .kpr (by simp)) (marked .flash (by simp))

/-! ### Crash dumps and their copies (R504, R509, R511) -/

/-- The slot of a dump that has ended, with its event. -/
def dumpEnded (s : State) (ok : Bool) : State :=
  raise { s with hng := { s.hng with
    dumping := false
    dumps := if ok then tput (0, 0) s.hng.dumps s.hng.dumpSlot (2, (tget (0, 0) s.hng.dumps s.hng.dumpSlot).2) else s.hng.dumps } } evHNG (if ok then 5 else 6)

theorem crashDumpDone_spec {ok : Bool} (dumping : s.hng.dumping = true) (warm : ∀ r ∈ s.resets, r.rung ≠ 5) : ∃ t, exec (.crashDumpDone ok) s = .next t ∧
    t.hng.dumping = false ∧
    tget (0, 0) t.hng.dumps s.hng.dumpSlot = (if ok then (2, (tget (0, 0) s.hng.dumps s.hng.dumpSlot).2) else tget (0, 0) s.hng.dumps s.hng.dumpSlot) ∧
    evSet t evHNG (if ok then 5 else 6) = true ∧ t.kpr.boot = warmBoot s.kpr.boot := by
  have ended : SameBut [.hng, .regs, .out, .pci] s (dumpEnded s ok) := same_mono (same_trans (update_hng s _) (raise_same _ _ _)) (by simp)
  have resets : (dumpEnded s ok).resets = s.resets := ended .resets (by simp)
  have kpr : (dumpEnded s ok).kpr = s.kpr := ended .kpr (by simp)
  have hng : (dumpEnded s ok).hng = { s.hng with
      dumping := false
      dumps := if ok then tput (0, 0) s.hng.dumps s.hng.dumpSlot (2, (tget (0, 0) s.hng.dumps s.hng.dumpSlot).2) else s.hng.dumps } := raise_hng _ _ _
  have event : evSet (dumpEnded s ok) evHNG (if ok then 5 else 6) = true := evSet_raise_self _ _ _ (by cases ok <;> decide)
  have boots := (beginBoot_spec (dumpEnded s ok) 2).2
  have eq : exec (.crashDumpDone ok) s = .next (beginBoot (dumpEnded s ok) 2) := by
    refine congrArg Host.Outcome.next ((if_neg (by simp [dumping])).trans ?_)
    exact afterDump_of_warm (w := dumpEnded s ok) (by rw [resets]; exact warm)
  have kept : (beginBoot (dumpEnded s ok) 2).hng = (dumpEnded s ok).hng := boots .hng (by simp)
  refine ⟨_, eq, ?_, ?_, (evSet_congr (boots .regs (by simp)) _ _).trans event, ?_⟩
  · rw [kept, hng]
  · rw [kept, hng]
    cases ok
    · rfl
    · simp only [if_true, tget_tput_same]
  · rw [beginBoot_boot, kpr]

theorem copyEnd_spec (s : State) (r : Nat) : (copyEnd s r).hng.copyBusy = false ∧ (copyEnd s r).hng.copyResult = r ∧ regNow (copyEnd s r) 0x90050 = 2 ∧
    SameBut [.hng, .regs] s (copyEnd s r) :=
  ⟨rfl, rfl, regNow_setReg_same _ _ _, same_mono (same_trans (update_hng s _) (setReg_same _ _ _)) (by simp)⟩

/-- The fields of HNG_DUMP_CTL that are kept. -/
theorem dumpCtl_written (v : Word) : BitVec.ofNat 64 (v.toNat &&& 0x7CFFFFFF007FFFFF) = v &&& 0x7CFFFFFF007FFFFF := by
  apply BitVec.eq_of_toNat_eq
  have small : v.toNat &&& 0x7CFFFFFF007FFFFF < 2 ^ 64 := lt_of_le_of_lt Nat.and_le_left v.isLt
  rw [BitVec.toNat_ofNat, Nat.mod_eq_of_lt small, BitVec.toNat_and]
  rfl

/-- The bytes of a region that a copy may name. -/
def regionSize (region : Nat) : Nat := if region = 0 then 24 * 2 ^ 20 else if region = 1 then 4 * 2 ^ 20 else 0

theorem dumpCopy_eq {v : Word} (idle : s.hng.copyBusy = false) :
    let s1 := setReg s 0x90048 (v &&& 0x7CFFFFFF007FFFFF)
    let off := bits v.toNat 55 32 * 4096
    let len := bits v.toNat 22 0
    exec (.dumpCopy v) s = .next (
      if !s.kpr.runs || s.kpr.st == .restarting then copyEnd s1 3
      else if regionSize (bits v.toNat 62 60) < off + len || len % 4096 != 0 || 4 * 2 ^ 20 < len || 1 < bits v.toNat 62 60 then copyEnd s1 1
      else { s1 with hng := { s.hng with copyBusy := true, copyResult := 0 } }) := by
  intro s1 off len
  refine congrArg Host.Outcome.next ((if_neg (by simp [idle])).trans ?_)
  dsimp only
  rw [dumpCtl_written]
  rfl

end Timeouts

/-! ### The error record (R508, Table 18-5) -/

/-- The fields of an error record, each with its bytes, in their order. -/
def errFields (e : ErrRec) : List (Nat × Nat) :=
  [(4, e.seq.toNat), (1, e.rung), (1, e.startedBy), (1, e.outcome), (1, e.cause), (1, e.sector), (1, e.engine), (2, e.ctx), (4, min e.removed (2 ^ 32 - 1)),
    (8, e.started.toNat), (8, e.ended.toNat), (4, e.logSeq.toNat), (1, e.dump)]

/-- Fields laid end to end. -/
def packed (l : List (Nat × Nat)) (tail : List Byte) : List Byte := l.foldr (fun p r => leBytes p.1 p.2 ++ r) tail

theorem length_packed (l : List (Nat × Nat)) (tail : List Byte) : (packed l tail).length = (l.map Prod.fst).sum + tail.length := by
  induction l with
  | nil => simp [packed]
  | cons p l ih =>
    rw [show packed (p :: l) tail = leBytes p.1 p.2 ++ packed l tail from rfl, List.length_append, length_leBytes, ih]
    simp [Nat.add_assoc]

/-- A field stands after those before it. -/
theorem fieldAt_packed (l r : List (Nat × Nat)) (n v : Nat) (tail : List Byte) : fieldAt (packed (l ++ (n,
    v) :: r) tail) ((l.map Prod.fst).sum) n = v % 256 ^ n := by
  induction l with
  | nil => exact fieldAt_leBytes_append n v _
  | cons p l ih => exact (fieldAt_append_right (length_leBytes p.1 p.2)).trans ih

theorem errBytes_eq (e : ErrRec) : errBytes e = packed (errFields e) (List.replicate 27 0) := by
  simp only [errBytes, packed, errFields, List.foldr_cons, List.foldr_nil, List.append_assoc]

theorem length_errBytes (e : ErrRec) : (errBytes e).length = 64 := by
  rw [errBytes_eq, length_packed]
  rfl

theorem fieldAt_errBytes {e : ErrRec} (l r : List (Nat × Nat)) (n v : Nat) (at_ : errFields e = l ++ (n, v) :: r) :
    fieldAt (errBytes e) ((l.map Prod.fst).sum) n = v % 256 ^ n := by
  rw [errBytes_eq, at_, fieldAt_packed]

theorem errBytes_fields (e : ErrRec) : fieldAt (errBytes e) 0 4 = e.seq.toNat ∧ fieldAt (errBytes e) 4 1 = e.rung % 256 ∧
    fieldAt (errBytes e) 5 1 = e.startedBy % 256 ∧
    fieldAt (errBytes e) 6 1 = e.outcome % 256 ∧ fieldAt (errBytes e) 7 1 = e.cause % 256 ∧ fieldAt (errBytes e) 8 1 = e.sector % 256 ∧
    fieldAt (errBytes e) 9 1 = e.engine % 256 ∧ fieldAt (errBytes e) 10 2 = e.ctx % 65536 ∧ fieldAt (errBytes e) 12 4 = min e.removed (2 ^ 32 - 1) ∧
    fieldAt (errBytes e) 16 8 = e.started.toNat ∧ fieldAt (errBytes e) 24 8 = e.ended.toNat ∧ fieldAt (errBytes e) 32 4 = e.logSeq.toNat ∧
    fieldAt (errBytes e) 36 1 = e.dump % 256 := by
  let fs := errFields e
  have parts (k : Nat) (n v : Nat) (here : fs.drop k = (n, v) :: fs.drop (k + 1)) : fieldAt (errBytes e) (((fs.take k).map Prod.fst).sum) n = v % 256 ^ n :=
    fieldAt_errBytes _ _ n v (by rw [← here, List.take_append_drop])
  refine ⟨(parts 0 _ _ rfl).trans ?_, parts 1 _ _ rfl, parts 2 _ _ rfl, parts 3 _ _ rfl, parts 4 _ _ rfl, parts 5 _ _ rfl, parts 6 _ _ rfl, parts 7 _ _ rfl,
    (parts 8 _ _ rfl).trans ?_, (parts 9 _ _ rfl).trans ?_, (parts 10 _ _ rfl).trans ?_, (parts 11 _ _ rfl).trans ?_, parts 12 _ _ rfl⟩
  · exact Nat.mod_eq_of_lt e.seq.isLt
  · exact Nat.mod_eq_of_lt (by omega)
  · exact Nat.mod_eq_of_lt e.started.isLt
  · exact Nat.mod_eq_of_lt e.ended.isLt
  · exact Nat.mod_eq_of_lt e.logSeq.isLt

/-! ### The end of a copy -/

section Copies
variable {s : State}

/-- The bytes that a copy puts into the host's buffer. -/
def copied (s : State) : List Byte :=
  let c := dumpCtl (regNow s 0x90048).toNat
  let d := tget (0, 0) s.hng.dumps c.2.1
  (List.range c.2.2.2).map (fun i => if c.1 = 1 then errLogByte s (c.2.2.1 + i) else Config.dumpByte d.2 (c.2.2.1 + i))

theorem dumpCopyDone_eq (busy : s.hng.copyBusy = true) : exec (.dumpCopyDone false) s = .next (copyEnd s 2) ∧
    exec (.dumpCopyDone true) s = .next (copyEnd (s.emit (.hostWrite none ((regNow s 0x90040).toNat / 4096 * 4096) (copied s) false)) 0) :=
  ⟨congrArg Host.Outcome.next ((if_neg (by simp [busy])).trans (if_pos rfl)), congrArg Host.Outcome.next ((if_neg (by simp [busy])).trans (if_neg (by simp)))⟩

theorem copied_record {i : Nat} (inside : i < bits (regNow s 0x90048).toNat 22 0) (region : bits (regNow s 0x90048).toNat 62 60 = 1) {e : ErrRec}
    (found : s.hng.errs.find? (fun e => e.seq.toNat % 65536 == (bits (regNow s 0x90048).toNat 55 32 * 4096 + i) / 64) = some e) :
    (copied s).getD i 0 = (errBytes e).getD ((bits (regNow s 0x90048).toNat 55 32 * 4096 + i) % 64) 0 := by
  have at_ : (copied s).getD i 0 = (if bits (regNow s 0x90048).toNat 62 60 = 1 then errLogByte s (bits (regNow s 0x90048).toNat 55 32 * 4096 + i)
      else Config.dumpByte (tget (0, 0) s.hng.dumps (bits (regNow s 0x90048).toNat 59 58)).2 (bits (regNow s 0x90048).toNat 55 32 * 4096 + i)) := by
    rw [List.getD_eq_getElem _ _ (by simpa [copied, dumpCtl] using inside)]
    simp only [copied, dumpCtl, List.getElem_map, List.getElem_range]
  rw [at_, if_pos region, errLogByte, found]

end Copies

/-- Settles O54: how a module reset begins, waits or is absorbed, and what its timeouts, its dump and the copies of a dump leave. -/
theorem moduleResets : Obligations.ModuleResets := by
  unfold Obligations.ModuleResets
  refine ⟨fun s dump => ?_, fun s => ?_⟩
  · intro free_
    refine ⟨fun rung wide => ?_, fun unreleased => congrArg Host.Outcome.next (if_pos (by simp [unreleased])), fun released narrower ok => ?_,
        warmBootTimeout_of_none,
      fun r only warm own unstuck => ⟨fun most ok => ?_, fun most => ?_⟩, fun none_ => ?_, fun r request there only cycle unstuck => ?_⟩
    · intro i
      have run : exec i s = .next (hngModule s rung dump) := by
        rcases wide with rfl | rfl <;> rfl
      have run' : (if rung = 4 then exec (.hngResetModule dump) s else exec (.hngResetPowerCycle dump) s) = .next (hngModule s rung dump) := by
        rcases wide with rfl | rfl <;> rfl
      refine ⟨fun narrower ok => ?_, fun narrower busy first => run.trans (congrArg Host.Outcome.next (hngModule_waits narrower busy first)),
        fun wider => ⟨_, run, hngModule_absorbed wider⟩⟩
      obtain ⟨up, quiet, idle⟩ := ok
      exact ⟨_, run', hngModule_begins wide narrower up quiet idle⟩
    · obtain ⟨up, quiet, idle⟩ := ok
      exact functionLevelReset_begins released narrower up quiet idle
    · obtain ⟨up, quiet, idle⟩ := ok
      obtain ⟨begins, errs⟩ := escalated_begins (.inr rfl) only (by omega) up quiet idle
      refine ⟨_, (warmBootTimeout_eq only warm own unstuck).trans (congrArg Host.Outcome.next (escalate_starts (by omega) _)), begins, _, errs, warm, rfl⟩
    · obtain ⟨stuck, event, resets, same⟩ := heldStuck_spec s r
      exact ⟨_, (warmBootTimeout_eq only warm own unstuck).trans (congrArg Host.Outcome.next (escalate_stuck (by omega) _)), resets only, stuck, event, same⟩
    · exact congrArg Host.Outcome.next (if_pos (by rcases none_ with none_ | none_ <;> simp [none_]))
    · obtain ⟨hng, event, logged, same⟩ := cycleStuck_spec s r
      exact ⟨_, powerCycleTimeout_eq request there only cycle unstuck, by rw [hng]; exact request, by rw [hng], event, logged, same⟩
  · refine ⟨fun ok idle => congrArg Host.Outcome.next (if_pos (by simp [idle])), fun ok dumping warm => crashDumpDone_spec dumping warm,
      fun v busy => congrArg Host.Outcome.next (if_pos busy), copyEnd_spec s, fun v idle => ?_,
          fun ok idle => congrArg Host.Outcome.next (if_pos (by simp [idle])),
      fun busy => ⟨(dumpCopyDone_eq busy).1, ?_⟩, fun e => ⟨length_errBytes e, errBytes_fields e⟩, fun i => ?_⟩
    · intro s1 off len
      have eq := dumpCopy_eq (v := v) idle
      refine ⟨fun off_ => eq.trans (congrArg Host.Outcome.next (if_pos ?_)), fun region takes is bad => eq.trans (congrArg Host.Outcome.next ?_),
        fun region takes is known whole most inside => eq.trans (congrArg Host.Outcome.next ?_)⟩
      · by_cases runs : s.kpr.runs = true
        · have restarting : s.kpr.st = .restarting := by
            by_contra up
            exact off_ ⟨runs, up⟩
          simp [restarting]
        · simp [runs]
      · obtain ⟨runs, up⟩ := takes
        refine (if_neg (by simp [runs, up])).trans (if_pos ?_)
        rw [is]
        simp only [Bool.or_eq_true, decide_eq_true_eq, bne_iff_ne]
        rcases bad with wide | part | long | ⟨rfl, past⟩ | ⟨rfl, past⟩
        · exact .inr wide
        · exact .inl (.inl (.inr part))
        · exact .inl (.inr long)
        · exact .inl (.inl (.inl past))
        · exact .inl (.inl (.inl past))
      · obtain ⟨runs, up⟩ := takes
        refine (if_neg (by simp [runs, up])).trans (if_neg ?_)
        rw [is]
        simp only [Bool.or_eq_true, decide_eq_true_eq, bne_iff_ne, not_or, not_not, not_lt]
        refine ⟨⟨⟨?_, whole⟩, most⟩, known⟩
        rcases (show region = 0 ∨ region = 1 by omega) with rfl | rfl
        · exact inside
        · exact inside
    · intro v
      refine ⟨copied s, (dumpCopyDone_eq busy).2, by simp [copied, dumpCtl, v], fun i inside region e found => copied_record inside region found⟩
    · show Host.Outcome.next _ = _
      cases i with
      | idcode => rfl
      | bypass => rfl
      | other n =>
        simp only [bit_eq_testBit]

end Sys2Proof.Proofs

/-! SUPPORT. What the start of a reset of rung 1 to 3 does where no command, group, sequence, Chain request or translation is under way (R296, Table 18-3), for O52. -/
namespace Sys2Proof.Proofs

open Sys2Proof.Machine Sys2Proof.Laws

/-! ### Nothing waits -/

section Idle
variable {s t : State}

theorem idleWork_congr (idle : IdleWork s) {ps : List Part} (same : SameBut ps s t) (rings : .rings ∉ ps) (groups : .groups ∉ ps) (seqs : .seqs ∉ ps)
    (seqSecs : .seqSecs ∉ ps) (chn : .chn ∉ ps) (xl : .xl ∉ ps) : IdleWork t := by
  obtain ⟨noRings, noGroups, noSeqs, noSecs, noReqs, noWaits⟩ := idle
  refine ⟨(same .rings rings).trans noRings, (same .groups groups).trans noGroups, (same .seqs seqs).trans noSeqs, (same .seqSecs seqSecs).trans noSecs, ?_, ?_⟩
  · rw [show t.chn = s.chn from same .chn chn, noReqs]
  · rw [show t.xl = s.xl from same .xl xl, noWaits]

theorem chRemove_idle (none_ : s.chn.reqs = []) (p : ChReq → Bool) : chRemove s p = s := by
  have chn : { s.chn with reqs := [] } = s.chn := by rw [← none_]
  unfold chRemove
  dsimp only
  rw [none_, List.foldl_nil, none_, List.filter_nil, chn]

theorem xlDropCtx_idle (none_ : s.xl.waits = []) (c : Nat) : xlDropCtx s c = s := by
  have xl : { s.xl with waits := [] } = s.xl := by rw [← none_]
  rw [xlDropCtx, none_, List.filter_nil, xl]

theorem xlDrop_idle (none_ : s.xl.waits = []) (who : Waiter) : xlDrop s who = s := by
  have xl : { s.xl with waits := [] } = s.xl := by rw [← none_]
  rw [xlDrop, none_, List.filter_nil, xl]

theorem dropLeave_sameBut (s : State) (p : Grant → Bool) : SameBut [.tnd] s (dropLeave s p) := update_tnd s _

theorem dropWaits_idle (idle : IdleWork s) (who : Waiter) : dropWaits s who = dropLeave s (fun g => g.who == who) := by
  obtain ⟨_, _, _, _, reqs, waits⟩ := idleWork_congr idle (dropLeave_sameBut s (fun g => g.who == who)) (by simp) (by simp) (by simp) (by simp) (by simp) (by simp)
  rw [dropWaits, xlDrop_idle waits, chRemove_idle reqs]

theorem ringsOf_idle (none_ : s.rings = []) (c : Nat) : ringsOf s c = [] := by
  rw [ringsOf, none_]
  rfl

theorem stopGroups_idle (none_ : s.groups = []) (p : Group → Bool) : stopGroups s p = s := by
  rw [stopGroups, none_]
  rfl

theorem seqSec_idle (none_ : s.seqSecs = []) (n : Nat) : s.seqSec n = {} := by
  rw [State.seqSec, none_]
  rfl

theorem dropBlkMoves_idle (none_ : s.seqSecs = []) (n : Nat) (p : Blk → Bool) : dropBlkMoves s n p = s := by
  unfold dropBlkMoves
  rw [seqSec_idle none_]
  rfl

theorem seqCtxReset_idle (none_ : s.seqs = []) (c : Nat) : seqCtxReset s c = s := by
  rw [seqCtxReset, none_]
  rfl

/-- A context reset marks its context, and drops what it had asked of the Tender. -/
theorem ctxResetEffects_idle (idle : IdleWork s) (c : Nat) :
    ctxResetEffects s c = dropLeave (s.setCtx c { s.ctx c with st := .resetting }) (fun g => g.ctx == c) := by
  obtain ⟨rings, groups, seqs, seqSecs, reqs, waits⟩ := idle
  have steps : (List.range 16).foldl (fun u n => match (u.seqSec n).step with
      | some p => if stepCtx u n p.cls = c && !p.running then failStep u n ⟨stCTXRESET, 0⟩ else u
      | none => u) (s.setCtx c { s.ctx c with st := .resetting }) = s.setCtx c { s.ctx c with st := .resetting } := by
    refine foldl_fixed_of_mem fun n _ => ?_
    rw [seqSec_idle (s := s.setCtx c { s.ctx c with st := .resetting }) seqSecs]
  unfold ctxResetEffects
  extract_lets -merge +onlyGivenNames x s1 qs s2 s3 s4 s5 s6 s7 s8
  have none_ : qs = [] := ringsOf_idle (s := s1) rings c
  have e2 : s2 = s1 := by
    unfold s2
    rw [none_, List.foldl_nil]
  have e3 : s3 = s1 := by
    unfold s3
    rw [e2]
    exact stopGroups_idle (s := s1) groups _
  have e4 : s4 = s1 := by
    unfold s4
    rw [e3]
    exact steps
  have e5 : s5 = s1 := by
    unfold s5
    rw [e4]
    exact seqCtxReset_idle (s := s1) seqs c
  have e6 : s6 = s1 := by
    unfold s6
    rw [e5]
    exact dropBlkMoves_idle (s := s1) seqSecs _ _
  have e7 : s7 = dropLeave s1 (fun g => g.ctx == c) := by
    unfold s7
    rw [e6]
    exact xlDropCtx_idle (s := dropLeave s1 _) waits c
  have e8 : s8 = dropLeave s1 (fun g => g.ctx == c) := by
    unfold s8
    rw [e7]
    exact chRemove_idle (s := dropLeave s1 _) reqs _
  rw [none_, List.foldl_nil, e8]

/-! ### Engines -/

theorem seqResetEffects_idle (none_ : s.seqSecs = []) (n : Nat) : seqResetEffects s n = s := by
  unfold seqResetEffects
  rw [dropBlkMoves_idle none_]
  dsimp only
  rw [seqSec_idle none_]

/-- One core of a Lantern whose engine is reset. -/
def coreEmptied (s : State) (c : Nat) : State :=
  let u := (s.core c).q.foldl (fun s o => dropWaits s (.tile c o.num)) s
  u.setCore c { u.core c with q := [] }

theorem coreEmptied_spec (idle : IdleWork s) (c : Nat) : SameBut [.tnd, .cores] s (coreEmptied s c) ∧ (coreEmptied s c).core c = { s.core c with q := [] } ∧
    ∀ k, k ≠ c → (coreEmptied s c).core k = s.core k := by
  have drops : ∀ (l : List TileOp) (u : State), IdleWork u → SameBut [.tnd] u (l.foldl (fun s o => dropWaits s (.tile c o.num)) u) := by
    intro l
    induction l with
    | nil => exact fun u _ => same_refl _ _
    | cons o l ih =>
      intro u free_
      rw [List.foldl_cons, dropWaits_idle free_]
      have one := dropLeave_sameBut u (fun g => g.who == .tile c o.num)
      exact same_mono (same_trans one (ih _ (idleWork_congr free_ one (by simp) (by simp) (by simp) (by simp) (by simp) (by simp)))) (by simp)
  have dropped := drops (s.core c).q s idle
  have core (k : Nat) : ((s.core c).q.foldl (fun s o => dropWaits s (.tile c o.num)) s).core k = s.core k :=
    core_congr (dropped .cores (by simp)) k
  refine ⟨same_mono (same_trans dropped (setCore_sameBut _ _ _)) (by simp), ?_, fun k other => ?_⟩
  · rw [coreEmptied, setCore_same, core]
  · rw [coreEmptied, setCore_other _ _ _ _ other, core]

/-- The first `m` cores of a Lantern emptied. -/
theorem coresEmptied_spec (idle : IdleWork s) (n m : Nat) : let t := (List.range m).foldl (fun s i => coreEmptied s (12 * n + i)) s
    SameBut [.tnd, .cores] s t ∧ ∀ c, t.core c = if 12 * n ≤ c ∧ c < 12 * n + m then { s.core c with q := [] } else s.core c := by
  intro t
  induction m with
  | zero =>
    refine ⟨same_refl _ _, fun c => ?_⟩
    rw [if_neg (by omega)]
    rfl
  | succ m ih =>
    obtain ⟨same, cores⟩ := ih
    let u := (List.range m).foldl (fun s i => coreEmptied s (12 * n + i)) s
    have eq : t = coreEmptied u (12 * n + m) := by
      unfold t
      rw [List.range_succ, List.foldl_append, List.foldl_cons, List.foldl_nil]
    obtain ⟨one, self, others⟩ := coreEmptied_spec (idleWork_congr idle same (by simp) (by simp) (by simp) (by simp) (by simp) (by simp)) (12 * n + m)
    rw [eq]
    refine ⟨same_mono (same_trans same one) (by simp), fun c => ?_⟩
    by_cases here : c = 12 * n + m
    · rw [here, self, cores, if_neg (by omega), if_pos (by omega)]
    · rw [others c here, cores]
      exact if_congr (by omega) rfl rfl

/-- The reset of a Lantern's engine empties the queues of its cores. -/
theorem lanternResetEffects_spec (idle : IdleWork s) (n : Nat) : SameBut [.tnd, .cores] s (lanternResetEffects s n) ∧
    ∀ c, (lanternResetEffects s n).core c = if c / 12 = n then { s.core c with q := [] } else s.core c := by
  have eq : lanternResetEffects s n = (List.range 12).foldl (fun s i => coreEmptied s (12 * n + i)) s := by
    obtain ⟨same, _⟩ := coresEmptied_spec idle n 12
    have rings : ((List.range 12).foldl (fun s i => coreEmptied s (12 * n + i)) s).rings = [] := (same .rings (by simp)).trans idle.1
    unfold lanternResetEffects
    extract_lets -merge +onlyGivenNames mine ks s1 s2 s3
    have none_ : ks = [] := by
      unfold ks
      rw [idle.2.1]
      rfl
    have e1 : s1 = s := stopGroups_idle idle.2.1 _
    have e2 : s2 = (List.range 12).foldl (fun s i => coreEmptied s (12 * n + i)) s := by
      unfold s2
      rw [e1]
      rfl
    have e3 : s3 = (List.range 12).foldl (fun s i => coreEmptied s (12 * n + i)) s := by
      unfold s3
      rw [none_, List.foldl_nil, e2]
    rw [e3, rings, List.foldl_nil]
  obtain ⟨same, cores⟩ := coresEmptied_spec idle n 12
  rw [eq]
  refine ⟨same, fun c => (cores c).trans (if_congr (by omega) rfl rfl)⟩

theorem freezeReset_running {n : Nat} (running : (s.frzAt n).st = .running) : freezeReset s n = s := by
  unfold freezeReset
  dsimp only
  rw [running]

end Idle

/-! ### The records of the resets of rung 1 to 3 -/

section Starts
variable {s : State} {r : RunReset}

/-- What a reset of rung 1 to 3 counts and logs when it begins. -/
theorem beginReset_spec (own : r.part = false) (narrow : r.rung ≤ 3) : SameBut [.log, .logSeq, .kpr, .ctr, .resets] s (beginReset s r) ∧
    (beginReset s r).resets = s.resets ++ [recorded s r] ∧
    (keeperTakes s → Logged (beginReset s r) s.now 0x80 r.sector (r.rung + r.engine * 2 ^ 8 + r.ctx * 2 ^ 16 + r.cause * 2 ^ 32)) := by
  have eq : beginReset s r = withResets (hngCount (postLog s 0x80 r.sector false (r.rung + r.engine * 2 ^ 8 + r.ctx * 2 ^ 16 + r.cause * 2 ^ 32)) (2 + r.rung) 1)
      (s.resets ++ [recorded s r]) := by
    have quiet : decide (4 ≤ r.rung) = false := decide_eq_false (by omega)
    unfold beginReset
    rw [if_neg (by simp [own])]
    dsimp only
    rw [if_pos (show r.rung < 4 by omega), if_pos narrow, quiet]
    exact congrArg (fun l => withResets (hngCount (postLog s 0x80 r.sector false (r.rung + r.engine * 2 ^ 8 + r.ctx * 2 ^ 16 + r.cause * 2 ^ 32)) (2 + r.rung) 1)
      (l ++ [recorded s r])) (postLog_resets s 0x80 r.sector false (r.rung + r.engine * 2 ^ 8 + r.ctx * 2 ^ 16 + r.cause * 2 ^ 32) false)
  rw [eq]
  refine ⟨?_, rfl, fun takes => ?_⟩
  · exact same_mono (same_trans (postLog_same _ _ _ _ _ _) (same_trans (bump_sameBut _ _ 1) (update_resets _ _))) (by simp)
  · exact logged_congr (u := postLog s 0x80 r.sector false (r.rung + r.engine * 2 ^ 8 + r.ctx * 2 ^ 16 + r.cause * 2 ^ 32)) (logged_postLog takes rfl rfl) rfl

theorem beginReset_part (part : r.part = true) : beginReset s r = withResets s (s.resets ++ [r]) := if_pos part

/-- The reset of a context. -/
def ctxReset (s : State) (c cause by_ : Nat) : RunReset :=
  { rung := 1, target := c, cause := cause, by_ := by_, sector := (s.ctx c).sector, ctx := c, start := s.now, removed := ctxCommands s c }

theorem startCtxReset_idle {c cause by_ : Nat} (idle : IdleWork s) (resident : (s.ctx c).st = .resident) :
    let u := beginReset s (ctxReset s c cause by_)
    startCtxReset s c cause by_ = dropLeave (u.setCtx c { s.ctx c with st := .resetting }) (fun g => g.ctx == c) := by
  intro u
  obtain ⟨same, _, _⟩ := beginReset_spec (s := s) (r := ctxReset s c cause by_) rfl (show 1 ≤ 3 by decide)
  have eq : startCtxReset s c cause by_ = ctxResetEffects u c := by
    unfold startCtxReset
    dsimp only
    rw [resident]
    rfl
  have ctx : u.ctx c = s.ctx c := by rw [State.ctx, State.ctx, show u.ctxs = s.ctxs from same .ctxs (by simp)]
  rw [eq, ctxResetEffects_idle (idleWork_congr idle same (by simp) (by simp) (by simp) (by simp) (by simp) (by simp)), ctx]

/-- The reset of an engine. -/
def engineReset (s : State) (e cause by_ ctx : Nat) (part : Bool) : RunReset :=
  { rung := 2, target := e, cause := cause, by_ := by_, sector := engineSector s e, engine := e, ctx := ctx, part := part, start := s.now,
      removed := engineCommands s e }

/-- The engine's work at the start of its reset. -/
def engineResetEffects (s : State) (e : Nat) : State := if e < 16 then lanternResetEffects s e else seqResetEffects s (e - 16)

theorem startEngineReset_eq {e cause by_ ctx : Nat} {part : Bool} (none_ : runningReset s 2 e = none) : startEngineReset s e cause by_ ctx part =
    if part then engineResetEffects (beginReset s (engineReset s e cause by_ ctx part)) e
    else freezeReset (engineResetEffects (beginReset s (engineReset s e cause by_ ctx part)) e) (engineSector s e) := by
  unfold startEngineReset
  rw [none_]
  rfl

theorem engineResetEffects_spec {e : Nat} (idle : IdleWork s) : SameBut [.tnd, .cores] s (engineResetEffects s e) ∧
    ∀ c, (engineResetEffects s e).core c = if e < 16 ∧ c / 12 = e then { s.core c with q := [] } else s.core c := by
  unfold engineResetEffects
  split
  · rename_i lantern
    obtain ⟨same, cores⟩ := lanternResetEffects_spec idle e
    exact ⟨same, fun c => (cores c).trans (if_congr (by simp [lantern]) rfl rfl)⟩
  · rename_i seq
    rw [seqResetEffects_idle idle.2.2.2.1]
    exact ⟨same_refl _ _, fun c => by rw [if_neg (by omega)]⟩

/-- The reset of a Sector. -/
def sectorReset (s : State) (n cause by_ engine ctx : Nat) : RunReset :=
  { rung := 3, target := n, cause := cause, by_ := by_, sector := n, engine := engine, ctx := ctx, start := s.now,
    removed := (sectorCtxs s n).foldl (fun a c => a + ctxCommands s c) 0 }

/-- A Sector's reset once it has absorbed the narrower ones. -/
def sectorAbsorbs (s : State) (n cause by_ engine ctx : Nat) : State :=
  let a := absorb (beginReset s (sectorReset s n cause by_ engine ctx)) (fun r => r.inSector n)
  updReset a.1 3 n (fun r => { r with cmds := r.cmds ++ a.2 })

theorem startSectorReset_eq {n cause by_ engine ctx : Nat} (none_ : runningReset s 3 n = none) (ctxs : s.ctxs = []) (res : s.res = []) :
    startSectorReset s n cause by_ engine ctx = freezeReset (startEngineReset (sectorAbsorbs s n cause by_ engine ctx) (16 + n) cause by_ 0 true) n := by
  have noCtxs : sectorCtxs s n = [] := by
    rw [sectorCtxs, ctxs]
    rfl
  have engines : sectorEngines s n = [16 + n] := by
    have unlit (l : Nat) : (s.resAt (resLantern l)).st = .unlit := by
      rw [State.resAt, res]
      rfl
    simp [sectorEngines, unlit]
  unfold startSectorReset
  rw [none_]
  dsimp only
  rw [noCtxs, engines, List.foldl_nil, List.foldl_cons, List.foldl_nil, sectorAbsorbs, sectorReset, noCtxs]

/-- What becomes of a reset where its Sector's begins: a narrower one of the Sector is a part, and the Sector's own takes its commands. -/
def sectorMark (n : Nat) (cmds : List (Nat × BitVec 32)) (x : RunReset) : RunReset :=
  let m := absorbMark (fun r => r.inSector n) x
  if m.rung = 3 && m.target = n then { m with cmds := m.cmds ++ cmds } else m

theorem sectorMark_scope (n : Nat) (cmds : List (Nat × BitVec 32)) (x : RunReset) : (sectorMark n cmds x).rung = x.rung ∧
    (sectorMark n cmds x).target = x.target := by
  unfold sectorMark absorbMark
  dsimp only
  split <;> split <;> exact ⟨rfl, rfl⟩

theorem sectorMark_own {n : Nat} {x : RunReset} (wide : x.rung = 3) (scope : x.target = n) (cmds : List (Nat × BitVec 32)) :
    sectorMark n cmds x = { x with cmds := x.cmds ++ cmds } := by
  have out : absorbMark (fun r => r.inSector n) x = x := if_neg (by simp [RunReset.inSector, wide])
  unfold sectorMark
  dsimp only
  rw [out, if_pos (by simp [wide, scope])]

theorem sectorAbsorbs_spec {n cause by_ engine ctx : Nat} (escalated : ∀ x ∈ s.resets, x.escalated = true) :
    let t := sectorAbsorbs s n cause by_ engine ctx
    t.hng = s.hng ∧ SameBut [.hng, .ctr, .resets, .log, .logSeq, .kpr] s t ∧
      (∃ cmds, t.resets = s.resets.map (sectorMark n cmds) ++ [{ sectorReset s n cause by_ engine ctx with logSeq := s.logSeq, cmds := cmds }]) ∧
      (keeperTakes s → Logged t s.now 0x80 n (3 + engine * 2 ^ 8 + ctx * 2 ^ 16 + cause * 2 ^ 32)) := by
  intro t
  let R := sectorReset s n cause by_ engine ctx
  let u := beginReset s R
  let picked := u.resets.filter (fun r => r.inSector n && !r.part)
  let cmds := (absorb u (fun r => r.inSector n)).2
  obtain ⟨begun, resets, logged⟩ := beginReset_spec (s := s) (r := R) rfl (show 3 ≤ 3 by decide)
  have eq : t = withResets (picked.foldl absorbOne u) (u.resets.map (sectorMark n cmds)) := by
    show updReset (absorb u (fun r => r.inSector n)).1 3 n (fun r => { r with cmds := r.cmds ++ cmds }) = _
    rw [absorb_eq]
    show withResets _ ((u.resets.map (absorbMark (fun r => r.inSector n))).map _) = _
    rw [List.map_map]
    rfl
  have each : ∀ x ∈ picked, x.escalated = true := by
    intro x hx
    obtain ⟨mem, inside⟩ := List.mem_filter.1 hx
    rw [resets] at mem
    rcases List.mem_append.1 mem with old | new
    · exact escalated x old
    · rw [List.mem_singleton.1 new] at inside
      simp [RunReset.inSector, recorded, R, sectorReset] at inside
  have kept := same_foldl absorbOne absorbOne_sameBut picked u
  rw [eq]
  refine ⟨?_, same_mono (same_trans begun (same_trans kept (update_resets _ _))) (by simp), ⟨cmds, ?_⟩, fun takes => ?_⟩
  · exact (foldl_absorbOne_hng each u).trans (begun .hng (by simp))
  · show u.resets.map (sectorMark n cmds) = _
    have own : sectorMark n cmds (recorded s R) = { recorded s R with cmds := cmds } := sectorMark_own (n := n) (x := recorded s R) rfl rfl cmds
    rw [resets, List.map_append, List.map_singleton, own]
    rfl
  · exact logged_congr (logged takes) (kept .log (by simp))

theorem startSectorReset_spec {n cause by_ engine ctx : Nat} (idle : IdleWork s) (none_ : runningReset s 3 n = none) (ctxs : s.ctxs = []) (res : s.res = [])
    (runs : (s.frzAt n).st = .running) (escalated : ∀ x ∈ s.resets, x.escalated = true) :
    let w := sectorAbsorbs s n cause by_ engine ctx
    startSectorReset s n cause by_ engine ctx =
      if (runningReset w 2 (16 + n)).isSome then w else withResets w (w.resets ++ [engineReset w (16 + n) cause by_ 0 true]) := by
  intro w
  obtain ⟨_, same, _, _⟩ := sectorAbsorbs_spec (n := n) (cause := cause) (by_ := by_) (engine := engine) (ctx := ctx) escalated
  have frz (l : List RunReset) : ((withResets w l).frzAt n).st = .running := by
    rw [State.frzAt, show (withResets w l).frz = s.frz from same .frz (by simp)]
    exact runs
  have secs (l : List RunReset) : (withResets w l).seqSecs = [] := (same .seqSecs (by simp)).trans idle.2.2.2.1
  rw [startSectorReset_eq none_ ctxs res]
  show freezeReset (startEngineReset w (16 + n) cause by_ 0 true) n = _
  cases found : runningReset w 2 (16 + n) with
  | some r =>
    have joins : startEngineReset w (16 + n) cause by_ 0 true = w := by
      unfold startEngineReset
      rw [found]
      exact if_neg (by simp)
    rw [joins, if_pos (by rfl)]
    exact freezeReset_running (frz w.resets)
  | none =>
    have begins : startEngineReset w (16 + n) cause by_ 0 true = withResets w (w.resets ++ [engineReset w (16 + n) cause by_ 0 true]) := by
      rw [startEngineReset_eq found, if_pos rfl, beginReset_part rfl, engineResetEffects, if_neg (by omega)]
      exact seqResetEffects_idle (secs _) _
    rw [begins, if_neg (by simp)]
    exact freezeReset_running (frz _)

end Starts

end Sys2Proof.Proofs

/-! SUPPORT. The host's resets, the end of an engine reset, and escalation (R499 to R503, R508, R510), for O52. -/
namespace Sys2Proof.Proofs

open Sys2Proof.Machine Sys2Proof.Laws

/-! ### The host's requests -/

section Request
variable {s : State} {rung target sector : Nat} {ok : Bool} {start : State → State}

/-- A request of rung 1 to 3 is shown while its reset runs. -/
def hostState (s : State) (rung target : Nat) : State := requested (hngWritten s rung target false) rung target

theorem hostState_sameBut (s : State) (rung target : Nat) : SameBut [.regs, .hng] s (hostState s rung target) :=
  same_mono (same_trans (hngWritten_sameBut s rung target false) (update_hng _ _)) (by simp)

/-- A request comes while one of rung 1 to 3 runs. -/
def RequestHeld (s : State) : Prop := 1 ≤ s.hng.reqRung ∧ s.hng.reqRung ≤ 3

theorem hngRequest_refused (refused : ok = false ∨ RequestHeld s) : hngRequest s rung target sector ok start = raise (hngWritten s rung target false) evHNG 7 := by
  have hng : (hngWritten s rung target false).hng = s.hng := hngWritten_sameBut s rung target false .hng (by simp)
  refine if_pos ?_
  rw [hng]
  rcases refused with bad | held
  · simp [bad]
  · simp [held.1, held.2]

theorem hngRequest_goes (good : ok = true) (free_ : ¬ RequestHeld s) : hngRequest s rung target sector ok start =
    if s.resets.any (fun r => decide (rung < r.rung) && (decide (4 ≤ r.rung) || (r.rung == 3 && r.sector == sector))) then
      hngCount (hngWritten s rung target false) 7 1
    else if (runningReset (start (hostState s rung target)) rung target).isSome then start (hostState s rung target)
    else requested (start (hostState s rung target)) 0 (start (hostState s rung target)).hng.reqTarget := by
  have written := hngWritten_sameBut s rung target false
  have hng : (hngWritten s rung target false).hng = s.hng := written .hng (by simp)
  have resets : (hngWritten s rung target false).resets = s.resets := written .resets (by simp)
  have goes : ¬ (!ok || (1 ≤ (hngWritten s rung target false).hng.reqRung && (hngWritten s rung target false).hng.reqRung ≤ 3)) = true := by
    rw [hng]
    simp only [RequestHeld] at free_
    simp [good]
    omega
  rw [← resets]
  exact if_neg goes

theorem hngRequest_absorbed (good : ok = true) (free_ : ¬ RequestHeld s) (narrow : rung ≤ 3) (wider : ∃ r ∈ s.resets, 4 ≤ r.rung) :
    hngRequest s rung target sector ok start = hngCount (hngWritten s rung target false) 7 1 := by
  obtain ⟨r, mem, wide⟩ := wider
  rw [hngRequest_goes good free_]
  refine if_pos (List.any_eq_true.2 ⟨r, mem, ?_⟩)
  simp [wide]
  omega

theorem hngRequest_starts (good : ok = true) (free_ : ¬ RequestHeld s) (none_ : s.resets = [])
    (runs : (runningReset (start (hostState s rung target)) rung target).isSome = true) :
    hngRequest s rung target sector ok start = start (hostState s rung target) := by
  rw [hngRequest_goes good free_, if_neg (by rw [none_]; simp), if_pos runs]

theorem runningReset_of_head {u : State} {r : RunReset} {l : List RunReset} (resets : u.resets = r :: l) (scope : r.rung = rung ∧ r.target = target) :
    runningReset u rung target = some r := by
  obtain ⟨rfl, rfl⟩ := scope
  rw [runningReset, resets, List.find?_cons_of_pos (by simp)]

end Request

section Starts
variable {s u : State}

theorem dropLeave_ctx (s : State) (p : Grant → Bool) (k : Nat) : (dropLeave s p).ctx k = s.ctx k := rfl

/-- The request of a context reset starts it. -/
theorem hostCtxReset_spec {n : Nat} (same : SameBut [.regs, .hng] s u) (idle : IdleWork s) (none_ : s.resets = []) (resident : (s.ctx n).st = .resident) :
    ∃ r, (startCtxReset u n stCTXRESET 0).resets = [r] ∧ ResetBegun s (startCtxReset u n stCTXRESET 0) r 1 n stCTXRESET 0 (s.ctx n).sector 0xFF n ∧
      (startCtxReset u n stCTXRESET 0).ctx n = { s.ctx n with st := .resetting } ∧ (∀ k, k ≠ n → (startCtxReset u n stCTXRESET 0).ctx k = s.ctx k) ∧
      SameBut [.ctxs, .tnd, .log, .logSeq, .kpr, .ctr, .resets] u (startCtxReset u n stCTXRESET 0) := by
  have idle' : IdleWork u := idleWork_congr idle same (by simp) (by simp) (by simp) (by simp) (by simp) (by simp)
  have ctxs : u.ctxs = s.ctxs := same .ctxs (by simp)
  have ctx (k : Nat) : u.ctx k = s.ctx k := by rw [State.ctx, State.ctx, ctxs]
  have now : u.now = s.now := by rw [State.now, State.now, show u.flash = s.flash from same .flash (by simp)]
  have none' : u.resets = [] := (same .resets (by simp)).trans none_
  obtain ⟨begun, resets, logged⟩ := beginReset_spec (s := u) (r := ctxReset u n stCTXRESET 0) rfl (show 1 ≤ 3 by decide)
  rw [startCtxReset_idle idle' (by rw [ctx]; exact resident)]
  let b := beginReset u (ctxReset u n stCTXRESET 0)
  have marked : SameBut [.ctxs, .tnd] b (dropLeave (b.setCtx n { u.ctx n with st := .resetting }) (fun g => g.ctx == n)) :=
    same_mono (same_trans (setCtx_sameBut b n _) (dropLeave_sameBut _ _)) (by simp)
  have bctx (k : Nat) : b.ctx k = s.ctx k := by rw [State.ctx, State.ctx, show b.ctxs = u.ctxs from begun .ctxs (by simp), ctxs]
  refine ⟨recorded u (ctxReset u n stCTXRESET 0), ?_, ⟨rfl, rfl, rfl, rfl, rfl, now, same .logSeq (by simp), rfl, rfl, fun takes => ?_⟩, ?_, fun k other => ?_,
    same_mono (same_trans begun marked) (by simp)⟩
  · exact (marked .resets (by simp)).trans (by rw [resets, none']; rfl)
  · have taken := logged (keeperTakes_congr takes (same .kpr (by simp)))
    rw [now, show (ctxReset u n stCTXRESET 0).sector = (s.ctx n).sector from congrArg Ctx.sector (ctx n)] at taken
    exact logged_congr taken (marked .log (by simp))
  · rw [dropLeave_ctx, setCtx_same, ctx]
  · rw [dropLeave_ctx, setCtx_other _ _ _ _ other]
    exact bctx k

/-- The request of an engine reset starts it. -/
theorem startEngineReset_spec {e cause by_ : Nat} (same : SameBut [.regs, .hng] s u) (idle : IdleWork s) (none_ : s.resets = [])
    (runs : (s.frzAt (engineSector s e)).st = .running) :
    ∃ r, (startEngineReset u e cause by_).resets = [r] ∧ ResetBegun s (startEngineReset u e cause by_) r 2 e cause by_ (engineSector s e) e 0 ∧
      (∀ c, (startEngineReset u e cause by_).core c = if e < 16 ∧ c / 12 = e then { s.core c with q := [] } else s.core c) ∧
      SameBut [.cores, .tnd, .log, .logSeq, .kpr, .ctr, .resets] u (startEngineReset u e cause by_) := by
  have idle' : IdleWork u := idleWork_congr idle same (by simp) (by simp) (by simp) (by simp) (by simp) (by simp)
  have now : u.now = s.now := by rw [State.now, State.now, show u.flash = s.flash from same .flash (by simp)]
  have none' : u.resets = [] := (same .resets (by simp)).trans none_
  have sector : engineSector u e = engineSector s e := by
    rw [engineSector, engineSector, State.resAt, State.resAt, show u.res = s.res from same .res (by simp)]
  obtain ⟨begun, resets, logged⟩ := beginReset_spec (s := u) (r := engineReset u e cause by_ 0 false) rfl (show 2 ≤ 3 by decide)
  let b := beginReset u (engineReset u e cause by_ 0 false)
  have idleB : IdleWork b := idleWork_congr idle' begun (by simp) (by simp) (by simp) (by simp) (by simp) (by simp)
  obtain ⟨worked, cores⟩ := engineResetEffects_spec (e := e) idleB
  have bcore (c : Nat) : b.core c = s.core c := core_congr ((begun .cores (by simp)).trans (same .cores (by simp))) c
  have frz : ((engineResetEffects b e).frzAt (engineSector u e)).st = .running := by
    rw [State.frzAt, show (engineResetEffects b e).frz = s.frz from (worked .frz (by simp)).trans ((begun .frz (by simp)).trans (same .frz (by simp))), sector]
    exact runs
  have eq : startEngineReset u e cause by_ = engineResetEffects b e := by
    rw [startEngineReset_eq (by rw [runningReset, none']; rfl), if_neg (by simp)]
    exact freezeReset_running frz
  rw [eq]
  refine ⟨recorded u (engineReset u e cause by_ 0 false), ?_, ⟨rfl, rfl, rfl, rfl, rfl, now, same .logSeq (by simp), rfl, rfl, fun takes => ?_⟩, fun c => ?_,
    same_mono (same_trans begun worked) (by simp)⟩
  · exact (worked .resets (by simp)).trans (by rw [resets, none']; rfl)
  · have taken := logged (keeperTakes_congr takes (same .kpr (by simp)))
    rw [now, show (engineReset u e cause by_ 0 false).sector = engineSector s e from sector] at taken
    exact logged_congr taken (worked .log (by simp))
  · rw [cores, bcore]

/-- The request of a Sector reset starts it, with its sequence engine's as a part. -/
theorem hostSectorReset_spec {n : Nat} (same : SameBut [.regs, .hng] s u) (idle : IdleWork s) (none_ : s.resets = []) (ctxs : s.ctxs = []) (res : s.res = [])
    (runs : (s.frzAt n).st = .running) :
    ∃ r p, (startSectorReset u n stCTXRESET 0).resets = [r, p] ∧ ResetBegun s (startSectorReset u n stCTXRESET 0) r 3 n stCTXRESET 0 n 0xFF 0 ∧
      p.rung = 2 ∧ p.target = 16 + n ∧ p.part = true ∧ (startSectorReset u n stCTXRESET 0).hng = u.hng ∧
      SameBut [.hng, .log, .logSeq, .kpr, .ctr, .resets] u (startSectorReset u n stCTXRESET 0) := by
  have idle' : IdleWork u := idleWork_congr idle same (by simp) (by simp) (by simp) (by simp) (by simp) (by simp)
  have now : u.now = s.now := by rw [State.now, State.now, show u.flash = s.flash from same .flash (by simp)]
  have none' : u.resets = [] := (same .resets (by simp)).trans none_
  have frz : (u.frzAt n).st = .running := by
    rw [State.frzAt, show u.frz = s.frz from same .frz (by simp)]
    exact runs
  have free_ : ∀ x ∈ u.resets, x.escalated = true := by
    rw [none']
    exact nofun
  obtain ⟨hng, kept, ⟨cmds, resets⟩, logged⟩ := sectorAbsorbs_spec (n := n) (cause := stCTXRESET) (by_ := 0) (engine := 0xFF) (ctx := 0) free_
  let w := sectorAbsorbs u n stCTXRESET 0 0xFF 0
  rw [none', List.map_nil, List.nil_append] at resets
  have only : runningReset w 2 (16 + n) = none := by
    rw [runningReset, resets]
    rfl
  have eq : startSectorReset u n stCTXRESET 0 = withResets w (w.resets ++ [engineReset w (16 + n) stCTXRESET 0 0 true]) := by
    rw [startSectorReset_spec idle' (by rw [runningReset, none']; rfl) ((same .ctxs (by simp)).trans ctxs) ((same .res (by simp)).trans res) frz free_]
    exact if_neg (by rw [only]; simp)
  rw [eq]
  refine ⟨_, _, congrArg (· ++ [engineReset w (16 + n) stCTXRESET 0 0 true]) resets, ⟨rfl, rfl, rfl, rfl, rfl, now, same .logSeq (by simp), rfl, rfl,
      fun takes => ?_⟩,
    rfl, rfl, rfl, hng, same_mono (same_trans kept (update_resets _ _)) (by simp)⟩
  have taken := logged (keeperTakes_congr takes (same .kpr (by simp)))
  rw [now] at taken
  exact logged_congr taken rfl

end Starts

/-! ### The end of an engine reset (R500, R508) -/

section Complete
variable {s : State} {e : Nat} {r : RunReset}

theorem runningReset_scope {rung target : Nat} (running : runningReset s rung target = some r) : r.rung = rung ∧ r.target = target := by
  have scope := List.find?_some running
  simpa using scope

/-- What is left of the resets once one has ended. -/
def resetsWithout (s : State) (r : RunReset) : List RunReset := s.resets.filter (fun x => !(x.rung == r.rung && x.target == r.target))

/-- The host's request is shown no more. -/
def requestEnded (s : State) (r : RunReset) : State :=
  let u := withResets s (resetsWithout s r)
  if u.hng.reqRung = r.rung && u.hng.reqTarget = r.target then { u with hng := { u.hng with reqRung := 0 } } else u

theorem requestEnded_spec (s : State) (r : RunReset) : (requestEnded s r).resets = resetsWithout s r ∧ (requestEnded s r).hng.errs = s.hng.errs ∧
    (requestEnded s r).hng.errSeq = s.hng.errSeq ∧ SameBut [.resets, .hng] s (requestEnded s r) := by
  have left : SameBut [.resets] s (withResets s (resetsWithout s r)) := update_resets s _
  unfold requestEnded
  dsimp only
  split
  · exact ⟨rfl, rfl, rfl, same_mono (same_trans left (update_hng _ _)) (by simp)⟩
  · exact ⟨rfl, rfl, rfl, same_mono left (by simp)⟩

theorem endReset_own (own : r.part = false) (none_ : r.cmds = []) : endReset s r =
    raise (if r.escalated then requestEnded s r else errRecord (requestEnded s r) r (if r.stuck then 3 else 0)) evHNG 2 := by
  have eq : endReset s r = if r.part then requestEnded s r else
      r.cmds.foldl donePriv (raise (if r.escalated then requestEnded s r else errRecord (requestEnded s r) r (if r.stuck then 3 else 0)) evHNG 2) := rfl
  rw [eq, if_neg (by simp [own]), none_, List.foldl_nil]

theorem endReset_spec (own : r.part = false) (none_ : r.cmds = []) : (endReset s r).resets = resetsWithout s r ∧ evSet (endReset s r) evHNG 2 = true ∧
    (r.escalated = true → (endReset s r).hng.errs = s.hng.errs) ∧
    (r.escalated = false → ∃ x, x = resetRecord (requestEnded s r) r (if r.stuck then 3 else 0) ∧ (endReset s r).hng.errs = (x :: s.hng.errs).take 65536 ∧
      (endReset s r).hng.errSeq = s.hng.errSeq + 1) ∧
    SameBut [.resets, .hng, .regs, .out, .pci] s (endReset s r) := by
  obtain ⟨resets, errs, errSeq, same⟩ := requestEnded_spec s r
  rw [endReset_own own none_]
  refine ⟨?_, evSet_raise_self _ _ _ (by decide), fun escalated => ?_, fun fresh_ => ?_, ?_⟩
  · rw [raise_same _ _ _ .resets (by simp)]
    split <;> exact resets
  · rw [raise_hng, if_pos escalated, errs]
  · have own_ : ¬ r.escalated = true := by simp [fresh_]
    rw [raise_hng, if_neg own_, errRecord_hng]
    exact ⟨_, rfl, by rw [errs], by rw [errSeq]⟩
  · have recorded_ : SameBut [.resets, .hng] s (if r.escalated then requestEnded s r else errRecord (requestEnded s r) r (if r.stuck then 3 else 0)) := by
      split
      · exact same
      · exact same_mono (same_trans same (update_hng _ _)) (by simp)
    exact same_mono (same_trans recorded_ (raise_same _ _ _)) (by simp)

theorem runningReset_filter {rung target : Nat} {u : State} {p : RunReset → Bool} (none_ : runningReset s rung target = none) (resets : u.resets = s.resets.filter p) :
    runningReset u rung target = none := by
  rw [runningReset, resets, List.find?_eq_none]
  exact fun x hx => List.find?_eq_none.1 none_ x (List.mem_of_mem_filter hx)

theorem engineResetComplete_eq {e : Fin 32} (running : runningReset s 2 e.val = some r) (quiet : engineQuiet s e.val = true) (own : r.part = false) (none_ : r.cmds = [])
    (alone : runningReset s 3 r.sector = none) : exec (.engineResetComplete e) s = .next (endReset s r) := by
  have left : runningReset (endReset s r) 3 r.sector = none := runningReset_filter alone (endReset_spec own none_).1
  refine congrArg Host.Outcome.next ((if_pos (by rw [running, quiet]; rfl)).trans ?_)
  unfold endEngineReset
  rw [running]
  dsimp only
  unfold settleSectorReset
  rw [left]

end Complete

/-! ### Escalation of a reset of rung 1 to 3 -/

section Rungs
variable {s : State} {rung target : Nat} {r : RunReset}

theorem resetEscalation_of_none (none_ : runningReset s rung target = none) : exec (.resetEscalation rung target) s = .next s := by
  show execResetEscalation rung target s = _
  unfold execResetEscalation
  rw [none_]

/-- What the next rung starts. -/
def nextRung (r : RunReset) (target : Nat) (s : State) : State :=
  if r.rung = 1 then (ctxEngines s target).foldl (fun s e => startEngineReset s e r.cause 2 r.ctx) s
  else if r.rung = 2 then startSectorReset s r.sector r.cause 2 r.engine r.ctx
  else startModuleReset s (moduleRung s 4 r.cause 2 r.engine r.ctx) true

theorem resetEscalation_eq (running : runningReset s rung target = some r) : exec (.resetEscalation rung target) s =
    .next (if r.part || r.escalated || r.stuck || r.edges < resetLimit s || 3 < r.rung then s else escalate s r (nextRung r target)) := by
  show execResetEscalation rung target s = _
  unfold execResetEscalation
  rw [running]
  rfl

theorem resetEscalation_escalates (running : runningReset s rung target = some r) (own : r.part = false) (first : r.escalated = false) (free_ : r.stuck = false)
    (due : resetLimit s ≤ r.edges) (narrow : r.rung ≤ 3) : exec (.resetEscalation rung target) s = .next (escalate s r (nextRung r target)) := by
  rw [resetEscalation_eq running]
  refine congrArg Host.Outcome.next (if_neg ?_)
  simp [own, first, free_]
  omega

theorem ctxEngines_idle (idle : IdleWork s) (c : Nat) : ctxEngines s c = [] := by
  obtain ⟨rings, groups, _, seqSecs, _, _⟩ := idle
  have secs (n : Nat) : s.seqSec n = {} := seqSec_idle seqSecs n
  simp [ctxEngines, groups, ringsOf_idle rings, secs]

theorem escalated_idle (idle : IdleWork s) (r : RunReset) : IdleWork (escalated s r) :=
  idleWork_congr idle (escalated_sameBut s r) (by simp) (by simp) (by simp) (by simp) (by simp) (by simp)

/-- A context reset whose engines hold no work escalates to nothing more. -/
theorem nextRung_ctx (idle : IdleWork s) (one : r.rung = 1) : nextRung r target (escalated s r) = escalated s r := by
  rw [nextRung, if_pos one, ctxEngines_idle (escalated_idle idle r), List.foldl_nil]

/-- An engine's reset escalates to its Sector's. -/
theorem nextRung_engine (only : s.resets = [r]) (idle : IdleWork s) (two : r.rung = 2) (ctxs : s.ctxs = []) (res : s.res = [])
    (runs : (s.frzAt r.sector).st = .running) : let t := nextRung r target (escalated s r)
    evSet t evHNG 3 = true ∧ t.hng.errs = (resetRecord s r 1 :: s.hng.errs).take 65536 ∧
      (∃ y, runningReset t 3 r.sector = some y ∧ y.cause = r.cause ∧ y.by_ = 2 ∧ y.engine = r.engine ∧ y.ctx = r.ctx) ∧
      (keeperTakes s → Logged t s.now 0x80 r.sector (3 + r.engine * 2 ^ 8 + r.ctx * 2 ^ 16 + r.cause * 2 ^ 32)) ∧
      SameBut [.resets, .hng, .regs, .out, .pci, .ctr, .log, .logSeq, .kpr] s t := by
  intro t
  let u := escalated s r
  have same := escalated_sameBut s r
  have now : u.now = s.now := by rw [State.now, State.now, show u.flash = s.flash from same .flash (by simp)]
  have resetsU : u.resets = [{ r with escalated := true }] := escalated_resets only
  have free_ : ∀ x ∈ u.resets, x.escalated = true := by
    intro x hx
    rw [resetsU] at hx
    rw [List.mem_singleton.1 hx]
  have none_ : runningReset u 3 r.sector = none := by
    rw [runningReset, resetsU, List.find?_cons_of_neg (by simp [two])]
    rfl
  have frz : (u.frzAt r.sector).st = .running := by
    rw [State.frzAt, show u.frz = s.frz from same .frz (by simp)]
    exact runs
  let w := sectorAbsorbs u r.sector r.cause 2 r.engine r.ctx
  obtain ⟨hng, kept, ⟨cmds, resets⟩, logged⟩ := sectorAbsorbs_spec (n := r.sector) (cause := r.cause) (by_ := 2) (engine := r.engine) (ctx := r.ctx) free_
  have eq : t = if (runningReset w 2 (16 + r.sector)).isSome then w else withResets w (w.resets ++ [engineReset w (16 + r.sector) r.cause 2 0 true]) := by
    have sectorEq := startSectorReset_spec (engine := r.engine) (ctx := r.ctx) (cause := r.cause) (by_ := 2) (escalated_idle idle r) none_
      ((same .ctxs (by simp)).trans ctxs) ((same .res (by simp)).trans res) frz free_
    rw [← sectorEq]
    exact (if_neg (by omega)).trans (if_pos two)
  obtain ⟨tail, tailEq⟩ : ∃ tail, t = withResets w (w.resets ++ tail) := by
    rw [eq]
    split
    · exact ⟨[], by rw [List.append_nil]; rfl⟩
    · exact ⟨_, rfl⟩
  have found : runningReset t 3 r.sector = some { sectorReset u r.sector r.cause 2 r.engine r.ctx with logSeq := u.logSeq, cmds := cmds } := by
    have shape : t.resets = sectorMark r.sector cmds { r with escalated := true } ::
        { sectorReset u r.sector r.cause 2 r.engine r.ctx with logSeq := u.logSeq, cmds := cmds } :: tail := by
      rw [tailEq]
      show w.resets ++ tail = _
      rw [resets, resetsU]
      rfl
    have scope : (sectorMark r.sector cmds { r with escalated := true }).rung = 2 := (sectorMark_scope _ _ _).1.trans two
    rw [runningReset, shape, List.find?_cons_of_neg (by simp [scope]), List.find?_cons_of_pos (by simp [sectorReset])]
  have ends : SameBut [.resets] w t := by
    rw [tailEq]
    exact update_resets w _
  refine ⟨?_, ?_, ⟨_, found, rfl, rfl, rfl, rfl⟩, fun takes => ?_, same_mono (same_trans same (same_trans kept ends)) (by simp)⟩
  · exact (evSet_congr ((ends .regs (by simp)).trans (kept .regs (by simp))) evHNG 3).trans (escalated_event s r)
  · rw [show t.hng = w.hng from ends .hng (by simp), show w.hng = u.hng from hng, escalated_hng]
  · have taken := logged (keeperTakes_congr takes (same .kpr (by simp)))
    rw [now] at taken
    exact logged_congr taken (ends .log (by simp))

end Rungs

/-- Settles O52: how each request is refused, absorbed or started, how an engine's reset ends, and what each rung escalates to. -/
theorem hostResets : Obligations.HostResets := by
  unfold Obligations.HostResets
  refine ⟨fun s target => ?_, fun s e => ?_, fun s rung target => ?_⟩
  · intro n held
    refine ⟨fun refused => ?_, fun refused => ?_, fun refused => ?_, fun free_ wider => ⟨fun there => ?_, fun engine => ?_, fun sector there => ?_⟩,
      fun free_ idle none_ => ⟨fun resident => ?_, fun engine runs => ?_, fun sector there ctxs res runs => ?_⟩⟩
    · refine congrArg Host.Outcome.next (hngRequest_refused ?_)
      rcases refused with held | inactive
      · exact .inr held
      · exact .inl (by simp [n, inactive])
    · refine congrArg Host.Outcome.next (hngRequest_refused ?_)
      rcases refused with held | reserved
      · exact .inr held
      · exact .inl (decide_eq_false (Nat.not_lt.2 reserved))
    · refine congrArg Host.Outcome.next (hngRequest_refused ?_)
      rcases refused with held | reserved | absent
      · exact .inr held
      · exact .inl (by rw [decide_eq_false (Nat.not_lt.2 reserved)]; rfl)
      · exact .inl (by rw [absent, Bool.and_false])
    · exact congrArg Host.Outcome.next (hngRequest_absorbed (by simpa using there) free_ (by decide) wider)
    · exact congrArg Host.Outcome.next (hngRequest_absorbed (by simpa using engine) free_ (by decide) wider)
    · exact congrArg Host.Outcome.next (hngRequest_absorbed (by simp [n, sector, there]) free_ (by decide) wider)
    · have shown := hostState_sameBut s 1 n
      obtain ⟨r, resets, begun, self, others, same⟩ := hostCtxReset_spec shown idle none_ resident
      have hng : (startCtxReset (hostState s 1 n) n stCTXRESET 0).hng = (hostState s 1 n).hng := same .hng (by simp)
      refine ⟨_, r, congrArg Host.Outcome.next (hngRequest_starts (by simp [n, resident]) free_ none_ ?_), resets, begun, self, others,
          by rw [hng]; rfl, by rw [hng]; rfl,
        same_mono (same_trans shown same) (by simp)⟩
      rw [runningReset_of_head resets ⟨begun.1, begun.2.1⟩]
      rfl
    · have shown := hostState_sameBut s 2 n
      obtain ⟨r, resets, begun, cores, same⟩ := startEngineReset_spec (cause := stCTXRESET) (by_ := 0) shown idle none_ runs
      have hng : (startEngineReset (hostState s 2 n) n stCTXRESET 0).hng = (hostState s 2 n).hng := same .hng (by simp)
      refine ⟨_, r, congrArg Host.Outcome.next (hngRequest_starts (by simpa using engine) free_ none_ ?_), resets, begun, ?_, by rw [hng]; rfl,
          by rw [hng]; rfl,
        same_mono (same_trans shown same) (by simp)⟩
      · rw [runningReset_of_head resets ⟨begun.1, begun.2.1⟩]
        rfl
      · intro c
        exact (cores c).trans (if_congr Iff.rfl rfl rfl)
    · have shown := hostState_sameBut s 3 n
      obtain ⟨r, p, resets, begun, two, scope, part, hng, same⟩ := hostSectorReset_spec shown idle none_ ctxs res runs
      refine ⟨_, r, p, congrArg Host.Outcome.next (hngRequest_starts (by simp [n, sector, there]) free_ none_ ?_), resets, begun, two, scope, part,
          by rw [hng]; rfl,
        by rw [hng]; rfl, same_mono (same_trans shown same) (by simp)⟩
      rw [runningReset_of_head resets ⟨begun.1, begun.2.1⟩]
      rfl
  · refine ⟨fun none_ => congrArg Host.Outcome.next (if_neg (by rcases none_ with none_ | busy <;> simp [*])), fun r running quiet own noCmds alone => ?_⟩
    obtain ⟨two, scope⟩ := runningReset_scope running
    obtain ⟨resets, event, kept, record, same⟩ := endReset_spec (s := s) own noCmds
    refine ⟨_, engineResetComplete_eq running quiet own noCmds alone, ?_, event, kept, fun fresh_ => ?_, same⟩
    · rw [resets, resetsWithout, two, scope]
    · obtain ⟨x, is, errs, errSeq⟩ := record fresh_
      obtain ⟨_, _, seq, left⟩ := requestEnded_spec s r
      have now : (requestEnded s r).now = s.now := by rw [State.now, State.now, show (requestEnded s r).flash = s.flash from left .flash (by simp)]
      refine ⟨x, errs, ?_⟩
      subst is
      exact ⟨seq, errSeq, two, rfl, rfl, rfl, if_pos (by omega), rfl, rfl, rfl, rfl, now, rfl, rfl⟩
  · refine ⟨resetEscalation_of_none, fun r running => ⟨fun stays => ?_, fun own first free_ due narrow => ⟨fun above => ?_, fun allowed only idle => ?_⟩⟩⟩
    · rw [resetEscalation_eq running]
      refine congrArg Host.Outcome.next (if_pos ?_)
      simpa [or_assoc] using stays
    all_goals
      obtain ⟨is, scope⟩ := runningReset_scope running
      have run := resetEscalation_escalates running own first free_ due narrow
    · rw [escalate_stuck (by omega)] at run
      obtain ⟨stuck, event, resets, same⟩ := heldStuck_spec s r
      exact ⟨_, run, stuck, event, resets, same⟩
    · rw [escalate_starts (by omega)] at run
      refine ⟨fun one => ?_, fun two ctxs res runs => ?_, fun three up quiet noDump => ?_⟩
      · rw [nextRung_ctx idle (is.trans one)] at run
        exact ⟨_, _, run, escalated_event s r, escalated_resets only, congrArg Hang.errs (escalated_hng s r), is.trans one, rfl, rfl, escalated_sameBut s r⟩
      · obtain ⟨event, errs, ⟨y, found, cause, by_, engine, ctx⟩, logged, same⟩ := nextRung_engine (target := target) only idle (is.trans two) ctxs res runs
        exact ⟨_, _, y, run, event, errs, is.trans two, rfl, found, cause, by_, engine, ctx, logged, same⟩
      · obtain ⟨begins, errs⟩ := escalated_begins (.inl rfl) only (by omega) up quiet noDump
        have starts : nextRung r target (escalated s r) = startModuleReset (escalated s r) (moduleRung (escalated s r) 4 r.cause 2 r.engine r.ctx) true :=
          (if_neg (by omega)).trans (if_neg (by omega))
        rw [starts] at run
        exact ⟨_, _, run, begins, errs, is.trans three, rfl⟩

end Sys2Proof.Proofs
